-- ==== Sys2Proof/Word.lean ====
section
/-! DEFINITION. The words of the device: a byte, a 32-bit register word, and sparse tables by number. -/

namespace Sys2Proof

/-- One byte (multi-byte values are little-endian, R8). -/
abbrev Byte := BitVec 8

/-- One 32-bit register word (R14). -/
abbrev Word := BitVec 32

/-- A sparse table: pairs of a key and a value, kept with keys strictly rising and no entry equal to what an unlisted key
reads as (that default is given to every operation over the table). -/
abbrev Tab (α : Type) := List (Nat × α)

end Sys2Proof
end

