-- ==== Sys2Proof/Syntax.lean ====
section
/-! DEFINITION. The commands the block takes: one constructor for each row of spec/opcode_table.json, with the row's operands. -/

namespace Sys2Proof

/-- The requester of a BAR0 or BAR2 request: the PASID of its prefix, or none (R312). -/
abbrev Req := Option (BitVec 20)

/-- A Gliys root port or a Span port, for the events both have. -/
inductive PortRef where
  | gliys (n : Fin 8)
  | span (m : Fin 4)
  deriving DecidableEq, Repr

/-- What a read of host memory completes with: its bytes, or a failure by Unsupported Request, Completer Abort or poisoned data (R308), or
bytes whose ECRC is wrong (R305). Nothing comes back when it times out, which has a row of its own. -/
inductive HostRes where
  | data (d : List Byte)
  | ur
  | ca
  | poisoned
  | badEcrc (d : List Byte)
  | timeout
  deriving DecidableEq, Repr

/-- Words of SRAM that have flipped when the command runs, and are found by the reads that meet them: the BAR2 offset and whether two bits are
flipped (R24, R397). -/
structure SramFlip where
  off : Nat
  two : Bool
  deriving DecidableEq, Repr

/-- What a flash read answers: the bytes read, or no answer (R436). -/
inductive FlashRes where
  | data (d : List Byte)
  | none
  deriving DecidableEq, Repr

/-- One IRIG-B frame as decoded (R42): its on-time edge, its format number (4 to 7 accepted), the UTC seconds it names, whether it names a
second 60, the leap-second bits and the time-quality nibble. -/
structure IrigFrame where
  edge      : Nat
  fmt       : Nat
  utc       : Nat
  second60  : Bool
  leapSoon  : Bool
  leapMinus : Bool
  tq        : BitVec 4
  valid     : Bool
  deriving DecidableEq, Repr

/-- One 10-bit symbol received on a Gliys or Span wire: a data symbol, a control symbol, a code violation. -/
inductive Sym where
  | d (b : Byte)
  | k (b : Byte)
  | bad
  deriving DecidableEq, Repr

/-- A packet received at a root port: the arrival of its start delimiter at the balls in 100 ps, the receiver's running disparity just before it
(positive when true), and its code groups from the start delimiter to the end delimiter, bit a of each in bit 9 (R67). -/
structure RxPacket where
  t      : Nat
  rd     : Bool
  groups : List (BitVec 10)
  deriving DecidableEq, Repr

/-- A packet received at a Span port, in the same form (R340). -/
structure SpanRx where
  t      : Nat
  rd     : Bool
  groups : List (BitVec 10)
  deriving DecidableEq, Repr

/-- A link-state record (R357): serial, chip ID, source of the ID (0 none, 1 chain, 2 Charter, 3 discovery), local quality byte, the partner's
serial and port on each Active Span port, version. -/
structure DiscRec where
  serial   : Nat
  id       : Nat
  src      : Nat
  quality  : Nat
  partners : List (Option (Nat × Nat))
  version  : Nat
  deriving DecidableEq, Repr

/-- A wake source (R415). -/
inductive WakeSrc where
  | host
  | beacon (n : Fin 8)
  | span (m : Fin 4)
  | takeIn
  | tkEvent (b : Fin 14)
  deriving DecidableEq, Repr

/-- The LVCMOS signal balls that the boundary-scan chain covers (R463, R478), in the order of the tables of R458 and R460, and whether the device
drives each; the test port's own five are not in it. The manual leaves the order to the BSDL description (DESIGN CHOICE, log entry 182). -/
def scanBalls : List (String × Bool) :=
  [
    ("GP0_SFP_LOS", false), ("GP0_SFP_ABS", false), ("GP0_SFP_TXDIS", true),
    ("GP1_SFP_LOS", false), ("GP1_SFP_ABS", false), ("GP1_SFP_TXDIS", true),
    ("GP2_SFP_LOS", false), ("GP2_SFP_ABS", false), ("GP2_SFP_TXDIS", true),
    ("GP3_SFP_LOS", false), ("GP3_SFP_ABS", false), ("GP3_SFP_TXDIS", true),
    ("GP4_SFP_LOS", false), ("GP4_SFP_ABS", false), ("GP4_SFP_TXDIS", true),
    ("GP5_SFP_LOS", false), ("GP5_SFP_ABS", false), ("GP5_SFP_TXDIS", true),
    ("GP6_SFP_LOS", false), ("GP6_SFP_ABS", false), ("GP6_SFP_TXDIS", true),
    ("GP7_SFP_LOS", false), ("GP7_SFP_ABS", false), ("GP7_SFP_TXDIS", true)] ++
  [
    ("SPI_CLK", true), ("SPI_CS_N", true), ("SPI_IO0", true), ("SPI_IO1", true),
    ("SPI_IO2", true), ("SPI_IO3", true), ("TEST_MODE", false), ("PPS_IN", false),
    ("IRIGB_IN", false), ("TOD_RX", false), ("PPS_OUT", true), ("TAKE_IN", false),
    ("TAKE_OUT", true), ("CHAIN_IN", false), ("CHAIN_OUT", true), ("TWIN_ROLE", false),
    ("FAULT_N", true), ("RESET_N", false), ("PERST_N", false), ("WAKE_N", true),
    ("REFOSC_EN", true), ("PMB_SCL", true), ("PMB_SDA", true), ("CORE_PG", false)]

/-- The state of the PCI Express link as the device sees it. -/
inductive PcieLink where
  | down
  | l0
  | l1
  | l2
  deriving DecidableEq, Repr

/-- A write of one setting of configuration space. -/
inductive CfgWrite where
  | busMaster (v : Bool)
  | pasidEnable (v : Bool)
  | msixEnable (v : Bool)
  | msixMask (v : Bool)
  | maxPayload (v : Nat)
  | maxRead (v : Nat)
  | tag10 (v : Bool)
  | vc1 (v : Bool)
  | tc1OnVc1 (v : Bool)
  | pmeEnable (v : Bool)
  | aspmL1 (v : Bool)
  | powerD3 (v : Bool)
  | ecrcGen (v : Bool)
  | ecrcCheck (v : Bool)
  | timeoutRange (v : Nat)
  | aerClear
  deriving DecidableEq, Repr

/-- A host read the device holds outstanding, named by what issued it. -/
inductive ReadRef where
  | workEntry (g : Fin 16) (r : Fin 8)
  | fragTable (g : Fin 16) (r : Fin 8) (i : BitVec 16)
  | eventTail (g : Fin 16)
  | eventHead (g : Fin 16)
  | swIndex (c : Fin 2048)
  | outRing (c : Fin 2048)
  | flush (c : Fin 2048)
  | mover (c : Fin 8)
  | moverBack (c : Fin 8)
  deriving DecidableEq, Repr


/-- The commands. Each constructor is the row of the opcode table of the same name. -/
inductive Instr where
  /-- COLD_RESET (R432): Power-up or assertion of RESET_N restarts the device from step 1 of the cold reset sequence. -/
  | coldReset (power : Bool) (chainLow : Bool) (twinHigh : Bool)
  /-- PERST_N_ASSERT (R434): Assertion of PERST_N causes a warm reset and also resets the PCIe link and configuration space. -/
  | perstNAssert
  /-- SOFT_RESET (R13): A write of 1 to ID_CTRL.soft_reset causes a warm reset. -/
  | softReset (q : Req) (w : Word)
  /-- FUNCTION_LEVEL_RESET (R309): A PCIe Function Level Reset acts as a warm reset. -/
  | functionLevelReset
  /-- ALWAYS_ON_SUPPLY_LOSS (R419): Loss of the always-on supply takes the device to Off and clears the wake-fault record. -/
  | alwaysOnSupplyLoss
  /-- SRAM_CLEAR_DONE (R432): The SRAM clear of cold reset step 3 finishes, and flash discovery starts. -/
  | sramClearDone
  /-- FLASH_READ_DONE (R436): A flash read for discovery or for a Charter copy completes. -/
  | flashReadDone (r : FlashRes)
  /-- SIGNATURE_CHECK_DONE (R443): The checks of a Charter copy finish, and the loader chooses a copy by R444 or comes up Bare. -/
  | signatureCheckDone
  /-- CHARTER_CHECK (R450): A write of CH_CTRL.check reads and checks both copies under a kind-7 permit. -/
  | charterCheck (q : Req) (w : Word)
  /-- CHARTER_LOAD (R450): A write of CH_CTRL.load in Bare with a host attached loads a Charter copy. -/
  | charterLoad (q : Req) (w : Word)
  /-- CHARTER_REAPPLY (R449): After a warm reset in a standing mode, the loader re-reads the applied copy and rewrites the galleries and interrupt settings. -/
  | charterReapply
  /-- REAPPLY_RETRY (R449): 100 ms after a refused kind-7 permit, the loader asks again, and gives up after the tenth refusal. -/
  | reapplyRetry
  /-- FRAME_BOUNDARY (R55): The counter reaches a frame boundary, the frame number rises and a new frame begins. -/
  | frameBoundary (e : List SramFlip)
  /-- PLAN_BUILD_DONE (R227): The plan builder completes the plan of one frame for a root port. -/
  | planBuildDone (n : Fin 8)
  /-- PLAN_CUTOFF (R201): At 1,000 ns before a boundary, the plan of the next frame closes. -/
  | planCutoff
  /-- EFFECT_FRAME (R176): A change accepted in frame k takes effect at frame k + 3. -/
  | effectFrame
  /-- PERIODIC_ISSUE (R214): The periodic engine launches a planned downstream packet at its planned instant. -/
  | periodicIssue (n : Fin 8)
  /-- BULK_PACKET_BOUNDARY (R218): At a packet boundary of the bulk window, the root port issues the next eligible transaction from the urgent set, port service or the bulk queue. -/
  | bulkPacketBoundary (n : Fin 8)
  /-- REF10_LOSS (R39): The 10 MHz reference is missing for 500 ns or drifts beyond ±200 ppm, and the counter moves to a fallback clock. -/
  | ref10Loss
  /-- REF10_RETURN (R39): After the 10 MHz reference has been good for 1 s, the counter moves back to it. -/
  | ref10Return
  /-- PPS_EDGE (R38): A PPS edge is captured and used for acceptance and servo steering. -/
  | ppsEdge (t : Nat) (rise : Bool)
  /-- IRIGB_FRAME (R42): An IRIG-B frame and its on-time edge are received, checked and used. -/
  | irigbFrame (f : IrigFrame)
  /-- TOD_SENTENCE (R41): A time-of-day sentence is received on TOD_RX and accepted or rejected. -/
  | todSentence (b : List Byte) (t0 : Nat) (t1 : Nat)
  /-- SOURCE_LOSS_TIMEOUT (R45): No phase edge arrives within 1.5 s, and the accepted source is lost. -/
  | sourceLossTimeout (c : Fin 4)
  /-- STEP_APPLY (R50): The computed step is applied to the counter at the next frame boundary. -/
  | stepApply
  /-- STEPPED_END (R51): The stepped condition ends at the first TAI second boundary at least 1 s after the step. -/
  | steppedEnd
  /-- HOLDOVER_LIMIT (R47): The holdover error bound exceeds hold_limit, and the condition becomes free-run. -/
  | holdoverLimit
  /-- ALARM_FIRE (R60): The counter reaches an alarm time, and the alarm raises an interrupt, a TAKE or both, then re-arms if periodic. -/
  | alarmFire (k : Fin 4)
  /-- ALARM_LOAD (R60): A write of TK_ALARMn_LO loads the comparator, firing at once and setting late if the time has passed. -/
  | alarmLoad (k : Fin 4) (q : Req) (w : Word)
  /-- PPS_OUT_PULSE (R61): PPS_OUT rises at each TAI second boundary plus adjust, as the mode allows. -/
  | ppsOutPulse
  /-- FRAME_RATE_REQUEST (R57): A write of TK_FRAME_RATE.requested sets a pending frame-rate change. -/
  | frameRateRequest (q : Req) (w : Word)
  /-- FRAME_RATE_CHANGE (R57): The requested frame rate takes effect at its TAI second boundary. -/
  | frameRateChange
  /-- TAKE_IN_EDGE (R380): An edge on TAKE_IN requests a TAKE of code 1. -/
  | takeInEdge (t : Nat) (rise : Bool)
  /-- RECORD_WRITE_DONE (R386): The Registrar finishes writing or updating a record, and may release the vitrines. -/
  | recordWriteDone
  /-- SOFTWARE_TAKE (R380): A write of RG_CTRL.take requests a TAKE of code 2. -/
  | softwareTake (q : Req) (w : Word)
  /-- VITRINE_RELEASE (R385): A write of RG_CTRL.release releases held vitrines once their records are done. -/
  | vitrineRelease (q : Req) (w : Word)
  /-- STORE_CLEAR (R392): A write of RG_CTRL.clear empties the record store and clears full. -/
  | storeClear (q : Req) (w : Word)
  /-- RG_CNT_CLEAR (R392): A write of RG_CTRL.cnt_clear clears RG_COUNT.dropped and RG_MISSED. -/
  | rgCntClear (q : Req) (w : Word)
  /-- LINK_ENABLE (R84): A write of 1 to GP_LINK_CTRL.enable takes the port from Disabled to Detect, and in Bare makes the mode Hosted. -/
  | linkEnable (n : Fin 8) (q : Req) (w : Word)
  /-- LINK_DISABLE (R84): A write of 0 to GP_LINK_CTRL.enable takes the port to Disabled and detaches the devices below it. -/
  | linkDisable (n : Fin 8) (q : Req) (w : Word)
  /-- RETRAIN (R488): A write of GP_LINK_CTRL.retrain sends the port to Detect for a full training under a permit. -/
  | retrain (n : Fin 8) (q : Req) (w : Word)
  /-- CUT_RELEASE (R84): A write of GP_LINK_CTRL.cut_release takes a Cut port to Detect. -/
  | cutRelease (n : Fin 8) (q : Req) (w : Word)
  /-- PARTNER_BEACON (R84): A partner beacon burst is received in Detect, and the third valid burst asks for training. -/
  | partnerBeacon (p : PortRef) (t : Nat) (commas : Bool)
  /-- PERMIT_GRANT (R426): The request at the head of the permit queue fits the budget and is granted. -/
  | permitGrant
  /-- PERMIT_WAIT_TIMEOUT (R428): A request that has waited at the head for max_wait_ms is refused with cause 4. -/
  | permitWaitTimeout
  /-- TRAINING_PERMIT_RETRY (R87): 10 ms after a refused training permit, the root port asks again. -/
  | trainingPermitRetry (p : PortRef)
  /-- TRAINING_COMPLETE (R84): Training or fast training completes with the TS2 exchange, and the port enters Active. -/
  | trainingComplete (p : PortRef) (role : Fin 8) (partner : Nat) (pport : Fin 4)
  /-- TRAINING_TIMEOUT (R84): A full training does not finish within 2 ms, and the port returns to Detect. -/
  | trainingTimeout (p : PortRef)
  /-- FAST_TRAINING_TIMEOUT (R85): A fast training does not finish within 50 µs and is followed by a full training. -/
  | fastTrainingTimeout (p : PortRef)
  /-- LINK_HIT (R84): Loss of signal or 8 µs without a comma takes an Active link into Hit. -/
  | linkHit (p : PortRef)
  /-- HIT_TIMEOUT (R84): A Hit lasts 1 ms, and the port goes to Detect and detaches the devices below. -/
  | hitTimeout (p : PortRef)
  /-- SFP_LOS_CHANGE (R89): A change on GPn_SFP_LOS or GPn_SFP_ABS changes signal or module presence in fibre mode. -/
  | sfpLosChange (n : Fin 8) (los : Bool) (abs : Bool)
  /-- RESPONSE_RECEIVE (R109): A response arrives at a root port in its acceptance window and is checked and acted on. -/
  | responseReceive (n : Fin 8) (x : RxPacket)
  /-- FLUSH_READ_DONE (R30): The flush read completes, and the event entry may be written. -/
  | flushReadDone (c : Fin 2048) (r : HostRes)
  /-- RESPONSE_TIMEOUT (R119): An acceptance window closes without a response, and the tag is freed and the timeout counted. -/
  | responseTimeout (n : Fin 8) (tag : Fin 1024)
  /-- CONTROL_TIMEOUT (R118): A control transfer not completed within 5 ms ends as a timeout. -/
  | controlTimeout (n : Fin 8) (addr : Fin 64)
  /-- BABBLE_OBSERVATION (R122): A symbol arrives outside every window or a response overruns, and a babble observation is made. -/
  | babbleObservation (n : Fin 8) (addr : Fin 64)
  /-- GP_CUT_RELEASE (R125): A write of a cut device's address to GP_CUT_RELEASE releases it. -/
  | gpCutRelease (n : Fin 8) (q : Req) (w : Word)
  /-- RANGING_ECHO (R93): A ranging echo is captured, and L_rt is computed for a sweep or a maintenance probe. -/
  | rangingEcho (n : Fin 8) (addr : Fin 64) (rtt : Nat) (rd : Nat) (ru : Nat) (tt : Nat)
  /-- ECHO_LOST (R96): An echo not received in time is lost. -/
  | echoLost (n : Fin 8) (addr : Fin 64)
  /-- MAINTENANCE_PROBE_DUE (R154): A Ranged device's maintenance probe falls due in its frame of the second. -/
  | maintenanceProbeDue (n : Fin 8) (addr : Fin 64)
  /-- SWEEP_RETRY (R153): 1 s after a sweep has failed three times, a new sweep is queued. -/
  | sweepRetry (n : Fin 8) (addr : Fin 64)
  /-- ATTACH_WAIT_DONE (R149): The 1 ms wait of an attach ends, and GET_IDENTITY is sent at address 0. -/
  | attachWaitDone (n : Fin 8)
  /-- ATTACH_RETRY (R151): 10 ms after a failed attach step, the attach is tried again. -/
  | attachRetry (n : Fin 8)
  /-- PORT_DISABLE_END (R156): The 2 ms Disabled period of a root port reset ends, and the port enters Detect. -/
  | portDisableEnd (n : Fin 8)
  /-- TREE_SUSPEND (R162): A write of GP_ACC_CTRL.suspend requests a suspend at the next frame boundary. -/
  | treeSuspend (n : Fin 8) (q : Req) (w : Word)
  /-- SUSPEND_AT_BOUNDARY (R162): At the boundary, the root port sends SUS instead of an FST. -/
  | suspendAtBoundary (n : Fin 8)
  /-- SUS_RECEIVED (R162): The root port receives SUS and enters Suspended. -/
  | susReceived (n : Fin 8)
  /-- SUS_TIMEOUT (R162): 1 ms after sending SUS, the root port enters Suspended. -/
  | susTimeout (n : Fin 8)
  /-- TREE_RESUME (R163): A write of GP_ACC_CTRL.resume starts a fast training of a Suspended tree. -/
  | treeResume (n : Fin 8) (q : Req) (w : Word)
  /-- RESUME_FST (R163): The first FST leaves at least 500 µs after Active, and devices become Resynced. -/
  | resumeFst (n : Fin 8)
  /-- REMOTE_WAKE_BEACON (R165): A suspended root port recognises a remote-wake beacon and resumes or presents a wake source. -/
  | remoteWakeBeacon (n : Fin 8)
  /-- BUS_RESET (R160): A write of GP_ACC_RESET starts a bus reset of a tree or subtree. -/
  | busReset (n : Fin 8) (q : Req) (w : Word)
  /-- BUS_RESET_RETRAIN (R160): 2 ms after the reset, the affected links retrain and devices re-attach. -/
  | busResetRetrain (n : Fin 8)
  /-- BUS_RESET_TIMEOUT (R160): 500 ms after a bus reset began, reset_active returns to 0 and reset_done is set. -/
  | busResetTimeout (n : Fin 8)
  /-- GP_ACC_UNBIND (R158): A write of GP_ACC_UNBIND makes an Absent address Free. -/
  | gpAccUnbind (n : Fin 8) (q : Req) (w : Word)
  /-- GP_ACC_RETRY (R151): A write of GP_ACC_RETRY brings back a rejected device or reruns a strict-held attach. -/
  | gpAccRetry (n : Fin 8) (q : Req) (w : Word)
  /-- CU_ACC_POP (R170): A write of CU_ACC_POP removes the oldest accession record. -/
  | cuAccPop (q : Req) (w : Word)
  /-- GP_CNT_CLEAR (R83): A write of GP_CNT_CLEAR clears the link error counters. -/
  | gpCntClear (n : Fin 8) (q : Req) (w : Word)
  /-- GP_XACT_CLEAR (R119): A write of GP_XACT_CLEAR clears the transaction and babble counters. -/
  | gpXactClear (n : Fin 8) (q : Req) (w : Word)
  /-- CONTEXT_ENABLE (R177): A write of 1 to PX_CTRL.enable in Disabled runs the enable checks. -/
  | contextEnable (c : Fin 2048) (q : Req) (w : Word)
  /-- CONTEXT_DISABLE (R178): A write of 0 to PX_CTRL.enable makes the context Stopping. -/
  | contextDisable (c : Fin 2048) (q : Req) (w : Word)
  /-- CLEAR_HALT (R181): A write of PX_CTRL.clear_halt in Halted queues a CLEAR_HALT request. -/
  | clearHalt (c : Fin 2048) (q : Req) (w : Word)
  /-- CONTEXT_RELEASE (R180): A write of PX_CTRL.release in Held repeats check 6. -/
  | contextRelease (c : Fin 2048) (q : Req) (w : Word)
  /-- PX_CNT_CLEAR (R178): A write of PX_CTRL.cnt_clear clears PX_CNT_A to PX_CNT_D. -/
  | pxCntClear (c : Fin 2048) (q : Req) (w : Word)
  /-- OUT_RING_READ_DONE (R197): A periodic-out ring read completes, and slots are chosen for the due frame. -/
  | outRingReadDone (c : Fin 2048) (r : HostRes)
  /-- SW_INDEX_READ_DONE (R193): A read of a stream ring's software index word completes, and keep-old or keep-new applies. -/
  | swIndexReadDone (c : Fin 2048) (r : HostRes)
  /-- RATE_CHECK (R211): A write of CU_RATE_CHECK.rate starts a trial admission at that rate. -/
  | rateCheck (q : Req) (w : Word)
  /-- RATE_CHECK_DONE (R211): The trial admission finishes and shows fit and ports_over. -/
  | rateCheckDone
  /-- PW_OPEN_EFFECT (R100): A new pw_open takes effect at the third frame boundary after its write. -/
  | pwOpenEffect
  /-- ADMISSION_CONFIG_WRITE (R210): A write of cap_pct or fill_ns re-admits the affected ports. -/
  | admissionConfigWrite (n : Option (Fin 8)) (q : Req) (w : Word)
  /-- AGEING_PROMOTION (R222): A bulk entry that has waited its level's threshold moves up one level. -/
  | ageingPromotion (n : Fin 8) (g : Fin 16) (r : Fin 8) (i : BitVec 16)
  /-- CU_CLEAR (R229): A write of CU_CLEAR clears the Curator counters and min_margin. -/
  | cuClear (q : Req) (w : Word)
  /-- RING_POLL (R242): A ring's poll interval expires, and the device reads the entry at its fetch index. -/
  | ringPoll (g : Fin 16) (r : Fin 8)
  /-- WORK_ENTRY_READ (R243): A work-entry read completes, and the entry is checked and dispatched. -/
  | workEntryRead (g : Fin 16) (r : Fin 8) (d : HostRes)
  /-- BULK_IN (R237): A BULK_IN entry enters the bulk queue of its port. -/
  | bulkIn (g : Fin 16) (r : Fin 8) (i : BitVec 16)
  /-- BULK_OUT (R237): A BULK_OUT entry is staged by a mover and enters the bulk queue. -/
  | bulkOut (g : Fin 16) (r : Fin 8) (i : BitVec 16)
  /-- CONTROL (R237): A CONTROL entry enters the bulk queue as a control transfer. -/
  | control (g : Fin 16) (r : Fin 8) (i : BitVec 16)
  /-- CAT_INSERT (R187): A catalogue Insert is checked and accepted or refused by the admission unit. -/
  | catInsert (g : Fin 16) (r : Fin 8) (i : BitVec 16)
  /-- CAT_REMOVE (R187): A catalogue Remove is checked and marks the entry removing. -/
  | catRemove (g : Fin 16) (r : Fin 8) (i : BitVec 16)
  /-- CAT_MODIFY (R187): A catalogue Modify replaces an entry as one change, after admission. -/
  | catModify (g : Fin 16) (r : Fin 8) (i : BitVec 16)
  /-- MARK (R237): A MARK completes when it is reached, after any fence or delay. -/
  | mark (g : Fin 16) (r : Fin 8) (i : BitVec 16)
  /-- RING_ENABLE (R233): A write of 1 to GA_RINGr_CTRL.enable starts the ring at GA_RINGr_START. -/
  | ringEnable (g : Fin 16) (r : Fin 8) (q : Req) (w : Word)
  /-- RING_DISABLE (R248): A write of 0 to GA_RINGr_CTRL.enable makes a Running ring Stopping. -/
  | ringDisable (g : Fin 16) (r : Fin 8) (q : Req) (w : Word)
  /-- RING_STOP_DONE (R248): The last started entry of a Stopping ring completes, and the ring becomes Disabled with its resume head. -/
  | ringStopDone (g : Fin 16) (r : Fin 8)
  /-- EVENT_RING_ENABLE (R254): A write of 1 to GA_EVT_CTRL.enable puts the event ring in use. -/
  | eventRingEnable (g : Fin 16) (q : Req) (w : Word)
  /-- EVENT_RING_DISABLE (R257): A write of 0 to GA_EVT_CTRL.enable disables the event ring. -/
  | eventRingDisable (g : Fin 16) (q : Req) (w : Word)
  /-- EVENT_TAIL_READ_DONE (R254): The read of the event ring's tail word completes, and the ring starts. -/
  | eventTailReadDone (g : Fin 16) (d : HostRes)
  /-- EVENT_HEAD_READ_DONE (R257): A read of the event ring's head word completes, leaving or entering the full state. -/
  | eventHeadReadDone (g : Fin 16) (d : HostRes)
  /-- MOVER_GO (R274): A write of MV_CHn_CTRL.go starts a manager-owned channel at MV_CHn_HEAD. -/
  | moverGo (c : Fin 8) (q : Req) (w : Word)
  /-- MOVER_STOP (R275): A write of MV_CHn_CTRL.stop makes a Running manager channel Stopping. -/
  | moverStop (c : Fin 8) (q : Req) (w : Word)
  /-- MOVER_OWNER (R259): A write of MV_CHn_CTRL.owner changes a channel's owner when it is Idle or Fault. -/
  | moverOwner (c : Fin 8) (q : Req) (w : Word)
  /-- MV_CNT_CLEAR (R269): A write of MV_CNT_CLEAR clears the mover counters. -/
  | mvCntClear (q : Req) (w : Word)
  /-- DESCRIPTOR_READ_DONE (R264): A channel's descriptor read completes, and the descriptor is checked. -/
  | descriptorReadDone (c : Fin 8)
  /-- MOVER_HOST_READ_DONE (R266): A mover host read completes, and its data is written or the descriptor ends in error. -/
  | moverHostReadDone (c : Fin 8) (d : HostRes)
  /-- MOVER_READBACK_DONE (R266): The read-back completes, the status word is written and the pulse is sent. -/
  | moverReadbackDone (c : Fin 8) (d : HostRes)
  /-- ROUTE_WRITE (R281): A write of CO_ROUTE_CMD.write checks and writes a route entry. -/
  | routeWrite (q : Req) (w : Word)
  /-- ROUTE_READ (R280): A write of CO_ROUTE_CMD.read copies a route entry into CO_ROUTE_DATA. -/
  | routeRead (q : Req) (w : Word)
  /-- ROUTE_CLEAR (R282): A write of CO_ROUTE_CMD.clear invalidates a route entry. -/
  | routeClear (q : Req) (w : Word)
  /-- CO_CNT_CLEAR (R283): A write of CO_CNT_CLEAR clears the Courier counters. -/
  | coCntClear (q : Req) (w : Word)
  /-- CO_PWERR_CLEAR (R302): A write of CO_PWERR_CLEAR empties the posted-write error log. -/
  | coPwerrClear (q : Req) (w : Word)
  /-- REFLEX_MESSAGE (R288): A reflex message arrives over Span, and the output is placed or dropped. -/
  | reflexMessage (m : Fin 4)
  /-- FORWARD_MESSAGE (R292): A forwarded event arrives and is written to the named gallery's event ring. -/
  | forwardMessage (m : Fin 4)
  /-- TAKE_MESSAGE (R367): A TAKE message arrives, and the chip issues a TAKE of code 6. -/
  | takeMessage (m : Fin 4)
  /-- WRITE_ERROR_MESSAGE (R302): A posted-write error message arrives and is logged. -/
  | writeErrorMessage (m : Fin 4)
  /-- REMOTE_SEND (R295): A remote entry gets a Courier tag and a free target pipe, and its request is sent. -/
  | remoteSend (g : Fin 16) (r : Fin 8) (i : BitVec 16)
  /-- REMOTE_REQUEST (R297): A target Courier receives a REQ and answers it at once. -/
  | remoteRequest (m : Fin 4)
  /-- REMOTE_RESPONSE (R297): An origin Courier receives an RSP and completes, waits or retries the entry. -/
  | remoteResponse (m : Fin 4)
  /-- RETRY_BACKOFF_EXPIRE (R298): The backoff after a RETRY expires, and the request is sent again. -/
  | retryBackoffExpire (tag : Fin 1024)
  /-- REMOTE_TIMEOUT (R298): No answer within timeout_us completes the entry REMOTE_ERR detail 4. -/
  | remoteTimeout (tag : Fin 1024)
  /-- TICKET_DISCARD (R299): A held result is not collected within discard_us and is discarded. -/
  | ticketDiscard (k : Fin 256)
  /-- HOST_ATTACH (R311): A write of GA_CTRL.attach in page 0 makes the host the manager. -/
  | hostAttach (q : Req) (w : Word)
  /-- HOST_DETACH (R323): A write of GA_CTRL.detach closes every gallery and stops gallery 0's rings. -/
  | hostDetach (q : Req) (w : Word)
  /-- DETACH_DONE (R323): Once every gallery is Closed and gallery 0's rings are Disabled, the attach is cleared. -/
  | detachDone
  /-- GALLERY_RESET (R318): A write of GA_CTRL.reset makes an Open or Halted gallery Resetting. -/
  | galleryReset (g : Fin 16) (q : Req) (w : Word)
  /-- GALLERY_OPEN (R316): A manager write of 1 to GA_CTRL.open opens a Closed gallery. -/
  | galleryOpen (g : Fin 16) (q : Req) (w : Word)
  /-- GALLERY_CLOSE (R318): A manager write of 0 to GA_CTRL.open makes the gallery Closing. -/
  | galleryClose (g : Fin 16) (q : Req) (w : Word)
  /-- GALLERY_RESET_DONE (R318): When every ring of a Resetting or Closing gallery has finished, it becomes Open or Closed. -/
  | galleryResetDone (g : Fin 16)
  /-- PASID_WRITE (R317): A write of GA_PASID is accepted or refused. -/
  | pasidWrite (g : Fin 16) (q : Req) (w : Word)
  /-- GA_DB_IN (R320): A write of GA_DB_IN sets or clears a doorbell to the gallery. -/
  | gaDbIn (g : Fin 16) (q : Req) (w : Word)
  /-- GA_DB_OUT (R320): A write of GA_DB_OUT sets or clears a doorbell to the manager. -/
  | gaDbOut (g : Fin 16) (q : Req) (w : Word)
  /-- GA_VIOL_CLEAR (R322): A write of GA_VIOL_CLEAR empties the violation log and counters. -/
  | gaViolClear (q : Req) (w : Word)
  /-- BAR2_WRITE (R25): A BAR2 write reaches buffer memory or is ignored. -/
  | bar2Write (q : Req) (off : Nat) (d : List Byte)
  /-- BAR2_READ (R25): A BAR2 read returns corrected data, or poisoned data with a detector on an uncorrectable error. -/
  | bar2Read (q : Req) (off : Nat) (len : Nat) (flip : Option Bool)
  /-- PCIE_CONFIG_WRITE (R314): A configuration write changes Bus Master Enable, PASID Enable or MSI-X Enable, and so dma_ready. -/
  | pcieConfigWrite (x : CfgWrite)
  /-- MSIX_UNMASK (R310): Unmasking an MSI-X vector with its pending bit set sends its message. -/
  | msixUnmask (v : Fin 17) (q : Req) (w : Word)
  /-- IC_CLAIM (R330): A read of IC_CLAIM claims the highest-priority deliverable source. -/
  | icClaim (g : Fin 16) (q : Req)
  /-- IC_COMPLETE (R330): A write of IC_COMPLETE ends a claim and lowers the running level. -/
  | icComplete (g : Fin 16) (q : Req) (w : Word)
  /-- IC_SET (R336): A write of IC_SET makes a private source Pending at once. -/
  | icSet (g : Fin 16) (q : Req) (w : Word)
  /-- IC_SH_SET (R336): A write of IC_SH_SET makes a shared source Pending at once. -/
  | icShSet (q : Req) (w : Word)
  /-- IC_ENABLE_WRITE (R328): A write of an interrupt enable bit; clearing it returns the instance to Idle. -/
  | icEnableWrite (g : Option (Fin 16)) (k : Fin 6) (q : Req) (w : Word)
  /-- IC_SH_TARGET_WRITE (R334): A write of IC_SH_CFGs.target moves a shared source to a new target gallery. -/
  | icShTargetWrite (k : Fin 192) (q : Req) (w : Word)
  /-- COALESCE_TIMEOUT (R327): A Gathering instance reaches co_time_us and becomes Pending. -/
  | coalesceTimeout (g : Option (Fin 16)) (k : Fin 256)
  /-- FALLBACK_TIMEOUT (R333): A shared instance waits fallback_ms and is presented to the manager. -/
  | fallbackTimeout (k : Fin 256)
  /-- SPAN_ENABLE (R342): A write of SP_Pm_CTRL.enable takes a Span port out of Disabled, or into it. -/
  | spanEnable (m : Fin 4) (q : Req) (w : Word)
  /-- SPAN_RETRAIN (R342): A write of SP_Pm_CTRL.retrain starts a full Span training under a permit. -/
  | spanRetrain (m : Fin 4) (q : Req) (w : Word)
  /-- SPAN_PACKET_RECEIVE (R350): A Span packet arrives, is checked and is consumed or forwarded. -/
  | spanPacketReceive (m : Fin 4) (x : SpanRx)
  /-- LINK_PACKET (R351): A LINK packet acknowledges or NAKs packets and returns credits. -/
  | linkPacket (m : Fin 4) (x : SpanRx)
  /-- SP_CNT_CLEAR (R367): A write of SP_CNT_CLEAR clears SP_TAKE_CNT. -/
  | spCntClear (q : Req) (w : Word)
  /-- SP_PM_CNT_CLEAR (R350): A write of SP_Pm_CNT_CLEAR clears the port's error and traffic counters. -/
  | spPmCntClear (m : Fin 4) (q : Req) (w : Word)
  /-- DISCOVER (R357): A write of SP_FAB_CTRL.discover floods this chip's record under a permit. -/
  | discover (q : Req) (w : Word)
  /-- DISC_RECORD (R357): A DISC record arrives, and a newer one is stored and forwarded. -/
  | discRecord (m : Fin 4) (r : DiscRec)
  /-- DISCOVERY_PERMIT_RETRY (R357): 10 ms after a refused discovery permit, the chip asks again. -/
  | discoveryPermitRetry
  /-- DISCOVERY_SETTLED (R358): No new record for settle_ms settles discovery, resolving IDs and replacing the routing table. -/
  | discoverySettled
  /-- CHAIN_PULSE (R356): A low pulse on CHAIN_IN is counted. -/
  | chainPulse
  /-- CHAIN_ID_TAKE (R356): CHAIN_IN stays high 10 µs after pulses, and the count becomes the chip ID. -/
  | chainIdTake
  /-- CHAIN_TRAIN (R356): A chip with an ID sends its pulse train on CHAIN_OUT, 1 ms after taking the ID and every 10 ms. -/
  | chainTrain
  /-- CHAIN_TIMEOUT (R356): No pulse within 50 ms of reset marks the chip as not chained. -/
  | chainTimeout
  /-- TIME_SEND (R363): Once per TAI second, the master or a chip with source 4 sends TIME packets. -/
  | timeSend
  /-- TIME_PACKET (R364): A TIME packet from the time parent forms a phase edge and a frame alignment sample. -/
  | timePacket (m : Fin 4)
  /-- MASTER_CHANGE (R362): A better record for 4 consecutive seconds replaces the fabric time master. -/
  | masterChange
  /-- FRAME_RENUMBER (R366): A frame-number difference confirmed by 4 TIME packets is applied at the next boundary. -/
  | frameRenumber
  /-- SPAN_RANGING_ECHO (R365): A Span ECHO is captured, and D_link is computed. -/
  | spanRangingEcho (m : Fin 4) (rtt : Nat) (tt : Nat)
  /-- TWIN_ENABLE (R368): A write of TW_CTRL.enable starts or stops twin operation on Span port 3. -/
  | twinEnable (q : Req) (w : Word)
  /-- TWIN_YIELD (R377): A write of TW_CTRL.yield starts handing owned trees to the partner. -/
  | twinYield (q : Req) (w : Word)
  /-- YIELD_EFFECT (R377): At the yield frames, the yield is cancelled or ownership passes to the partner. -/
  | yieldEffect
  /-- HEARTBEAT_SEND (R369): At the first packet boundary after a frame boundary, a twin chip sends its heartbeat. -/
  | heartbeatSend
  /-- HEARTBEAT_RECEIVE (R369): A partner heartbeat arrives and updates pairing, misses and frame difference. -/
  | heartbeatReceive (maps : Bool)
  /-- TWIN_TAKEOVER (R374): The third consecutive heartbeat miss makes the standby take over every shared tree. -/
  | twinTakeover
  /-- SOLO_WAIT_EXPIRE (R368): A low-role chip not paired within solo_wait_ms claims its shared trees and runs Alone. -/
  | soloWaitExpire
  /-- MIRROR_MESSAGE (R372): A mirror message arrives, and the standby updates its mirrored state. -/
  | mirrorMessage
  /-- TW_CLEAR (R374): A write of TW_CLEAR clears TW_CNT and TW_MIRROR.late. -/
  | twClear (q : Req) (w : Word)
  /-- FI_UNLOCK (R404): A write of FI_UNLOCK advances the unlock sequence or locks the block. -/
  | fiUnlock (q : Req) (w : Word)
  /-- INJECTION_ARM (R405): A write of FI_INJd_CTRL arms or disarms an injection point and clears fired. -/
  | injectionArm (k : Fin 18) (q : Req) (w : Word)
  /-- HANDSHAKE_STALL (R398): A ring handshake is unacknowledged for stall_us, and HANDSHAKE_STALL is raised. -/
  | handshakeStall (blk : Fin 24) (ring : Nat)
  /-- FI_FAULT_CLEAR (R402): A write of FI_FAULT.clear releases FAULT_N. -/
  | fiFaultClear (q : Req) (w : Word)
  /-- FI_CLEAR (R400): A write of FI_CLEAR.clear clears the detector counts, the log and locked_write. -/
  | fiClear (q : Req) (w : Word)
  /-- FI_CLEAR_FIRST (R400): A write of FI_CLEAR.first clears and re-arms FI_FIRST. -/
  | fiClearFirst (q : Req) (w : Word)
  /-- FI_SUMMARY_CLEAR (R401): A W1C write of FI_SUMMARY clears handled summary bits. -/
  | fiSummaryClear (q : Req) (w : Word)
  /-- SCRUB_INTERVAL (R430): A scrub interval expires, and the Conservator asks for a kind-5 permit. -/
  | scrubInterval
  /-- SCRUB_PASS_DONE (R430): A scrub pass finishes reading every SRAM word, and its permit is returned. -/
  | scrubPassDone (e : List SramFlip)
  /-- POWER_TARGET (R409): A write of CN_CTRL.target starts a move between power states. -/
  | powerTarget (q : Req) (w : Word)
  /-- ENTRY_STEP_DONE (R410): Every block agrees, or one refuses, and the downward step completes or is abandoned. -/
  | entryStepDone
  /-- ENTRY_TIMEOUT (R410): A step not agreed within entry_ms is abandoned with code 6. -/
  | entryTimeout
  /-- WAKE_SOURCE (R415): An enabled wake source in Closed or Stowed starts a wake. -/
  | wakeSource (x : WakeSrc)
  /-- OSCILLATOR_READY (R417): The 25 MHz oscillator measures in range, and the wake or reset continues. -/
  | oscillatorReady
  /-- OSCILLATOR_TIMEOUT (R418): The oscillator is not ready within 10 ms, and the wake fails. -/
  | oscillatorTimeout
  /-- PMBUS_ACK (R420): VOUT_COMMAND is acknowledged, and power-good polling starts. -/
  | pmbusAck
  /-- PMBUS_COMMAND_FAIL (R420): A PMBus command is NAKed or unacknowledged within 2 ms, and REG_NAK is raised. -/
  | pmbusCommandFail (cmd : BitVec 8)
  /-- PMBUS_RETRY (R420): 1 ms after a failed attempt the next attempt starts, or the change fails after the third retry. -/
  | pmbusRetry
  /-- PMBUS_STATUS_POLL (R420): STATUS_WORD is read every 100 µs, and power-good is recognised. -/
  | pmbusStatusPoll (sw : BitVec 16) (pg : Bool)
  /-- POWER_GOOD_TIMEOUT (R420): Power-good is not reached within 2 ms of the acknowledgement, and the attempt fails. -/
  | powerGoodTimeout
  /-- AON_STATUS_READ (R420): Once per second the always-on regulator's STATUS_WORD is read. -/
  | aonStatusRead (ok : Bool)
  /-- PACE_SAMPLE (R422): Every 100 µs the pace monitors give a sample. -/
  | paceSample (p : BitVec 16)
  /-- AVS_PERIOD (R423): At the end of each period the loop steps the supply up, down or not at all. -/
  | avsPeriod
  /-- AVS_CONFIG_WRITE (R421): A write of CN_AVS_CFG sets loop parameters and clears avs_halted. -/
  | avsConfigWrite (q : Req) (w : Word)
  /-- CN_WAKE_FAULT_CLEAR (R419): A write of CN_WAKE_FAULT.clear clears the wake-fault record. -/
  | cnWakeFaultClear (q : Req) (w : Word)
  /-- CN_CNT_CLEAR (R428): A write of CN_CNT_CLEAR clears the Conservator counters. -/
  | cnCntClear (q : Req) (w : Word)
  /-- EXTEST (R478): The EXTEST instruction drives the boundary-scan cells onto the balls. -/
  | extest (sample : List Bool) (pre : List Bool)
  /-- IDCODE (R478): The IDCODE instruction selects the identification register. -/
  | idcode
  /-- SAMPLE_PRELOAD (R478): The SAMPLE/PRELOAD instruction samples or preloads the boundary-scan chain. -/
  | samplePreload (sample : List Bool) (pre : List Bool)
  /-- HIGHZ (R478): The HIGHZ instruction places the outputs in high impedance. -/
  | highz (tdi : List Bool)
  /-- CLAMP (R478): The CLAMP instruction holds the outputs from the boundary-scan chain. -/
  | clamp (tdi : List Bool)
  /-- BYPASS (R478): BYPASS, or any undefined code, selects the bypass register. -/
  | bypass (code : BitVec 8) (tdi : List Bool)
  /-- TAP_RESET (R478): A TAP reset selects IDCODE. -/
  | tapReset
  /-- FUSE_LOAD (R479): FUSE_LOAD shifts the 257-bit fuse register. -/
  | fuseLoad (bits : BitVec 257)
  /-- FUSE_BURN (R480): FUSE_BURN burns the loaded key hash and key_lock under the burn rules. -/
  | fuseBurn (vfuse : Bool)
  /-- FUSE_READ (R479): FUSE_READ returns the burnt fuse bits with key_programmed and burn_failed. -/
  | fuseRead
  /-- REGISTER_WRITE (R12): A write to a register with no row of its own acts as the access codes of its fields state. -/
  | registerWrite (q : Req) (off : Nat) (d : List Byte)
  /-- BAR0_READ (R15): A BAR0 read with side effects of its own: a _LO read captures the 64-bit value, a narrow read acts on its word, and a Registrar window read may return poisoned data and raise SRAM_UE. -/
  | bar0Read (q : Req) (off : Nat) (len : Nat) (flip : Option Bool)
  /-- FRAGMENT_TABLE_READ_DONE (R240): The host read of an indirect entry's fragment table completes, and the entry gets its descriptors or completes FRAG_BAD, MISALIGNED or HOST_ERR. -/
  | fragmentTableReadDone (g : Fin 16) (r : Fin 8) (i : BitVec 16) (d : HostRes)
  /-- HOST_READ_TIMEOUT (R308): A read the device made on PCI Express times out without a completion, and the issuing block treats it as failed. -/
  | hostReadTimeout (x : ReadRef)
  /-- RANGING_PERMIT_RETRY (R428): 10 ms after a ranging sweep's permit was refused, the sweep is queued again and asks for a new permit. -/
  | rangingPermitRetry (p : PortRef) (addr : Fin 64)
  /-- SPAN_MAINTENANCE_PROBE (R365): Once per second a ranged Span link sends a maintenance probe. -/
  | spanMaintenanceProbe (m : Fin 4)
  /-- PARTNER_BEACON_LOSS (R87): The partner's beacons stop while a root port waits for or holds a training permit, and the port returns its permit. -/
  | partnerBeaconLoss (p : PortRef)
  /-- PME_TURN_OFF (R411): A PME_Turn_Off message arrives from the host, and the device answers PME_TO_Ack and lets the link go to L2/L3 Ready. -/
  | pmeTurnOff
  /-- PCIE_LINK_STATE_CHANGE (R417): The PCI Express link reaches L0 or leaves it (L1, L2, down), and WAKE_N is released when L0 is reached. -/
  | pcieLinkStateChange (l : PcieLink)
  /-- PERST_N_RELEASE (R433): PERST_N is deasserted, and the PCIe controller starts training the link. -/
  | perstNRelease
  /-- SPAN_PACKET_BOUNDARY (R353): At each packet boundary a Span port sends the first ready packet, in the priority order of R353, while it holds credit. -/
  | spanPacketBoundary (m : Fin 4)
  /-- TAKE_OUT_PULSE_END (R381): The TAKE_OUT pulse reaches out_width_us, and the ball falls. -/
  | takeOutPulseEnd
  /-- PPS_OUT_PULSE_END (R61): The PPS_OUT pulse reaches width_ms, and the ball falls. -/
  | ppsOutPulseEnd
  deriving DecidableEq, Repr

end Sys2Proof
end

