-- ==== Sys2Proof/WellFormed.lean ====
section
/-! DEFINITION. Which commands are well formed: their operands lie in the ranges that the manual gives. exec answers for every command; an
ill-formed one stands for nothing that can reach the device. -/

namespace Sys2Proof

/-- An access of some bytes lies in an aperture. -/
def barOk (size off len : Nat) : Bool := 1 ≤ len && off + len ≤ size

/-- The bytes of BAR0 and of BAR2 (R306). -/
def bar0Size : Nat := 0x100000
def bar2Size : Nat := 0x400000

/-- Words of SRAM: BAR2 offsets that are multiples of 8 (R24). -/
def flipsOk (e : List SramFlip) : Bool := e.all fun f => f.off % 8 == 0 && f.off < bar2Size

/-- A read of host memory is at most 4,096 bytes (R307); one that times out has no completion. -/
def hostResOk : HostRes → Bool
  | .timeout => false
  | .data d => d.length ≤ 4096
  | .badEcrc d => d.length ≤ 4096
  | _ => true

/-- A link-state record has the ranges of R355 and R357. -/
def DiscRec.ok (r : DiscRec) : Bool :=
  r.serial < 2 ^ 64 && r.id ≤ 62 && r.src ≤ 3 && r.quality < 256 && r.partners.length == 4 && r.version < 2 ^ 16 &&
  r.partners.all fun p => match p with
    | some x => decide (x.1 < 2 ^ 64 ∧ x.2 < 4)
    | none => true

/-- A payload or read size of PCI Express. -/
def pcieSizes : List Nat := [128, 256, 512, 1024, 2048, 4096]

/-- A setting of configuration space. -/
def CfgWrite.ok : CfgWrite → Bool
  | .maxPayload v => pcieSizes.contains v
  | .maxRead v => pcieSizes.contains v
  | .timeoutRange v => v < 16
  | _ => true

/-- The instruction codes of the test access port that are not BYPASS (R478). -/
def tapDefined : List Nat := [0x00, 0x01, 0x02, 0x03, 0x04, 0x20, 0x21, 0x22]

/-- Whether a command is well formed. -/
def Instr.wf : Instr → Bool
  | .coldReset .. => true
  | .perstNAssert => true
  | .softReset .. => true
  | .functionLevelReset => true
  | .alwaysOnSupplyLoss => true
  | .sramClearDone => true
  | .flashReadDone .. => true
  | .signatureCheckDone => true
  | .charterCheck .. => true
  | .charterLoad .. => true
  | .charterReapply => true
  | .reapplyRetry => true
  | .frameBoundary e => flipsOk e
  | .planBuildDone .. => true
  | .planCutoff => true
  | .effectFrame => true
  | .periodicIssue .. => true
  | .bulkPacketBoundary .. => true
  | .ref10Loss => true
  | .ref10Return => true
  | .ppsEdge .. => true
  | .irigbFrame f => decide (f.fmt ≤ 7)
  | .todSentence _ t0 t1 => decide (t0 ≤ t1)
  | .sourceLossTimeout .. => true
  | .stepApply => true
  | .steppedEnd => true
  | .holdoverLimit => true
  | .alarmFire .. => true
  | .alarmLoad .. => true
  | .ppsOutPulse => true
  | .frameRateRequest .. => true
  | .frameRateChange => true
  | .takeInEdge .. => true
  | .recordWriteDone => true
  | .softwareTake .. => true
  | .vitrineRelease .. => true
  | .storeClear .. => true
  | .rgCntClear .. => true
  | .linkEnable .. => true
  | .linkDisable .. => true
  | .retrain .. => true
  | .cutRelease .. => true
  | .partnerBeacon .. => true
  | .permitGrant => true
  | .permitWaitTimeout => true
  | .trainingPermitRetry .. => true
  | .trainingComplete .. => true
  | .trainingTimeout .. => true
  | .fastTrainingTimeout .. => true
  | .linkHit .. => true
  | .hitTimeout .. => true
  | .sfpLosChange .. => true
  | .responseReceive .. => true
  | .flushReadDone _ r => hostResOk r
  | .responseTimeout .. => true
  | .controlTimeout .. => true
  | .babbleObservation .. => true
  | .gpCutRelease .. => true
  | .rangingEcho .. => true
  | .echoLost .. => true
  | .maintenanceProbeDue .. => true
  | .sweepRetry .. => true
  | .attachWaitDone .. => true
  | .attachRetry .. => true
  | .portDisableEnd .. => true
  | .treeSuspend .. => true
  | .suspendAtBoundary .. => true
  | .susReceived .. => true
  | .susTimeout .. => true
  | .treeResume .. => true
  | .resumeFst .. => true
  | .remoteWakeBeacon .. => true
  | .busReset .. => true
  | .busResetRetrain .. => true
  | .busResetTimeout .. => true
  | .gpAccUnbind .. => true
  | .gpAccRetry .. => true
  | .cuAccPop .. => true
  | .gpCntClear .. => true
  | .gpXactClear .. => true
  | .contextEnable .. => true
  | .contextDisable .. => true
  | .clearHalt .. => true
  | .contextRelease .. => true
  | .pxCntClear .. => true
  | .outRingReadDone _ r => hostResOk r
  | .swIndexReadDone _ r => hostResOk r
  | .rateCheck .. => true
  | .rateCheckDone => true
  | .pwOpenEffect => true
  | .admissionConfigWrite .. => true
  | .ageingPromotion .. => true
  | .cuClear .. => true
  | .ringPoll .. => true
  | .workEntryRead _ _ r => hostResOk r
  | .bulkIn .. => true
  | .bulkOut .. => true
  | .control .. => true
  | .catInsert .. => true
  | .catRemove .. => true
  | .catModify .. => true
  | .mark .. => true
  | .ringEnable .. => true
  | .ringDisable .. => true
  | .ringStopDone .. => true
  | .eventRingEnable .. => true
  | .eventRingDisable .. => true
  | .eventTailReadDone _ r => hostResOk r
  | .eventHeadReadDone _ r => hostResOk r
  | .moverGo .. => true
  | .moverStop .. => true
  | .moverOwner .. => true
  | .mvCntClear .. => true
  | .descriptorReadDone .. => true
  | .moverHostReadDone _ r => hostResOk r
  | .moverReadbackDone _ r => hostResOk r
  | .routeWrite .. => true
  | .routeRead .. => true
  | .routeClear .. => true
  | .coCntClear .. => true
  | .coPwerrClear .. => true
  | .reflexMessage .. => true
  | .forwardMessage .. => true
  | .takeMessage .. => true
  | .writeErrorMessage .. => true
  | .remoteSend .. => true
  | .remoteRequest .. => true
  | .remoteResponse .. => true
  | .retryBackoffExpire .. => true
  | .remoteTimeout .. => true
  | .ticketDiscard .. => true
  | .hostAttach .. => true
  | .hostDetach .. => true
  | .detachDone => true
  | .galleryReset .. => true
  | .galleryOpen .. => true
  | .galleryClose .. => true
  | .galleryResetDone .. => true
  | .pasidWrite .. => true
  | .gaDbIn .. => true
  | .gaDbOut .. => true
  | .gaViolClear .. => true
  | .bar2Write _ off d => barOk bar2Size off d.length
  | .bar2Read _ off len _ => barOk bar2Size off len
  | .pcieConfigWrite x => x.ok
  | .msixUnmask .. => true
  | .icClaim .. => true
  | .icComplete .. => true
  | .icSet .. => true
  | .icShSet .. => true
  | .icEnableWrite .. => true
  | .icShTargetWrite .. => true
  | .coalesceTimeout .. => true
  | .fallbackTimeout .. => true
  | .spanEnable .. => true
  | .spanRetrain .. => true
  | .spanPacketReceive .. => true
  | .linkPacket .. => true
  | .spCntClear .. => true
  | .spPmCntClear .. => true
  | .discover .. => true
  | .discRecord _ r => r.ok
  | .discoveryPermitRetry => true
  | .discoverySettled => true
  | .chainPulse => true
  | .chainIdTake => true
  | .chainTrain => true
  | .chainTimeout => true
  | .timeSend => true
  | .timePacket .. => true
  | .masterChange => true
  | .frameRenumber => true
  | .spanRangingEcho .. => true
  | .twinEnable .. => true
  | .twinYield .. => true
  | .yieldEffect => true
  | .heartbeatSend => true
  | .heartbeatReceive .. => true
  | .twinTakeover => true
  | .soloWaitExpire => true
  | .mirrorMessage => true
  | .twClear .. => true
  | .fiUnlock .. => true
  | .injectionArm .. => true
  | .handshakeStall .. => true
  | .fiFaultClear .. => true
  | .fiClear .. => true
  | .fiClearFirst .. => true
  | .fiSummaryClear .. => true
  | .scrubInterval => true
  | .scrubPassDone e => flipsOk e
  | .powerTarget .. => true
  | .entryStepDone => true
  | .entryTimeout => true
  | .wakeSource .. => true
  | .oscillatorReady => true
  | .oscillatorTimeout => true
  | .pmbusAck => true
  | .pmbusCommandFail .. => true
  | .pmbusRetry => true
  | .pmbusStatusPoll .. => true
  | .powerGoodTimeout => true
  | .aonStatusRead .. => true
  | .paceSample .. => true
  | .avsPeriod => true
  | .avsConfigWrite .. => true
  | .cnWakeFaultClear .. => true
  | .cnCntClear .. => true
  | .extest a b => a.length == scanBalls.length && b.length == scanBalls.length
  | .idcode => true
  | .samplePreload a b => a.length == scanBalls.length && b.length == scanBalls.length
  | .highz .. => true
  | .clamp .. => true
  | .bypass c _ => !tapDefined.contains c.toNat
  | .tapReset => true
  | .fuseLoad .. => true
  | .fuseBurn .. => true
  | .fuseRead => true
  | .registerWrite _ off d => barOk bar0Size off d.length
  | .bar0Read _ off len _ => barOk bar0Size off len
  | .fragmentTableReadDone _ _ _ r => hostResOk r
  | .hostReadTimeout .. => true
  | .rangingPermitRetry .. => true
  | .spanMaintenanceProbe .. => true
  | .partnerBeaconLoss .. => true
  | .pmeTurnOff => true
  | .pcieLinkStateChange .. => true
  | .perstNRelease => true
  | .spanPacketBoundary .. => true
  | .takeOutPulseEnd => true
  | .ppsOutPulseEnd => true

end Sys2Proof
end

