-- ==== Sys2Proof/Machine/Bits.lean ====
section
/-! DEFINITION. Bit fields of register words, little-endian bytes, sparse tables and small list operations. -/

namespace Sys2Proof.Machine

/-- A register field: the BAR0 byte offset of its register, its lowest bit and its width. -/
structure Field where
  off   : Nat
  lo    : Nat
  width : Nat
  deriving DecidableEq, Repr

/-- The largest value a field of `n` bits holds. -/
def maxOf (n : Nat) : Nat := 2 ^ n - 1

/-- The value of the field in a word. -/
def Field.of (f : Field) (w : Word) : Nat := w.toNat / 2 ^ f.lo % 2 ^ f.width

/-- The bits of the field as a mask. -/
def Field.mask (f : Field) : Word := BitVec.ofNat 32 ((2 ^ f.width - 1) * 2 ^ f.lo)

/-- The word with the field set to `v` (modulo the field's width) and every other bit kept. -/
def Field.ins (f : Field) (w : Word) (v : Nat) : Word :=
  (w &&& ~~~ f.mask) ||| (BitVec.ofNat 32 (v % 2 ^ f.width * 2 ^ f.lo))

/-- Bits `lo .. lo+width-1` of a number. -/
def bitsOf (x lo width : Nat) : Nat := x / 2 ^ lo % 2 ^ width

/-- Bit `i` of a number. -/
def bitOf (x i : Nat) : Bool := x / 2 ^ i % 2 == 1

/-- The number with bit `i` set. -/
def withBit (x i : Nat) : Nat := if bitOf x i then x else x + 2 ^ i

/-- The number with bit `i` cleared. -/
def clrBit (x i : Nat) : Nat := if bitOf x i then x - 2 ^ i else x

/-- One bit as a number. -/
def b2n (b : Bool) : Nat := if b then 1 else 0

/-- The `n` lowest bytes of a number, least significant first (R8). -/
def leBytes : Nat → Nat → List Byte
  | 0, _ => []
  | n + 1, x => BitVec.ofNat 8 x :: leBytes n (x / 256)

/-- The number that bytes spell, least significant first (R8). -/
def leVal : List Byte → Nat
  | [] => 0
  | b :: bs => b.toNat + 256 * leVal bs

/-- Byte `i` of a list, zero past its end. -/
def byteAt (bs : List Byte) (i : Nat) : Nat := (bs.getD i 0).toNat

/-- The little-endian number in bytes `i .. i+n-1`. -/
def leAt (bs : List Byte) (i n : Nat) : Nat := leVal ((bs.drop i).take n)

/-- The bytes padded with zeros, or cut, to length `n`. -/
def fit (n : Nat) (bs : List Byte) : List Byte := (bs ++ List.replicate (n - bs.length) 0).take n

/-- A value read in two's complement of `n` bits. -/
def signed (n x : Nat) : Int := if x % 2 ^ n < 2 ^ (n - 1) then (x % 2 ^ n : Nat) else (x % 2 ^ n : Nat) - 2 ^ n

/-- An integer as `n` bits of two's complement. -/
def unsigned (n : Nat) (x : Int) : Nat := (x % 2 ^ n).toNat

/-- The ceiling of a quotient. -/
def ceilDiv (a b : Nat) : Nat := (a + b - 1) / b

/-- A quotient rounded half up. -/
def roundDiv (a : Int) (b : Nat) : Int := (2 * a + b) / (2 * b)

/-- `a` limited to the range `lo .. hi`. -/
def clampInt (lo hi a : Int) : Int := if a < lo then lo else if a > hi then hi else a

/-- What a sparse table holds at a key: the listed value, or `d` of the key. -/
def tget {α : Type} (d : Nat → α) : Tab α → Nat → α
  | [], k => d k
  | (j, v) :: t, k => if j = k then v else tget d t k

/-- A table without the key. -/
def terase {α : Type} : Tab α → Nat → Tab α
  | [], _ => []
  | (j, v) :: t, k => if j = k then terase t k else (j, v) :: terase t k

/-- A value placed at its key's place in the rising order. -/
def tinsert {α : Type} : Tab α → Nat → α → Tab α
  | [], k, v => [(k, v)]
  | (j, w) :: t, k, v => if k < j then (k, v) :: (j, w) :: t else (j, w) :: tinsert t k v

/-- Set a key of a sparse table; a value equal to the default is not listed. -/
def tput {α : Type} [DecidableEq α] (d : Nat → α) (t : Tab α) (k : Nat) (v : α) : Tab α :=
  if v = d k then terase t k else tinsert (terase t k) k v

/-- Keys strictly rising, all above `lo` when one is given. -/
def rising {α : Type} : Option Nat → Tab α → Bool
  | _, [] => true
  | none, (k, _) :: t => rising (some k) t
  | some j, (k, _) :: t => decide (j < k) && rising (some k) t

/-- The canonical form of a sparse table: keys strictly rising, no entry equal to the default. -/
def Tab.wf {α : Type} [DecidableEq α] (d : Nat → α) (t : Tab α) : Bool :=
  rising none t && t.all fun p => decide (p.2 ≠ d p.1)

/-- Frame numbers, ring indices: `a` is newer than `b` modulo 2^n (R10). -/
def newerMod (n a b : Nat) : Bool :=
  let d := (a + 2 ^ n - b % 2 ^ n) % 2 ^ n
  decide (1 ≤ d ∧ d < 2 ^ (n - 1))

/-- Frame `a` is newer than frame `b` (R10). -/
def newer (a b : Nat) : Bool := newerMod 32 a b

/-- A state function applied in turn for each item of a list. -/
def forEach {σ α : Type} (xs : List α) (s : σ) (f : σ → α → σ) : σ := xs.foldl f s

/-- Replace element `i` of a list. -/
def listSet {α : Type} : List α → Nat → α → List α
  | [], _, _ => []
  | _ :: xs, 0, v => v :: xs
  | x :: xs, i + 1, v => x :: listSet xs i v

end Sys2Proof.Machine
end

