-- ==== Sys2Proof/Machine/Fields.lean ====
section
/-! DEFINITION. The register offsets and register fields of the device, by the manual's own names (R452 to R454). `R.x` is a BAR0 byte offset, `F.x_y` the field y of register x. -/

namespace Sys2Proof.Machine

namespace R
/-- TK_CTRL (02_time_keeper.md). -/
def tkCtrl : Nat := 0x1000
/-- TK_STATUS (02_time_keeper.md). -/
def tkStatus : Nat := 0x1004
/-- TK_TIME_LO (02_time_keeper.md). -/
def tkTimeLo : Nat := 0x1008
/-- TK_TIME_HI (02_time_keeper.md). -/
def tkTimeHi : Nat := 0x100C
/-- TK_FRAME_NUM (02_time_keeper.md). -/
def tkFrameNum : Nat := 0x1010
/-- TK_FRAME_RATE (02_time_keeper.md). -/
def tkFrameRate : Nat := 0x1014
/-- TK_REF_SEL (02_time_keeper.md). -/
def tkRefSel : Nat := 0x1018
/-- TK_TAI_UTC (02_time_keeper.md). -/
def tkTaiUtc : Nat := 0x101C
/-- TK_SERVO_CFG (02_time_keeper.md). -/
def tkServoCfg : Nat := 0x1020
/-- TK_HOLD_CFG (02_time_keeper.md). -/
def tkHoldCfg : Nat := 0x1024
/-- TK_PPS_CAL (02_time_keeper.md). -/
def tkPpsCal : Nat := 0x1028
/-- TK_OFFSET (02_time_keeper.md). -/
def tkOffset : Nat := 0x102C
/-- TK_RATE_ADJ (02_time_keeper.md). -/
def tkRateAdj : Nat := 0x1030
/-- TK_LAST_STEP_LO (02_time_keeper.md). -/
def tkLastStepLo : Nat := 0x1034
/-- TK_LAST_STEP_HI (02_time_keeper.md). -/
def tkLastStepHi : Nat := 0x1038
/-- TK_HOLD_TIME (02_time_keeper.md). -/
def tkHoldTime : Nat := 0x103C
/-- TK_PPS_OUT (02_time_keeper.md). -/
def tkPpsOut : Nat := 0x1040
/-- TK_EVENTS (02_time_keeper.md). -/
def tkEvents : Nat := 0x1044
/-- TK_ALARMn_CTRL (02_time_keeper.md). -/
def tkAlarmCtrl (i : Nat) : Nat := 0x1050 + 0x4 * i
/-- TK_ALARMn_LO (02_time_keeper.md). -/
def tkAlarmLo (i : Nat) : Nat := 0x1060 + 0x8 * i
/-- TK_ALARMn_HI (02_time_keeper.md). -/
def tkAlarmHi (i : Nat) : Nat := 0x1064 + 0x8 * i
/-- GP_LINK_CTRL (03_gliys_link.md). -/
def gpLinkCtrl (n : Nat) : Nat := 0x20000 + 0x4000 * n
/-- GP_LINK_STATUS (03_gliys_link.md). -/
def gpLinkStatus (n : Nat) : Nat := 0x20004 + 0x4000 * n
/-- GP_LINK_EVENTS (03_gliys_link.md). -/
def gpLinkEvents (n : Nat) : Nat := 0x20008 + 0x4000 * n
/-- GP_LINK_EVENT_EN (03_gliys_link.md). -/
def gpLinkEventEn (n : Nat) : Nat := 0x2000C + 0x4000 * n
/-- GP_SYM_ERR (03_gliys_link.md). -/
def gpSymErr (n : Nat) : Nat := 0x20010 + 0x4000 * n
/-- GP_CRC_ERR (03_gliys_link.md). -/
def gpCrcErr (n : Nat) : Nat := 0x20014 + 0x4000 * n
/-- GP_ARM_CORR (03_gliys_link.md). -/
def gpArmCorr (n : Nat) : Nat := 0x20018 + 0x4000 * n
/-- GP_ARM_FAIL (03_gliys_link.md). -/
def gpArmFail (n : Nat) : Nat := 0x2001C + 0x4000 * n
/-- GP_HIT_CNT (03_gliys_link.md). -/
def gpHitCnt (n : Nat) : Nat := 0x20020 + 0x4000 * n
/-- GP_RANGE_CFG (03_gliys_link.md). -/
def gpRangeCfg (n : Nat) : Nat := 0x20024 + 0x4000 * n
/-- GP_CNT_CLEAR (03_gliys_link.md). -/
def gpCntClear (n : Nat) : Nat := 0x2002C + 0x4000 * n
/-- GP_RANGE_DEVa word 0 (03_gliys_link.md). -/
def gpRangeDev0 (n : Nat) (i : Nat) : Nat := 0x21000 + 0x4000 * n + 0x10 * i
/-- GP_RANGE_DEVa word 1 (03_gliys_link.md). -/
def gpRangeDev1 (n : Nat) (i : Nat) : Nat := 0x21004 + 0x4000 * n + 0x10 * i
/-- GP_RANGE_DEVa word 2 (03_gliys_link.md). -/
def gpRangeDev2 (n : Nat) (i : Nat) : Nat := 0x21008 + 0x4000 * n + 0x10 * i
/-- GP_RANGE_DEVa word 3 (03_gliys_link.md). -/
def gpRangeDev3 (n : Nat) (i : Nat) : Nat := 0x2100C + 0x4000 * n + 0x10 * i
/-- GP_FRAME_CFG (04_gliys_transactions_and_hubs.md). -/
def gpFrameCfg (n : Nat) : Nat := 0x20040 + 0x4000 * n
/-- GP_XACT_CNT (04_gliys_transactions_and_hubs.md). -/
def gpXactCnt (n : Nat) : Nat := 0x20044 + 0x4000 * n
/-- GP_BABBLE_CNT (04_gliys_transactions_and_hubs.md). -/
def gpBabbleCnt (n : Nat) : Nat := 0x20048 + 0x4000 * n
/-- GP_XACT_EVENTS (04_gliys_transactions_and_hubs.md). -/
def gpXactEvents (n : Nat) : Nat := 0x2004C + 0x4000 * n
/-- GP_XACT_EVENT_EN (04_gliys_transactions_and_hubs.md). -/
def gpXactEventEn (n : Nat) : Nat := 0x20050 + 0x4000 * n
/-- GP_CUT_MAP_LO (04_gliys_transactions_and_hubs.md). -/
def gpCutMapLo (n : Nat) : Nat := 0x20054 + 0x4000 * n
/-- GP_CUT_MAP_HI (04_gliys_transactions_and_hubs.md). -/
def gpCutMapHi (n : Nat) : Nat := 0x20058 + 0x4000 * n
/-- GP_CUT_RELEASE (04_gliys_transactions_and_hubs.md). -/
def gpCutRelease (n : Nat) : Nat := 0x2005C + 0x4000 * n
/-- GP_LAST_BABBLE (04_gliys_transactions_and_hubs.md). -/
def gpLastBabble (n : Nat) : Nat := 0x20060 + 0x4000 * n
/-- GP_XACT_CLEAR (04_gliys_transactions_and_hubs.md). -/
def gpXactClear (n : Nat) : Nat := 0x20064 + 0x4000 * n
/-- GP_ACC_CTRL (05_accession.md). -/
def gpAccCtrl (n : Nat) : Nat := 0x20070 + 0x4000 * n
/-- GP_ACC_RESET (05_accession.md). -/
def gpAccReset (n : Nat) : Nat := 0x20074 + 0x4000 * n
/-- GP_ACC_UNBIND (05_accession.md). -/
def gpAccUnbind (n : Nat) : Nat := 0x20078 + 0x4000 * n
/-- GP_ACC_RETRY (05_accession.md). -/
def gpAccRetry (n : Nat) : Nat := 0x2007C + 0x4000 * n
/-- GP_ACC_EVENTS (05_accession.md). -/
def gpAccEvents (n : Nat) : Nat := 0x20080 + 0x4000 * n
/-- GP_ACC_EVENT_EN (05_accession.md). -/
def gpAccEventEn (n : Nat) : Nat := 0x20084 + 0x4000 * n
/-- GP_ACC_STATUS (05_accession.md). -/
def gpAccStatus (n : Nat) : Nat := 0x20088 + 0x4000 * n
/-- GP_DEV_STATEa (05_accession.md). -/
def gpDevState (n : Nat) (i : Nat) : Nat := 0x21400 + 0x4000 * n + 0x4 * i
/-- GP_DEV_IDa word 0 (05_accession.md). -/
def gpDevId0 (n : Nat) (i : Nat) : Nat := 0x21800 + 0x4000 * n + 0x10 * i
/-- GP_DEV_IDa word 1 (05_accession.md). -/
def gpDevId1 (n : Nat) (i : Nat) : Nat := 0x21804 + 0x4000 * n + 0x10 * i
/-- GP_DEV_IDa word 2 (05_accession.md). -/
def gpDevId2 (n : Nat) (i : Nat) : Nat := 0x21808 + 0x4000 * n + 0x10 * i
/-- GP_DEV_IDa word 3 (05_accession.md). -/
def gpDevId3 (n : Nat) (i : Nat) : Nat := 0x2180C + 0x4000 * n + 0x10 * i
/-- CU_ACC_STATUS (05_accession.md). -/
def cuAccStatus : Nat := 0x80C0
/-- CU_ACC_RECw (05_accession.md). -/
def cuAccRec (i : Nat) : Nat := 0x80C4 + 0x4 * i
/-- CU_ACC_POP (05_accession.md). -/
def cuAccPop : Nat := 0x80D4
/-- PX_CTRL (06_pipes_catalogue_buffers.md). -/
def pxCtrl (c : Nat) : Nat := 0x40000 + 0x80 * c
/-- PX_BIND (06_pipes_catalogue_buffers.md). -/
def pxBind (c : Nat) : Nat := 0x40004 + 0x80 * c
/-- PX_REGION (06_pipes_catalogue_buffers.md). -/
def pxRegion (c : Nat) : Nat := 0x40008 + 0x80 * c
/-- PX_STREAM_CFG (06_pipes_catalogue_buffers.md). -/
def pxStreamCfg (c : Nat) : Nat := 0x4000C + 0x80 * c
/-- PX_RING_BASE_LO (06_pipes_catalogue_buffers.md). -/
def pxRingBaseLo (c : Nat) : Nat := 0x40010 + 0x80 * c
/-- PX_RING_BASE_HI (06_pipes_catalogue_buffers.md). -/
def pxRingBaseHi (c : Nat) : Nat := 0x40014 + 0x80 * c
/-- PX_SW_WORD_LO (06_pipes_catalogue_buffers.md). -/
def pxSwWordLo (c : Nat) : Nat := 0x40018 + 0x80 * c
/-- PX_SW_WORD_HI (06_pipes_catalogue_buffers.md). -/
def pxSwWordHi (c : Nat) : Nat := 0x4001C + 0x80 * c
/-- PX_DEV_WORD_LO (06_pipes_catalogue_buffers.md). -/
def pxDevWordLo (c : Nat) : Nat := 0x40020 + 0x80 * c
/-- PX_DEV_WORD_HI (06_pipes_catalogue_buffers.md). -/
def pxDevWordHi (c : Nat) : Nat := 0x40024 + 0x80 * c
/-- PX_DEV_IDX (06_pipes_catalogue_buffers.md). -/
def pxDevIdx (c : Nat) : Nat := 0x40028 + 0x80 * c
/-- PX_SW_IDX (06_pipes_catalogue_buffers.md). -/
def pxSwIdx (c : Nat) : Nat := 0x4002C + 0x80 * c
/-- PX_QUAL (06_pipes_catalogue_buffers.md). -/
def pxQual (c : Nat) : Nat := 0x40030 + 0x80 * c
/-- PX_APPLY (06_pipes_catalogue_buffers.md). -/
def pxApply (c : Nat) : Nat := 0x40034 + 0x80 * c
/-- PX_CNT_A (06_pipes_catalogue_buffers.md). -/
def pxCntA (c : Nat) : Nat := 0x40040 + 0x80 * c
/-- PX_CNT_B (06_pipes_catalogue_buffers.md). -/
def pxCntB (c : Nat) : Nat := 0x40044 + 0x80 * c
/-- PX_CNT_C (06_pipes_catalogue_buffers.md). -/
def pxCntC (c : Nat) : Nat := 0x40048 + 0x80 * c
/-- PX_CNT_D (06_pipes_catalogue_buffers.md). -/
def pxCntD (c : Nat) : Nat := 0x4004C + 0x80 * c
/-- PX_LAST_TIME_LO (06_pipes_catalogue_buffers.md). -/
def pxLastTimeLo (c : Nat) : Nat := 0x40050 + 0x80 * c
/-- PX_LAST_TIME_HI (06_pipes_catalogue_buffers.md). -/
def pxLastTimeHi (c : Nat) : Nat := 0x40054 + 0x80 * c
/-- PX_LAST_FRAME (06_pipes_catalogue_buffers.md). -/
def pxLastFrame (c : Nat) : Nat := 0x40058 + 0x80 * c
/-- CU_CAT_STATUSn (06_pipes_catalogue_buffers.md). -/
def cuCatStatus (i : Nat) : Nat := 0x8100 + 0x4 * i
/-- CU_ADMIT_CFG (07_curator.md). -/
def cuAdmitCfg : Nat := 0x8000
/-- CU_EVENTS (07_curator.md). -/
def cuEvents : Nat := 0x8004
/-- CU_EVENT_EN (07_curator.md). -/
def cuEventEn : Nat := 0x8008
/-- CU_AGE_CFG0 (07_curator.md). -/
def cuAgeCfg0 : Nat := 0x8010
/-- CU_AGE_CFG1 (07_curator.md). -/
def cuAgeCfg1 : Nat := 0x8014
/-- CU_DELAY_STATUS (07_curator.md). -/
def cuDelayStatus : Nat := 0x8018
/-- CU_TAG_STATUS (07_curator.md). -/
def cuTagStatus : Nat := 0x801C
/-- CU_PLAN_MARGIN (07_curator.md). -/
def cuPlanMargin : Nat := 0x8020
/-- CU_RATE_CHECK (07_curator.md). -/
def cuRateCheck : Nat := 0x8028
/-- CU_CLEAR (07_curator.md). -/
def cuClear : Nat := 0x802C
/-- CU_PORTn_CFG (07_curator.md). -/
def cuPortCfg (i : Nat) : Nat := 0x8200 + 0x20 * i
/-- CU_PORTn_LOAD (07_curator.md). -/
def cuPortLoad (i : Nat) : Nat := 0x8204 + 0x20 * i
/-- CU_PORTn_PLAN (07_curator.md). -/
def cuPortPlan (i : Nat) : Nat := 0x8208 + 0x20 * i
/-- CU_PORTn_QUEUE (07_curator.md). -/
def cuPortQueue (i : Nat) : Nat := 0x820C + 0x20 * i
/-- CU_PORTn_LATE (07_curator.md). -/
def cuPortLate (i : Nat) : Nat := 0x8210 + 0x20 * i
/-- CU_PORTn_URGENT (07_curator.md). -/
def cuPortUrgent (i : Nat) : Nat := 0x8214 + 0x20 * i
/-- CU_PORTn_REACH (07_curator.md). -/
def cuPortReach (i : Nat) : Nat := 0x8218 + 0x20 * i
/-- CU_PORTn_BULK (07_curator.md). -/
def cuPortBulk (i : Nat) : Nat := 0x821C + 0x20 * i
/-- CU_SHED_MAPw (07_curator.md). -/
def cuShedMap (i : Nat) : Nat := 0x8800 + 0x4 * i
/-- GA_RINGr_CTRL (08_work_rings.md). -/
def gaRingCtrl (g : Nat) (i : Nat) : Nat := 0x10100 + 0x1000 * g + 0x40 * i
/-- GA_RINGr_BASE_LO (08_work_rings.md). -/
def gaRingBaseLo (g : Nat) (i : Nat) : Nat := 0x10104 + 0x1000 * g + 0x40 * i
/-- GA_RINGr_BASE_HI (08_work_rings.md). -/
def gaRingBaseHi (g : Nat) (i : Nat) : Nat := 0x10108 + 0x1000 * g + 0x40 * i
/-- GA_RINGr_STAT_LO (08_work_rings.md). -/
def gaRingStatLo (g : Nat) (i : Nat) : Nat := 0x1010C + 0x1000 * g + 0x40 * i
/-- GA_RINGr_STAT_HI (08_work_rings.md). -/
def gaRingStatHi (g : Nat) (i : Nat) : Nat := 0x10110 + 0x1000 * g + 0x40 * i
/-- GA_RINGr_START (08_work_rings.md). -/
def gaRingStart (g : Nat) (i : Nat) : Nat := 0x10114 + 0x1000 * g + 0x40 * i
/-- GA_RINGr_POS (08_work_rings.md). -/
def gaRingPos (g : Nat) (i : Nat) : Nat := 0x10118 + 0x1000 * g + 0x40 * i
/-- GA_RINGr_RESUME (08_work_rings.md). -/
def gaRingResume (g : Nat) (i : Nat) : Nat := 0x1011C + 0x1000 * g + 0x40 * i
/-- GA_RINGr_STATE (08_work_rings.md). -/
def gaRingState (g : Nat) (i : Nat) : Nat := 0x10120 + 0x1000 * g + 0x40 * i
/-- GA_RINGr_HALT_IDX (08_work_rings.md). -/
def gaRingHaltIdx (g : Nat) (i : Nat) : Nat := 0x10124 + 0x1000 * g + 0x40 * i
/-- GA_RINGr_CNT (08_work_rings.md). -/
def gaRingCnt (g : Nat) (i : Nat) : Nat := 0x10128 + 0x1000 * g + 0x40 * i
/-- GA_EVT_CTRL (08_work_rings.md). -/
def gaEvtCtrl (g : Nat) : Nat := 0x10300 + 0x1000 * g
/-- GA_EVT_BASE_LO (08_work_rings.md). -/
def gaEvtBaseLo (g : Nat) : Nat := 0x10304 + 0x1000 * g
/-- GA_EVT_BASE_HI (08_work_rings.md). -/
def gaEvtBaseHi (g : Nat) : Nat := 0x10308 + 0x1000 * g
/-- GA_EVT_HEAD_LO (08_work_rings.md). -/
def gaEvtHeadLo (g : Nat) : Nat := 0x1030C + 0x1000 * g
/-- GA_EVT_HEAD_HI (08_work_rings.md). -/
def gaEvtHeadHi (g : Nat) : Nat := 0x10310 + 0x1000 * g
/-- GA_EVT_TAIL_LO (08_work_rings.md). -/
def gaEvtTailLo (g : Nat) : Nat := 0x10314 + 0x1000 * g
/-- GA_EVT_TAIL_HI (08_work_rings.md). -/
def gaEvtTailHi (g : Nat) : Nat := 0x10318 + 0x1000 * g
/-- GA_EVT_POS (08_work_rings.md). -/
def gaEvtPos (g : Nat) : Nat := 0x1031C + 0x1000 * g
/-- GA_EVT_STATUS (08_work_rings.md). -/
def gaEvtStatus (g : Nat) : Nat := 0x10320 + 0x1000 * g
/-- MV_STATUS (09_movers.md). -/
def mvStatus : Nat := 0x9000
/-- MV_ERR_CNT (09_movers.md). -/
def mvErrCnt : Nat := 0x9004
/-- MV_CNT_CLEAR (09_movers.md). -/
def mvCntClear : Nat := 0x9008
/-- MV_CHn_CTRL (09_movers.md). -/
def mvChCtrl (i : Nat) : Nat := 0x9100 + 0x20 * i
/-- MV_CHn_HEAD (09_movers.md). -/
def mvChHead (i : Nat) : Nat := 0x9104 + 0x20 * i
/-- MV_CHn_STATE (09_movers.md). -/
def mvChState (i : Nat) : Nat := 0x9108 + 0x20 * i
/-- MV_CHn_CNT (09_movers.md). -/
def mvChCnt (i : Nat) : Nat := 0x910C + 0x20 * i
/-- MV_CHn_LAST (09_movers.md). -/
def mvChLast (i : Nat) : Nat := 0x9110 + 0x20 * i
/-- CO_CTRL (10_courier.md). -/
def coCtrl : Nat := 0xA000
/-- CO_STATUS (10_courier.md). -/
def coStatus : Nat := 0xA004
/-- CO_EVENTS (10_courier.md). -/
def coEvents : Nat := 0xA008
/-- CO_EVENT_EN (10_courier.md). -/
def coEventEn : Nat := 0xA00C
/-- CO_ROUTE_IDX (10_courier.md). -/
def coRouteIdx : Nat := 0xA010
/-- CO_ROUTE_CMD (10_courier.md). -/
def coRouteCmd : Nat := 0xA014
/-- CO_ROUTE_DATAw (10_courier.md). -/
def coRouteData (i : Nat) : Nat := 0xA020 + 0x4 * i
/-- CO_REFLEX_CNT (10_courier.md). -/
def coReflexCnt : Nat := 0xA040
/-- CO_REFLEX_LAST (10_courier.md). -/
def coReflexLast : Nat := 0xA044
/-- CO_FWD_CNT (10_courier.md). -/
def coFwdCnt : Nat := 0xA048
/-- CO_RETRY_CFG (10_courier.md). -/
def coRetryCfg : Nat := 0xA050
/-- CO_DISCARD_CFG (10_courier.md). -/
def coDiscardCfg : Nat := 0xA054
/-- CO_REMOTE_STATUS (10_courier.md). -/
def coRemoteStatus : Nat := 0xA058
/-- CO_REMOTE_CNT (10_courier.md). -/
def coRemoteCnt : Nat := 0xA05C
/-- CO_REMOTE_DENIED (10_courier.md). -/
def coRemoteDenied : Nat := 0xA060
/-- CO_CNT_CLEAR (10_courier.md). -/
def coCntClear : Nat := 0xA064
/-- CO_REMOTE_MAPm (10_courier.md). -/
def coRemoteMap (i : Nat) : Nat := 0xA080 + 0x4 * i
/-- CO_PWERR_LOGe word 0 (10_courier.md). -/
def coPwerrLog0 (i : Nat) : Nat := 0xA100 + 0x10 * i
/-- CO_PWERR_LOGe word 1 (10_courier.md). -/
def coPwerrLog1 (i : Nat) : Nat := 0xA104 + 0x10 * i
/-- CO_PWERR_LOGe word 2 (10_courier.md). -/
def coPwerrLog2 (i : Nat) : Nat := 0xA108 + 0x10 * i
/-- CO_PWERR_LOGe word 3 (10_courier.md). -/
def coPwerrLog3 (i : Nat) : Nat := 0xA10C + 0x10 * i
/-- CO_PWERR_STATUS (10_courier.md). -/
def coPwerrStatus : Nat := 0xA180
/-- CO_PWERR_CLEAR (10_courier.md). -/
def coPwerrClear : Nat := 0xA184
/-- GA_CTRL (11_galleries_and_pcie.md). -/
def gaCtrl (g : Nat) : Nat := 0x10000 + 0x1000 * g
/-- GA_STATUS (11_galleries_and_pcie.md). -/
def gaStatus (g : Nat) : Nat := 0x10004 + 0x1000 * g
/-- GA_PASID (11_galleries_and_pcie.md). -/
def gaPasid (g : Nat) : Nat := 0x10008 + 0x1000 * g
/-- GA_MBOX_INw (11_galleries_and_pcie.md). -/
def gaMboxIn (g : Nat) (i : Nat) : Nat := 0x10400 + 0x1000 * g + 0x4 * i
/-- GA_MBOX_OUTw (11_galleries_and_pcie.md). -/
def gaMboxOut (g : Nat) (i : Nat) : Nat := 0x10440 + 0x1000 * g + 0x4 * i
/-- GA_DB_IN (11_galleries_and_pcie.md). -/
def gaDbIn (g : Nat) : Nat := 0x10480 + 0x1000 * g
/-- GA_DB_OUT (11_galleries_and_pcie.md). -/
def gaDbOut (g : Nat) : Nat := 0x10484 + 0x1000 * g
/-- GA_VIOL_STATUS (11_galleries_and_pcie.md). -/
def gaViolStatus (g : Nat) : Nat := 0x10C00 + 0x1000 * g
/-- GA_VIOL_CLEAR (11_galleries_and_pcie.md). -/
def gaViolClear (g : Nat) : Nat := 0x10C04 + 0x1000 * g
/-- GA_VIOL_CNTg (11_galleries_and_pcie.md). -/
def gaViolCnt (g : Nat) (i : Nat) : Nat := 0x10C40 + 0x1000 * g + 0x4 * i
/-- GA_VIOL_LOGe word 0 (11_galleries_and_pcie.md). -/
def gaViolLog0 (g : Nat) (i : Nat) : Nat := 0x10D00 + 0x1000 * g + 0x10 * i
/-- GA_VIOL_LOGe word 1 (11_galleries_and_pcie.md). -/
def gaViolLog1 (g : Nat) (i : Nat) : Nat := 0x10D04 + 0x1000 * g + 0x10 * i
/-- GA_VIOL_LOGe word 2 (11_galleries_and_pcie.md). -/
def gaViolLog2 (g : Nat) (i : Nat) : Nat := 0x10D08 + 0x1000 * g + 0x10 * i
/-- GA_VIOL_LOGe word 3 (11_galleries_and_pcie.md). -/
def gaViolLog3 (g : Nat) (i : Nat) : Nat := 0x10D0C + 0x1000 * g + 0x10 * i
/-- IC_CLAIM (12_interrupts.md). -/
def icClaim (g : Nat) : Nat := 0x10800 + 0x1000 * g
/-- IC_COMPLETE (12_interrupts.md). -/
def icComplete (g : Nat) : Nat := 0x10804 + 0x1000 * g
/-- IC_THRESHOLD (12_interrupts.md). -/
def icThreshold (g : Nat) : Nat := 0x10808 + 0x1000 * g
/-- IC_LEVEL (12_interrupts.md). -/
def icLevel (g : Nat) : Nat := 0x1080C + 0x1000 * g
/-- IC_SET (12_interrupts.md). -/
def icSet (g : Nat) : Nat := 0x10810 + 0x1000 * g
/-- IC_GCFG (12_interrupts.md). -/
def icGcfg (g : Nat) : Nat := 0x10814 + 0x1000 * g
/-- IC_ENABLE_LO (12_interrupts.md). -/
def icEnableLo (g : Nat) : Nat := 0x10820 + 0x1000 * g
/-- IC_ENABLE_HI (12_interrupts.md). -/
def icEnableHi (g : Nat) : Nat := 0x10824 + 0x1000 * g
/-- IC_PEND_LO (12_interrupts.md). -/
def icPendLo (g : Nat) : Nat := 0x10828 + 0x1000 * g
/-- IC_PEND_HI (12_interrupts.md). -/
def icPendHi (g : Nat) : Nat := 0x1082C + 0x1000 * g
/-- IC_CLAIMED_LO (12_interrupts.md). -/
def icClaimedLo (g : Nat) : Nat := 0x10830 + 0x1000 * g
/-- IC_CLAIMED_HI (12_interrupts.md). -/
def icClaimedHi (g : Nat) : Nat := 0x10834 + 0x1000 * g
/-- IC_SRCCFGs (12_interrupts.md). -/
def icSrccfg (g : Nat) (i : Nat) : Nat := 0x10900 + 0x1000 * g + 0x4 * i
/-- IC_SH_CFGs (12_interrupts.md). -/
def icShCfg (i : Nat) : Nat := 0xE000 + 0x4 * i
/-- IC_SH_ENw (12_interrupts.md). -/
def icShEn (i : Nat) : Nat := 0xE300 + 0x4 * i
/-- IC_SH_PENDw (12_interrupts.md). -/
def icShPend (i : Nat) : Nat := 0xE320 + 0x4 * i
/-- IC_SH_CLAIMEDw (12_interrupts.md). -/
def icShClaimed (i : Nat) : Nat := 0xE340 + 0x4 * i
/-- IC_SH_FALLENw (12_interrupts.md). -/
def icShFallen (i : Nat) : Nat := 0xE360 + 0x4 * i
/-- IC_SH_SET (12_interrupts.md). -/
def icShSet : Nat := 0xE380
/-- IC_SH_STATUS (12_interrupts.md). -/
def icShStatus : Nat := 0xE384
/-- SP_FAB_CTRL (13_span_fabric_and_twin.md). -/
def spFabCtrl : Nat := 0xC000
/-- SP_FAB_CFG (13_span_fabric_and_twin.md). -/
def spFabCfg : Nat := 0xC004
/-- SP_CHIP_ID (13_span_fabric_and_twin.md). -/
def spChipId : Nat := 0xC008
/-- SP_FAB_STATUS (13_span_fabric_and_twin.md). -/
def spFabStatus : Nat := 0xC00C
/-- SP_FAB_EVENTS (13_span_fabric_and_twin.md). -/
def spFabEvents : Nat := 0xC010
/-- SP_FAB_EVENT_EN (13_span_fabric_and_twin.md). -/
def spFabEventEn : Nat := 0xC014
/-- SP_RENUMBER (13_span_fabric_and_twin.md). -/
def spRenumber : Nat := 0xC018
/-- SP_RENUMBER_FRAME (13_span_fabric_and_twin.md). -/
def spRenumberFrame : Nat := 0xC01C
/-- SP_TAKE_CNT (13_span_fabric_and_twin.md). -/
def spTakeCnt : Nat := 0xC020
/-- SP_CNT_CLEAR (13_span_fabric_and_twin.md). -/
def spCntClear : Nat := 0xC024
/-- SP_Pm_CTRL (13_span_fabric_and_twin.md). -/
def spPCtrl (i : Nat) : Nat := 0xC100 + 0x40 * i
/-- SP_Pm_STATUS (13_span_fabric_and_twin.md). -/
def spPStatus (i : Nat) : Nat := 0xC104 + 0x40 * i
/-- SP_Pm_EVENTS (13_span_fabric_and_twin.md). -/
def spPEvents (i : Nat) : Nat := 0xC108 + 0x40 * i
/-- SP_Pm_EVENT_EN (13_span_fabric_and_twin.md). -/
def spPEventEn (i : Nat) : Nat := 0xC10C + 0x40 * i
/-- SP_Pm_ERR (13_span_fabric_and_twin.md). -/
def spPErr (i : Nat) : Nat := 0xC110 + 0x40 * i
/-- SP_Pm_RANGE (13_span_fabric_and_twin.md). -/
def spPRange (i : Nat) : Nat := 0xC114 + 0x40 * i
/-- SP_Pm_ASYM (13_span_fabric_and_twin.md). -/
def spPAsym (i : Nat) : Nat := 0xC118 + 0x40 * i
/-- SP_Pm_TRAFFIC (13_span_fabric_and_twin.md). -/
def spPTraffic (i : Nat) : Nat := 0xC11C + 0x40 * i
/-- SP_Pm_CNT_CLEAR (13_span_fabric_and_twin.md). -/
def spPCntClear (i : Nat) : Nat := 0xC120 + 0x40 * i
/-- SP_ROUTEd (13_span_fabric_and_twin.md). -/
def spRoute (i : Nat) : Nat := 0xC400 + 0x4 * i
/-- SP_SERIALd_LO (13_span_fabric_and_twin.md). -/
def spSerialLo (i : Nat) : Nat := 0xC600 + 0x8 * i
/-- SP_SERIALd_HI (13_span_fabric_and_twin.md). -/
def spSerialHi (i : Nat) : Nat := 0xC604 + 0x8 * i
/-- TW_CTRL (13_span_fabric_and_twin.md). -/
def twCtrl : Nat := 0xD000
/-- TW_CFG (13_span_fabric_and_twin.md). -/
def twCfg : Nat := 0xD004
/-- TW_STATUS (13_span_fabric_and_twin.md). -/
def twStatus : Nat := 0xD008
/-- TW_EVENTS (13_span_fabric_and_twin.md). -/
def twEvents : Nat := 0xD00C
/-- TW_EVENT_EN (13_span_fabric_and_twin.md). -/
def twEventEn : Nat := 0xD010
/-- TW_PARTNER_LO (13_span_fabric_and_twin.md). -/
def twPartnerLo : Nat := 0xD014
/-- TW_PARTNER_HI (13_span_fabric_and_twin.md). -/
def twPartnerHi : Nat := 0xD018
/-- TW_LAST_SWITCH (13_span_fabric_and_twin.md). -/
def twLastSwitch : Nat := 0xD01C
/-- TW_CNT (13_span_fabric_and_twin.md). -/
def twCnt : Nat := 0xD020
/-- TW_MIRROR (13_span_fabric_and_twin.md). -/
def twMirror : Nat := 0xD024
/-- TW_CLEAR (13_span_fabric_and_twin.md). -/
def twClear : Nat := 0xD028
/-- TW_FRAME_DIFF (13_span_fabric_and_twin.md). -/
def twFrameDiff : Nat := 0xD02C
/-- TW_HOPn (13_span_fabric_and_twin.md). -/
def twHop (i : Nat) : Nat := 0xD040 + 0x4 * i
/-- RG_CTRL (14_registrar_and_vitrines.md). -/
def rgCtrl : Nat := 0x5000
/-- RG_STATUS (14_registrar_and_vitrines.md). -/
def rgStatus : Nat := 0x5004
/-- RG_WRITE_PTR (14_registrar_and_vitrines.md). -/
def rgWritePtr : Nat := 0x5008
/-- RG_COUNT (14_registrar_and_vitrines.md). -/
def rgCount : Nat := 0x500C
/-- RG_MISSED (14_registrar_and_vitrines.md). -/
def rgMissed : Nat := 0x5010
/-- RG_CURSOR (14_registrar_and_vitrines.md). -/
def rgCursor : Nat := 0x5014
/-- RG_EVENTS (14_registrar_and_vitrines.md). -/
def rgEvents : Nat := 0x5018
/-- RG_EVENT_EN (14_registrar_and_vitrines.md). -/
def rgEventEn : Nat := 0x501C
/-- RG_LAST_TAKE_LO (14_registrar_and_vitrines.md). -/
def rgLastTakeLo : Nat := 0x5020
/-- RG_LAST_TAKE_HI (14_registrar_and_vitrines.md). -/
def rgLastTakeHi : Nat := 0x5024
/-- RG_LAST_TAKE (14_registrar_and_vitrines.md). -/
def rgLastTake : Nat := 0x5028
/-- RG_TAKE_CFG (14_registrar_and_vitrines.md). -/
def rgTakeCfg : Nat := 0x5030
/-- RG_TRIGt_CFG (14_registrar_and_vitrines.md). -/
def rgTrigCfg (i : Nat) : Nat := 0x5200 + 0x10 * i
/-- RG_TRIGt_MATCH (14_registrar_and_vitrines.md). -/
def rgTrigMatch (i : Nat) : Nat := 0x5204 + 0x10 * i
/-- RG_TRIGt_SEL0 (14_registrar_and_vitrines.md). -/
def rgTrigSel0 (i : Nat) : Nat := 0x5208 + 0x10 * i
/-- RG_TRIGt_SEL1 (14_registrar_and_vitrines.md). -/
def rgTrigSel1 (i : Nat) : Nat := 0x520C + 0x10 * i
/-- VT_WORDi (14_registrar_and_vitrines.md). -/
def vtWord (i : Nat) : Nat := 0x7000 + 0x4 * i
/-- FI_UNLOCK (15_faults_and_injection.md). -/
def fiUnlock : Nat := 0x4000
/-- FI_STATUS (15_faults_and_injection.md). -/
def fiStatus : Nat := 0x4004
/-- FI_SUMMARY (15_faults_and_injection.md). -/
def fiSummary : Nat := 0x4008
/-- FI_SUMMARY_EN (15_faults_and_injection.md). -/
def fiSummaryEn : Nat := 0x400C
/-- FI_FAULT (15_faults_and_injection.md). -/
def fiFault : Nat := 0x4010
/-- FI_WDOG_CFG (15_faults_and_injection.md). -/
def fiWdogCfg : Nat := 0x4014
/-- FI_CLEAR (15_faults_and_injection.md). -/
def fiClear : Nat := 0x4018
/-- FI_CFGd (15_faults_and_injection.md). -/
def fiCfg (i : Nat) : Nat := 0x4100 + 0x4 * i
/-- FI_CNTd (15_faults_and_injection.md). -/
def fiCnt (i : Nat) : Nat := 0x4180 + 0x4 * i
/-- FI_INJd_CTRL (15_faults_and_injection.md). -/
def fiInjCtrl (i : Nat) : Nat := 0x4200 + 0x8 * i
/-- FI_INJd_ADDR (15_faults_and_injection.md). -/
def fiInjAddr (i : Nat) : Nat := 0x4204 + 0x8 * i
/-- FI_LOGe word 0 (15_faults_and_injection.md). -/
def fiLog0 (i : Nat) : Nat := 0x4400 + 0x10 * i
/-- FI_LOGe word 1 (15_faults_and_injection.md). -/
def fiLog1 (i : Nat) : Nat := 0x4404 + 0x10 * i
/-- FI_LOGe word 2 (15_faults_and_injection.md). -/
def fiLog2 (i : Nat) : Nat := 0x4408 + 0x10 * i
/-- FI_LOGe word 3 (15_faults_and_injection.md). -/
def fiLog3 (i : Nat) : Nat := 0x440C + 0x10 * i
/-- CN_CTRL (16_conservator.md). -/
def cnCtrl : Nat := 0x2000
/-- CN_STATUS (16_conservator.md). -/
def cnStatus : Nat := 0x2004
/-- CN_EVENTS (16_conservator.md). -/
def cnEvents : Nat := 0x2008
/-- CN_EVENT_EN (16_conservator.md). -/
def cnEventEn : Nat := 0x200C
/-- CN_WAKE_EN (16_conservator.md). -/
def cnWakeEn : Nat := 0x2010
/-- CN_WAKE_CAUSE (16_conservator.md). -/
def cnWakeCause : Nat := 0x2014
/-- CN_BUDGET (16_conservator.md). -/
def cnBudget : Nat := 0x2018
/-- CN_ACCOUNT (16_conservator.md). -/
def cnAccount : Nat := 0x201C
/-- CN_CHARGES (16_conservator.md). -/
def cnCharges : Nat := 0x2020
/-- CN_PERMIT_STATUS (16_conservator.md). -/
def cnPermitStatus : Nat := 0x2024
/-- CN_PERMIT_CNT (16_conservator.md). -/
def cnPermitCnt : Nat := 0x2028
/-- CN_PERMIT_CFG (16_conservator.md). -/
def cnPermitCfg : Nat := 0x202C
/-- CN_AVS_CFG (16_conservator.md). -/
def cnAvsCfg : Nat := 0x2030
/-- CN_SUPPLY (16_conservator.md). -/
def cnSupply : Nat := 0x2034
/-- CN_PACE (16_conservator.md). -/
def cnPace : Nat := 0x2038
/-- CN_PACE_CAL (16_conservator.md). -/
def cnPaceCal : Nat := 0x203C
/-- CN_PMB_CFG (16_conservator.md). -/
def cnPmbCfg : Nat := 0x2040
/-- CN_PMB_STATUS (16_conservator.md). -/
def cnPmbStatus : Nat := 0x2044
/-- CN_SCRUB_CFG (16_conservator.md). -/
def cnScrubCfg : Nat := 0x2048
/-- CN_SCRUB_STATUS (16_conservator.md). -/
def cnScrubStatus : Nat := 0x204C
/-- CN_WAKE_FAULT (16_conservator.md). -/
def cnWakeFault : Nat := 0x2050
/-- CN_WAKE_FAULT_TIME_LO (16_conservator.md). -/
def cnWakeFaultTimeLo : Nat := 0x2054
/-- CN_WAKE_FAULT_TIME_HI (16_conservator.md). -/
def cnWakeFaultTimeHi : Nat := 0x2058
/-- CN_CNT_CLEAR (16_conservator.md). -/
def cnCntClear : Nat := 0x205C
/-- ID_VENDOR (17_charter_and_startup.md). -/
def idVendor : Nat := 0x0
/-- ID_PART (17_charter_and_startup.md). -/
def idPart : Nat := 0x4
/-- ID_REV (17_charter_and_startup.md). -/
def idRev : Nat := 0x8
/-- ID_SERIAL_LO (17_charter_and_startup.md). -/
def idSerialLo : Nat := 0xC
/-- ID_SERIAL_HI (17_charter_and_startup.md). -/
def idSerialHi : Nat := 0x10
/-- ID_CTRL (17_charter_and_startup.md). -/
def idCtrl : Nat := 0x14
/-- ID_RESET_CAUSE (17_charter_and_startup.md). -/
def idResetCause : Nat := 0x18
/-- ID_FUSE (17_charter_and_startup.md). -/
def idFuse : Nat := 0x1C
/-- CH_CTRL (17_charter_and_startup.md). -/
def chCtrl : Nat := 0x3000
/-- CH_STATUS (17_charter_and_startup.md). -/
def chStatus : Nat := 0x3004
/-- CH_EVENTS (17_charter_and_startup.md). -/
def chEvents : Nat := 0x3008
/-- CH_EVENT_EN (17_charter_and_startup.md). -/
def chEventEn : Nat := 0x300C
/-- CH_COPY_A (17_charter_and_startup.md). -/
def chCopyA : Nat := 0x3010
/-- CH_COPY_B (17_charter_and_startup.md). -/
def chCopyB : Nat := 0x3018
/-- CH_SEQ_A (17_charter_and_startup.md). -/
def chSeqA : Nat := 0x3014
/-- CH_SEQ_B (17_charter_and_startup.md). -/
def chSeqB : Nat := 0x301C
/-- CH_APPLIED (17_charter_and_startup.md). -/
def chApplied : Nat := 0x3020
/-- CH_FLASH (17_charter_and_startup.md). -/
def chFlash : Nat := 0x3024
/-- FI_FIRST word 0 (15_faults_and_injection.md). -/
def fiFirst0 : Nat := 0x4020
/-- FI_FIRST word 1 (15_faults_and_injection.md). -/
def fiFirst1 : Nat := 0x4024
/-- FI_FIRST word 2 (15_faults_and_injection.md). -/
def fiFirst2 : Nat := 0x4028
/-- FI_FIRST word 3 (15_faults_and_injection.md). -/
def fiFirst3 : Nat := 0x402C
end R

namespace F
/- TK_CTRL, 02_time_keeper.md -/
def tkCtrl_take_on_step : Field := ⟨R.tkCtrl, 2, 1⟩
def tkCtrl_first_step_enable : Field := ⟨R.tkCtrl, 1, 1⟩
def tkCtrl_servo_enable : Field := ⟨R.tkCtrl, 0, 1⟩
/- TK_STATUS, 02_time_keeper.md -/
def tkStatus_active_source : Field := ⟨R.tkStatus, 17, 3⟩
def tkStatus_rate_pending : Field := ⟨R.tkStatus, 16, 1⟩
def tkStatus_quality : Field := ⟨R.tkStatus, 8, 8⟩
def tkStatus_first_lock_done : Field := ⟨R.tkStatus, 7, 1⟩
def tkStatus_clock_source : Field := ⟨R.tkStatus, 5, 2⟩
def tkStatus_ref10_ok : Field := ⟨R.tkStatus, 4, 1⟩
def tkStatus_accepted : Field := ⟨R.tkStatus, 0, 4⟩
/- TK_TIME_LO, 02_time_keeper.md -/
def tkTimeLo_time : Field := ⟨R.tkTimeLo, 0, 32⟩
/- TK_TIME_HI, 02_time_keeper.md -/
def tkTimeHi_time : Field := ⟨R.tkTimeHi, 0, 32⟩
/- TK_FRAME_NUM, 02_time_keeper.md -/
def tkFrameNum_frame : Field := ⟨R.tkFrameNum, 0, 32⟩
/- TK_FRAME_RATE, 02_time_keeper.md -/
def tkFrameRate_active : Field := ⟨R.tkFrameRate, 16, 16⟩
def tkFrameRate_requested : Field := ⟨R.tkFrameRate, 0, 16⟩
/- TK_REF_SEL, 02_time_keeper.md -/
def tkRefSel_force : Field := ⟨R.tkRefSel, 12, 3⟩
def tkRefSel_tod_baud : Field := ⟨R.tkRefSel, 10, 2⟩
def tkRefSel_pps_falling : Field := ⟨R.tkRefSel, 9, 1⟩
def tkRefSel_enable : Field := ⟨R.tkRefSel, 0, 4⟩
/- TK_TAI_UTC, 02_time_keeper.md -/
def tkTaiUtc_tai_utc : Field := ⟨R.tkTaiUtc, 0, 8⟩
/- TK_SERVO_CFG, 02_time_keeper.md -/
def tkServoCfg_step_thresh : Field := ⟨R.tkServoCfg, 16, 16⟩
def tkServoCfg_lock_thresh : Field := ⟨R.tkServoCfg, 0, 16⟩
/- TK_HOLD_CFG, 02_time_keeper.md -/
def tkHoldCfg_hold_limit : Field := ⟨R.tkHoldCfg, 16, 16⟩
def tkHoldCfg_drift : Field := ⟨R.tkHoldCfg, 0, 16⟩
/- TK_PPS_CAL, 02_time_keeper.md -/
def tkPpsCal_pps_in_delay : Field := ⟨R.tkPpsCal, 0, 16⟩
/- TK_OFFSET, 02_time_keeper.md -/
def tkOffset_offset : Field := ⟨R.tkOffset, 0, 32⟩
/- TK_RATE_ADJ, 02_time_keeper.md -/
def tkRateAdj_rate : Field := ⟨R.tkRateAdj, 0, 32⟩
/- TK_LAST_STEP_LO, 02_time_keeper.md -/
def tkLastStepLo_step : Field := ⟨R.tkLastStepLo, 0, 32⟩
/- TK_LAST_STEP_HI, 02_time_keeper.md -/
def tkLastStepHi_step : Field := ⟨R.tkLastStepHi, 0, 32⟩
/- TK_HOLD_TIME, 02_time_keeper.md -/
def tkHoldTime_seconds : Field := ⟨R.tkHoldTime, 0, 32⟩
/- TK_PPS_OUT, 02_time_keeper.md -/
def tkPpsOut_mode : Field := ⟨R.tkPpsOut, 30, 2⟩
def tkPpsOut_width_ms : Field := ⟨R.tkPpsOut, 16, 14⟩
def tkPpsOut_adjust : Field := ⟨R.tkPpsOut, 0, 16⟩
/- TK_EVENTS, 02_time_keeper.md -/
def tkEvents_irig_error : Field := ⟨R.tkEvents, 13, 1⟩
def tkEvents_tod_error : Field := ⟨R.tkEvents, 12, 1⟩
def tkEvents_alarm : Field := ⟨R.tkEvents, 8, 4⟩
def tkEvents_rate_changed : Field := ⟨R.tkEvents, 7, 1⟩
def tkEvents_clock_fallback : Field := ⟨R.tkEvents, 6, 1⟩
def tkEvents_free_run_entered : Field := ⟨R.tkEvents, 5, 1⟩
def tkEvents_step_applied : Field := ⟨R.tkEvents, 4, 1⟩
def tkEvents_holdover_entered : Field := ⟨R.tkEvents, 3, 1⟩
def tkEvents_locked : Field := ⟨R.tkEvents, 2, 1⟩
def tkEvents_ref_lost : Field := ⟨R.tkEvents, 1, 1⟩
def tkEvents_ref_accepted : Field := ⟨R.tkEvents, 0, 1⟩
/- TK_ALARMn_CTRL, 02_time_keeper.md -/
def tkAlarmCtrl_armed (i : Nat) : Field := ⟨R.tkAlarmCtrl i, 31, 1⟩
def tkAlarmCtrl_late (i : Nat) : Field := ⟨R.tkAlarmCtrl i, 30, 1⟩
def tkAlarmCtrl_action (i : Nat) : Field := ⟨R.tkAlarmCtrl i, 28, 2⟩
def tkAlarmCtrl_period_us (i : Nat) : Field := ⟨R.tkAlarmCtrl i, 0, 20⟩
/- TK_ALARMn_LO, 02_time_keeper.md -/
def tkAlarmLo_time (i : Nat) : Field := ⟨R.tkAlarmLo i, 0, 32⟩
/- TK_ALARMn_HI, 02_time_keeper.md -/
def tkAlarmHi_time (i : Nat) : Field := ⟨R.tkAlarmHi i, 0, 32⟩
/- GP_LINK_CTRL, 03_gliys_link.md -/
def gpLinkCtrl_cut_release (n : Nat) : Field := ⟨R.gpLinkCtrl n, 3, 1⟩
def gpLinkCtrl_retrain (n : Nat) : Field := ⟨R.gpLinkCtrl n, 2, 1⟩
def gpLinkCtrl_media (n : Nat) : Field := ⟨R.gpLinkCtrl n, 1, 1⟩
def gpLinkCtrl_enable (n : Nat) : Field := ⟨R.gpLinkCtrl n, 0, 1⟩
/- GP_LINK_STATUS, 03_gliys_link.md -/
def gpLinkStatus_partner_role (n : Nat) : Field := ⟨R.gpLinkStatus n, 16, 3⟩
def gpLinkStatus_pad_bits (n : Nat) : Field := ⟨R.gpLinkStatus n, 12, 4⟩
def gpLinkStatus_permit_wait (n : Nat) : Field := ⟨R.gpLinkStatus n, 7, 1⟩
def gpLinkStatus_sfp_present (n : Nat) : Field := ⟨R.gpLinkStatus n, 6, 1⟩
def gpLinkStatus_sfp_los (n : Nat) : Field := ⟨R.gpLinkStatus n, 5, 1⟩
def gpLinkStatus_signal_present (n : Nat) : Field := ⟨R.gpLinkStatus n, 4, 1⟩
def gpLinkStatus_state (n : Nat) : Field := ⟨R.gpLinkStatus n, 0, 3⟩
/- GP_LINK_EVENTS, 03_gliys_link.md -/
def gpLinkEvents_cut (n : Nat) : Field := ⟨R.gpLinkEvents n, 6, 1⟩
def gpLinkEvents_train_fail (n : Nat) : Field := ⟨R.gpLinkEvents n, 5, 1⟩
def gpLinkEvents_detached (n : Nat) : Field := ⟨R.gpLinkEvents n, 4, 1⟩
def gpLinkEvents_hit_recovered (n : Nat) : Field := ⟨R.gpLinkEvents n, 3, 1⟩
def gpLinkEvents_hit (n : Nat) : Field := ⟨R.gpLinkEvents n, 2, 1⟩
def gpLinkEvents_attached (n : Nat) : Field := ⟨R.gpLinkEvents n, 1, 1⟩
def gpLinkEvents_range_shift (n : Nat) : Field := ⟨R.gpLinkEvents n, 0, 1⟩
/- GP_LINK_EVENT_EN, 03_gliys_link.md -/
def gpLinkEventEn_enable (n : Nat) : Field := ⟨R.gpLinkEventEn n, 0, 7⟩
/- GP_SYM_ERR, 03_gliys_link.md -/
def gpSymErr_disparity (n : Nat) : Field := ⟨R.gpSymErr n, 16, 16⟩
def gpSymErr_code (n : Nat) : Field := ⟨R.gpSymErr n, 0, 16⟩
/- GP_CRC_ERR, 03_gliys_link.md -/
def gpCrcErr_payload (n : Nat) : Field := ⟨R.gpCrcErr n, 16, 16⟩
def gpCrcErr_header (n : Nat) : Field := ⟨R.gpCrcErr n, 0, 16⟩
/- GP_ARM_CORR, 03_gliys_link.md -/
def gpArmCorr_bytes (n : Nat) : Field := ⟨R.gpArmCorr n, 0, 32⟩
/- GP_ARM_FAIL, 03_gliys_link.md -/
def gpArmFail_blocks (n : Nat) : Field := ⟨R.gpArmFail n, 0, 16⟩
/- GP_HIT_CNT, 03_gliys_link.md -/
def gpHitCnt_train_fail (n : Nat) : Field := ⟨R.gpHitCnt n, 16, 16⟩
def gpHitCnt_hits (n : Nat) : Field := ⟨R.gpHitCnt n, 0, 16⟩
/- GP_RANGE_CFG, 03_gliys_link.md -/
def gpRangeCfg_asym (n : Nat) : Field := ⟨R.gpRangeCfg n, 16, 16⟩
def gpRangeCfg_excursions (n : Nat) : Field := ⟨R.gpRangeCfg n, 0, 16⟩
/- GP_CNT_CLEAR, 03_gliys_link.md -/
def gpCntClear_clear (n : Nat) : Field := ⟨R.gpCntClear n, 0, 1⟩
/- GP_RANGE_DEVa word 0, 03_gliys_link.md -/
def gpRangeDev0_valid (n : Nat) (i : Nat) : Field := ⟨R.gpRangeDev0 n i, 31, 1⟩
def gpRangeDev0_d_down (n : Nat) (i : Nat) : Field := ⟨R.gpRangeDev0 n i, 0, 24⟩
/- GP_RANGE_DEVa word 1, 03_gliys_link.md -/
def gpRangeDev1_res_up (n : Nat) (i : Nat) : Field := ⟨R.gpRangeDev1 n i, 16, 16⟩
def gpRangeDev1_res_down (n : Nat) (i : Nat) : Field := ⟨R.gpRangeDev1 n i, 0, 16⟩
/- GP_RANGE_DEVa word 2, 03_gliys_link.md -/
def gpRangeDev2_t_turn (n : Nat) (i : Nat) : Field := ⟨R.gpRangeDev2 n i, 16, 16⟩
def gpRangeDev2_l_rt (n : Nat) (i : Nat) : Field := ⟨R.gpRangeDev2 n i, 0, 16⟩
/- GP_RANGE_DEVa word 3, 03_gliys_link.md -/
def gpRangeDev3_rtt (n : Nat) (i : Nat) : Field := ⟨R.gpRangeDev3 n i, 0, 32⟩
/- GP_FRAME_CFG, 04_gliys_transactions_and_hubs.md -/
def gpFrameCfg_retry_limit (n : Nat) : Field := ⟨R.gpFrameCfg n, 16, 4⟩
def gpFrameCfg_pw_open (n : Nat) : Field := ⟨R.gpFrameCfg n, 0, 16⟩
/- GP_XACT_CNT, 04_gliys_transactions_and_hubs.md -/
def gpXactCnt_overruns (n : Nat) : Field := ⟨R.gpXactCnt n, 16, 16⟩
def gpXactCnt_timeouts (n : Nat) : Field := ⟨R.gpXactCnt n, 0, 16⟩
/- GP_BABBLE_CNT, 04_gliys_transactions_and_hubs.md -/
def gpBabbleCnt_unattributed (n : Nat) : Field := ⟨R.gpBabbleCnt n, 16, 16⟩
def gpBabbleCnt_attributed (n : Nat) : Field := ⟨R.gpBabbleCnt n, 0, 16⟩
/- GP_XACT_EVENTS, 04_gliys_transactions_and_hubs.md -/
def gpXactEvents_owner_changed (n : Nat) : Field := ⟨R.gpXactEvents n, 6, 1⟩
def gpXactEvents_device_lost (n : Nat) : Field := ⟨R.gpXactEvents n, 5, 1⟩
def gpXactEvents_hub_cut (n : Nat) : Field := ⟨R.gpXactEvents n, 4, 1⟩
def gpXactEvents_device_cut (n : Nat) : Field := ⟨R.gpXactEvents n, 3, 1⟩
def gpXactEvents_babble (n : Nat) : Field := ⟨R.gpXactEvents n, 2, 1⟩
def gpXactEvents_overrun (n : Nat) : Field := ⟨R.gpXactEvents n, 1, 1⟩
def gpXactEvents_timeout (n : Nat) : Field := ⟨R.gpXactEvents n, 0, 1⟩
/- GP_XACT_EVENT_EN, 04_gliys_transactions_and_hubs.md -/
def gpXactEventEn_enable (n : Nat) : Field := ⟨R.gpXactEventEn n, 0, 7⟩
/- GP_CUT_MAP_LO, 04_gliys_transactions_and_hubs.md -/
def gpCutMapLo_cut (n : Nat) : Field := ⟨R.gpCutMapLo n, 0, 32⟩
/- GP_CUT_MAP_HI, 04_gliys_transactions_and_hubs.md -/
def gpCutMapHi_cut (n : Nat) : Field := ⟨R.gpCutMapHi n, 0, 32⟩
/- GP_CUT_RELEASE, 04_gliys_transactions_and_hubs.md -/
def gpCutRelease_addr (n : Nat) : Field := ⟨R.gpCutRelease n, 0, 6⟩
/- GP_LAST_BABBLE, 04_gliys_transactions_and_hubs.md -/
def gpLastBabble_frame (n : Nat) : Field := ⟨R.gpLastBabble n, 16, 16⟩
def gpLastBabble_attributed (n : Nat) : Field := ⟨R.gpLastBabble n, 15, 1⟩
def gpLastBabble_addr (n : Nat) : Field := ⟨R.gpLastBabble n, 0, 6⟩
/- GP_XACT_CLEAR, 04_gliys_transactions_and_hubs.md -/
def gpXactClear_clear (n : Nat) : Field := ⟨R.gpXactClear n, 0, 1⟩
/- GP_ACC_CTRL, 05_accession.md -/
def gpAccCtrl_resume (n : Nat) : Field := ⟨R.gpAccCtrl n, 2, 1⟩
def gpAccCtrl_suspend (n : Nat) : Field := ⟨R.gpAccCtrl n, 1, 1⟩
def gpAccCtrl_strict (n : Nat) : Field := ⟨R.gpAccCtrl n, 0, 1⟩
/- GP_ACC_RESET, 05_accession.md -/
def gpAccReset_addr (n : Nat) : Field := ⟨R.gpAccReset n, 0, 6⟩
/- GP_ACC_UNBIND, 05_accession.md -/
def gpAccUnbind_addr (n : Nat) : Field := ⟨R.gpAccUnbind n, 0, 6⟩
/- GP_ACC_RETRY, 05_accession.md -/
def gpAccRetry_port (n : Nat) : Field := ⟨R.gpAccRetry n, 8, 4⟩
def gpAccRetry_hub (n : Nat) : Field := ⟨R.gpAccRetry n, 0, 6⟩
/- GP_ACC_EVENTS, 05_accession.md -/
def gpAccEvents_suspended (n : Nat) : Field := ⟨R.gpAccEvents n, 8, 1⟩
def gpAccEvents_resumed (n : Nat) : Field := ⟨R.gpAccEvents n, 7, 1⟩
def gpAccEvents_wake_collided (n : Nat) : Field := ⟨R.gpAccEvents n, 6, 1⟩
def gpAccEvents_remote_wake (n : Nat) : Field := ⟨R.gpAccEvents n, 5, 1⟩
def gpAccEvents_reset_done (n : Nat) : Field := ⟨R.gpAccEvents n, 4, 1⟩
def gpAccEvents_sweep_failed (n : Nat) : Field := ⟨R.gpAccEvents n, 3, 1⟩
def gpAccEvents_unknown (n : Nat) : Field := ⟨R.gpAccEvents n, 2, 1⟩
def gpAccEvents_rejected (n : Nat) : Field := ⟨R.gpAccEvents n, 1, 1⟩
def gpAccEvents_ranged (n : Nat) : Field := ⟨R.gpAccEvents n, 0, 1⟩
/- GP_ACC_EVENT_EN, 05_accession.md -/
def gpAccEventEn_enable (n : Nat) : Field := ⟨R.gpAccEventEn n, 0, 9⟩
/- GP_ACC_STATUS, 05_accession.md -/
def gpAccStatus_probe_skips (n : Nat) : Field := ⟨R.gpAccStatus n, 16, 16⟩
def gpAccStatus_sweeps_pending (n : Nat) : Field := ⟨R.gpAccStatus n, 12, 4⟩
def gpAccStatus_resume_cause (n : Nat) : Field := ⟨R.gpAccStatus n, 10, 2⟩
def gpAccStatus_suspended (n : Nat) : Field := ⟨R.gpAccStatus n, 9, 1⟩
def gpAccStatus_reset_active (n : Nat) : Field := ⟨R.gpAccStatus n, 8, 1⟩
def gpAccStatus_busy (n : Nat) : Field := ⟨R.gpAccStatus n, 7, 1⟩
def gpAccStatus_attach_addr (n : Nat) : Field := ⟨R.gpAccStatus n, 0, 6⟩
/- GP_DEV_STATEa, 05_accession.md -/
def gpDevState_hubs_above (n : Nat) (i : Nat) : Field := ⟨R.gpDevState n i, 24, 3⟩
def gpDevState_parent_port (n : Nat) (i : Nat) : Field := ⟨R.gpDevState n i, 20, 4⟩
def gpDevState_parent (n : Nat) (i : Nat) : Field := ⟨R.gpDevState n i, 8, 6⟩
def gpDevState_wake_enabled (n : Nat) (i : Nat) : Field := ⟨R.gpDevState n i, 4, 1⟩
def gpDevState_state (n : Nat) (i : Nat) : Field := ⟨R.gpDevState n i, 0, 4⟩
/- GP_DEV_IDa word 0, 05_accession.md -/
def gpDevId0_product (n : Nat) (i : Nat) : Field := ⟨R.gpDevId0 n i, 16, 16⟩
def gpDevId0_maker (n : Nat) (i : Nat) : Field := ⟨R.gpDevId0 n i, 0, 16⟩
/- GP_DEV_IDa word 1, 05_accession.md -/
def gpDevId1_serial_lo (n : Nat) (i : Nat) : Field := ⟨R.gpDevId1 n i, 0, 32⟩
/- GP_DEV_IDa word 2, 05_accession.md -/
def gpDevId2_serial_hi (n : Nat) (i : Nat) : Field := ⟨R.gpDevId2 n i, 0, 32⟩
/- GP_DEV_IDa word 3, 05_accession.md -/
def gpDevId3_class (n : Nat) (i : Nat) : Field := ⟨R.gpDevId3 n i, 24, 8⟩
def gpDevId3_subclass (n : Nat) (i : Nat) : Field := ⟨R.gpDevId3 n i, 16, 8⟩
def gpDevId3_fw_rev (n : Nat) (i : Nat) : Field := ⟨R.gpDevId3 n i, 0, 16⟩
/- CU_ACC_STATUS, 05_accession.md -/
def cuAccStatus_dropped : Field := ⟨R.cuAccStatus, 16, 16⟩
def cuAccStatus_count : Field := ⟨R.cuAccStatus, 0, 7⟩
/- CU_ACC_RECw, 05_accession.md -/
def cuAccRec_data (i : Nat) : Field := ⟨R.cuAccRec i, 0, 32⟩
/- CU_ACC_POP, 05_accession.md -/
def cuAccPop_pop : Field := ⟨R.cuAccPop, 0, 1⟩
/- PX_CTRL, 06_pipes_catalogue_buffers.md -/
def pxCtrl_enable (c : Nat) : Field := ⟨R.pxCtrl c, 31, 1⟩
def pxCtrl_state (c : Nat) : Field := ⟨R.pxCtrl c, 28, 3⟩
def pxCtrl_refuse (c : Nat) : Field := ⟨R.pxCtrl c, 24, 4⟩
def pxCtrl_clear_halt (c : Nat) : Field := ⟨R.pxCtrl c, 19, 1⟩
def pxCtrl_release (c : Nat) : Field := ⟨R.pxCtrl c, 18, 1⟩
def pxCtrl_cnt_clear (c : Nat) : Field := ⟨R.pxCtrl c, 17, 1⟩
def pxCtrl_gallery (c : Nat) : Field := ⟨R.pxCtrl c, 0, 4⟩
/- PX_BIND, 06_pipes_catalogue_buffers.md -/
def pxBind_port (c : Nat) : Field := ⟨R.pxBind c, 29, 3⟩
def pxBind_addr (c : Nat) : Field := ⟨R.pxBind c, 22, 6⟩
def pxBind_pipe (c : Nat) : Field := ⟨R.pxBind c, 18, 4⟩
def pxBind_kind (c : Nat) : Field := ⟨R.pxBind c, 15, 3⟩
def pxBind_armour (c : Nat) : Field := ⟨R.pxBind c, 14, 1⟩
def pxBind_sparse (c : Nat) : Field := ⟨R.pxBind c, 13, 1⟩
def pxBind_reflex_target (c : Nat) : Field := ⟨R.pxBind c, 11, 1⟩
def pxBind_max_len (c : Nat) : Field := ⟨R.pxBind c, 0, 11⟩
/- PX_REGION, 06_pipes_catalogue_buffers.md -/
def pxRegion_size (c : Nat) : Field := ⟨R.pxRegion c, 16, 16⟩
def pxRegion_base (c : Nat) : Field := ⟨R.pxRegion c, 0, 15⟩
/- PX_STREAM_CFG, 06_pipes_catalogue_buffers.md -/
def pxStreamCfg_ring_enable (c : Nat) : Field := ⟨R.pxStreamCfg c, 31, 1⟩
def pxStreamCfg_keep_new (c : Nat) : Field := ⟨R.pxStreamCfg c, 30, 1⟩
def pxStreamCfg_write_missing (c : Nat) : Field := ⟨R.pxStreamCfg c, 29, 1⟩
def pxStreamCfg_log2_slots (c : Nat) : Field := ⟨R.pxStreamCfg c, 24, 5⟩
def pxStreamCfg_stride (c : Nat) : Field := ⟨R.pxStreamCfg c, 16, 5⟩
/- PX_RING_BASE_LO, 06_pipes_catalogue_buffers.md -/
def pxRingBaseLo_addr (c : Nat) : Field := ⟨R.pxRingBaseLo c, 0, 32⟩
/- PX_RING_BASE_HI, 06_pipes_catalogue_buffers.md -/
def pxRingBaseHi_addr (c : Nat) : Field := ⟨R.pxRingBaseHi c, 0, 32⟩
/- PX_SW_WORD_LO, 06_pipes_catalogue_buffers.md -/
def pxSwWordLo_addr (c : Nat) : Field := ⟨R.pxSwWordLo c, 0, 32⟩
/- PX_SW_WORD_HI, 06_pipes_catalogue_buffers.md -/
def pxSwWordHi_addr (c : Nat) : Field := ⟨R.pxSwWordHi c, 0, 32⟩
/- PX_DEV_WORD_LO, 06_pipes_catalogue_buffers.md -/
def pxDevWordLo_addr (c : Nat) : Field := ⟨R.pxDevWordLo c, 0, 32⟩
/- PX_DEV_WORD_HI, 06_pipes_catalogue_buffers.md -/
def pxDevWordHi_addr (c : Nat) : Field := ⟨R.pxDevWordHi c, 0, 32⟩
/- PX_DEV_IDX, 06_pipes_catalogue_buffers.md -/
def pxDevIdx_index (c : Nat) : Field := ⟨R.pxDevIdx c, 0, 32⟩
/- PX_SW_IDX, 06_pipes_catalogue_buffers.md -/
def pxSwIdx_index (c : Nat) : Field := ⟨R.pxSwIdx c, 0, 32⟩
/- PX_QUAL, 06_pipes_catalogue_buffers.md -/
def pxQual_q_max (c : Nat) : Field := ⟨R.pxQual c, 28, 4⟩
def pxQual_bad_cond (c : Nat) : Field := ⟨R.pxQual c, 16, 6⟩
/- PX_APPLY, 06_pipes_catalogue_buffers.md -/
def pxApply_apply_mode (c : Nat) : Field := ⟨R.pxApply c, 30, 2⟩
def pxApply_out_idle (c : Nat) : Field := ⟨R.pxApply c, 28, 2⟩
def pxApply_lead (c : Nat) : Field := ⟨R.pxApply c, 24, 4⟩
def pxApply_offset_ns (c : Nat) : Field := ⟨R.pxApply c, 0, 16⟩
/- PX_CNT_A, 06_pipes_catalogue_buffers.md -/
def pxCntA_gaps (c : Nat) : Field := ⟨R.pxCntA c, 16, 16⟩
def pxCntA_laps (c : Nat) : Field := ⟨R.pxCntA c, 0, 16⟩
/- PX_CNT_B, 06_pipes_catalogue_buffers.md -/
def pxCntB_missed (c : Nat) : Field := ⟨R.pxCntB c, 16, 16⟩
def pxCntB_errors (c : Nat) : Field := ⟨R.pxCntB c, 0, 16⟩
/- PX_CNT_C, 06_pipes_catalogue_buffers.md -/
def pxCntC_displaced (c : Nat) : Field := ⟨R.pxCntC c, 16, 16⟩
def pxCntC_late (c : Nat) : Field := ⟨R.pxCntC c, 0, 16⟩
/- PX_CNT_D, 06_pipes_catalogue_buffers.md -/
def pxCntD_unqualified (c : Nat) : Field := ⟨R.pxCntD c, 16, 16⟩
def pxCntD_discarded (c : Nat) : Field := ⟨R.pxCntD c, 0, 16⟩
/- PX_LAST_TIME_LO, 06_pipes_catalogue_buffers.md -/
def pxLastTimeLo_time (c : Nat) : Field := ⟨R.pxLastTimeLo c, 0, 32⟩
/- PX_LAST_TIME_HI, 06_pipes_catalogue_buffers.md -/
def pxLastTimeHi_time (c : Nat) : Field := ⟨R.pxLastTimeHi c, 0, 32⟩
/- PX_LAST_FRAME, 06_pipes_catalogue_buffers.md -/
def pxLastFrame_frame (c : Nat) : Field := ⟨R.pxLastFrame c, 0, 32⟩
/- CU_CAT_STATUSn, 06_pipes_catalogue_buffers.md -/
def cuCatStatus_refused (i : Nat) : Field := ⟨R.cuCatStatus i, 16, 12⟩
def cuCatStatus_used (i : Nat) : Field := ⟨R.cuCatStatus i, 0, 12⟩
/- CU_ADMIT_CFG, 07_curator.md -/
def cuAdmitCfg_cap_pct : Field := ⟨R.cuAdmitCfg, 0, 8⟩
/- CU_EVENTS, 07_curator.md -/
def cuEvents_delay_held : Field := ⟨R.cuEvents, 4, 1⟩
def cuEvents_reach_exceeded : Field := ⟨R.cuEvents, 3, 1⟩
def cuEvents_shed : Field := ⟨R.cuEvents, 2, 1⟩
def cuEvents_plan_late : Field := ⟨R.cuEvents, 1, 1⟩
def cuEvents_rate_check_done : Field := ⟨R.cuEvents, 0, 1⟩
/- CU_EVENT_EN, 07_curator.md -/
def cuEventEn_enable : Field := ⟨R.cuEventEn, 0, 5⟩
/- CU_AGE_CFG0, 07_curator.md -/
def cuAgeCfg0_level3 : Field := ⟨R.cuAgeCfg0, 24, 8⟩
def cuAgeCfg0_level2 : Field := ⟨R.cuAgeCfg0, 16, 8⟩
def cuAgeCfg0_level1 : Field := ⟨R.cuAgeCfg0, 8, 8⟩
def cuAgeCfg0_level0 : Field := ⟨R.cuAgeCfg0, 0, 8⟩
/- CU_AGE_CFG1, 07_curator.md -/
def cuAgeCfg1_level6 : Field := ⟨R.cuAgeCfg1, 16, 8⟩
def cuAgeCfg1_level5 : Field := ⟨R.cuAgeCfg1, 8, 8⟩
def cuAgeCfg1_level4 : Field := ⟨R.cuAgeCfg1, 0, 8⟩
/- CU_DELAY_STATUS, 07_curator.md -/
def cuDelayStatus_held : Field := ⟨R.cuDelayStatus, 16, 16⟩
def cuDelayStatus_count : Field := ⟨R.cuDelayStatus, 0, 10⟩
/- CU_TAG_STATUS, 07_curator.md -/
def cuTagStatus_reserved : Field := ⟨R.cuTagStatus, 16, 11⟩
def cuTagStatus_pool_free : Field := ⟨R.cuTagStatus, 0, 11⟩
/- CU_PLAN_MARGIN, 07_curator.md -/
def cuPlanMargin_min_margin : Field := ⟨R.cuPlanMargin, 16, 16⟩
def cuPlanMargin_last_margin : Field := ⟨R.cuPlanMargin, 0, 16⟩
/- CU_RATE_CHECK, 07_curator.md -/
def cuRateCheck_done : Field := ⟨R.cuRateCheck, 31, 1⟩
def cuRateCheck_fit : Field := ⟨R.cuRateCheck, 30, 1⟩
def cuRateCheck_ports_over : Field := ⟨R.cuRateCheck, 16, 8⟩
def cuRateCheck_rate : Field := ⟨R.cuRateCheck, 0, 16⟩
/- CU_CLEAR, 07_curator.md -/
def cuClear_clear : Field := ⟨R.cuClear, 0, 1⟩
/- CU_PORTn_CFG, 07_curator.md -/
def cuPortCfg_fill_ns (i : Nat) : Field := ⟨R.cuPortCfg i, 0, 14⟩
/- CU_PORTn_LOAD, 07_curator.md -/
def cuPortLoad_items_max (i : Nat) : Field := ⟨R.cuPortLoad i, 23, 9⟩
def cuPortLoad_time_max (i : Nat) : Field := ⟨R.cuPortLoad i, 0, 20⟩
/- CU_PORTn_PLAN, 07_curator.md -/
def cuPortPlan_items (i : Nat) : Field := ⟨R.cuPortPlan i, 23, 9⟩
def cuPortPlan_repeated (i : Nat) : Field := ⟨R.cuPortPlan i, 22, 1⟩
def cuPortPlan_periodic_end (i : Nat) : Field := ⟨R.cuPortPlan i, 0, 20⟩
/- CU_PORTn_QUEUE, 07_curator.md -/
def cuPortQueue_queued (i : Nat) : Field := ⟨R.cuPortQueue i, 16, 10⟩
def cuPortQueue_urgent (i : Nat) : Field := ⟨R.cuPortQueue i, 0, 10⟩
/- CU_PORTn_LATE, 07_curator.md -/
def cuPortLate_late_frames (i : Nat) : Field := ⟨R.cuPortLate i, 16, 16⟩
def cuPortLate_shed (i : Nat) : Field := ⟨R.cuPortLate i, 0, 12⟩
/- CU_PORTn_URGENT, 07_curator.md -/
def cuPortUrgent_deferred (i : Nat) : Field := ⟨R.cuPortUrgent i, 16, 16⟩
def cuPortUrgent_used_ns (i : Nat) : Field := ⟨R.cuPortUrgent i, 0, 16⟩
/- CU_PORTn_REACH, 07_curator.md -/
def cuPortReach_count (i : Nat) : Field := ⟨R.cuPortReach i, 16, 16⟩
def cuPortReach_last_addr (i : Nat) : Field := ⟨R.cuPortReach i, 0, 6⟩
/- CU_PORTn_BULK, 07_curator.md -/
def cuPortBulk_promotions (i : Nat) : Field := ⟨R.cuPortBulk i, 16, 16⟩
def cuPortBulk_naks (i : Nat) : Field := ⟨R.cuPortBulk i, 0, 16⟩
/- CU_SHED_MAPw, 07_curator.md -/
def cuShedMap_shed (i : Nat) : Field := ⟨R.cuShedMap i, 0, 32⟩
/- GA_RINGr_CTRL, 08_work_rings.md -/
def gaRingCtrl_enable (g : Nat) (i : Nat) : Field := ⟨R.gaRingCtrl g i, 31, 1⟩
def gaRingCtrl_log2_size (g : Nat) (i : Nat) : Field := ⟨R.gaRingCtrl g i, 24, 4⟩
def gaRingCtrl_poll (g : Nat) (i : Nat) : Field := ⟨R.gaRingCtrl g i, 0, 11⟩
/- GA_RINGr_BASE_LO, 08_work_rings.md -/
def gaRingBaseLo_addr (g : Nat) (i : Nat) : Field := ⟨R.gaRingBaseLo g i, 0, 32⟩
/- GA_RINGr_BASE_HI, 08_work_rings.md -/
def gaRingBaseHi_addr (g : Nat) (i : Nat) : Field := ⟨R.gaRingBaseHi g i, 0, 32⟩
/- GA_RINGr_STAT_LO, 08_work_rings.md -/
def gaRingStatLo_addr (g : Nat) (i : Nat) : Field := ⟨R.gaRingStatLo g i, 0, 32⟩
/- GA_RINGr_STAT_HI, 08_work_rings.md -/
def gaRingStatHi_addr (g : Nat) (i : Nat) : Field := ⟨R.gaRingStatHi g i, 0, 32⟩
/- GA_RINGr_START, 08_work_rings.md -/
def gaRingStart_start (g : Nat) (i : Nat) : Field := ⟨R.gaRingStart g i, 0, 16⟩
/- GA_RINGr_POS, 08_work_rings.md -/
def gaRingPos_fetch (g : Nat) (i : Nat) : Field := ⟨R.gaRingPos g i, 16, 16⟩
def gaRingPos_tail (g : Nat) (i : Nat) : Field := ⟨R.gaRingPos g i, 0, 16⟩
/- GA_RINGr_RESUME, 08_work_rings.md -/
def gaRingResume_valid (g : Nat) (i : Nat) : Field := ⟨R.gaRingResume g i, 31, 1⟩
def gaRingResume_cause (g : Nat) (i : Nat) : Field := ⟨R.gaRingResume g i, 29, 2⟩
def gaRingResume_head (g : Nat) (i : Nat) : Field := ⟨R.gaRingResume g i, 0, 16⟩
/- GA_RINGr_STATE, 08_work_rings.md -/
def gaRingState_refused (g : Nat) (i : Nat) : Field := ⟨R.gaRingState g i, 7, 1⟩
def gaRingState_back_pressured (g : Nat) (i : Nat) : Field := ⟨R.gaRingState g i, 6, 1⟩
def gaRingState_halt_source (g : Nat) (i : Nat) : Field := ⟨R.gaRingState g i, 5, 1⟩
def gaRingState_state (g : Nat) (i : Nat) : Field := ⟨R.gaRingState g i, 0, 3⟩
/- GA_RINGr_HALT_IDX, 08_work_rings.md -/
def gaRingHaltIdx_op (g : Nat) (i : Nat) : Field := ⟨R.gaRingHaltIdx g i, 24, 8⟩
def gaRingHaltIdx_index (g : Nat) (i : Nat) : Field := ⟨R.gaRingHaltIdx g i, 0, 16⟩
/- GA_RINGr_CNT, 08_work_rings.md -/
def gaRingCnt_completed (g : Nat) (i : Nat) : Field := ⟨R.gaRingCnt g i, 16, 16⟩
def gaRingCnt_held_polls (g : Nat) (i : Nat) : Field := ⟨R.gaRingCnt g i, 0, 16⟩
/- GA_EVT_CTRL, 08_work_rings.md -/
def gaEvtCtrl_enable (g : Nat) : Field := ⟨R.gaEvtCtrl g, 31, 1⟩
def gaEvtCtrl_log2_size (g : Nat) : Field := ⟨R.gaEvtCtrl g, 24, 4⟩
/- GA_EVT_BASE_LO, 08_work_rings.md -/
def gaEvtBaseLo_addr (g : Nat) : Field := ⟨R.gaEvtBaseLo g, 0, 32⟩
/- GA_EVT_BASE_HI, 08_work_rings.md -/
def gaEvtBaseHi_addr (g : Nat) : Field := ⟨R.gaEvtBaseHi g, 0, 32⟩
/- GA_EVT_HEAD_LO, 08_work_rings.md -/
def gaEvtHeadLo_addr (g : Nat) : Field := ⟨R.gaEvtHeadLo g, 0, 32⟩
/- GA_EVT_HEAD_HI, 08_work_rings.md -/
def gaEvtHeadHi_addr (g : Nat) : Field := ⟨R.gaEvtHeadHi g, 0, 32⟩
/- GA_EVT_TAIL_LO, 08_work_rings.md -/
def gaEvtTailLo_addr (g : Nat) : Field := ⟨R.gaEvtTailLo g, 0, 32⟩
/- GA_EVT_TAIL_HI, 08_work_rings.md -/
def gaEvtTailHi_addr (g : Nat) : Field := ⟨R.gaEvtTailHi g, 0, 32⟩
/- GA_EVT_POS, 08_work_rings.md -/
def gaEvtPos_index (g : Nat) : Field := ⟨R.gaEvtPos g, 16, 16⟩
def gaEvtPos_head (g : Nat) : Field := ⟨R.gaEvtPos g, 0, 16⟩
/- GA_EVT_STATUS, 08_work_rings.md -/
def gaEvtStatus_lost (g : Nat) : Field := ⟨R.gaEvtStatus g, 16, 16⟩
def gaEvtStatus_refused (g : Nat) : Field := ⟨R.gaEvtStatus g, 2, 1⟩
def gaEvtStatus_full (g : Nat) : Field := ⟨R.gaEvtStatus g, 1, 1⟩
def gaEvtStatus_running (g : Nat) : Field := ⟨R.gaEvtStatus g, 0, 1⟩
/- MV_STATUS, 09_movers.md -/
def mvStatus_manager : Field := ⟨R.mvStatus, 8, 8⟩
def mvStatus_busy : Field := ⟨R.mvStatus, 0, 8⟩
/- MV_ERR_CNT, 09_movers.md -/
def mvErrCnt_misaligned : Field := ⟨R.mvErrCnt, 16, 16⟩
def mvErrCnt_host_err : Field := ⟨R.mvErrCnt, 0, 16⟩
/- MV_CNT_CLEAR, 09_movers.md -/
def mvCntClear_clear : Field := ⟨R.mvCntClear, 0, 1⟩
/- MV_CHn_CTRL, 09_movers.md -/
def mvChCtrl_go (i : Nat) : Field := ⟨R.mvChCtrl i, 31, 1⟩
def mvChCtrl_stop (i : Nat) : Field := ⟨R.mvChCtrl i, 30, 1⟩
def mvChCtrl_owner (i : Nat) : Field := ⟨R.mvChCtrl i, 0, 1⟩
/- MV_CHn_HEAD, 09_movers.md -/
def mvChHead_addr (i : Nat) : Field := ⟨R.mvChHead i, 0, 21⟩
/- MV_CHn_STATE, 09_movers.md -/
def mvChState_state (i : Nat) : Field := ⟨R.mvChState i, 29, 3⟩
def mvChState_stopped (i : Nat) : Field := ⟨R.mvChState i, 28, 1⟩
def mvChState_chain_err (i : Nat) : Field := ⟨R.mvChState i, 24, 1⟩
def mvChState_desc (i : Nat) : Field := ⟨R.mvChState i, 0, 21⟩
/- MV_CHn_CNT, 09_movers.md -/
def mvChCnt_ok (i : Nat) : Field := ⟨R.mvChCnt i, 16, 16⟩
def mvChCnt_bad (i : Nat) : Field := ⟨R.mvChCnt i, 0, 16⟩
/- MV_CHn_LAST, 09_movers.md -/
def mvChLast_valid (i : Nat) : Field := ⟨R.mvChLast i, 31, 1⟩
def mvChLast_status (i : Nat) : Field := ⟨R.mvChLast i, 24, 7⟩
def mvChLast_moved (i : Nat) : Field := ⟨R.mvChLast i, 0, 24⟩
/- CO_CTRL, 10_courier.md -/
def coCtrl_remote_enable : Field := ⟨R.coCtrl, 1, 1⟩
def coCtrl_routes_enable : Field := ⟨R.coCtrl, 0, 1⟩
/- CO_STATUS, 10_courier.md -/
def coStatus_routes : Field := ⟨R.coStatus, 16, 13⟩
def coStatus_tags : Field := ⟨R.coStatus, 0, 11⟩
/- CO_EVENTS, 10_courier.md -/
def coEvents_denied : Field := ⟨R.coEvents, 5, 1⟩
def coEvents_discarded : Field := ⟨R.coEvents, 4, 1⟩
def coEvents_retry_exhausted : Field := ⟨R.coEvents, 3, 1⟩
def coEvents_pwerr : Field := ⟨R.coEvents, 2, 1⟩
def coEvents_fanout : Field := ⟨R.coEvents, 1, 1⟩
def coEvents_reflex_dropped : Field := ⟨R.coEvents, 0, 1⟩
/- CO_EVENT_EN, 10_courier.md -/
def coEventEn_enable : Field := ⟨R.coEventEn, 0, 6⟩
/- CO_ROUTE_IDX, 10_courier.md -/
def coRouteIdx_index : Field := ⟨R.coRouteIdx, 0, 12⟩
/- CO_ROUTE_CMD, 10_courier.md -/
def coRouteCmd_write : Field := ⟨R.coRouteCmd, 31, 1⟩
def coRouteCmd_read : Field := ⟨R.coRouteCmd, 30, 1⟩
def coRouteCmd_clear : Field := ⟨R.coRouteCmd, 29, 1⟩
def coRouteCmd_refuse : Field := ⟨R.coRouteCmd, 0, 4⟩
/- CO_ROUTE_DATAw, 10_courier.md -/
def coRouteData_data (i : Nat) : Field := ⟨R.coRouteData i, 0, 32⟩
/- CO_REFLEX_CNT, 10_courier.md -/
def coReflexCnt_placed : Field := ⟨R.coReflexCnt, 16, 16⟩
def coReflexCnt_dropped : Field := ⟨R.coReflexCnt, 0, 16⟩
/- CO_REFLEX_LAST, 10_courier.md -/
def coReflexLast_cause : Field := ⟨R.coReflexLast, 29, 3⟩
def coReflexLast_chip : Field := ⟨R.coReflexLast, 23, 6⟩
def coReflexLast_port : Field := ⟨R.coReflexLast, 20, 3⟩
def coReflexLast_addr : Field := ⟨R.coReflexLast, 14, 6⟩
def coReflexLast_pipe : Field := ⟨R.coReflexLast, 10, 4⟩
/- CO_FWD_CNT, 10_courier.md -/
def coFwdCnt_forwarded : Field := ⟨R.coFwdCnt, 16, 16⟩
def coFwdCnt_fanout_excess : Field := ⟨R.coFwdCnt, 0, 16⟩
/- CO_RETRY_CFG, 10_courier.md -/
def coRetryCfg_limit : Field := ⟨R.coRetryCfg, 24, 8⟩
def coRetryCfg_backoff_us : Field := ⟨R.coRetryCfg, 16, 8⟩
def coRetryCfg_timeout_us : Field := ⟨R.coRetryCfg, 0, 16⟩
/- CO_DISCARD_CFG, 10_courier.md -/
def coDiscardCfg_discard_us : Field := ⟨R.coDiscardCfg, 0, 16⟩
/- CO_REMOTE_STATUS, 10_courier.md -/
def coRemoteStatus_tickets : Field := ⟨R.coRemoteStatus, 16, 9⟩
def coRemoteStatus_queued : Field := ⟨R.coRemoteStatus, 0, 9⟩
/- CO_REMOTE_CNT, 10_courier.md -/
def coRemoteCnt_discarded : Field := ⟨R.coRemoteCnt, 16, 16⟩
def coRemoteCnt_retry_exhausted : Field := ⟨R.coRemoteCnt, 0, 16⟩
/- CO_REMOTE_DENIED, 10_courier.md -/
def coRemoteDenied_count : Field := ⟨R.coRemoteDenied, 16, 16⟩
def coRemoteDenied_last_chip : Field := ⟨R.coRemoteDenied, 8, 6⟩
def coRemoteDenied_last_gallery : Field := ⟨R.coRemoteDenied, 0, 4⟩
/- CO_CNT_CLEAR, 10_courier.md -/
def coCntClear_clear : Field := ⟨R.coCntClear, 0, 1⟩
/- CO_REMOTE_MAPm, 10_courier.md -/
def coRemoteMap_valid (i : Nat) : Field := ⟨R.coRemoteMap i, 31, 1⟩
def coRemoteMap_origin_chip (i : Nat) : Field := ⟨R.coRemoteMap i, 24, 6⟩
def coRemoteMap_origin_gallery (i : Nat) : Field := ⟨R.coRemoteMap i, 16, 4⟩
def coRemoteMap_local_gallery (i : Nat) : Field := ⟨R.coRemoteMap i, 0, 4⟩
/- CO_PWERR_LOGe word 0, 10_courier.md -/
def coPwerrLog0_chip (i : Nat) : Field := ⟨R.coPwerrLog0 i, 26, 6⟩
def coPwerrLog0_ctx (i : Nat) : Field := ⟨R.coPwerrLog0 i, 15, 11⟩
def coPwerrLog0_gallery (i : Nat) : Field := ⟨R.coPwerrLog0 i, 11, 4⟩
def coPwerrLog0_ring (i : Nat) : Field := ⟨R.coPwerrLog0 i, 8, 3⟩
def coPwerrLog0_status (i : Nat) : Field := ⟨R.coPwerrLog0 i, 0, 8⟩
/- CO_PWERR_LOGe word 1, 10_courier.md -/
def coPwerrLog1_index (i : Nat) : Field := ⟨R.coPwerrLog1 i, 0, 16⟩
/- CO_PWERR_LOGe word 2, 10_courier.md -/
def coPwerrLog2_time_lo (i : Nat) : Field := ⟨R.coPwerrLog2 i, 0, 32⟩
/- CO_PWERR_LOGe word 3, 10_courier.md -/
def coPwerrLog3_time_hi (i : Nat) : Field := ⟨R.coPwerrLog3 i, 0, 32⟩
/- CO_PWERR_STATUS, 10_courier.md -/
def coPwerrStatus_total : Field := ⟨R.coPwerrStatus, 16, 16⟩
def coPwerrStatus_newest : Field := ⟨R.coPwerrStatus, 4, 3⟩
def coPwerrStatus_count : Field := ⟨R.coPwerrStatus, 0, 4⟩
/- CO_PWERR_CLEAR, 10_courier.md -/
def coPwerrClear_clear : Field := ⟨R.coPwerrClear, 0, 1⟩
/- GA_CTRL, 11_galleries_and_pcie.md -/
def gaCtrl_attach (g : Nat) : Field := ⟨R.gaCtrl g, 31, 1⟩
def gaCtrl_detach (g : Nat) : Field := ⟨R.gaCtrl g, 30, 1⟩
def gaCtrl_reset (g : Nat) : Field := ⟨R.gaCtrl g, 29, 1⟩
def gaCtrl_open (g : Nat) : Field := ⟨R.gaCtrl g, 28, 1⟩
/- GA_STATUS, 11_galleries_and_pcie.md -/
def gaStatus_host_err (g : Nat) : Field := ⟨R.gaStatus g, 16, 16⟩
def gaStatus_pasid_refused (g : Nat) : Field := ⟨R.gaStatus g, 6, 1⟩
def gaStatus_hosted (g : Nat) : Field := ⟨R.gaStatus g, 5, 1⟩
def gaStatus_dma_ready (g : Nat) : Field := ⟨R.gaStatus g, 4, 1⟩
def gaStatus_state (g : Nat) : Field := ⟨R.gaStatus g, 0, 3⟩
/- GA_PASID, 11_galleries_and_pcie.md -/
def gaPasid_valid (g : Nat) : Field := ⟨R.gaPasid g, 31, 1⟩
def gaPasid_pasid (g : Nat) : Field := ⟨R.gaPasid g, 0, 20⟩
/- GA_MBOX_INw, 11_galleries_and_pcie.md -/
def gaMboxIn_data (g : Nat) (i : Nat) : Field := ⟨R.gaMboxIn g i, 0, 32⟩
/- GA_MBOX_OUTw, 11_galleries_and_pcie.md -/
def gaMboxOut_data (g : Nat) (i : Nat) : Field := ⟨R.gaMboxOut g i, 0, 32⟩
/- GA_DB_IN, 11_galleries_and_pcie.md -/
def gaDbIn_bell (g : Nat) : Field := ⟨R.gaDbIn g, 0, 16⟩
/- GA_DB_OUT, 11_galleries_and_pcie.md -/
def gaDbOut_bell (g : Nat) : Field := ⟨R.gaDbOut g, 0, 16⟩
/- GA_VIOL_STATUS, 11_galleries_and_pcie.md -/
def gaViolStatus_total (g : Nat) : Field := ⟨R.gaViolStatus g, 16, 16⟩
def gaViolStatus_newest (g : Nat) : Field := ⟨R.gaViolStatus g, 8, 4⟩
def gaViolStatus_count (g : Nat) : Field := ⟨R.gaViolStatus g, 0, 5⟩
/- GA_VIOL_CLEAR, 11_galleries_and_pcie.md -/
def gaViolClear_clear (g : Nat) : Field := ⟨R.gaViolClear g, 0, 1⟩
/- GA_VIOL_CNTg, 11_galleries_and_pcie.md -/
def gaViolCnt_count (g : Nat) (i : Nat) : Field := ⟨R.gaViolCnt g i, 0, 16⟩
/- GA_VIOL_LOGe word 0, 11_galleries_and_pcie.md -/
def gaViolLog0_kind (g : Nat) (i : Nat) : Field := ⟨R.gaViolLog0 g i, 28, 4⟩
def gaViolLog0_gallery (g : Nat) (i : Nat) : Field := ⟨R.gaViolLog0 g i, 24, 4⟩
def gaViolLog0_unknown (g : Nat) (i : Nat) : Field := ⟨R.gaViolLog0 g i, 23, 1⟩
def gaViolLog0_ring (g : Nat) (i : Nat) : Field := ⟨R.gaViolLog0 g i, 20, 3⟩
def gaViolLog0_detail (g : Nat) (i : Nat) : Field := ⟨R.gaViolLog0 g i, 0, 20⟩
/- GA_VIOL_LOGe word 1, 11_galleries_and_pcie.md -/
def gaViolLog1_target (g : Nat) (i : Nat) : Field := ⟨R.gaViolLog1 g i, 0, 32⟩
/- GA_VIOL_LOGe word 2, 11_galleries_and_pcie.md -/
def gaViolLog2_time_lo (g : Nat) (i : Nat) : Field := ⟨R.gaViolLog2 g i, 0, 32⟩
/- GA_VIOL_LOGe word 3, 11_galleries_and_pcie.md -/
def gaViolLog3_time_hi (g : Nat) (i : Nat) : Field := ⟨R.gaViolLog3 g i, 0, 32⟩
/- IC_CLAIM, 12_interrupts.md -/
def icClaim_source (g : Nat) : Field := ⟨R.icClaim g, 0, 16⟩
/- IC_COMPLETE, 12_interrupts.md -/
def icComplete_source (g : Nat) : Field := ⟨R.icComplete g, 0, 16⟩
/- IC_THRESHOLD, 12_interrupts.md -/
def icThreshold_threshold (g : Nat) : Field := ⟨R.icThreshold g, 0, 4⟩
/- IC_LEVEL, 12_interrupts.md -/
def icLevel_bad_complete (g : Nat) : Field := ⟨R.icLevel g, 16, 16⟩
def icLevel_claimed (g : Nat) : Field := ⟨R.icLevel g, 8, 4⟩
def icLevel_level (g : Nat) : Field := ⟨R.icLevel g, 0, 4⟩
/- IC_SET, 12_interrupts.md -/
def icSet_source (g : Nat) : Field := ⟨R.icSet g, 0, 8⟩
/- IC_GCFG, 12_interrupts.md -/
def icGcfg_fallback_ms (g : Nat) : Field := ⟨R.icGcfg g, 0, 16⟩
/- IC_ENABLE_LO, 12_interrupts.md -/
def icEnableLo_enable (g : Nat) : Field := ⟨R.icEnableLo g, 0, 32⟩
/- IC_ENABLE_HI, 12_interrupts.md -/
def icEnableHi_enable (g : Nat) : Field := ⟨R.icEnableHi g, 0, 32⟩
/- IC_PEND_LO, 12_interrupts.md -/
def icPendLo_pending (g : Nat) : Field := ⟨R.icPendLo g, 0, 32⟩
/- IC_PEND_HI, 12_interrupts.md -/
def icPendHi_pending (g : Nat) : Field := ⟨R.icPendHi g, 0, 32⟩
/- IC_CLAIMED_LO, 12_interrupts.md -/
def icClaimedLo_claimed (g : Nat) : Field := ⟨R.icClaimedLo g, 0, 32⟩
/- IC_CLAIMED_HI, 12_interrupts.md -/
def icClaimedHi_claimed (g : Nat) : Field := ⟨R.icClaimedHi g, 0, 32⟩
/- IC_SRCCFGs, 12_interrupts.md -/
def icSrccfg_co_time_us (g : Nat) (i : Nat) : Field := ⟨R.icSrccfg g i, 16, 16⟩
def icSrccfg_co_count (g : Nat) (i : Nat) : Field := ⟨R.icSrccfg g i, 8, 8⟩
def icSrccfg_priority (g : Nat) (i : Nat) : Field := ⟨R.icSrccfg g i, 0, 4⟩
/- IC_SH_CFGs, 12_interrupts.md -/
def icShCfg_co_time_us (i : Nat) : Field := ⟨R.icShCfg i, 16, 16⟩
def icShCfg_co_count (i : Nat) : Field := ⟨R.icShCfg i, 8, 8⟩
def icShCfg_target (i : Nat) : Field := ⟨R.icShCfg i, 4, 4⟩
def icShCfg_priority (i : Nat) : Field := ⟨R.icShCfg i, 0, 4⟩
/- IC_SH_ENw, 12_interrupts.md -/
def icShEn_enable (i : Nat) : Field := ⟨R.icShEn i, 0, 32⟩
/- IC_SH_PENDw, 12_interrupts.md -/
def icShPend_pending (i : Nat) : Field := ⟨R.icShPend i, 0, 32⟩
/- IC_SH_CLAIMEDw, 12_interrupts.md -/
def icShClaimed_claimed (i : Nat) : Field := ⟨R.icShClaimed i, 0, 32⟩
/- IC_SH_FALLENw, 12_interrupts.md -/
def icShFallen_fallen (i : Nat) : Field := ⟨R.icShFallen i, 0, 32⟩
/- IC_SH_SET, 12_interrupts.md -/
def icShSet_source : Field := ⟨R.icShSet, 0, 8⟩
/- IC_SH_STATUS, 12_interrupts.md -/
def icShStatus_fallbacks : Field := ⟨R.icShStatus, 16, 16⟩
def icShStatus_restores : Field := ⟨R.icShStatus, 0, 16⟩
/- SP_FAB_CTRL, 13_span_fabric_and_twin.md -/
def spFabCtrl_take_fwd : Field := ⟨R.spFabCtrl, 4, 4⟩
def spFabCtrl_discover : Field := ⟨R.spFabCtrl, 0, 1⟩
/- SP_FAB_CFG, 13_span_fabric_and_twin.md -/
def spFabCfg_charter_id : Field := ⟨R.spFabCfg, 24, 6⟩
def spFabCfg_settle_ms : Field := ⟨R.spFabCfg, 0, 8⟩
/- SP_CHIP_ID, 13_span_fabric_and_twin.md -/
def spChipId_id_source : Field := ⟨R.spChipId, 8, 2⟩
def spChipId_chain_wired : Field := ⟨R.spChipId, 7, 1⟩
def spChipId_chip_id : Field := ⟨R.spChipId, 0, 6⟩
/- SP_FAB_STATUS, 13_span_fabric_and_twin.md -/
def spFabStatus_master : Field := ⟨R.spFabStatus, 26, 6⟩
def spFabStatus_hops : Field := ⟨R.spFabStatus, 22, 4⟩
def spFabStatus_time_parent : Field := ⟨R.spFabStatus, 20, 2⟩
def spFabStatus_parent_valid : Field := ⟨R.spFabStatus, 19, 1⟩
def spFabStatus_discovering : Field := ⟨R.spFabStatus, 18, 1⟩
def spFabStatus_permit_wait : Field := ⟨R.spFabStatus, 17, 1⟩
def spFabStatus_rate_mismatch : Field := ⟨R.spFabStatus, 16, 1⟩
def spFabStatus_chips : Field := ⟨R.spFabStatus, 0, 7⟩
/- SP_FAB_EVENTS, 13_span_fabric_and_twin.md -/
def spFabEvents_time_parent_lost : Field := ⟨R.spFabEvents, 7, 1⟩
def spFabEvents_take_received : Field := ⟨R.spFabEvents, 6, 1⟩
def spFabEvents_rate_mismatch : Field := ⟨R.spFabEvents, 5, 1⟩
def spFabEvents_unreachable : Field := ⟨R.spFabEvents, 4, 1⟩
def spFabEvents_renumbered : Field := ⟨R.spFabEvents, 3, 1⟩
def spFabEvents_master_changed : Field := ⟨R.spFabEvents, 2, 1⟩
def spFabEvents_id_conflict : Field := ⟨R.spFabEvents, 1, 1⟩
def spFabEvents_settled : Field := ⟨R.spFabEvents, 0, 1⟩
/- SP_FAB_EVENT_EN, 13_span_fabric_and_twin.md -/
def spFabEventEn_enable : Field := ⟨R.spFabEventEn, 0, 8⟩
/- SP_RENUMBER, 13_span_fabric_and_twin.md -/
def spRenumber_delta : Field := ⟨R.spRenumber, 0, 32⟩
/- SP_RENUMBER_FRAME, 13_span_fabric_and_twin.md -/
def spRenumberFrame_frame : Field := ⟨R.spRenumberFrame, 0, 32⟩
/- SP_TAKE_CNT, 13_span_fabric_and_twin.md -/
def spTakeCnt_sent : Field := ⟨R.spTakeCnt, 16, 16⟩
def spTakeCnt_received : Field := ⟨R.spTakeCnt, 0, 16⟩
/- SP_CNT_CLEAR, 13_span_fabric_and_twin.md -/
def spCntClear_clear : Field := ⟨R.spCntClear, 0, 1⟩
/- SP_Pm_CTRL, 13_span_fabric_and_twin.md -/
def spPCtrl_retrain (i : Nat) : Field := ⟨R.spPCtrl i, 2, 1⟩
def spPCtrl_media (i : Nat) : Field := ⟨R.spPCtrl i, 1, 1⟩
def spPCtrl_enable (i : Nat) : Field := ⟨R.spPCtrl i, 0, 1⟩
/- SP_Pm_STATUS, 13_span_fabric_and_twin.md -/
def spPStatus_partner_chip (i : Nat) : Field := ⟨R.spPStatus i, 26, 6⟩
def spPStatus_partner_port (i : Nat) : Field := ⟨R.spPStatus i, 24, 2⟩
def spPStatus_tree_parent (i : Nat) : Field := ⟨R.spPStatus i, 19, 1⟩
def spPStatus_tree_child (i : Nat) : Field := ⟨R.spPStatus i, 18, 1⟩
def spPStatus_ranged (i : Nat) : Field := ⟨R.spPStatus i, 17, 1⟩
def spPStatus_permit_wait (i : Nat) : Field := ⟨R.spPStatus i, 16, 1⟩
def spPStatus_state (i : Nat) : Field := ⟨R.spPStatus i, 0, 3⟩
/- SP_Pm_EVENTS, 13_span_fabric_and_twin.md -/
def spPEvents_range_shift (i : Nat) : Field := ⟨R.spPEvents i, 6, 1⟩
def spPEvents_replay_exhausted (i : Nat) : Field := ⟨R.spPEvents i, 5, 1⟩
def spPEvents_train_fail (i : Nat) : Field := ⟨R.spPEvents i, 4, 1⟩
def spPEvents_detached (i : Nat) : Field := ⟨R.spPEvents i, 3, 1⟩
def spPEvents_hit_recovered (i : Nat) : Field := ⟨R.spPEvents i, 2, 1⟩
def spPEvents_hit (i : Nat) : Field := ⟨R.spPEvents i, 1, 1⟩
def spPEvents_attached (i : Nat) : Field := ⟨R.spPEvents i, 0, 1⟩
/- SP_Pm_EVENT_EN, 13_span_fabric_and_twin.md -/
def spPEventEn_enable (i : Nat) : Field := ⟨R.spPEventEn i, 0, 7⟩
/- SP_Pm_ERR, 13_span_fabric_and_twin.md -/
def spPErr_crc (i : Nat) : Field := ⟨R.spPErr i, 16, 16⟩
def spPErr_replays (i : Nat) : Field := ⟨R.spPErr i, 0, 16⟩
/- SP_Pm_RANGE, 13_span_fabric_and_twin.md -/
def spPRange_valid (i : Nat) : Field := ⟨R.spPRange i, 31, 1⟩
def spPRange_d_link (i : Nat) : Field := ⟨R.spPRange i, 0, 24⟩
/- SP_Pm_ASYM, 13_span_fabric_and_twin.md -/
def spPAsym_asym (i : Nat) : Field := ⟨R.spPAsym i, 0, 16⟩
/- SP_Pm_TRAFFIC, 13_span_fabric_and_twin.md -/
def spPTraffic_lost (i : Nat) : Field := ⟨R.spPTraffic i, 16, 16⟩
def spPTraffic_excursions (i : Nat) : Field := ⟨R.spPTraffic i, 0, 16⟩
/- SP_Pm_CNT_CLEAR, 13_span_fabric_and_twin.md -/
def spPCntClear_clear (i : Nat) : Field := ⟨R.spPCntClear i, 0, 1⟩
/- SP_ROUTEd, 13_span_fabric_and_twin.md -/
def spRoute_valid (i : Nat) : Field := ⟨R.spRoute i, 31, 1⟩
def spRoute_static (i : Nat) : Field := ⟨R.spRoute i, 30, 1⟩
def spRoute_hops (i : Nat) : Field := ⟨R.spRoute i, 8, 4⟩
def spRoute_port (i : Nat) : Field := ⟨R.spRoute i, 0, 2⟩
/- SP_SERIALd_LO, 13_span_fabric_and_twin.md -/
def spSerialLo_serial (i : Nat) : Field := ⟨R.spSerialLo i, 0, 32⟩
/- SP_SERIALd_HI, 13_span_fabric_and_twin.md -/
def spSerialHi_serial (i : Nat) : Field := ⟨R.spSerialHi i, 0, 32⟩
/- TW_CTRL, 13_span_fabric_and_twin.md -/
def twCtrl_yield : Field := ⟨R.twCtrl, 1, 1⟩
def twCtrl_enable : Field := ⟨R.twCtrl, 0, 1⟩
/- TW_CFG, 13_span_fabric_and_twin.md -/
def twCfg_solo_wait_ms : Field := ⟨R.twCfg, 16, 16⟩
def twCfg_shared : Field := ⟨R.twCfg, 0, 8⟩
/- TW_STATUS, 13_span_fabric_and_twin.md -/
def twStatus_own : Field := ⟨R.twStatus, 24, 8⟩
def twStatus_partner_chip : Field := ⟨R.twStatus, 18, 6⟩
def twStatus_snapshot : Field := ⟨R.twStatus, 17, 1⟩
def twStatus_split : Field := ⟨R.twStatus, 16, 1⟩
def twStatus_paired : Field := ⟨R.twStatus, 15, 1⟩
def twStatus_role_pin : Field := ⟨R.twStatus, 14, 1⟩
def twStatus_misses : Field := ⟨R.twStatus, 4, 4⟩
def twStatus_frame_offset : Field := ⟨R.twStatus, 3, 1⟩
def twStatus_state : Field := ⟨R.twStatus, 0, 3⟩
/- TW_EVENTS, 13_span_fabric_and_twin.md -/
def twEvents_suppressed : Field := ⟨R.twEvents, 6, 1⟩
def twEvents_partner_mismatch : Field := ⟨R.twEvents, 5, 1⟩
def twEvents_split : Field := ⟨R.twEvents, 4, 1⟩
def twEvents_heartbeat_lost : Field := ⟨R.twEvents, 3, 1⟩
def twEvents_yielded : Field := ⟨R.twEvents, 2, 1⟩
def twEvents_takeover : Field := ⟨R.twEvents, 1, 1⟩
def twEvents_paired : Field := ⟨R.twEvents, 0, 1⟩
/- TW_EVENT_EN, 13_span_fabric_and_twin.md -/
def twEventEn_enable : Field := ⟨R.twEventEn, 0, 7⟩
/- TW_PARTNER_LO, 13_span_fabric_and_twin.md -/
def twPartnerLo_serial : Field := ⟨R.twPartnerLo, 0, 32⟩
/- TW_PARTNER_HI, 13_span_fabric_and_twin.md -/
def twPartnerHi_serial : Field := ⟨R.twPartnerHi, 0, 32⟩
/- TW_LAST_SWITCH, 13_span_fabric_and_twin.md -/
def twLastSwitch_frame : Field := ⟨R.twLastSwitch, 0, 32⟩
/- TW_CNT, 13_span_fabric_and_twin.md -/
def twCnt_takeovers : Field := ⟨R.twCnt, 16, 16⟩
def twCnt_suppressed : Field := ⟨R.twCnt, 0, 16⟩
/- TW_MIRROR, 13_span_fabric_and_twin.md -/
def twMirror_backlog : Field := ⟨R.twMirror, 16, 16⟩
def twMirror_late : Field := ⟨R.twMirror, 0, 16⟩
/- TW_CLEAR, 13_span_fabric_and_twin.md -/
def twClear_clear : Field := ⟨R.twClear, 0, 1⟩
/- TW_FRAME_DIFF, 13_span_fabric_and_twin.md -/
def twFrameDiff_diff : Field := ⟨R.twFrameDiff, 0, 32⟩
/- TW_HOPn, 13_span_fabric_and_twin.md -/
def twHop_valid (i : Nat) : Field := ⟨R.twHop i, 31, 1⟩
def twHop_d_hop (i : Nat) : Field := ⟨R.twHop i, 0, 24⟩
/- RG_CTRL, 14_registrar_and_vitrines.md -/
def rgCtrl_take : Field := ⟨R.rgCtrl, 31, 1⟩
def rgCtrl_release : Field := ⟨R.rgCtrl, 30, 1⟩
def rgCtrl_clear : Field := ⟨R.rgCtrl, 29, 1⟩
def rgCtrl_cnt_clear : Field := ⟨R.rgCtrl, 28, 1⟩
def rgCtrl_keep : Field := ⟨R.rgCtrl, 2, 1⟩
def rgCtrl_take_out_en : Field := ⟨R.rgCtrl, 1, 1⟩
def rgCtrl_enable : Field := ⟨R.rgCtrl, 0, 1⟩
/- RG_STATUS, 14_registrar_and_vitrines.md -/
def rgStatus_clearing : Field := ⟨R.rgStatus, 3, 1⟩
def rgStatus_writing : Field := ⟨R.rgStatus, 2, 1⟩
def rgStatus_full : Field := ⟨R.rgStatus, 1, 1⟩
def rgStatus_held : Field := ⟨R.rgStatus, 0, 1⟩
/- RG_WRITE_PTR, 14_registrar_and_vitrines.md -/
def rgWritePtr_ptr : Field := ⟨R.rgWritePtr, 0, 20⟩
/- RG_COUNT, 14_registrar_and_vitrines.md -/
def rgCount_dropped : Field := ⟨R.rgCount, 16, 16⟩
def rgCount_records : Field := ⟨R.rgCount, 0, 16⟩
/- RG_MISSED, 14_registrar_and_vitrines.md -/
def rgMissed_asleep : Field := ⟨R.rgMissed, 16, 16⟩
def rgMissed_total : Field := ⟨R.rgMissed, 0, 16⟩
/- RG_CURSOR, 14_registrar_and_vitrines.md -/
def rgCursor_offset : Field := ⟨R.rgCursor, 3, 17⟩
/- RG_EVENTS, 14_registrar_and_vitrines.md -/
def rgEvents_repeat : Field := ⟨R.rgEvents, 3, 1⟩
def rgEvents_missed : Field := ⟨R.rgEvents, 2, 1⟩
def rgEvents_full : Field := ⟨R.rgEvents, 1, 1⟩
def rgEvents_record : Field := ⟨R.rgEvents, 0, 1⟩
/- RG_EVENT_EN, 14_registrar_and_vitrines.md -/
def rgEventEn_enable : Field := ⟨R.rgEventEn, 0, 4⟩
/- RG_LAST_TAKE_LO, 14_registrar_and_vitrines.md -/
def rgLastTakeLo_time : Field := ⟨R.rgLastTakeLo, 0, 32⟩
/- RG_LAST_TAKE_HI, 14_registrar_and_vitrines.md -/
def rgLastTakeHi_time : Field := ⟨R.rgLastTakeHi, 0, 32⟩
/- RG_LAST_TAKE, 14_registrar_and_vitrines.md -/
def rgLastTake_latches : Field := ⟨R.rgLastTake, 16, 16⟩
def rgLastTake_origin : Field := ⟨R.rgLastTake, 8, 6⟩
def rgLastTake_sources : Field := ⟨R.rgLastTake, 0, 8⟩
/- RG_TAKE_CFG, 14_registrar_and_vitrines.md -/
def rgTakeCfg_in_falling : Field := ⟨R.rgTakeCfg, 16, 1⟩
def rgTakeCfg_out_width_us : Field := ⟨R.rgTakeCfg, 0, 16⟩
/- RG_TRIGt_CFG, 14_registrar_and_vitrines.md -/
def rgTrigCfg_kind (i : Nat) : Field := ⟨R.rgTrigCfg i, 30, 2⟩
def rgTrigCfg_sel_mask (i : Nat) : Field := ⟨R.rgTrigCfg i, 16, 8⟩
def rgTrigCfg_mv_status (i : Nat) : Field := ⟨R.rgTrigCfg i, 14, 2⟩
def rgTrigCfg_bad (i : Nat) : Field := ⟨R.rgTrigCfg i, 13, 1⟩
def rgTrigCfg_source_num (i : Nat) : Field := ⟨R.rgTrigCfg i, 0, 8⟩
/- RG_TRIGt_MATCH, 14_registrar_and_vitrines.md -/
def rgTrigMatch_tag_mask (i : Nat) : Field := ⟨R.rgTrigMatch i, 16, 16⟩
def rgTrigMatch_tag_value (i : Nat) : Field := ⟨R.rgTrigMatch i, 0, 16⟩
/- RG_TRIGt_SEL0, 14_registrar_and_vitrines.md -/
def rgTrigSel0_count_hi (i : Nat) : Field := ⟨R.rgTrigSel0 i, 26, 6⟩
def rgTrigSel0_base_hi (i : Nat) : Field := ⟨R.rgTrigSel0 i, 16, 10⟩
def rgTrigSel0_count_lo (i : Nat) : Field := ⟨R.rgTrigSel0 i, 10, 6⟩
def rgTrigSel0_base_lo (i : Nat) : Field := ⟨R.rgTrigSel0 i, 0, 10⟩
/- RG_TRIGt_SEL1, 14_registrar_and_vitrines.md -/
def rgTrigSel1_count_hi (i : Nat) : Field := ⟨R.rgTrigSel1 i, 26, 6⟩
def rgTrigSel1_base_hi (i : Nat) : Field := ⟨R.rgTrigSel1 i, 16, 10⟩
def rgTrigSel1_count_lo (i : Nat) : Field := ⟨R.rgTrigSel1 i, 10, 6⟩
def rgTrigSel1_base_lo (i : Nat) : Field := ⟨R.rgTrigSel1 i, 0, 10⟩
/- VT_WORDi, 14_registrar_and_vitrines.md -/
def vtWord_value (i : Nat) : Field := ⟨R.vtWord i, 0, 32⟩
/- FI_UNLOCK, 15_faults_and_injection.md -/
def fiUnlock_key : Field := ⟨R.fiUnlock, 0, 16⟩
/- FI_STATUS, 15_faults_and_injection.md -/
def fiStatus_locked_write : Field := ⟨R.fiStatus, 17, 1⟩
def fiStatus_unlocked : Field := ⟨R.fiStatus, 16, 1⟩
def fiStatus_newest : Field := ⟨R.fiStatus, 8, 4⟩
def fiStatus_count : Field := ⟨R.fiStatus, 0, 5⟩
/- FI_SUMMARY, 15_faults_and_injection.md -/
def fiSummary_detected : Field := ⟨R.fiSummary, 1, 18⟩
/- FI_SUMMARY_EN, 15_faults_and_injection.md -/
def fiSummaryEn_enable : Field := ⟨R.fiSummaryEn, 1, 18⟩
/- FI_FAULT, 15_faults_and_injection.md -/
def fiFault_clear : Field := ⟨R.fiFault, 31, 1⟩
def fiFault_active : Field := ⟨R.fiFault, 16, 1⟩
def fiFault_count : Field := ⟨R.fiFault, 0, 8⟩
/- FI_WDOG_CFG, 15_faults_and_injection.md -/
def fiWdogCfg_stall_us : Field := ⟨R.fiWdogCfg, 0, 16⟩
/- FI_CLEAR, 15_faults_and_injection.md -/
def fiClear_first : Field := ⟨R.fiClear, 1, 1⟩
def fiClear_clear : Field := ⟨R.fiClear, 0, 1⟩
/- FI_CFGd, 15_faults_and_injection.md -/
def fiCfg_take (i : Nat) : Field := ⟨R.fiCfg i, 1, 1⟩
def fiCfg_fault_n (i : Nat) : Field := ⟨R.fiCfg i, 0, 1⟩
/- FI_CNTd, 15_faults_and_injection.md -/
def fiCnt_injected (i : Nat) : Field := ⟨R.fiCnt i, 16, 16⟩
def fiCnt_count (i : Nat) : Field := ⟨R.fiCnt i, 0, 16⟩
/- FI_INJd_CTRL, 15_faults_and_injection.md -/
def fiInjCtrl_mode (i : Nat) : Field := ⟨R.fiInjCtrl i, 30, 2⟩
def fiInjCtrl_fired (i : Nat) : Field := ⟨R.fiInjCtrl i, 29, 1⟩
def fiInjCtrl_instance (i : Nat) : Field := ⟨R.fiInjCtrl i, 16, 8⟩
def fiInjCtrl_param (i : Nat) : Field := ⟨R.fiInjCtrl i, 0, 16⟩
/- FI_INJd_ADDR, 15_faults_and_injection.md -/
def fiInjAddr_addr (i : Nat) : Field := ⟨R.fiInjAddr i, 0, 22⟩
/- FI_LOGe word 0, 15_faults_and_injection.md -/
def fiLog0_id (i : Nat) : Field := ⟨R.fiLog0 i, 24, 8⟩
def fiLog0_class (i : Nat) : Field := ⟨R.fiLog0 i, 21, 3⟩
def fiLog0_injected (i : Nat) : Field := ⟨R.fiLog0 i, 20, 1⟩
def fiLog0_gallery (i : Nat) : Field := ⟨R.fiLog0 i, 16, 4⟩
def fiLog0_instance (i : Nat) : Field := ⟨R.fiLog0 i, 0, 8⟩
/- FI_LOGe word 1, 15_faults_and_injection.md -/
def fiLog1_detail (i : Nat) : Field := ⟨R.fiLog1 i, 0, 32⟩
/- FI_LOGe word 2, 15_faults_and_injection.md -/
def fiLog2_time_lo (i : Nat) : Field := ⟨R.fiLog2 i, 0, 32⟩
/- FI_LOGe word 3, 15_faults_and_injection.md -/
def fiLog3_time_hi (i : Nat) : Field := ⟨R.fiLog3 i, 0, 32⟩
/- CN_CTRL, 16_conservator.md -/
def cnCtrl_entry_ms : Field := ⟨R.cnCtrl, 24, 8⟩
def cnCtrl_protect_guard : Field := ⟨R.cnCtrl, 8, 1⟩
def cnCtrl_target : Field := ⟨R.cnCtrl, 0, 3⟩
/- CN_STATUS, 16_conservator.md -/
def cnStatus_refuse_code : Field := ⟨R.cnStatus, 28, 4⟩
def cnStatus_refuse_block : Field := ⟨R.cnStatus, 23, 5⟩
def cnStatus_avs_halted : Field := ⟨R.cnStatus, 7, 1⟩
def cnStatus_avs_ready : Field := ⟨R.cnStatus, 6, 1⟩
def cnStatus_moving : Field := ⟨R.cnStatus, 5, 1⟩
def cnStatus_state : Field := ⟨R.cnStatus, 0, 3⟩
/- CN_EVENTS, 16_conservator.md -/
def cnEvents_pmbus_fail : Field := ⟨R.cnEvents, 7, 1⟩
def cnEvents_budget_over : Field := ⟨R.cnEvents, 6, 1⟩
def cnEvents_avs_ready : Field := ⟨R.cnEvents, 5, 1⟩
def cnEvents_woke : Field := ⟨R.cnEvents, 4, 1⟩
def cnEvents_forced_step : Field := ⟨R.cnEvents, 3, 1⟩
def cnEvents_permit_refused : Field := ⟨R.cnEvents, 2, 1⟩
def cnEvents_entry_refused : Field := ⟨R.cnEvents, 1, 1⟩
def cnEvents_state_changed : Field := ⟨R.cnEvents, 0, 1⟩
/- CN_EVENT_EN, 16_conservator.md -/
def cnEventEn_enable : Field := ⟨R.cnEventEn, 0, 8⟩
/- CN_WAKE_EN, 16_conservator.md -/
def cnWakeEn_wake_to : Field := ⟨R.cnWakeEn, 31, 1⟩
def cnWakeEn_take_in : Field := ⟨R.cnWakeEn, 18, 1⟩
def cnWakeEn_span : Field := ⟨R.cnWakeEn, 17, 1⟩
def cnWakeEn_beacon : Field := ⟨R.cnWakeEn, 16, 1⟩
def cnWakeEn_tk_mask : Field := ⟨R.cnWakeEn, 0, 14⟩
/- CN_WAKE_CAUSE, 16_conservator.md -/
def cnWakeCause_cause : Field := ⟨R.cnWakeCause, 29, 3⟩
def cnWakeCause_detail : Field := ⟨R.cnWakeCause, 24, 5⟩
def cnWakeCause_wakes : Field := ⟨R.cnWakeCause, 0, 16⟩
/- CN_BUDGET, 16_conservator.md -/
def cnBudget_limit_mw : Field := ⟨R.cnBudget, 0, 16⟩
/- CN_ACCOUNT, 16_conservator.md -/
def cnAccount_permits_mw : Field := ⟨R.cnAccount, 16, 16⟩
def cnAccount_standing_mw : Field := ⟨R.cnAccount, 0, 16⟩
/- CN_CHARGES, 16_conservator.md -/
def cnCharges_supply_mw : Field := ⟨R.cnCharges, 16, 16⟩
def cnCharges_periodic_mw : Field := ⟨R.cnCharges, 0, 16⟩
/- CN_PERMIT_STATUS, 16_conservator.md -/
def cnPermitStatus_queued : Field := ⟨R.cnPermitStatus, 24, 5⟩
def cnPermitStatus_head_kind : Field := ⟨R.cnPermitStatus, 20, 4⟩
def cnPermitStatus_held : Field := ⟨R.cnPermitStatus, 0, 8⟩
/- CN_PERMIT_CNT, 16_conservator.md -/
def cnPermitCnt_refused : Field := ⟨R.cnPermitCnt, 16, 16⟩
def cnPermitCnt_granted : Field := ⟨R.cnPermitCnt, 0, 16⟩
/- CN_PERMIT_CFG, 16_conservator.md -/
def cnPermitCfg_max_wait_ms : Field := ⟨R.cnPermitCfg, 0, 16⟩
/- CN_AVS_CFG, 16_conservator.md -/
def cnAvsCfg_v_min : Field := ⟨R.cnAvsCfg, 22, 10⟩
def cnAvsCfg_period_ms : Field := ⟨R.cnAvsCfg, 8, 8⟩
def cnAvsCfg_guard_pct : Field := ⟨R.cnAvsCfg, 0, 8⟩
/- CN_SUPPLY, 16_conservator.md -/
def cnSupply_forced : Field := ⟨R.cnSupply, 16, 16⟩
def cnSupply_setpoint_mv : Field := ⟨R.cnSupply, 0, 10⟩
/- CN_PACE, 16_conservator.md -/
def cnPace_samples : Field := ⟨R.cnPace, 16, 16⟩
def cnPace_p_min : Field := ⟨R.cnPace, 0, 16⟩
/- CN_PACE_CAL, 16_conservator.md -/
def cnPaceCal_p_wc : Field := ⟨R.cnPaceCal, 0, 16⟩
/- CN_PMB_CFG, 16_conservator.md -/
def cnPmbCfg_pec : Field := ⟨R.cnPmbCfg, 31, 1⟩
def cnPmbCfg_slow : Field := ⟨R.cnPmbCfg, 16, 1⟩
def cnPmbCfg_aon_addr : Field := ⟨R.cnPmbCfg, 8, 7⟩
def cnPmbCfg_core_addr : Field := ⟨R.cnPmbCfg, 0, 7⟩
/- CN_PMB_STATUS, 16_conservator.md -/
def cnPmbStatus_last_cmd : Field := ⟨R.cnPmbStatus, 24, 8⟩
def cnPmbStatus_fails : Field := ⟨R.cnPmbStatus, 16, 8⟩
def cnPmbStatus_status_word : Field := ⟨R.cnPmbStatus, 0, 16⟩
/- CN_SCRUB_CFG, 16_conservator.md -/
def cnScrubCfg_interval_s : Field := ⟨R.cnScrubCfg, 0, 16⟩
/- CN_SCRUB_STATUS, 16_conservator.md -/
def cnScrubStatus_passes : Field := ⟨R.cnScrubStatus, 16, 16⟩
def cnScrubStatus_deferred : Field := ⟨R.cnScrubStatus, 0, 16⟩
/- CN_WAKE_FAULT, 16_conservator.md -/
def cnWakeFault_clear : Field := ⟨R.cnWakeFault, 31, 1⟩
def cnWakeFault_cause : Field := ⟨R.cnWakeFault, 28, 3⟩
def cnWakeFault_attempts : Field := ⟨R.cnWakeFault, 24, 4⟩
def cnWakeFault_status_lo : Field := ⟨R.cnWakeFault, 8, 8⟩
def cnWakeFault_fails : Field := ⟨R.cnWakeFault, 0, 8⟩
/- CN_WAKE_FAULT_TIME_LO, 16_conservator.md -/
def cnWakeFaultTimeLo_time : Field := ⟨R.cnWakeFaultTimeLo, 0, 32⟩
/- CN_WAKE_FAULT_TIME_HI, 16_conservator.md -/
def cnWakeFaultTimeHi_time : Field := ⟨R.cnWakeFaultTimeHi, 0, 32⟩
/- CN_CNT_CLEAR, 16_conservator.md -/
def cnCntClear_clear : Field := ⟨R.cnCntClear, 0, 1⟩
/- ID_VENDOR, 17_charter_and_startup.md -/
def idVendor_vendor : Field := ⟨R.idVendor, 0, 16⟩
/- ID_PART, 17_charter_and_startup.md -/
def idPart_part : Field := ⟨R.idPart, 0, 16⟩
/- ID_REV, 17_charter_and_startup.md -/
def idRev_rev : Field := ⟨R.idRev, 0, 8⟩
/- ID_SERIAL_LO, 17_charter_and_startup.md -/
def idSerialLo_serial : Field := ⟨R.idSerialLo, 0, 32⟩
/- ID_SERIAL_HI, 17_charter_and_startup.md -/
def idSerialHi_serial : Field := ⟨R.idSerialHi, 0, 32⟩
/- ID_CTRL, 17_charter_and_startup.md -/
def idCtrl_soft_reset : Field := ⟨R.idCtrl, 0, 1⟩
/- ID_RESET_CAUSE, 17_charter_and_startup.md -/
def idResetCause_warm_count : Field := ⟨R.idResetCause, 16, 16⟩
def idResetCause_cause : Field := ⟨R.idResetCause, 0, 5⟩
/- ID_FUSE, 17_charter_and_startup.md -/
def idFuse_key_programmed : Field := ⟨R.idFuse, 1, 1⟩
def idFuse_key_lock : Field := ⟨R.idFuse, 0, 1⟩
/- CH_CTRL, 17_charter_and_startup.md -/
def chCtrl_check : Field := ⟨R.chCtrl, 31, 1⟩
def chCtrl_load : Field := ⟨R.chCtrl, 30, 1⟩
/- CH_STATUS, 17_charter_and_startup.md -/
def chStatus_missing : Field := ⟨R.chStatus, 23, 9⟩
def chStatus_reading : Field := ⟨R.chStatus, 15, 1⟩
def chStatus_busy : Field := ⟨R.chStatus, 14, 1⟩
def chStatus_copy : Field := ⟨R.chStatus, 10, 2⟩
def chStatus_phase : Field := ⟨R.chStatus, 4, 3⟩
def chStatus_mode : Field := ⟨R.chStatus, 0, 3⟩
/- CH_EVENTS, 17_charter_and_startup.md -/
def chEvents_reapply_failed : Field := ⟨R.chEvents, 5, 1⟩
def chEvents_reapply_done : Field := ⟨R.chEvents, 4, 1⟩
def chEvents_check_done : Field := ⟨R.chEvents, 3, 1⟩
def chEvents_all_ranged : Field := ⟨R.chEvents, 2, 1⟩
def chEvents_bare : Field := ⟨R.chEvents, 1, 1⟩
def chEvents_loaded : Field := ⟨R.chEvents, 0, 1⟩
/- CH_EVENT_EN, 17_charter_and_startup.md -/
def chEventEn_enable : Field := ⟨R.chEventEn, 0, 6⟩
/- CH_COPY_A, 17_charter_and_startup.md -/
def chCopyA_valid : Field := ⟨R.chCopyA, 31, 1⟩
def chCopyA_error : Field := ⟨R.chCopyA, 24, 4⟩
def chCopyA_section : Field := ⟨R.chCopyA, 16, 8⟩
def chCopyA_record : Field := ⟨R.chCopyA, 0, 16⟩
/- CH_COPY_B, 17_charter_and_startup.md -/
def chCopyB_valid : Field := ⟨R.chCopyB, 31, 1⟩
def chCopyB_error : Field := ⟨R.chCopyB, 24, 4⟩
def chCopyB_section : Field := ⟨R.chCopyB, 16, 8⟩
def chCopyB_record : Field := ⟨R.chCopyB, 0, 16⟩
/- CH_SEQ_A, 17_charter_and_startup.md -/
def chSeqA_sequence : Field := ⟨R.chSeqA, 0, 32⟩
/- CH_SEQ_B, 17_charter_and_startup.md -/
def chSeqB_sequence : Field := ⟨R.chSeqB, 0, 32⟩
/- CH_APPLIED, 17_charter_and_startup.md -/
def chApplied_sequence : Field := ⟨R.chApplied, 0, 32⟩
/- CH_FLASH, 17_charter_and_startup.md -/
def chFlash_sfdp_ok : Field := ⟨R.chFlash, 31, 1⟩
def chFlash_read_mode : Field := ⟨R.chFlash, 28, 3⟩
def chFlash_density_log2 : Field := ⟨R.chFlash, 23, 5⟩
def chFlash_b_offset : Field := ⟨R.chFlash, 0, 12⟩
/- FI_FIRST word 0, 15_faults_and_injection.md -/
def fiFirst0_id : Field := ⟨R.fiFirst0, 24, 8⟩
def fiFirst0_class : Field := ⟨R.fiFirst0, 21, 3⟩
def fiFirst0_injected : Field := ⟨R.fiFirst0, 20, 1⟩
def fiFirst0_gallery : Field := ⟨R.fiFirst0, 16, 4⟩
def fiFirst0_instance : Field := ⟨R.fiFirst0, 0, 8⟩
/- FI_FIRST word 1, 15_faults_and_injection.md -/
def fiFirst1_detail : Field := ⟨R.fiFirst1, 0, 32⟩
/- FI_FIRST word 2, 15_faults_and_injection.md -/
def fiFirst2_time_lo : Field := ⟨R.fiFirst2, 0, 32⟩
/- FI_FIRST word 3, 15_faults_and_injection.md -/
def fiFirst3_time_hi : Field := ⟨R.fiFirst3, 0, 32⟩
end F

end Sys2Proof.Machine
end

