-- ==== Sys2Proof/Machine/RegMapRows.lean ====
section
/-! DEFINITION. The register map (R451 to R455): every register with its access masks (R12) and its cold-reset value, from the field tables of the chapters. -/

namespace Sys2Proof.Machine

/-- One row of the register map: `count` registers at `base + stride * i` of the block (R454). Masks: `rw` the RW and RWS bits, `keep` the
RWS bits alone, `w1c`/`w1s` the write-one bits, `dev` the RO bits (which the device writes). -/
structure RegRow where
  base   : Nat
  stride : Nat
  count  : Nat
  rw     : BitVec 32
  keep   : BitVec 32
  w1c    : BitVec 32
  w1s    : BitVec 32
  dev    : BitVec 32
  reset  : BitVec 32
  deriving DecidableEq, Repr

/-- Whether the offset `o` of the block is a register of the row. -/
def RegRow.hit (r : RegRow) (o : Nat) : Bool :=
  if r.stride = 0 then o == r.base
  else r.base ≤ o && (o - r.base) % r.stride == 0 && (o - r.base) / r.stride < r.count

def tkRows : List RegRow := [
  ⟨0x0, 0x0, 1, 0x7, 0x7, 0x0, 0x0, 0x0, 0x3⟩, -- TK_CTRL
  ⟨0x4, 0x0, 1, 0x0, 0x0, 0x0, 0x0, 0xfffff, 0xf500⟩, -- TK_STATUS
  ⟨0x8, 0x0, 1, 0x0, 0x0, 0x0, 0x0, 0xffffffff, 0x0⟩, -- TK_TIME_LO
  ⟨0xc, 0x0, 1, 0x0, 0x0, 0x0, 0x0, 0xffffffff, 0x0⟩, -- TK_TIME_HI
  ⟨0x10, 0x0, 1, 0x0, 0x0, 0x0, 0x0, 0xffffffff, 0x0⟩, -- TK_FRAME_NUM
  ⟨0x14, 0x0, 1, 0xffff, 0xffff, 0x0, 0x0, 0xffff0000, 0x38403840⟩, -- TK_FRAME_RATE
  ⟨0x18, 0x0, 1, 0x7e0f, 0x7e0f, 0x0, 0x0, 0x0, 0xf⟩, -- TK_REF_SEL
  ⟨0x1c, 0x0, 1, 0xff, 0xff, 0x0, 0x0, 0x0, 0x25⟩, -- TK_TAI_UTC
  ⟨0x20, 0x0, 1, 0xffffffff, 0xffffffff, 0x0, 0x0, 0x0, 0x3e80014⟩, -- TK_SERVO_CFG
  ⟨0x24, 0x0, 1, 0xffffffff, 0xffffffff, 0x0, 0x0, 0x0, 0x3e803e8⟩, -- TK_HOLD_CFG
  ⟨0x28, 0x0, 1, 0xffff, 0xffff, 0x0, 0x0, 0x0, 0x0⟩, -- TK_PPS_CAL
  ⟨0x2c, 0x0, 1, 0x0, 0x0, 0x0, 0x0, 0xffffffff, 0x0⟩, -- TK_OFFSET
  ⟨0x30, 0x0, 1, 0x0, 0x0, 0x0, 0x0, 0xffffffff, 0x0⟩, -- TK_RATE_ADJ
  ⟨0x34, 0x0, 1, 0x0, 0x0, 0x0, 0x0, 0xffffffff, 0x0⟩, -- TK_LAST_STEP_LO
  ⟨0x38, 0x0, 1, 0x0, 0x0, 0x0, 0x0, 0xffffffff, 0x0⟩, -- TK_LAST_STEP_HI
  ⟨0x3c, 0x0, 1, 0x0, 0x0, 0x0, 0x0, 0xffffffff, 0x0⟩, -- TK_HOLD_TIME
  ⟨0x40, 0x0, 1, 0xffffffff, 0xffffffff, 0x0, 0x0, 0x0, 0x80640000⟩, -- TK_PPS_OUT
  ⟨0x44, 0x0, 1, 0x0, 0x0, 0x3fff, 0x0, 0x0, 0x0⟩, -- TK_EVENTS
  ⟨0x50, 0x4, 4, 0xb00fffff, 0xb00fffff, 0x40000000, 0x0, 0x0, 0x0⟩, -- TK_ALARMn_CTRL
  ⟨0x60, 0x8, 4, 0xffffffff, 0xffffffff, 0x0, 0x0, 0x0, 0x0⟩, -- TK_ALARMn_LO
  ⟨0x64, 0x8, 4, 0xffffffff, 0xffffffff, 0x0, 0x0, 0x0, 0x0⟩ -- TK_ALARMn_HI
  ]

def gpRows : List RegRow := [
  ⟨0x0, 0x0, 1, 0x3, 0x3, 0x0, 0x0, 0x0, 0x0⟩, -- GP_LINK_CTRL
  ⟨0x4, 0x0, 1, 0x0, 0x0, 0x0, 0x0, 0x7f0f7, 0x0⟩, -- GP_LINK_STATUS
  ⟨0x8, 0x0, 1, 0x0, 0x0, 0x7f, 0x0, 0x0, 0x0⟩, -- GP_LINK_EVENTS
  ⟨0xc, 0x0, 1, 0x7f, 0x7f, 0x0, 0x0, 0x0, 0x7f⟩, -- GP_LINK_EVENT_EN
  ⟨0x10, 0x0, 1, 0x0, 0x0, 0x0, 0x0, 0xffffffff, 0x0⟩, -- GP_SYM_ERR
  ⟨0x14, 0x0, 1, 0x0, 0x0, 0x0, 0x0, 0xffffffff, 0x0⟩, -- GP_CRC_ERR
  ⟨0x18, 0x0, 1, 0x0, 0x0, 0x0, 0x0, 0xffffffff, 0x0⟩, -- GP_ARM_CORR
  ⟨0x1c, 0x0, 1, 0x0, 0x0, 0x0, 0x0, 0xffff, 0x0⟩, -- GP_ARM_FAIL
  ⟨0x20, 0x0, 1, 0x0, 0x0, 0x0, 0x0, 0xffffffff, 0x0⟩, -- GP_HIT_CNT
  ⟨0x24, 0x0, 1, 0xffff0000, 0xffff0000, 0x0, 0x0, 0xffff, 0x0⟩, -- GP_RANGE_CFG
  ⟨0x2c, 0x0, 1, 0x0, 0x0, 0x0, 0x0, 0x0, 0x0⟩, -- GP_CNT_CLEAR
  ⟨0x1010, 0x10, 62, 0x0, 0x0, 0x0, 0x0, 0x80ffffff, 0x0⟩, -- GP_RANGE_DEVa word 0
  ⟨0x1014, 0x10, 62, 0x0, 0x0, 0x0, 0x0, 0xffffffff, 0x0⟩, -- GP_RANGE_DEVa word 1
  ⟨0x1018, 0x10, 62, 0x0, 0x0, 0x0, 0x0, 0xffffffff, 0x0⟩, -- GP_RANGE_DEVa word 2
  ⟨0x101c, 0x10, 62, 0x0, 0x0, 0x0, 0x0, 0xffffffff, 0x0⟩, -- GP_RANGE_DEVa word 3
  ⟨0x40, 0x0, 1, 0xfffff, 0xfffff, 0x0, 0x0, 0x0, 0x30bb8⟩, -- GP_FRAME_CFG
  ⟨0x44, 0x0, 1, 0x0, 0x0, 0x0, 0x0, 0xffffffff, 0x0⟩, -- GP_XACT_CNT
  ⟨0x48, 0x0, 1, 0x0, 0x0, 0x0, 0x0, 0xffffffff, 0x0⟩, -- GP_BABBLE_CNT
  ⟨0x4c, 0x0, 1, 0x0, 0x0, 0x7f, 0x0, 0x0, 0x0⟩, -- GP_XACT_EVENTS
  ⟨0x50, 0x0, 1, 0x7f, 0x7f, 0x0, 0x0, 0x0, 0x7f⟩, -- GP_XACT_EVENT_EN
  ⟨0x54, 0x0, 1, 0x0, 0x0, 0x0, 0x0, 0xffffffff, 0x0⟩, -- GP_CUT_MAP_LO
  ⟨0x58, 0x0, 1, 0x0, 0x0, 0x0, 0x0, 0xffffffff, 0x0⟩, -- GP_CUT_MAP_HI
  ⟨0x5c, 0x0, 1, 0x0, 0x0, 0x0, 0x0, 0x0, 0x0⟩, -- GP_CUT_RELEASE
  ⟨0x60, 0x0, 1, 0x0, 0x0, 0x0, 0x0, 0xffff803f, 0x0⟩, -- GP_LAST_BABBLE
  ⟨0x64, 0x0, 1, 0x0, 0x0, 0x0, 0x0, 0x0, 0x0⟩, -- GP_XACT_CLEAR
  ⟨0x70, 0x0, 1, 0x1, 0x1, 0x0, 0x0, 0x0, 0x0⟩, -- GP_ACC_CTRL
  ⟨0x74, 0x0, 1, 0x0, 0x0, 0x0, 0x0, 0x0, 0x0⟩, -- GP_ACC_RESET
  ⟨0x78, 0x0, 1, 0x0, 0x0, 0x0, 0x0, 0x0, 0x0⟩, -- GP_ACC_UNBIND
  ⟨0x7c, 0x0, 1, 0x0, 0x0, 0x0, 0x0, 0x0, 0x0⟩, -- GP_ACC_RETRY
  ⟨0x80, 0x0, 1, 0x0, 0x0, 0x1ff, 0x0, 0x0, 0x0⟩, -- GP_ACC_EVENTS
  ⟨0x84, 0x0, 1, 0x1ff, 0x1ff, 0x0, 0x0, 0x0, 0x1ff⟩, -- GP_ACC_EVENT_EN
  ⟨0x88, 0x0, 1, 0x0, 0x0, 0x0, 0x0, 0xffffffbf, 0x0⟩, -- GP_ACC_STATUS
  ⟨0x1404, 0x4, 62, 0x0, 0x0, 0x0, 0x0, 0x7f03f1f, 0x0⟩, -- GP_DEV_STATEa
  ⟨0x1810, 0x10, 62, 0x0, 0x0, 0x0, 0x0, 0xffffffff, 0x0⟩, -- GP_DEV_IDa word 0
  ⟨0x1814, 0x10, 62, 0x0, 0x0, 0x0, 0x0, 0xffffffff, 0x0⟩, -- GP_DEV_IDa word 1
  ⟨0x1818, 0x10, 62, 0x0, 0x0, 0x0, 0x0, 0xffffffff, 0x0⟩, -- GP_DEV_IDa word 2
  ⟨0x181c, 0x10, 62, 0x0, 0x0, 0x0, 0x0, 0xffffffff, 0x0⟩ -- GP_DEV_IDa word 3
  ]

def cuRows : List RegRow := [
  ⟨0xc0, 0x0, 1, 0x0, 0x0, 0x0, 0x0, 0xffff007f, 0x0⟩, -- CU_ACC_STATUS
  ⟨0xc4, 0x4, 4, 0x0, 0x0, 0x0, 0x0, 0xffffffff, 0x0⟩, -- CU_ACC_RECw
  ⟨0xd4, 0x0, 1, 0x0, 0x0, 0x0, 0x0, 0x0, 0x0⟩, -- CU_ACC_POP
  ⟨0x100, 0x4, 8, 0x0, 0x0, 0x0, 0x0, 0xfff0fff, 0x0⟩, -- CU_CAT_STATUSn
  ⟨0x0, 0x0, 1, 0xff, 0xff, 0x0, 0x0, 0x0, 0x4b⟩, -- CU_ADMIT_CFG
  ⟨0x4, 0x0, 1, 0x0, 0x0, 0x1f, 0x0, 0x0, 0x0⟩, -- CU_EVENTS
  ⟨0x8, 0x0, 1, 0x1f, 0x1f, 0x0, 0x0, 0x0, 0x1e⟩, -- CU_EVENT_EN
  ⟨0x10, 0x0, 1, 0xffffffff, 0xffffffff, 0x0, 0x0, 0x0, 0x40404040⟩, -- CU_AGE_CFG0
  ⟨0x14, 0x0, 1, 0xffffff, 0xffffff, 0x0, 0x0, 0x0, 0x404040⟩, -- CU_AGE_CFG1
  ⟨0x18, 0x0, 1, 0x0, 0x0, 0x0, 0x0, 0xffff03ff, 0x0⟩, -- CU_DELAY_STATUS
  ⟨0x1c, 0x0, 1, 0x0, 0x0, 0x0, 0x0, 0x7ff07ff, 0x1a00260⟩, -- CU_TAG_STATUS
  ⟨0x20, 0x0, 1, 0x0, 0x0, 0x0, 0x0, 0xffffffff, 0xffff0000⟩, -- CU_PLAN_MARGIN
  ⟨0x28, 0x0, 1, 0xffff, 0x0, 0x0, 0x0, 0xc0ff0000, 0x0⟩, -- CU_RATE_CHECK
  ⟨0x2c, 0x0, 1, 0x0, 0x0, 0x0, 0x0, 0x0, 0x0⟩, -- CU_CLEAR
  ⟨0x200, 0x20, 8, 0x3fff, 0x3fff, 0x0, 0x0, 0x0, 0xfa0⟩, -- CU_PORTn_CFG
  ⟨0x204, 0x20, 8, 0x0, 0x0, 0x0, 0x0, 0xff8fffff, 0x0⟩, -- CU_PORTn_LOAD
  ⟨0x208, 0x20, 8, 0x0, 0x0, 0x0, 0x0, 0xffcfffff, 0x0⟩, -- CU_PORTn_PLAN
  ⟨0x20c, 0x20, 8, 0x0, 0x0, 0x0, 0x0, 0x3ff03ff, 0x0⟩, -- CU_PORTn_QUEUE
  ⟨0x210, 0x20, 8, 0x0, 0x0, 0x0, 0x0, 0xffff0fff, 0x0⟩, -- CU_PORTn_LATE
  ⟨0x214, 0x20, 8, 0x0, 0x0, 0x0, 0x0, 0xffffffff, 0x0⟩, -- CU_PORTn_URGENT
  ⟨0x218, 0x20, 8, 0x0, 0x0, 0x0, 0x0, 0xffff003f, 0x0⟩, -- CU_PORTn_REACH
  ⟨0x21c, 0x20, 8, 0x0, 0x0, 0x0, 0x0, 0xffffffff, 0x0⟩, -- CU_PORTn_BULK
  ⟨0x800, 0x4, 512, 0x0, 0x0, 0x0, 0x0, 0xffffffff, 0x0⟩ -- CU_SHED_MAPw
  ]

def pxRows : List RegRow := [
  ⟨0x0, 0x0, 1, 0x8000000f, 0x8000000f, 0x0, 0x0, 0x7f000000, 0x0⟩, -- PX_CTRL
  ⟨0x4, 0x0, 1, 0xefffefff, 0xefffefff, 0x0, 0x0, 0x0, 0x0⟩, -- PX_BIND
  ⟨0x8, 0x0, 1, 0xffff7fff, 0xffff7fff, 0x0, 0x0, 0x0, 0x0⟩, -- PX_REGION
  ⟨0xc, 0x0, 1, 0xff000000, 0xff000000, 0x0, 0x0, 0x1f0000, 0x0⟩, -- PX_STREAM_CFG
  ⟨0x10, 0x0, 1, 0xffffffff, 0xffffffff, 0x0, 0x0, 0x0, 0x0⟩, -- PX_RING_BASE_LO
  ⟨0x14, 0x0, 1, 0xffffffff, 0xffffffff, 0x0, 0x0, 0x0, 0x0⟩, -- PX_RING_BASE_HI
  ⟨0x18, 0x0, 1, 0xffffffff, 0xffffffff, 0x0, 0x0, 0x0, 0x0⟩, -- PX_SW_WORD_LO
  ⟨0x1c, 0x0, 1, 0xffffffff, 0xffffffff, 0x0, 0x0, 0x0, 0x0⟩, -- PX_SW_WORD_HI
  ⟨0x20, 0x0, 1, 0xffffffff, 0xffffffff, 0x0, 0x0, 0x0, 0x0⟩, -- PX_DEV_WORD_LO
  ⟨0x24, 0x0, 1, 0xffffffff, 0xffffffff, 0x0, 0x0, 0x0, 0x0⟩, -- PX_DEV_WORD_HI
  ⟨0x28, 0x0, 1, 0x0, 0x0, 0x0, 0x0, 0xffffffff, 0x0⟩, -- PX_DEV_IDX
  ⟨0x2c, 0x0, 1, 0x0, 0x0, 0x0, 0x0, 0xffffffff, 0x0⟩, -- PX_SW_IDX
  ⟨0x30, 0x0, 1, 0xf03f0000, 0xf03f0000, 0x0, 0x0, 0x0, 0xf0300000⟩, -- PX_QUAL
  ⟨0x34, 0x0, 1, 0xff00ffff, 0xff00ffff, 0x0, 0x0, 0x0, 0x1000000⟩, -- PX_APPLY
  ⟨0x40, 0x0, 1, 0x0, 0x0, 0x0, 0x0, 0xffffffff, 0x0⟩, -- PX_CNT_A
  ⟨0x44, 0x0, 1, 0x0, 0x0, 0x0, 0x0, 0xffffffff, 0x0⟩, -- PX_CNT_B
  ⟨0x48, 0x0, 1, 0x0, 0x0, 0x0, 0x0, 0xffffffff, 0x0⟩, -- PX_CNT_C
  ⟨0x4c, 0x0, 1, 0x0, 0x0, 0x0, 0x0, 0xffffffff, 0x0⟩, -- PX_CNT_D
  ⟨0x50, 0x0, 1, 0x0, 0x0, 0x0, 0x0, 0xffffffff, 0x0⟩, -- PX_LAST_TIME_LO
  ⟨0x54, 0x0, 1, 0x0, 0x0, 0x0, 0x0, 0xffffffff, 0x0⟩, -- PX_LAST_TIME_HI
  ⟨0x58, 0x0, 1, 0x0, 0x0, 0x0, 0x0, 0xffffffff, 0x0⟩ -- PX_LAST_FRAME
  ]

def gaRows0 : List RegRow := [
  ⟨0x100, 0x40, 8, 0x8f0007ff, 0x0, 0x0, 0x0, 0x0, 0x4000002⟩, -- GA_RINGr_CTRL
  ⟨0x104, 0x40, 8, 0xffffffff, 0x0, 0x0, 0x0, 0x0, 0x0⟩, -- GA_RINGr_BASE_LO
  ⟨0x108, 0x40, 8, 0xffffffff, 0x0, 0x0, 0x0, 0x0, 0x0⟩, -- GA_RINGr_BASE_HI
  ⟨0x10c, 0x40, 8, 0xffffffff, 0x0, 0x0, 0x0, 0x0, 0x0⟩, -- GA_RINGr_STAT_LO
  ⟨0x110, 0x40, 8, 0xffffffff, 0x0, 0x0, 0x0, 0x0, 0x0⟩, -- GA_RINGr_STAT_HI
  ⟨0x114, 0x40, 8, 0xffff, 0x0, 0x0, 0x0, 0x0, 0x0⟩, -- GA_RINGr_START
  ⟨0x118, 0x40, 8, 0x0, 0x0, 0x0, 0x0, 0xffffffff, 0x0⟩, -- GA_RINGr_POS
  ⟨0x11c, 0x40, 8, 0x0, 0x0, 0x0, 0x0, 0xe000ffff, 0x0⟩, -- GA_RINGr_RESUME
  ⟨0x120, 0x40, 8, 0x0, 0x0, 0x0, 0x0, 0xe7, 0x0⟩, -- GA_RINGr_STATE
  ⟨0x124, 0x40, 8, 0x0, 0x0, 0x0, 0x0, 0xff00ffff, 0x0⟩, -- GA_RINGr_HALT_IDX
  ⟨0x128, 0x40, 8, 0x0, 0x0, 0x0, 0x0, 0xffffffff, 0x0⟩, -- GA_RINGr_CNT
  ⟨0x300, 0x0, 1, 0x8f000000, 0x0, 0x0, 0x0, 0x0, 0x4000000⟩, -- GA_EVT_CTRL
  ⟨0x304, 0x0, 1, 0xffffffff, 0x0, 0x0, 0x0, 0x0, 0x0⟩, -- GA_EVT_BASE_LO
  ⟨0x308, 0x0, 1, 0xffffffff, 0x0, 0x0, 0x0, 0x0, 0x0⟩, -- GA_EVT_BASE_HI
  ⟨0x30c, 0x0, 1, 0xffffffff, 0x0, 0x0, 0x0, 0x0, 0x0⟩, -- GA_EVT_HEAD_LO
  ⟨0x310, 0x0, 1, 0xffffffff, 0x0, 0x0, 0x0, 0x0, 0x0⟩, -- GA_EVT_HEAD_HI
  ⟨0x314, 0x0, 1, 0xffffffff, 0x0, 0x0, 0x0, 0x0, 0x0⟩, -- GA_EVT_TAIL_LO
  ⟨0x318, 0x0, 1, 0xffffffff, 0x0, 0x0, 0x0, 0x0, 0x0⟩, -- GA_EVT_TAIL_HI
  ⟨0x31c, 0x0, 1, 0x0, 0x0, 0x0, 0x0, 0xffffffff, 0x0⟩, -- GA_EVT_POS
  ⟨0x320, 0x0, 1, 0x0, 0x0, 0x0, 0x0, 0xffff0007, 0x0⟩, -- GA_EVT_STATUS
  ⟨0x0, 0x0, 1, 0x0, 0x0, 0x0, 0x0, 0x10000000, 0x0⟩, -- GA_CTRL
  ⟨0x4, 0x0, 1, 0x0, 0x0, 0x0, 0x0, 0xffff0077, 0x0⟩, -- GA_STATUS
  ⟨0x8, 0x0, 1, 0x0, 0x0, 0x0, 0x0, 0x800fffff, 0x0⟩, -- GA_PASID
  ⟨0x400, 0x4, 16, 0x0, 0x0, 0x0, 0x0, 0xffffffff, 0x0⟩, -- GA_MBOX_INw
  ⟨0x440, 0x4, 16, 0xffffffff, 0x0, 0x0, 0x0, 0x0, 0x0⟩, -- GA_MBOX_OUTw
  ⟨0x480, 0x0, 1, 0x0, 0x0, 0xffff, 0x0, 0x0, 0x0⟩, -- GA_DB_IN
  ⟨0x484, 0x0, 1, 0x0, 0x0, 0x0, 0xffff, 0x0, 0x0⟩, -- GA_DB_OUT
  ⟨0xc00, 0x0, 1, 0x0, 0x0, 0x0, 0x0, 0xffff0f1f, 0x0⟩, -- GA_VIOL_STATUS
  ⟨0xc04, 0x0, 1, 0x0, 0x0, 0x0, 0x0, 0x0, 0x0⟩, -- GA_VIOL_CLEAR
  ⟨0xc40, 0x4, 16, 0x0, 0x0, 0x0, 0x0, 0xffff, 0x0⟩, -- GA_VIOL_CNTg
  ⟨0xd00, 0x10, 16, 0x0, 0x0, 0x0, 0x0, 0xffffffff, 0x0⟩, -- GA_VIOL_LOGe word 0
  ⟨0xd04, 0x10, 16, 0x0, 0x0, 0x0, 0x0, 0xffffffff, 0x0⟩, -- GA_VIOL_LOGe word 1
  ⟨0xd08, 0x10, 16, 0x0, 0x0, 0x0, 0x0, 0xffffffff, 0x0⟩, -- GA_VIOL_LOGe word 2
  ⟨0xd0c, 0x10, 16, 0x0, 0x0, 0x0, 0x0, 0xffffffff, 0x0⟩, -- GA_VIOL_LOGe word 3
  ⟨0x800, 0x0, 1, 0x0, 0x0, 0x0, 0x0, 0xffff, 0xffff⟩, -- IC_CLAIM
  ⟨0x804, 0x0, 1, 0x0, 0x0, 0x0, 0x0, 0x0, 0x0⟩, -- IC_COMPLETE
  ⟨0x808, 0x0, 1, 0xf, 0x0, 0x0, 0x0, 0x0, 0x0⟩, -- IC_THRESHOLD
  ⟨0x80c, 0x0, 1, 0x0, 0x0, 0x0, 0x0, 0xffff0f0f, 0x0⟩, -- IC_LEVEL
  ⟨0x810, 0x0, 1, 0x0, 0x0, 0x0, 0x0, 0x0, 0x0⟩, -- IC_SET
  ⟨0x814, 0x0, 1, 0xffff, 0x0, 0x0, 0x0, 0x0, 0x64⟩ -- IC_GCFG
  ]

def gaRows1 : List RegRow := [
  ⟨0x820, 0x0, 1, 0xffffffff, 0x0, 0x0, 0x0, 0x0, 0x0⟩, -- IC_ENABLE_LO
  ⟨0x824, 0x0, 1, 0xffffffff, 0x0, 0x0, 0x0, 0x0, 0x0⟩, -- IC_ENABLE_HI
  ⟨0x828, 0x0, 1, 0x0, 0x0, 0x0, 0x0, 0xffffffff, 0x0⟩, -- IC_PEND_LO
  ⟨0x82c, 0x0, 1, 0x0, 0x0, 0x0, 0x0, 0xffffffff, 0x0⟩, -- IC_PEND_HI
  ⟨0x830, 0x0, 1, 0x0, 0x0, 0x0, 0x0, 0xffffffff, 0x0⟩, -- IC_CLAIMED_LO
  ⟨0x834, 0x0, 1, 0x0, 0x0, 0x0, 0x0, 0xffffffff, 0x0⟩, -- IC_CLAIMED_HI
  ⟨0x900, 0x4, 64, 0xffffff0f, 0x0, 0x0, 0x0, 0x0, 0x100⟩ -- IC_SRCCFGs
  ]

def gaRows : List RegRow := gaRows0 ++ gaRows1

def mvRows : List RegRow := [
  ⟨0x0, 0x0, 1, 0x0, 0x0, 0x0, 0x0, 0xffff, 0xc000⟩, -- MV_STATUS
  ⟨0x4, 0x0, 1, 0x0, 0x0, 0x0, 0x0, 0xffffffff, 0x0⟩, -- MV_ERR_CNT
  ⟨0x8, 0x0, 1, 0x0, 0x0, 0x0, 0x0, 0x0, 0x0⟩, -- MV_CNT_CLEAR
  ⟨0x100, 0x20, 8, 0x1, 0x0, 0x0, 0x0, 0x0, 0x0⟩, -- MV_CHn_CTRL
  ⟨0x104, 0x20, 8, 0x1fffe0, 0x0, 0x0, 0x0, 0x0, 0x0⟩, -- MV_CHn_HEAD
  ⟨0x108, 0x20, 8, 0x0, 0x0, 0x0, 0x0, 0xf11fffff, 0x0⟩, -- MV_CHn_STATE
  ⟨0x10c, 0x20, 8, 0x0, 0x0, 0x0, 0x0, 0xffffffff, 0x0⟩, -- MV_CHn_CNT
  ⟨0x110, 0x20, 8, 0x0, 0x0, 0x0, 0x0, 0xffffffff, 0x0⟩ -- MV_CHn_LAST
  ]

def coRows : List RegRow := [
  ⟨0x0, 0x0, 1, 0x3, 0x3, 0x0, 0x0, 0x0, 0x3⟩, -- CO_CTRL
  ⟨0x4, 0x0, 1, 0x0, 0x0, 0x0, 0x0, 0x1fff07ff, 0x0⟩, -- CO_STATUS
  ⟨0x8, 0x0, 1, 0x0, 0x0, 0x3f, 0x0, 0x0, 0x0⟩, -- CO_EVENTS
  ⟨0xc, 0x0, 1, 0x3f, 0x3f, 0x0, 0x0, 0x0, 0x3f⟩, -- CO_EVENT_EN
  ⟨0x10, 0x0, 1, 0xfff, 0x0, 0x0, 0x0, 0x0, 0x0⟩, -- CO_ROUTE_IDX
  ⟨0x14, 0x0, 1, 0x0, 0x0, 0x0, 0x0, 0xf, 0x0⟩, -- CO_ROUTE_CMD
  ⟨0x20, 0x4, 8, 0xffffffff, 0x0, 0x0, 0x0, 0x0, 0x0⟩, -- CO_ROUTE_DATAw
  ⟨0x40, 0x0, 1, 0x0, 0x0, 0x0, 0x0, 0xffffffff, 0x0⟩, -- CO_REFLEX_CNT
  ⟨0x44, 0x0, 1, 0x0, 0x0, 0x0, 0x0, 0xfffffc00, 0x0⟩, -- CO_REFLEX_LAST
  ⟨0x48, 0x0, 1, 0x0, 0x0, 0x0, 0x0, 0xffffffff, 0x0⟩, -- CO_FWD_CNT
  ⟨0x50, 0x0, 1, 0xffffffff, 0xffffffff, 0x0, 0x0, 0x0, 0x100207d0⟩, -- CO_RETRY_CFG
  ⟨0x54, 0x0, 1, 0xffff, 0xffff, 0x0, 0x0, 0x0, 0x3e8⟩, -- CO_DISCARD_CFG
  ⟨0x58, 0x0, 1, 0x0, 0x0, 0x0, 0x0, 0x1ff01ff, 0x0⟩, -- CO_REMOTE_STATUS
  ⟨0x5c, 0x0, 1, 0x0, 0x0, 0x0, 0x0, 0xffffffff, 0x0⟩, -- CO_REMOTE_CNT
  ⟨0x60, 0x0, 1, 0x0, 0x0, 0x0, 0x0, 0xffff3f0f, 0x0⟩, -- CO_REMOTE_DENIED
  ⟨0x64, 0x0, 1, 0x0, 0x0, 0x0, 0x0, 0x0, 0x0⟩, -- CO_CNT_CLEAR
  ⟨0x80, 0x4, 16, 0xbf0f000f, 0xbf0f000f, 0x0, 0x0, 0x0, 0x0⟩, -- CO_REMOTE_MAPm
  ⟨0x100, 0x10, 8, 0x0, 0x0, 0x0, 0x0, 0xffffffff, 0x0⟩, -- CO_PWERR_LOGe word 0
  ⟨0x104, 0x10, 8, 0x0, 0x0, 0x0, 0x0, 0xffff, 0x0⟩, -- CO_PWERR_LOGe word 1
  ⟨0x108, 0x10, 8, 0x0, 0x0, 0x0, 0x0, 0xffffffff, 0x0⟩, -- CO_PWERR_LOGe word 2
  ⟨0x10c, 0x10, 8, 0x0, 0x0, 0x0, 0x0, 0xffffffff, 0x0⟩, -- CO_PWERR_LOGe word 3
  ⟨0x180, 0x0, 1, 0x0, 0x0, 0x0, 0x0, 0xffff007f, 0x0⟩, -- CO_PWERR_STATUS
  ⟨0x184, 0x0, 1, 0x0, 0x0, 0x0, 0x0, 0x0, 0x0⟩ -- CO_PWERR_CLEAR
  ]

def icShRows : List RegRow := [
  ⟨0x0, 0x4, 192, 0xffffffff, 0x0, 0x0, 0x0, 0x0, 0x100⟩, -- IC_SH_CFGs
  ⟨0x300, 0x4, 6, 0xffffffff, 0x0, 0x0, 0x0, 0x0, 0x0⟩, -- IC_SH_ENw
  ⟨0x320, 0x4, 6, 0x0, 0x0, 0x0, 0x0, 0xffffffff, 0x0⟩, -- IC_SH_PENDw
  ⟨0x340, 0x4, 6, 0x0, 0x0, 0x0, 0x0, 0xffffffff, 0x0⟩, -- IC_SH_CLAIMEDw
  ⟨0x360, 0x4, 6, 0x0, 0x0, 0x0, 0x0, 0xffffffff, 0x0⟩, -- IC_SH_FALLENw
  ⟨0x380, 0x0, 1, 0x0, 0x0, 0x0, 0x0, 0x0, 0x0⟩, -- IC_SH_SET
  ⟨0x384, 0x0, 1, 0x0, 0x0, 0x0, 0x0, 0xffffffff, 0x0⟩ -- IC_SH_STATUS
  ]

def spRows : List RegRow := [
  ⟨0x0, 0x0, 1, 0xf0, 0xf0, 0x0, 0x0, 0x0, 0x0⟩, -- SP_FAB_CTRL
  ⟨0x4, 0x0, 1, 0x3f0000ff, 0x3f0000ff, 0x0, 0x0, 0x0, 0x3e00000a⟩, -- SP_FAB_CFG
  ⟨0x8, 0x0, 1, 0x0, 0x0, 0x0, 0x0, 0x3bf, 0x3e⟩, -- SP_CHIP_ID
  ⟨0xc, 0x0, 1, 0x0, 0x0, 0x0, 0x0, 0xffff007f, 0xf8000000⟩, -- SP_FAB_STATUS
  ⟨0x10, 0x0, 1, 0x0, 0x0, 0xff, 0x0, 0x0, 0x0⟩, -- SP_FAB_EVENTS
  ⟨0x14, 0x0, 1, 0xff, 0xff, 0x0, 0x0, 0x0, 0xff⟩, -- SP_FAB_EVENT_EN
  ⟨0x18, 0x0, 1, 0x0, 0x0, 0x0, 0x0, 0xffffffff, 0x0⟩, -- SP_RENUMBER
  ⟨0x1c, 0x0, 1, 0x0, 0x0, 0x0, 0x0, 0xffffffff, 0x0⟩, -- SP_RENUMBER_FRAME
  ⟨0x20, 0x0, 1, 0x0, 0x0, 0x0, 0x0, 0xffffffff, 0x0⟩, -- SP_TAKE_CNT
  ⟨0x24, 0x0, 1, 0x0, 0x0, 0x0, 0x0, 0x0, 0x0⟩, -- SP_CNT_CLEAR
  ⟨0x100, 0x40, 4, 0x3, 0x3, 0x0, 0x0, 0x0, 0x0⟩, -- SP_Pm_CTRL
  ⟨0x104, 0x40, 4, 0x0, 0x0, 0x0, 0x0, 0xff0f0007, 0xf8000000⟩, -- SP_Pm_STATUS
  ⟨0x108, 0x40, 4, 0x0, 0x0, 0x7f, 0x0, 0x0, 0x0⟩, -- SP_Pm_EVENTS
  ⟨0x10c, 0x40, 4, 0x7f, 0x7f, 0x0, 0x0, 0x0, 0x7f⟩, -- SP_Pm_EVENT_EN
  ⟨0x110, 0x40, 4, 0x0, 0x0, 0x0, 0x0, 0xffffffff, 0x0⟩, -- SP_Pm_ERR
  ⟨0x114, 0x40, 4, 0x0, 0x0, 0x0, 0x0, 0x80ffffff, 0x0⟩, -- SP_Pm_RANGE
  ⟨0x118, 0x40, 4, 0xffff, 0xffff, 0x0, 0x0, 0x0, 0x0⟩, -- SP_Pm_ASYM
  ⟨0x11c, 0x40, 4, 0x0, 0x0, 0x0, 0x0, 0xffffffff, 0x0⟩, -- SP_Pm_TRAFFIC
  ⟨0x120, 0x40, 4, 0x0, 0x0, 0x0, 0x0, 0x0, 0x0⟩, -- SP_Pm_CNT_CLEAR
  ⟨0x400, 0x4, 62, 0xc0000003, 0xc0000003, 0x0, 0x0, 0xf00, 0x0⟩, -- SP_ROUTEd
  ⟨0x600, 0x8, 62, 0x0, 0x0, 0x0, 0x0, 0xffffffff, 0x0⟩, -- SP_SERIALd_LO
  ⟨0x604, 0x8, 62, 0x0, 0x0, 0x0, 0x0, 0xffffffff, 0x0⟩ -- SP_SERIALd_HI
  ]

def twRows : List RegRow := [
  ⟨0x0, 0x0, 1, 0x1, 0x1, 0x0, 0x0, 0x0, 0x0⟩, -- TW_CTRL
  ⟨0x4, 0x0, 1, 0xffff00ff, 0xffff00ff, 0x0, 0x0, 0x0, 0x7d00000⟩, -- TW_CFG
  ⟨0x8, 0x0, 1, 0x0, 0x0, 0x0, 0x0, 0xffffc0ff, 0xf80000⟩, -- TW_STATUS
  ⟨0xc, 0x0, 1, 0x0, 0x0, 0x7f, 0x0, 0x0, 0x0⟩, -- TW_EVENTS
  ⟨0x10, 0x0, 1, 0x7f, 0x7f, 0x0, 0x0, 0x0, 0x7f⟩, -- TW_EVENT_EN
  ⟨0x14, 0x0, 1, 0xffffffff, 0xffffffff, 0x0, 0x0, 0x0, 0x0⟩, -- TW_PARTNER_LO
  ⟨0x18, 0x0, 1, 0xffffffff, 0xffffffff, 0x0, 0x0, 0x0, 0x0⟩, -- TW_PARTNER_HI
  ⟨0x1c, 0x0, 1, 0x0, 0x0, 0x0, 0x0, 0xffffffff, 0x0⟩, -- TW_LAST_SWITCH
  ⟨0x20, 0x0, 1, 0x0, 0x0, 0x0, 0x0, 0xffffffff, 0x0⟩, -- TW_CNT
  ⟨0x24, 0x0, 1, 0x0, 0x0, 0x0, 0x0, 0xffffffff, 0x0⟩, -- TW_MIRROR
  ⟨0x28, 0x0, 1, 0x0, 0x0, 0x0, 0x0, 0x0, 0x0⟩, -- TW_CLEAR
  ⟨0x2c, 0x0, 1, 0x0, 0x0, 0x0, 0x0, 0xffffffff, 0x0⟩, -- TW_FRAME_DIFF
  ⟨0x40, 0x4, 8, 0x0, 0x0, 0x0, 0x0, 0x80ffffff, 0x0⟩ -- TW_HOPn
  ]

def rgRows : List RegRow := [
  ⟨0x0, 0x0, 1, 0x7, 0x7, 0x0, 0x0, 0x0, 0x1⟩, -- RG_CTRL
  ⟨0x4, 0x0, 1, 0x0, 0x0, 0x0, 0x0, 0xf, 0x0⟩, -- RG_STATUS
  ⟨0x8, 0x0, 1, 0x0, 0x0, 0x0, 0x0, 0xfffff, 0x0⟩, -- RG_WRITE_PTR
  ⟨0xc, 0x0, 1, 0x0, 0x0, 0x0, 0x0, 0xffffffff, 0x0⟩, -- RG_COUNT
  ⟨0x10, 0x0, 1, 0x0, 0x0, 0x0, 0x0, 0xffffffff, 0x0⟩, -- RG_MISSED
  ⟨0x14, 0x0, 1, 0xffff8, 0x0, 0x0, 0x0, 0x0, 0x0⟩, -- RG_CURSOR
  ⟨0x18, 0x0, 1, 0x0, 0x0, 0xf, 0x0, 0x0, 0x0⟩, -- RG_EVENTS
  ⟨0x1c, 0x0, 1, 0xf, 0xf, 0x0, 0x0, 0x0, 0x6⟩, -- RG_EVENT_EN
  ⟨0x20, 0x0, 1, 0x0, 0x0, 0x0, 0x0, 0xffffffff, 0x0⟩, -- RG_LAST_TAKE_LO
  ⟨0x24, 0x0, 1, 0x0, 0x0, 0x0, 0x0, 0xffffffff, 0x0⟩, -- RG_LAST_TAKE_HI
  ⟨0x28, 0x0, 1, 0x0, 0x0, 0x0, 0x0, 0xffff3fff, 0x0⟩, -- RG_LAST_TAKE
  ⟨0x30, 0x0, 1, 0x1ffff, 0x1ffff, 0x0, 0x0, 0x0, 0x1⟩, -- RG_TAKE_CFG
  ⟨0x200, 0x10, 32, 0xc0ffc0ff, 0xc0ffc0ff, 0x0, 0x0, 0x2000, 0x0⟩, -- RG_TRIGt_CFG
  ⟨0x204, 0x10, 32, 0xffffffff, 0xffffffff, 0x0, 0x0, 0x0, 0x0⟩, -- RG_TRIGt_MATCH
  ⟨0x208, 0x10, 32, 0xffffffff, 0xffffffff, 0x0, 0x0, 0x0, 0x0⟩, -- RG_TRIGt_SEL0
  ⟨0x20c, 0x10, 32, 0xffffffff, 0xffffffff, 0x0, 0x0, 0x0, 0x0⟩ -- RG_TRIGt_SEL1
  ]

def vtRows : List RegRow := [
  ⟨0x0, 0x4, 1024, 0x0, 0x0, 0x0, 0x0, 0xffffffff, 0x0⟩ -- VT_WORDi
  ]

def fiRows : List RegRow := [
  ⟨0x0, 0x0, 1, 0x0, 0x0, 0x0, 0x0, 0x0, 0x0⟩, -- FI_UNLOCK
  ⟨0x4, 0x0, 1, 0x0, 0x0, 0x0, 0x0, 0x30f1f, 0x0⟩, -- FI_STATUS
  ⟨0x8, 0x0, 1, 0x0, 0x0, 0x7fffe, 0x0, 0x0, 0x0⟩, -- FI_SUMMARY
  ⟨0xc, 0x0, 1, 0x7fffe, 0x7fffe, 0x0, 0x0, 0x0, 0x7fffe⟩, -- FI_SUMMARY_EN
  ⟨0x10, 0x0, 1, 0x0, 0x0, 0x0, 0x0, 0x100ff, 0x0⟩, -- FI_FAULT
  ⟨0x14, 0x0, 1, 0xffff, 0xffff, 0x0, 0x0, 0x0, 0x14⟩, -- FI_WDOG_CFG
  ⟨0x18, 0x0, 1, 0x0, 0x0, 0x0, 0x0, 0x0, 0x0⟩, -- FI_CLEAR
  ⟨0x104, 0x4, 18, 0x3, 0x3, 0x0, 0x0, 0x0, 0x0⟩, -- FI_CFGd
  ⟨0x184, 0x4, 18, 0x0, 0x0, 0x0, 0x0, 0xffffffff, 0x0⟩, -- FI_CNTd
  ⟨0x208, 0x8, 18, 0xc0ffffff, 0x0, 0x0, 0x0, 0x20000000, 0xff0000⟩, -- FI_INJd_CTRL
  ⟨0x20c, 0x8, 18, 0x3fffff, 0x0, 0x0, 0x0, 0x0, 0x0⟩, -- FI_INJd_ADDR
  ⟨0x400, 0x10, 16, 0x0, 0x0, 0x0, 0x0, 0xffff00ff, 0x0⟩, -- FI_LOGe word 0
  ⟨0x404, 0x10, 16, 0x0, 0x0, 0x0, 0x0, 0xffffffff, 0x0⟩, -- FI_LOGe word 1
  ⟨0x408, 0x10, 16, 0x0, 0x0, 0x0, 0x0, 0xffffffff, 0x0⟩, -- FI_LOGe word 2
  ⟨0x40c, 0x10, 16, 0x0, 0x0, 0x0, 0x0, 0xffffffff, 0x0⟩, -- FI_LOGe word 3
  ⟨0x20, 0x0, 1, 0x0, 0x0, 0x0, 0x0, 0xffff00ff, 0x0⟩, -- FI_FIRST word 0
  ⟨0x24, 0x0, 1, 0x0, 0x0, 0x0, 0x0, 0xffffffff, 0x0⟩, -- FI_FIRST word 1
  ⟨0x28, 0x0, 1, 0x0, 0x0, 0x0, 0x0, 0xffffffff, 0x0⟩, -- FI_FIRST word 2
  ⟨0x2c, 0x0, 1, 0x0, 0x0, 0x0, 0x0, 0xffffffff, 0x0⟩ -- FI_FIRST word 3
  ]

def cnRows : List RegRow := [
  ⟨0x0, 0x0, 1, 0xff000107, 0xff000100, 0x0, 0x0, 0x0, 0x14000100⟩, -- CN_CTRL
  ⟨0x4, 0x0, 1, 0x0, 0x0, 0x0, 0x0, 0xff8000e7, 0x0⟩, -- CN_STATUS
  ⟨0x8, 0x0, 1, 0x0, 0x0, 0xff, 0x0, 0x0, 0x0⟩, -- CN_EVENTS
  ⟨0xc, 0x0, 1, 0xff, 0xff, 0x0, 0x0, 0x0, 0xff⟩, -- CN_EVENT_EN
  ⟨0x10, 0x0, 1, 0x80073fff, 0x80073fff, 0x0, 0x0, 0x0, 0x10f00⟩, -- CN_WAKE_EN
  ⟨0x14, 0x0, 1, 0x0, 0x0, 0x0, 0x0, 0xff00ffff, 0x0⟩, -- CN_WAKE_CAUSE
  ⟨0x18, 0x0, 1, 0xffff, 0xffff, 0x0, 0x0, 0x0, 0xfa0⟩, -- CN_BUDGET
  ⟨0x1c, 0x0, 1, 0x0, 0x0, 0x0, 0x0, 0xffffffff, 0x0⟩, -- CN_ACCOUNT
  ⟨0x20, 0x0, 1, 0x0, 0x0, 0x0, 0x0, 0xffffffff, 0x0⟩, -- CN_CHARGES
  ⟨0x24, 0x0, 1, 0x0, 0x0, 0x0, 0x0, 0x1ff000ff, 0x0⟩, -- CN_PERMIT_STATUS
  ⟨0x28, 0x0, 1, 0x0, 0x0, 0x0, 0x0, 0xffffffff, 0x0⟩, -- CN_PERMIT_CNT
  ⟨0x2c, 0x0, 1, 0xffff, 0xffff, 0x0, 0x0, 0x0, 0x64⟩, -- CN_PERMIT_CFG
  ⟨0x30, 0x0, 1, 0xffc0ffff, 0xffc0ffff, 0x0, 0x0, 0x0, 0xa2800a04⟩, -- CN_AVS_CFG
  ⟨0x34, 0x0, 1, 0x0, 0x0, 0x0, 0x0, 0xffff03ff, 0x320⟩, -- CN_SUPPLY
  ⟨0x38, 0x0, 1, 0x0, 0x0, 0x0, 0x0, 0xffffffff, 0x0⟩, -- CN_PACE
  ⟨0x3c, 0x0, 1, 0x0, 0x0, 0x0, 0x0, 0xffff, 0x0⟩, -- CN_PACE_CAL
  ⟨0x40, 0x0, 1, 0x80017f7f, 0x80017f7f, 0x0, 0x0, 0x0, 0x80004140⟩, -- CN_PMB_CFG
  ⟨0x44, 0x0, 1, 0x0, 0x0, 0x0, 0x0, 0xffffffff, 0x0⟩, -- CN_PMB_STATUS
  ⟨0x48, 0x0, 1, 0xffff, 0xffff, 0x0, 0x0, 0x0, 0x3c⟩, -- CN_SCRUB_CFG
  ⟨0x4c, 0x0, 1, 0x0, 0x0, 0x0, 0x0, 0xffffffff, 0x0⟩, -- CN_SCRUB_STATUS
  ⟨0x50, 0x0, 1, 0x0, 0x0, 0x0, 0x0, 0x7f00ffff, 0x0⟩, -- CN_WAKE_FAULT
  ⟨0x54, 0x0, 1, 0x0, 0x0, 0x0, 0x0, 0xffffffff, 0x0⟩, -- CN_WAKE_FAULT_TIME_LO
  ⟨0x58, 0x0, 1, 0x0, 0x0, 0x0, 0x0, 0xffffffff, 0x0⟩, -- CN_WAKE_FAULT_TIME_HI
  ⟨0x5c, 0x0, 1, 0x0, 0x0, 0x0, 0x0, 0x0, 0x0⟩ -- CN_CNT_CLEAR
  ]

def idRows : List RegRow := [
  ⟨0x0, 0x0, 1, 0x0, 0x0, 0x0, 0x0, 0xffff, 0x1f6a⟩, -- ID_VENDOR
  ⟨0x4, 0x0, 1, 0x0, 0x0, 0x0, 0x0, 0xffff, 0x4880⟩, -- ID_PART
  ⟨0x8, 0x0, 1, 0x0, 0x0, 0x0, 0x0, 0xff, 0x1⟩, -- ID_REV
  ⟨0xc, 0x0, 1, 0x0, 0x0, 0x0, 0x0, 0xffffffff, 0x0⟩, -- ID_SERIAL_LO
  ⟨0x10, 0x0, 1, 0x0, 0x0, 0x0, 0x0, 0xffffffff, 0x0⟩, -- ID_SERIAL_HI
  ⟨0x14, 0x0, 1, 0x0, 0x0, 0x0, 0x0, 0x0, 0x0⟩, -- ID_CTRL
  ⟨0x18, 0x0, 1, 0x0, 0x0, 0x0, 0x0, 0xffff001f, 0x1⟩, -- ID_RESET_CAUSE
  ⟨0x1c, 0x0, 1, 0x0, 0x0, 0x0, 0x0, 0x3, 0x0⟩ -- ID_FUSE
  ]

def chRows : List RegRow := [
  ⟨0x0, 0x0, 1, 0x0, 0x0, 0x0, 0x0, 0x0, 0x0⟩, -- CH_CTRL
  ⟨0x4, 0x0, 1, 0x0, 0x0, 0x0, 0x0, 0xff80cc77, 0x0⟩, -- CH_STATUS
  ⟨0x8, 0x0, 1, 0x0, 0x0, 0x3f, 0x0, 0x0, 0x0⟩, -- CH_EVENTS
  ⟨0xc, 0x0, 1, 0x3f, 0x3f, 0x0, 0x0, 0x0, 0x3f⟩, -- CH_EVENT_EN
  ⟨0x10, 0x0, 1, 0x0, 0x0, 0x0, 0x0, 0x8fffffff, 0x0⟩, -- CH_COPY_A
  ⟨0x18, 0x0, 1, 0x0, 0x0, 0x0, 0x0, 0x8fffffff, 0x0⟩, -- CH_COPY_B
  ⟨0x14, 0x0, 1, 0x0, 0x0, 0x0, 0x0, 0xffffffff, 0x0⟩, -- CH_SEQ_A
  ⟨0x1c, 0x0, 1, 0x0, 0x0, 0x0, 0x0, 0xffffffff, 0x0⟩, -- CH_SEQ_B
  ⟨0x20, 0x0, 1, 0x0, 0x0, 0x0, 0x0, 0xffffffff, 0x0⟩, -- CH_APPLIED
  ⟨0x24, 0x0, 1, 0x0, 0x0, 0x0, 0x0, 0xff800fff, 0x0⟩ -- CH_FLASH
  ]

end Sys2Proof.Machine
end

