-- ==== Sys2Proof/Machine/RegMap.lean ====
section
/-! DEFINITION. The register map as functions of the BAR0 offset (R451 to R455): the row of a register, its reset value. -/

namespace Sys2Proof.Machine

/-- The rows of the block that holds the offset, and the offset within the block or page (R451). -/
def blockRows (off : Nat) : List RegRow × Nat :=
  if off < 0x1000 then (idRows, off)
  else if off < 0x2000 then (tkRows, off - 0x1000)
  else if off < 0x3000 then (cnRows, off - 0x2000)
  else if off < 0x4000 then (chRows, off - 0x3000)
  else if off < 0x5000 then (fiRows, off - 0x4000)
  else if off < 0x6000 then (rgRows, off - 0x5000)
  else if off < 0x7000 then ([], 0)
  else if off < 0x8000 then (vtRows, off - 0x7000)
  else if off < 0x9000 then (cuRows, off - 0x8000)
  else if off < 0xA000 then (mvRows, off - 0x9000)
  else if off < 0xC000 then (coRows, off - 0xA000)
  else if off < 0xD000 then (spRows, off - 0xC000)
  else if off < 0xE000 then (twRows, off - 0xD000)
  else if off < 0xF000 then (icShRows, off - 0xE000)
  else if off < 0x10000 then ([], 0)
  else if off < 0x20000 then (gaRows, off % 0x1000)
  else if off < 0x40000 then (gpRows, off % 0x4000)
  else if off < 0x80000 then (pxRows, off % 0x80)
  else ([], 0)

/-- Whether the offset is a word of the MSI-X table (R310). -/
def isMsix (off : Nat) : Bool := 0x800 ≤ off && off < 0x910 && off % 4 == 0

/-- The row of the MSI-X table word: address low, address high, data, vector control, as the PCI Express Base Specification lays them out
(PRESUMED, log entry 4). -/
def msixRow (off : Nat) : RegRow :=
  match off / 4 % 4 with
  | 0 => ⟨off, 0, 1, 0xFFFFFFFC, 0, 0, 0, 0, 0⟩
  | 3 => ⟨off, 0, 1, 1, 0, 0, 0, 0, 1⟩
  | _ => ⟨off, 0, 1, 0xFFFFFFFF, 0, 0, 0, 0, 0⟩

/-- Registers that exist in gallery page 0 only, or in no page but 0's complement (R320, R322, R324). -/
def pageAbsent (g o : Nat) : Bool :=
  if g = 0 then (0x400 ≤ o && o < 0x488) || o == 0x814 || o == 0x900 + 4 * 12 || o == 0x900 + 4 * 15
  else (0xC00 ≤ o && o < 0xE00) || (0x900 + 4 * 14 ≤ o && o < 0x900 + 4 * 32)

/-- The register at an offset, if the manual defines one there (R16). -/
def regRow (off : Nat) : Option RegRow :=
  if off % 4 ≠ 0 then none
  else if isMsix off then some (msixRow off)
  else if off == 0xC00 || off == 0xC04 then some ⟨off, 0, 1, 0, 0, 0, 0, 0xFFFFFFFF, 0⟩
  else if 0x10000 ≤ off && off < 0x20000 && pageAbsent (off / 0x1000 - 0x10) (off % 0x1000) then none
  else (blockRows off).1.find? (·.hit (blockRows off).2)

/-- The value of the register at an offset after a cold reset (R453): the row's, but for gallery page 0's GA_CTRL and GA_STATUS, IC_SRCCFG of
a source that does not exist, FI_CFG of detectors 0x02, 0x0F and 0x10, and the owner of mover channels 6 and 7. -/
def resetWord (off : Nat) : Word :=
  if off == 0x10000 then 0x10000000
  else if off == 0x10004 then 1
  else if off == R.mvChCtrl 6 || off == R.mvChCtrl 7 then 1
  else if off == R.fiCfg 2 || off == R.fiCfg 0x0F || off == R.fiCfg 0x10 then 2
  else match regRow off with
  | some r => r.reset
  | none => 0

/-- The bits of a register that survive a warm reset by their access code (R12). -/
def keepMask (off : Nat) : Word :=
  match regRow off with
  | some r => r.keep
  | none => 0

end Sys2Proof.Machine
end

