-- ==== Sys2Proof/Config.lean ====
section
/-! DEFINITION. What the manual leaves to the device: a free value, of which nothing is known. -/

namespace Sys2Proof

/-- The free value drawn at the n-th draw. It has no body: no statement can rest on what it is. Each use of it is a value the manual leaves
open (State.free counts the draws; log entry 1). -/
opaque Config.freeValue : Nat → BitVec 64

/-- The number of posted-write buffers of the Courier (R297). The manual gives no number, and nothing is known of it here. -/
opaque Config.postedBuffers : Nat

/-- The vendor's manufacturer code in IDCODE, which the manual does not give (R478). -/
opaque Config.manufacturer : BitVec 11

/-- The linear16 exponent of the core regulator, the low five bits of its answer to VOUT_MODE as a signed number (R420). It is the regulator's. -/
opaque Config.voutMode : BitVec 5

end Sys2Proof
end

