-- ==== Sys2Proof/Machine/Codes.lean ====
section
/-! DEFINITION. The codes of the wires: 8b/10b symbols and ordered sets (R67, R70, R86), CRC-16 and CRC-32C (R77, R78), the Reed–Solomon armour (R80
to R82), the packet envelope and the receive checks (R74, R75, R83). -/

namespace Sys2Proof.Machine

/-! ### PMBus (R420) -/

/-- A voltage in mV in linear16 form with exponent e: the nearest mantissa, a half going up (log entry 183). -/
def linear16 (e : Int) (mv : Nat) : Nat :=
  if e < 0 then (mv * 2 ^ e.natAbs + 500) / 1000 else (mv + 500 * 2 ^ e.natAbs) / (1000 * 2 ^ e.natAbs)

/-- The data of a VOUT_COMMAND for a setpoint in mV, in the form that VOUT_MODE has told (R420). -/
def voutData (mv : Nat) : List Byte := leBytes 2 (linear16 Config.voutMode.toInt mv)

/-! ### Symbols (R67, R70)

PRESUMED (log 150): the tables are those of IEEE 802.3 clause 36, which the manual names and does not print. -/

/-- The control symbols that are used: K28.5 of IDLE, TS and SUS sets, the start delimiters SFS and SOP, the end delimiters EOP and EOB (R70). -/
def symComma : Sym := .k 0xBC
def symSfs : Sym := .k 0x3C
def symSop : Sym := .k 0xFB
def symEop : Sym := .k 0xFD
def symEob : Sym := .k 0xFE
def controls : List Sym := [symComma, symSfs, symSop, symEop, symEob]

/-- Sub-blocks abcdei for EDCBA from 0 to 31, at negative running disparity. -/
def sub6 : List Nat :=
  [0b100111, 0b011101, 0b101101, 0b110001, 0b110101, 0b101001, 0b011001, 0b111000,
   0b111001, 0b100101, 0b010101, 0b110100, 0b001101, 0b101100, 0b011100, 0b010111,
   0b011011, 0b100011, 0b010011, 0b110010, 0b001011, 0b101010, 0b011010, 0b111010,
   0b110011, 0b100110, 0b010110, 0b110110, 0b001110, 0b101110, 0b011110, 0b101011]

/-- Sub-blocks fghj for HGF from 0 to 7, at negative running disparity. -/
def sub4 : List Nat := [0b1011, 0b1001, 0b0101, 0b1100, 0b1101, 0b1010, 0b0110, 0b1110]

/-- The groups of the control symbols at negative running disparity; at positive each is the complement. -/
def controlGroups : List (Sym × Nat) :=
  [(symComma, 0b0011111010), (symSfs, 0b0011111001), (symSop, 0b1101101000), (symEop, 0b1011101000), (symEob, 0b0111101000)]

/-- The ones among the low n bits. -/
def onesIn : Nat → Nat → Nat
  | 0, _ => 0
  | n + 1, x => x % 2 + onesIn n (x / 2)

/-- A sub-block of n bits has as many ones as zeros. -/
def even (n x : Nat) : Bool := 2 * onesIn n x == n

/-- The form of a sub-block at a running disparity: at positive the complement where it is not even, or where `swap` says that an even one
alternates. -/
def atRd (rd swap : Bool) (n v : Nat) : Nat := if rd && (swap || !even n v) then 2 ^ n - 1 - v else v

/-- The running disparity after a sub-block: the sign of its ones over its zeros, or, where they are as many, of the halves 000111 and 0011. -/
def nextRd (rd : Bool) (n v : Nat) : Bool :=
  if even n v then (if v = 2 ^ (n / 2) - 1 then true else if v = 2 ^ n - 2 ^ (n / 2) then false else rd) else n < 2 * onesIn n v

/-- The running disparity after a code group, sub-block by sub-block, whether or not the group is in the tables. -/
def groupRd (rd : Bool) (v : Nat) : Bool := nextRd (nextRd rd 6 (v / 16)) 4 (v % 16)

/-- The sub-block of EDCBA = x. -/
def six (rd : Bool) (x : Nat) : Nat := atRd rd (x == 7) 6 (sub6.getD x 0)

/-- The sub-block of HGF = y after that of x; A7 takes the place of P7 where a run of five would form. -/
def four (rd : Bool) (x y : Nat) : Nat :=
  let a7 := if rd then [11, 13, 14].contains x else [17, 18, 20].contains x
  atRd rd (y == 3) 4 (if y = 7 && a7 then 0b0111 else sub4.getD y 0)

/-- The code group of a symbol and the running disparity after it. Of what is not sent the group is 0. -/
def groupOf (rd : Bool) (x : Sym) : BitVec 10 × Bool :=
  match x with
  | .d b =>
    let v := six rd (b.toNat % 32)
    let r := nextRd rd 6 v
    let w := four r (b.toNat % 32) (b.toNat / 32)
    (BitVec.ofNat 10 (v * 16 + w), nextRd r 4 w)
  | x => match controlGroups.find? (·.1 == x) with
    | some g => (BitVec.ofNat 10 (atRd rd true 10 g.2), groupRd rd (atRd rd true 10 g.2))
    | none => (0, rd)

/-- The code groups of symbols from a running disparity on. -/
def groupsOf : Bool → List Sym → List (BitVec 10)
  | _, [] => []
  | rd, x :: xs => (groupOf rd x).1 :: groupsOf (groupOf rd x).2 xs

/-- The symbol of a group that is in order at a running disparity. -/
def symAt (rd : Bool) (g : Nat) : Option Sym :=
  match controlGroups.find? fun c => atRd rd true 10 c.2 == g with
  | some c => some c.1
  | none =>
    match (List.range 32).find? fun x => six rd x == g / 16 with
    | none => none
    | some x => ((List.range 8).find? fun y => four (nextRd rd 6 (g / 16)) x y == g % 16).map fun y => .d (BitVec.ofNat 8 (y * 32 + x))

/-- What a receiver makes of code groups: the symbols and the running-disparity errors. A group that is in order only at the other disparity is
its symbol, and an error. -/
def readGroups : Bool → List (BitVec 10) → List Sym × Nat
  | _, [] => ([], 0)
  | rd, g :: gs =>
    let v := g.toNat
    let right := symAt rd v
    let x := match right with
      | some x => some x
      | none => symAt (!rd) v
    let wrong : Bool := right.isNone && x.isSome
    let y := readGroups (groupRd rd v) gs
    (x.getD .bad :: y.1, y.2 + b2n wrong)

end Sys2Proof.Machine

namespace Sys2Proof

/-- A received packet's symbols, its start delimiter, the symbols after it, its disparity errors. -/
def RxPacket.all (p : RxPacket) : List Sym := (Machine.readGroups p.rd p.groups).1
def RxPacket.start (p : RxPacket) : Sym := p.all.headD .bad
def RxPacket.syms (p : RxPacket) : List Sym := p.all.drop 1
def RxPacket.disp (p : RxPacket) : Nat := (Machine.readGroups p.rd p.groups).2
def SpanRx.all (p : SpanRx) : List Sym := (Machine.readGroups p.rd p.groups).1
def SpanRx.start (p : SpanRx) : Sym := p.all.headD .bad
def SpanRx.syms (p : SpanRx) : List Sym := p.all.drop 1

/-- Whether a symbol counts as a code violation: no code group, or a control symbol that is not used (R70). -/
def Sym.violation (x : Sym) : Bool :=
  match x with
  | .d _ => false
  | x => !Machine.controls.contains x

end Sys2Proof

namespace Sys2Proof.Machine

/-- The symbols of a packet: the start delimiter, the bytes, EOP or EOB (R71, R74). -/
def packetSyms (start : Sym) (bytes : List Byte) (good : Bool) : List Sym :=
  start :: bytes.map .d ++ [if good then symEop else symEob]

/-- The code groups that a packet leaves as. Every packet follows an IDLE set, after which the running disparity is negative (R70, R72). -/
def wireOf (start : Sym) (bytes : List Byte) (good : Bool) : List (BitVec 10) := groupsOf false (packetSyms start bytes good)

/-- An IDLE set (R70): after K28.5, D16.2 or, from positive running disparity, D5.6. -/
def idleSet (rd : Bool) : List Sym := [symComma, .d (if rd then 0xC5 else 0x50)]

/-- The 16 SUS sets with which a tree is suspended (R70, R162). -/
def susSets : List Sym := (List.replicate 16 [symComma, .d 0xB5, symComma, .d 0xB5]).flatten

/-- The p pad bits before an SFS: alternating, from the complement of the last bit of an IDLE set, which is 1 (R72). -/
def padOf (p : Nat) : List Bool := (List.range p).map fun i => i % 2 == 1

/-- A TS1 or TS2 set (R86): K28.5, D10.2 or D5.2, role, flags, link version, D10.2. -/
def tsSet (two : Bool) (role flags : Nat) : List Sym :=
  [symComma, .d (if two then 0x45 else 0x4A), .d (BitVec.ofNat 8 role), .d (BitVec.ofNat 8 flags), .d 0x01] ++ List.replicate 11 (.d 0x4A)

/-! ### Beacon bursts (R84, R88) -/

/-- Whether a burst at t starts one partner beacon period after the last: 100 µs ± 10 µs or 100 ms ± 10 ms. -/
def burstFits (last : Option Nat) (t : Nat) : Bool :=
  match last with
  | some u => (90000 ≤ t - u && t - u ≤ 110000) || (90000000 ≤ t - u && t - u ≤ 110000000)
  | none => false

/-- The bursts in a row, and the start of the last one, after a burst at t. Its commas are to be valid; one out of its period begins anew. Either
period does for each interval (DESIGN CHOICE, log entry 175). -/
def burstRun (k : Nat) (last : Option Nat) (t : Nat) (commas : Bool) : Nat × Option Nat :=
  if !commas then (0, none) else (if burstFits last t then k + 1 else 1, some t)

/-! ### CRC -/

/-- One bit of CRC-16, polynomial 0x1021, most significant bit first (R77). -/
def crc16Step (c : Nat) : Nat :=
  if 0x8000 ≤ c then (c * 2 % 0x10000) ^^^ 0x1021 else c * 2

/-- n steps of a function. -/
def iter {α : Type} (f : α → α) : Nat → α → α
  | 0, x => x
  | n + 1, x => iter f n (f x)

/-- CRC-16 of bytes, initial value 0xFFFF (R77). -/
def crc16 (bs : List Byte) : Nat :=
  bs.foldl (fun c b => iter crc16Step 8 (c ^^^ (b.toNat * 256))) 0xFFFF

/-- One bit of CRC-32C, reflected (R78). -/
def crc32Step (c : Nat) : Nat := if c % 2 = 1 then (c / 2) ^^^ 0x82F63B78 else c / 2

/-- CRC-32C of bytes (R78). -/
def crc32c (bs : List Byte) : Nat :=
  (bs.foldl (fun c b => iter crc32Step 8 (c ^^^ b.toNat)) 0xFFFFFFFF) ^^^ 0xFFFFFFFF

/-! ### GF(2^8) and polynomials (R81) -/

/-- Multiplication by α = 0x02 modulo x^8 + x^4 + x^3 + x^2 + 1. -/
def gfDouble (a : Nat) : Nat := if 0x80 ≤ a then (a * 2) ^^^ 0x11D else a * 2

/-- The product of two field elements, over the low n bits of the second. -/
def gfMulN : Nat → Nat → Nat → Nat
  | 0, _, _ => 0
  | n + 1, a, b => (if b % 2 = 1 then a else 0) ^^^ gfMulN n (gfDouble a) (b / 2)

def gfMul (a b : Nat) : Nat := gfMulN 8 a b

/-- α to the power n. -/
def gfPow (n : Nat) : Nat := iter gfDouble n 1

/-- The inverse of a field element: its 254th power. -/
def gfInv (a : Nat) : Nat := iter (gfMul a) 254 1

/-- The value at x of a polynomial whose coefficients come lowest first. -/
def polyEval (p : List Nat) (x : Nat) : Nat := p.foldr (fun c a => c ^^^ gfMul a x) 0

/-- The sum of two polynomials. -/
def polyAdd : List Nat → List Nat → List Nat
  | [], q => q
  | p, [] => p
  | a :: p, b :: q => (a ^^^ b) :: polyAdd p q

/-- The product of two polynomials. -/
def polyMul : List Nat → List Nat → List Nat
  | [], _ => []
  | a :: p, q => polyAdd (q.map (gfMul a)) (0 :: polyMul p q)

/-- A polynomial without zero coefficients at its top. -/
def polyTrim (p : List Nat) : List Nat := ((p.reverse).dropWhile (· == 0)).reverse

/-- The remainder and quotient of a division, by repeated subtraction of the top term; n bounds the steps. -/
def polyDivN : Nat → List Nat → List Nat → List Nat → List Nat × List Nat
  | 0, r, _, q => (r, q)
  | n + 1, r, d, q =>
    let r := polyTrim r
    if r.length < d.length || d.isEmpty then (r, q)
    else
      let c := gfMul (r.getLastD 0) (gfInv (d.getLastD 0))
      let k := r.length - d.length
      let t := List.replicate k 0 ++ [c]
      polyDivN n (polyAdd r (List.replicate k 0 ++ d.map (gfMul c))) d (polyAdd q t)

/-- The formal derivative of a polynomial. -/
def polyDeriv (p : List Nat) : List Nat :=
  (p.drop 1).zipIdx.map fun x => if x.2 % 2 = 0 then x.1 else 0

/-- The code's generator, lowest coefficient first (R81). -/
def rsGen : List Nat := (List.range 16).foldl (fun g i => polyMul g [gfPow i, 1]) [1]

/-- The codeword of k data bytes: the data, then 16 parity bytes (R81). -/
def rsEncode (d : List Byte) : List Byte :=
  let p := List.replicate 16 0 ++ (d.map (·.toNat)).reverse
  let r := (polyDivN (d.length + 1) p rsGen []).1
  d ++ ((List.range 16).map fun i => BitVec.ofNat 8 (r.getD (15 - i) 0))

/-- The 16 syndromes of a codeword given lowest coefficient first. -/
def rsSyndromes (p : List Nat) : List Nat := (List.range 16).map fun j => polyEval p (gfPow j)

/-- Euclid's steps to the error locator: from (r0, r1, t0, t1) until the degree of r1 is below the bound (twice the degree below `lim`). -/
def rsEuclid : Nat → Nat → List Nat → List Nat → List Nat → List Nat → List Nat
  | 0, _, _, _, _, t1 => t1
  | n + 1, lim, r0, r1, t0, t1 =>
    let r1 := polyTrim r1
    if 2 * (r1.length - 1) < lim || r1.isEmpty then t1
    else
      let dq := polyDivN 20 r0 r1 []
      rsEuclid n lim r1 dq.1 t1 (polyAdd t0 (polyMul dq.2 t1))

/-- A codeword corrected (R82): its bytes and the number of bytes changed, or none when it is not within 2e + s ≤ 16. `er` are the positions of
the erasures; an erased byte whose value is 0 counts as none changed (DESIGN CHOICE, log entry 22). -/
def rsDecode (c : List Byte) (er : List Nat) : Option (List Byte × Nat) :=
  let n := c.length
  let p := (c.map (·.toNat)).reverse
  let s := rsSyndromes p
  if 16 < er.length then none
  else if s.all (· == 0) then some (c, 0)
  else
    let loc i := gfPow (n - 1 - i)
    let gamma := er.foldl (fun g i => polyMul g [1, loc i]) [1]
    let t := (polyMul gamma s).take 16
    let lam := rsEuclid 20 (16 + er.length) (List.replicate 16 0 ++ [1]) t [] [1]
    let psi := polyTrim (polyMul lam gamma)
    let omega := (polyMul psi s).take 16
    let bad := (List.range n).filter fun i => polyEval psi (gfInv (loc i)) == 0
    let fix := c.zipIdx.map fun x =>
      if bad.contains x.2 then
        let xi := gfInv (loc x.2)
        BitVec.ofNat 8 (x.1.toNat ^^^ gfMul (loc x.2) (gfMul (polyEval omega xi) (gfInv (polyEval (polyDeriv psi) xi))))
      else x.1
    let e := (bad.filter fun i => !er.contains i).length
    if bad.length + 1 == psi.length && 2 * e + er.length ≤ 16 && (rsSyndromes ((fix.map (·.toNat)).reverse)).all (· == 0) then
      some (fix, ((List.range n).filter fun i => fix.getD i 0 != c.getD i 0).length)
    else none

/-! ### The packet envelope (R74, R75) -/

/-- The header fields of a Gliys packet (R75). -/
structure Hdr where
  typ  : Nat
  dir  : Nat
  arm  : Nat
  tsa  : Nat
  addr : Nat
  pipe : Nat
  tag  : Nat
  tsb  : Nat
  len  : Nat
  tsc  : Nat
  deriving DecidableEq, Repr

/-- Bytes 0 to 9 of a header (R75). -/
def Hdr.bytes (h : Hdr) : List Byte :=
  [BitVec.ofNat 8 (h.typ * 16 + h.dir * 8 + h.arm * 4 + h.tsa), BitVec.ofNat 8 h.addr, BitVec.ofNat 8 (h.pipe * 16 + h.tag / 256),
   BitVec.ofNat 8 h.tag] ++ leBytes 2 (h.tsb * 2 ^ 11 + h.len) ++ leBytes 4 h.tsc

/-- The header that bytes 0 to 9 spell. -/
def Hdr.ofBytes (b : List Byte) : Hdr :=
  { typ := byteAt b 0 / 16, dir := byteAt b 0 / 8 % 2, arm := byteAt b 0 / 4 % 2, tsa := byteAt b 0 % 4
    addr := byteAt b 1 % 64, pipe := byteAt b 2 / 16, tag := byteAt b 2 % 4 * 256 + byteAt b 3
    tsb := leAt b 4 2 / 2 ^ 11, len := leAt b 4 2 % 2 ^ 11, tsc := leAt b 6 4 }

/-- The number of armour blocks and the data bytes of each for n payload bytes (R80). -/
def armourShape (n : Nat) : Nat × Nat :=
  let m := n + 4
  let b := ceilDiv m 224
  (b, ceilDiv m b)

/-- The armoured form of a payload (R80). -/
def armour (pl : List Byte) : List Byte :=
  let info := pl ++ leBytes 4 (crc32c pl)
  let (b, k) := armourShape pl.length
  let s := fit (b * k) info
  let cws := (List.range b).map fun j => rsEncode ((s.drop (j * k)).take k)
  (List.range (k + 16)).flatMap fun i => (List.range b).map fun j => (cws.getD j []).getD i 0

/-- The bytes between the delimiters of a packet (R74). -/
def packetBytes (h : Hdr) (pl : List Byte) : List Byte :=
  let h := { h with len := pl.length }
  h.bytes ++ leBytes 2 (crc16 h.bytes) ++
    (if pl.isEmpty then [] else if h.arm = 1 then armour pl else pl ++ leBytes 4 (crc32c pl))

/-- The duration in ns of a packet with n payload bytes (R74, R80). -/
def packetNs (armoured : Bool) (n : Nat) : Nat :=
  if n = 0 then 56
  else if armoured then 56 + 4 * ((armourShape n).1 * ((armourShape n).2 + 16))
  else 72 + 4 * n

/-! ### Receive checks (R83) -/

/-- How the receive checks end: the packet with its corrected byte count, or the first check that fails; once check 2 has passed the header is
known. -/
inductive RxResult where
  | good (h : Hdr) (pl : List Byte) (fixed : Nat)
  | codeViolation
  | header (h : Option Hdr)
  | payload (h : Option Hdr)
  | armour (h : Hdr) (blocks fixed : Nat)
  deriving DecidableEq, Repr

/-- The byte of a data symbol. -/
def Sym.byte : Sym → Option Byte
  | .d b => some b
  | _ => none

/-- Code violations in a packet (R70). -/
def codeViolations (xs : List Sym) : Nat := (xs.filter Sym.violation).length

/-- Check 3 of R83 for a packet that comes upstream: defined type, length, reserved bits (R101, R102), arm. The length of a handshake, and the
length and pipe of an echo, that R101 gives count as reserved bits (DESIGN CHOICE, log entry 172). -/
def headerRule (h : Hdr) (raw : List Byte) : Bool :=
  1 ≤ h.typ && h.typ ≤ 7 && h.len ≤ 1024 && byteAt raw 1 < 64 && byteAt raw 2 / 4 % 4 == 0 && (h.arm == 0 || h.typ == 2) &&
  (match h.typ with
   | 1 => h.tsa / 2 == 0 && h.tsb == 0 && h.tsc / 2 ^ 11 == 0
   | 2 => h.tsb / (if h.dir = 0 then 2 else 16) == 0 && (h.tsb % 2 == 1 || h.tsc == 0)
   | 3 => h.tsa / 2 == 0 && h.tsb / 8 == 0 && h.len == 0 && h.tsc / 2 == 0 && 1 ≤ h.tsb % 8 && h.tsb % 8 ≤ 3
   | 7 => h.tsa == 0 && h.tsb == 0 && h.len == 16 && h.tsc == 0 && h.pipe == 0
   | _ => h.tsa == 0 && h.tsb == 0 && h.tsc == 0)

/-- The codewords of an armoured payload, with their erasures, from its wire symbols (R80, R82). An erased byte reads as 0 (DESIGN
CHOICE, log entry 22). -/
def armourWords (b k : Nat) (xs : List Sym) : List (List Byte × List Nat) :=
  (List.range b).map fun j =>
    let ys := (List.range (k + 16)).map fun i => xs.getD (i * b + j) .bad
    (ys.map fun y => (Sym.byte y).getD 0, (List.range (k + 16)).filter fun i => (Sym.byte (ys.getD i .bad)).isNone)

/-- The receive checks of R83 on a start delimiter and the symbols from the first of the header to the end delimiter. A packet that ends in EOB
within its header is a payload CRC error (R71); one whose header holds another control symbol has no correct hcrc. DESIGN CHOICE: bytes corrected
before a CRC-32C that fails are not counted (log entry 169); a start symbol that is neither SOP nor SFS fails check 1 and is no code violation
unless it is one by R70 (log entry 170); whether the delimiter fits the type is not checked (log entry 171). -/
def rxCheck (start : Sym) (xs : List Sym) : RxResult :=
  let hs := xs.take 12
  if (start != symSop && start != symSfs) || hs.any Sym.violation then .codeViolation
  else if hs.contains symEob then .payload none
  else if hs.length < 12 || hs.any (fun x => (Sym.byte x).isNone) then .header none
  else
    let raw := hs.map fun x => (Sym.byte x).getD 0
    let h := Hdr.ofBytes raw
    if crc16 (raw.take 10) != leAt raw 10 2 then .header none
    else if !headerRule h raw then .header (some h)
    else
      let body := xs.drop 12
      let arm := h.arm == 1 && h.len != 0
      let (b, k) := armourShape h.len
      let n := if h.len = 0 then 0 else if arm then b * (k + 16) else h.len + 4
      let pay := body.take n
      let early := pay.any fun x => x == symEop || x == symEob
      if early || body.length != n + 1 || body.getD n .bad != symEop then .payload (some h)
      else if h.len = 0 then .good h [] 0
      else if arm then
        let rs := (armourWords b k pay).map fun w => rsDecode w.1 w.2
        let failed := (rs.filter (·.isNone)).length
        let fixed := rs.foldl (fun a r => a + (r.map (·.2)).getD 0) 0
        if failed ≠ 0 then .armour h failed fixed
        else
          let info := (rs.flatMap fun r => ((r.map (·.1)).getD []).take k).take (h.len + 4)
          if crc32c (info.take h.len) == leAt info h.len 4 then .good h (info.take h.len) fixed else .payload (some h)
      else
        if pay.any (fun x => (Sym.byte x).isNone) then .payload (some h)
        else
          let bs := pay.map fun x => (Sym.byte x).getD 0
          if crc32c (bs.take h.len) == leAt bs h.len 4 then .good h (bs.take h.len) 0 else .payload (some h)

end Sys2Proof.Machine
end

