-- ==== Sys2Proof/Machine/State.lean ====
section
/-! DEFINITION. The state of the device as plain data: the registers by offset, the memory, the engines' hidden state, the waiting commands;
and the state after reset. -/

namespace Sys2Proof.Machine

/-- Why a step stops with a fault. No command of this block stops it: every fault of the hardware is an effect on its state (R394), so there is
no constructor. -/
inductive Fault where
  deriving DecidableEq, Repr

/-- Why a command has no meaning. -/
inductive Refusal where
  /-- The command named has no meaning in the model yet (safe). -/
  | notModelled (mnemonic : String)
  deriving DecidableEq, Repr

/-- The two parts (R2). -/
inductive Part where
  | vx4880
  | vx4840
  deriving DecidableEq, Repr

/-! ## Time keeper (spec/02_time_keeper.md) -/

/-- What the time keeper knows of one phase source (R44, R45): the last phase edge, its interval to the one before, the last label, the run of
good seconds, the run of bad labels, whether the last edge still waits for its label and whether that edge was in step. -/
structure SrcTrack where
  edge     : Option Nat := none
  interval : Option Nat := none
  edgeOk   : Bool := false
  waiting  : Bool := false
  label    : Option Nat := none
  good     : Nat := 0
  badLabel : Nat := 0
  deriving DecidableEq, Repr

/-- The condition of the chip time base (R47). -/
inductive TimeCond where
  | freeRun
  | locked
  | holdover
  deriving DecidableEq, Repr

/-- The time keeper beside its registers. `time` is the counter in TAI ns (R9) and `frac` its part below 1 ns in 2^-32 ns (R37). -/
structure Tk where
  time       : Nat := 0
  frac       : Nat := 0
  /-- The instant of the last frame boundary (R55). -/
  boundary   : Nat := 0
  /-- The instant at which a requested frame rate takes effect (R57). -/
  rateAt     : Option Nat := none
  /-- Sources 1 to 4 (R40). -/
  srcs       : List SrcTrack := [{}, {}, {}, {}]
  cond       : TimeCond := .freeRun
  /-- The run of seconds with the phase error at or below the lock threshold (R47). -/
  lockRun    : Nat := 0
  holdStart  : Nat := 0
  /-- The error bound at the entry into holdover, in ns (R54). -/
  holdBound  : Nat := 0
  /-- Timestamps before this instant carry the condition stepped (R51). -/
  steppedTo  : Nat := 0
  /-- Whether a source has been accepted since the cold reset (R49). -/
  accepted1  : Bool := false
  /-- The computed step that waits for the next boundary (R50). -/
  step       : Option Int := none
  /-- The times the four alarm comparators hold (R60). -/
  cmp        : List Nat := [0, 0, 0, 0]
  /-- A leap second announced by IRIG-B: the UTC second of the midnight it falls on, and TAI − UTC from then on (R42). -/
  leap       : Option (Nat × Nat) := none
  /-- The step has been applied and the next FST has not left: the root ports send nothing (R50). -/
  stepping   : Bool := false
  /-- The end of an injected absence of the 10 MHz reference (R407). -/
  ref10Inj   : Option Nat := none
  ppsOutHigh : Bool := false
  ppsOutRise : Option Nat := none
  deriving DecidableEq, Repr

/-! ## Interrupts (spec/12_interrupts.md) -/

/-- The condition of an interrupt instance (R327): Gathering holds its count and the time of its first event. -/
inductive IcPhase where
  | idle
  | gathering (count since : Nat)
  | pending
  deriving DecidableEq, Repr

/-- One interrupt source: its instance, the gallery and priority of its claim (R330), the presentation to the manager and the start of the
fallback timer (R333). -/
structure IcInst where
  phase  : IcPhase := .idle
  claim  : Option (Nat × Nat) := none
  fallen : Bool := false
  since  : Nat := 0
  deriving DecidableEq, Repr

/-! ## Vitrines and Registrar (spec/14_registrar_and_vitrines.md) -/

/-- A record that a latch caused and that is not yet written (R383): the definition, its vitrine indices in order, whether it is of an event
kind, and whether the mover status was not OK. -/
structure RecReq where
  trig  : Nat
  words : List Nat
  event : Bool
  notOk : Bool
  deriving DecidableEq, Repr

/-- The vitrines and the Registrar beside their registers. -/
structure Rg where
  /-- The 1,024 vitrine words of the last latch; empty before the first. -/
  words      : List Word := []
  latched    : Bool := false
  time       : Nat := 0
  frame      : Nat := 0
  quality    : Nat := 0
  sources    : Nat := 0
  origin     : Nat := 0
  todo       : List RecReq := []
  /-- The manager has written release since the latch (R385). -/
  released   : Bool := false
  /-- Missed TAKEs and firings before the next record (R384). -/
  missed     : Nat := 0
  /-- The store offset of the newest record (R388). -/
  newest     : Option Nat := none
  takeOut    : Bool := false
  /-- When the TAKE_OUT pulse ends (R381). -/
  takeEnd    : Nat := 0
  /-- Definitions whose CFG word was last written with a reserved bit set, as a bit map (R382). -/
  resBits    : Nat := 0
  deriving DecidableEq, Repr

/-! ## Fault detectors (spec/15_faults_and_injection.md) -/

/-- The fault block beside its registers: the first unlock word has been written (R404); per detector the instance and time of its last log
entry (R400); the detections that a failed wake holds back with their times: detector, instance, detail, time, whether injected (R418). -/
structure Fi where
  step1 : Bool := false
  last  : List (Nat × Nat × Nat) := []
  held  : List (Nat × Nat × Nat × Nat × Bool) := []
  deriving DecidableEq, Repr

/-! ## Conservator (spec/16_conservator.md) -/

/-- What a permit is for (R427). -/
inductive PermitFor where
  | training (n : Nat)
  | spanTraining (m : Nat)
  | sweep (n addr : Nat)
  | spanSweep (m : Nat)
  | scrub
  | discovery
  | charter
  | stepUp
  deriving DecidableEq, Repr

/-- A permit request or a permit held: its kind and holder, its cost in mW and the time of the request. -/
structure Permit where
  use  : PermitFor
  cost : Nat
  /-- When it was asked for or, at the head, came to the head (R428). -/
  at_  : Nat
  deriving DecidableEq, Repr

/-- A blocked entry handshake or a wake in progress (R409, R416, R417). -/
inductive CnMove where
  | idle
  /-- Going down: the state in force when the target was written, the state of the present step and the start of the step. -/
  | down (origin step started : Nat)
  /-- A climb from Stowed to `goal` with the wake's cause and detail, cause 0 for a target that the manager wrote; `phase`: 0 while the regulator is set, then, while
  the oscillator starts, the number of attempts that the regulator took. -/
  | wake (goal cause detail phase : Nat)
  deriving DecidableEq, Repr

/-- What a supply change is for. -/
inductive SupplyFor where
  | coldReset
  | stepUp
  | stepDown
  | forced
  | stow
  | wake
  | unstow
  deriving DecidableEq, Repr

/-- One supply change on PMBus (R420): the setpoint in mV, the retries used, whether the present attempt is acknowledged and since when, and
whether the attempt has failed and the next one waits. -/
structure Supply where
  use     : SupplyFor
  mv      : Nat
  retries : Nat := 0
  acked   : Option Nat := none
  waiting : Bool := false
  deriving DecidableEq, Repr

/-- The Conservator beside its registers. -/
structure Cn where
  queue      : List Permit := []
  held       : List Permit := []
  move       : CnMove := .idle
  supply     : Option Supply := none
  /-- A target written while a move runs (R409). -/
  target     : Option Nat := none
  /-- A wake source that came during a downward move: cause and detail (R412). -/
  wake       : Option (Nat × Nat) := none
  oscOn      : Bool := false
  scrubbing  : Bool := false
  /-- The smallest pace sample and plan margin of the running period (R423). -/
  pMin       : Option Nat := none
  mMin       : Option Nat := none
  /-- No step down before this time (R424). -/
  noDown     : Nat := 0
  wakeN      : Bool := false
  /-- The trees that this move's step into Closed asked to suspend: a refusal brings these back up (R410). -/
  parked     : List Nat := []
  /-- The wake under way was caused by PERST_N: a warm reset follows it (R415). -/
  warmAfter  : Bool := false
  /-- The standing charges exceed the limit (R428). -/
  overLimit  : Bool := false
  /-- The missed TAKEs counted while asleep (R393). -/
  asleep     : Nat := 0
  /-- When Closed was entered, from which fallback timers rest; the shared sources beside those of the time keeper whose lines rose while
  asleep; and a wake whose messages are still to be sent (R338). -/
  sleptAt    : Nat := 0
  rose       : List Nat := []
  awoke      : Bool := false
  deriving DecidableEq, Repr

/-! ## PCI Express (spec/11_galleries_and_pcie.md) -/

/-- The severity of an error logged through Advanced Error Reporting. -/
inductive Severity where
  | correctable
  | nonfatal
  | fatal
  deriving DecidableEq, Repr

/-- What issues a read of host memory (R308). -/
inductive Reader where
  | workEntry (g r : Nat)
  | fragTable (g r i : Nat)
  | eventTail (g : Nat)
  | eventHead (g : Nat)
  | swIndex (c : Nat)
  | outRing (c : Nat)
  | flush (c : Nat)
  | mover (c : Nat)
  | moverBack (c : Nat)
  deriving DecidableEq, Repr

/-- Configuration space, as far as the manual gives it an effect (R305, R307, R310, R314), and the link. -/
structure Pcie where
  busMaster : Bool := false
  pasidEn   : Bool := false
  msixEn    : Bool := false
  msixMask  : Bool := false
  mps       : Nat := 128
  mrrs      : Nat := 512
  tag10     : Bool := false
  vc1       : Bool := false
  tc1OnVc1  : Bool := false
  pmeEn     : Bool := false
  d3hot     : Bool := false
  aspmL1    : Bool := false
  link      : PcieLink := .down
  /-- PME_Turn_Off was answered with PME_TO_Ack, so the link may go to L2 (R411). -/
  l2Ready   : Bool := false
  perst     : Bool := false
  /-- ECRC generation and check, and the completion time-out range (R305). -/
  ecrcGen   : Bool := false
  ecrcChk   : Bool := false
  timeout   : Nat := 0
  /-- Reads of host memory that are outstanding: what issued each, and its number of requests (R307). -/
  reads     : List (Reader × Nat) := []
  /-- A detach is under way (R323). -/
  detaching : Bool := false
  /-- Failed reads logged through AER: 0 UR, 1 CA, 2 poisoned, 3 timeout, 4 ECRC, each with its severity (R308); and the header log, 16 bytes
  from the first failure on, since it records one header only (R305). -/
  aer       : List (Nat × Severity) := []
  aerHeader : List Byte := []
  deriving DecidableEq, Repr

/-! ## Span (spec/13_span_fabric_and_twin.md) -/

/-- A Span packet as its header fields (R344): type code, virtual channel, destination, source, hops, the eight type-specific bytes, payload. -/
structure SpanPkt where
  typ     : Nat
  vc      : Nat
  dst     : Nat
  src     : Nat
  hops    : Nat := 0
  tsd     : List Byte := []
  payload : List Byte := []
  /-- Its place in the order in which this chip's packets became ready (R353). -/
  stamp   : Nat := 0
  deriving DecidableEq, Repr

/-- The sweep under way (R94): the device, the values of this attempt, the probes sent in it, the failed attempts, the earliest instant of the
next probe, whether a t_turn was out of range (R153), the lost delivering probes, and the result that the next probe delivers: L_rt. -/
structure Sweep where
  addr   : Nat
  vals   : List Int := []
  probes : Nat := 0
  tries  : Nat := 0
  next   : Nat := 0
  bad    : Bool := false
  dlost  : Nat := 0
  result : Option Int := none
  deriving DecidableEq, Repr

/-- One Span port beside its registers (R342, R351 to R353). -/
structure SpanPort where
  /-- Packets that wait for a packet boundary, in the order they became ready. -/
  ready   : List SpanPkt := []
  /-- Packets accepted and not yet consumed, by the rows that consume them; those of vc 0 to 2 hold a buffer (R352). -/
  inbox   : List SpanPkt := []
  /-- Sent packets of vc 0 to 2 that are not acknowledged: sequence number, times sent, and whether it is to be sent again (R351). -/
  replay  : List (Nat × Nat × Bool × SpanPkt) := []
  txSeq   : Nat := 0
  rxSeq   : Nat := 0
  /-- A LINK packet is owed: an acknowledgement, a NAK, the credits to return by channel. -/
  ackDue  : Bool := false
  nakDue  : Bool := false
  owe     : List Nat := [0, 0, 0]
  credits : List Nat := [16, 16, 32]
  /-- A TIME packet is due (R363). -/
  timeDue : Bool := false
  beacons : Nat := 0
  beaconAt : Option Nat := none
  fast    : Bool := false
  began   : Nat := 0
  fails   : Nat := 0
  /-- The partner's serial and port, known from the training. -/
  partner : Nat := 0
  pport   : Nat := 0
  sweep   : Option Sweep := none
  excur   : Nat := 0
  lost    : Nat := 0
  lrt     : Int := 0
  /-- The last TIME packet not yet acted on: arrival in 100 ps and payload; and the last one: arrival in ns, master, hops, sender (R364). -/
  time    : Option (Nat × List Byte) := none
  heard   : Option (Nat × Nat × Nat × Nat) := none
  /-- DISC records that wait for a packet boundary. -/
  disc    : List DiscRec := []
  /-- The ranging probe in flight: its number and the instant of its EOP in 100 ps; a maintenance probe is due; probes received that wait for
  their ECHO: number, instant of arrival of the EOP in 100 ps, and the first eight payload bytes. -/
  probe   : Option (Nat × Nat) := none
  probeNo : Nat := 0
  maint   : Bool := false
  echoes  : List (Nat × Nat) := []
  deriving DecidableEq, Repr

/-- The Span block beside its registers. -/
structure Sp where
  ports   : List SpanPort := [{}, {}, {}, {}]
  /-- The records held, own included, by serial (R357). -/
  records : List DiscRec := []
  version : Nat := 0
  /-- This chip's record waits for its permit to be flooded. -/
  flood   : Bool := false
  /-- Pulses counted on CHAIN_IN since it was last high for 10 µs; the head of a chain; the count of the first train (R356). -/
  pulses  : Nat := 0
  head    : Bool := false
  chained : Option Nat := none
  /-- The frame-number difference of the last TIME packets and how many in a row (R366). -/
  delta   : Nat × Nat := (0, 0)
  renum   : Option Nat := none
  /-- The number of packets that have become ready so far. -/
  seq     : Nat := 0
  deriving DecidableEq, Repr

/-! ## Twin (spec/13_span_fabric_and_twin.md R368 to R377) -/

/-- The fields of a heartbeat (R369). -/
structure Heart where
  frame  : Nat := 0
  own    : Nat := 0
  lost   : Nat := 0
  yield_ : Nat := 0
  flags  : Nat := 0
  yframe : Nat := 0
  serial : Nat := 0
  deriving DecidableEq, Repr

/-- The twin block beside its registers. -/
structure Tw where
  /-- A heartbeat is due at the next packet boundary of port 3, and one has arrived since the last boundary. -/
  due     : Bool := false
  seen    : Bool := false
  last    : Option Heart := none
  /-- Heartbeats still to discard for an injection (R407), and whether one of the present misses is injected. -/
  drop    : Nat := 0
  inj     : Bool := false
  /-- A full snapshot has been queued, and its last item has left (R372). -/
  queued  : Bool := false
  sent    : Bool := false
  /-- The yield under way: the trees, the frame f, and whether the partner has accepted it (R377); and the partner's yield that this chip has
  accepted: the trees and f. -/
  yield_  : Option (Nat × Nat × Bool) := none
  accept  : Option (Nat × Nat) := none
  /-- Trees that this chip claims at the next frame boundary: the partner has lost them (R377). -/
  claim   : Nat := 0
  /-- Trees taken over that wait for GET_HUB_STATUS to be answered, with the requests failed (R375). -/
  check   : List (Nat × Nat) := []
  /-- Trees to take over at the boundary after the third miss (R374), and trees taken without a complete snapshot, to reset after their first
  owner FST (R376). -/
  taking  : Bool := false
  raze    : List Nat := []
  /-- Mirrored: the owner's rtt and L_rt of each device by its key; last output frame and last event time by pipe key; reflex placements: pipe
  key, frame and source event time; the parts of a split item. -/
  rttA    : Tab (Nat × Nat) := []
  outs    : Tab Nat := []
  evts    : Tab Nat := []
  placed  : List (Nat × Nat × Nat) := []
  part    : List Byte := []
  /-- Mirror messages of placements that the link to the partner lost before they were acknowledged (R373). -/
  unacked : List (List Byte) := []
  /-- The mirror queue: mirror messages that wait for a packet boundary of port 3, oldest first (R22, R372). -/
  mirror  : List SpanPkt := []
  deriving DecidableEq, Repr

/-! ## Courier (spec/10_courier.md) -/

/-- A remote entry in flight at its origin (R295, R298): its Courier tag, its ticket, the RETRY answers so far and whether it waits out a
backoff. -/
structure Rem where
  tag     : Nat
  g       : Nat
  r       : Nat
  i       : Nat
  ticket  : Option Nat := none
  retries : Nat := 0
  waiting : Bool := false
  deriving DecidableEq, Repr

/-- A ticket held for another chip (R297): the requester, and the result once it is ready: the completion's bytes 4 to 31 and the data. -/
structure Ticket where
  num    : Nat
  chip   : Nat
  gal    : Nat
  tag    : Nat
  result : Option (List Byte × List Byte) := none
  deriving DecidableEq, Repr

/-- A remote BULK_OUT in a local bulk queue (R302): its number, and the origin's chip, gallery, ring and index. -/
structure Posted where
  num  : Nat
  chip : Nat
  gal  : Nat
  ring : Nat
  idx  : Nat
  deriving DecidableEq, Repr

/-- The Courier beside its registers. -/
structure Co where
  /-- Route entries by index: eight words each (R280). -/
  routes  : Tab (List Nat) := []
  rems    : List Rem := []
  tickets : List Ticket := []
  posted  : List Posted := []
  /-- Segmented packets being put together: type, source chip, tag, payloads so far. -/
  parts   : List (Nat × Nat × Nat × List (List Byte)) := []
  /-- The number of events that have come to wait for a flush (R291). -/
  seq     : Nat := 0
  deriving DecidableEq, Repr

/-! ## Gliys ports (spec/03_gliys_link.md, spec/04_gliys_transactions_and_hubs.md, spec/05_accession.md) -/

/-- What a control transfer is for: a work entry, a step of an attach (R149), a request to a hub port, or a CLEAR_HALT that a
context asks for its pipe (R181). -/
inductive CtlFor where
  | work (g r i : Nat)
  | forward
  | identity0
  | setAddress
  | identity1
  | hubStatus
  | portStatus (p : Nat)
  | setPort (p code : Nat)
  | clearHalt (ctx pipe : Nat)
  deriving DecidableEq, Repr

/-- A control transfer (R118): the device, the setup payload, the data received or still to send, the stage (0 setup, 1 data, 2 status), the
sequence bit of the data stage, the consecutive errors on the packet in hand, the cause of the last one, the instant of the first setup, and the
frame in which it was last answered NAK. -/
structure Ctl where
  use   : CtlFor
  addr  : Nat
  setup : List Byte
  data  : List Byte := []
  stage : Nat := 0
  seq   : Nat := 1
  errs  : Nat := 0
  cause : Nat := 0
  began : Option Nat := none
  nak   : Option Nat := none
  deriving DecidableEq, Repr

/-- What port service waits to send (R218): a control transfer's next packet, a poll of an event-in context of an unranged device, a
maintenance probe with the last frame it may be placed in, a probe of the sweep. -/
inductive Svc where
  | ctl (use : CtlFor) (addr : Nat)
  | poll (c : Nat)
  | probe (addr until_ : Nat)
  | sweep (addr : Nat)
  deriving DecidableEq, Repr

/-- What a packet on the wire belongs to. -/
inductive XUse where
  | periodicIn (c : Nat)
  | periodicOut (c : Nat)
  | event (c : Nat)
  | bulk (g r i : Nat)
  | ctl (use : CtlFor)
  | probe
  /-- What the packet was for has been abandoned. -/
  | gone
  deriving DecidableEq, Repr

/-- An open transaction (R109, R111): its tag, target, the sequence bit sent, the largest payload accepted, the instant its EOP left the balls,
the instant its response is expected (none: unranged) and the longest response, times in 100 ps and the response in ns. -/
structure Xact where
  tag    : Nat
  addr   : Nat
  pipe   : Nat
  use    : XUse
  seq    : Nat := 0
  room   : Nat := 0
  eop    : Nat
  expect : Option Nat
  slot   : Nat := 56
  /-- The tag is one of the bulk engine's (R216). -/
  pool   : Bool := false
  /-- The number of a ranging probe (R90). -/
  num    : Nat := 0
  deriving DecidableEq, Repr

/-- The attach under way (R149): the parent hub and port, the step, the failed attempts before it, the descriptor, the chosen address, whether
the address is a new binding, and whether SET_ADDRESS ended in error. -/
structure Attach where
  parent : Nat
  port   : Nat
  step   : Nat := 1
  tries  : Nat := 0
  desc   : List Byte := []
  addr   : Nat := 0
  fresh  : Bool := false
  setErr : Bool := false
  left   : List Nat := []
  /-- Its retry fell due while the port was not Active (R151). -/
  due    : Bool := false
  deriving DecidableEq, Repr

/-- A bus reset (R159, R160): its scope (0 the tree), the devices affected, those that were attached, its start, and its phase: 0 waiting for a
resume, 1 the link or hub port is reset, 2 retraining. -/
structure BusReset where
  scope : Nat
  addrs : List Nat
  wait  : List Nat
  since : Nat
  phase : Nat := 0
  deriving DecidableEq, Repr

/-- Accession's identity of a device beside its registers: the pipe-0 maximum, the entries of pipes 1 to 15 (kind, min_exp, units of 8 bytes),
the calibrated turnaround, the descriptor's flags, when it became Absent, consecutive lost and excursion probes, consecutive
missing responses (R121), whether it was Ranged or Resynced at a suspend, the place the Charter names (R150), and whether it has not
been Ranged since its attach. -/
structure Dev where
  ctlMax   : Nat := 64
  pipes    : List (Nat × Nat × Nat) := []
  tCal     : Nat := 2000
  flags    : Nat := 0
  absentAt : Nat := 0
  lost     : Nat := 0
  excur    : Nat := 0
  silent   : Nat := 0
  hadRange : Bool := false
  place    : Option (Nat × Nat) := none
  newly    : Bool := false
  /-- The range is derived from the twin partner's, since a takeover (R374). -/
  derived  : Bool := false
  /-- The Charter names the device by maker, product and place alone (R442). -/
  anySerial : Bool := false
  deriving DecidableEq, Repr

/-- One root port beside its registers. -/
structure Gp where
  /-- Partner beacon bursts in a row, and the start of the last one (R84). -/
  beacons  : Nat := 0
  beaconAt : Option Nat := none
  /-- The training under way is fast, and the state it began in: 4 Hit or 5 Suspended (R85). -/
  fast     : Bool := false
  began    : Nat := 0
  /-- Consecutive training failures; from 8 on the beacon is long (R88). -/
  fails    : Nat := 0
  /-- Before this instant no FST leaves, after a resume (R163), and a resume is under way. -/
  fstFrom  : Nat := 0
  resuming : Bool := false
  /-- A suspend is requested (1), or SUS has been sent (2) (R162). -/
  suspend  : Nat := 0
  /-- This port's own recognition of a beacon started the last resume (R168). -/
  ownWake  : Bool := false
  /-- The root port runs the 2 ms of Disabled of a port reset (R156). -/
  pulse    : Bool := false
  attaches : List (Nat × Nat) := []
  attach   : Option Attach := none
  /-- Failed attach attempts by parent and port (R151). -/
  tries    : List (Nat × Nat × Nat) := []
  rejected : List (Nat × Nat) := []
  strict   : List (Nat × Nat) := []
  /-- Places that accession has reset to try their attach again (R151). -/
  again    : List (Nat × Nat) := []
  /-- The attach that a suspend abandoned after its device may have taken its address (R162). -/
  parked   : Option Attach := none
  sweeps   : List Nat := []
  sweep    : Option Sweep := none
  resets   : List BusReset := []
  /-- Control transfers, oldest first; the first of an address is the active one. -/
  ctls     : List Ctl := []
  svc      : List Svc := []
  opens    : List Xact := []
  /-- Tags whose responses have come and whose acceptance windows are open: the tag, the close in 100 ps, whether it is the bulk engine's
  (R216). -/
  tags     : List (Nat × Nat × Bool) := []
  /-- Babble observations: frame and the address attributed, if any (R123). -/
  babble   : List (Nat × Option Nat) := []
  /-- Devices whose cut waits for a hub, by address, and those whose cut failed before the hub acknowledged it: the next observation starts it
  again (R123). -/
  cutting  : List Nat := []
  recut    : List Nat := []
  /-- The levels last seen on the SFP module's LOS and ABS balls (R89). -/
  sfp      : Option (Bool × Bool) := none
  /-- The number of the next ranging probe (R90). -/
  probeNo  : Nat := 0
  /-- The end of the last downstream packet and of the last upstream slot, in 100 ps (R214). -/
  txEnd    : Nat := 0
  upFree   : Nat := 0
  /-- The port sends nothing before this instant, in 100 ps (R111). -/
  quiet    : Nat := 0
  /-- Per address and pipe (16 × address + pipe), the end of its last response's slot in 100 ps (R219). -/
  pipeEnd  : Tab Nat := []
  /-- pw_open before each change that is not yet in effect, by its effect frame (R100). -/
  pwOld    : List (Nat × Nat) := []
  /-- The start of the last SFS in 100 ps, the origin of the symbol alignment (R72). -/
  sfs      : Option Nat := none
  deriving DecidableEq, Repr

/-! ## Pipe contexts, catalogue and plans (spec/06_pipes_catalogue_buffers.md, spec/07_curator.md) -/

/-- A periodic-out value chosen for a due frame: the payload, the apply-at time it carries (R199), and whether it is a ring slot. -/
structure OutVal where
  data    : List Byte
  apply   : Option Nat := none
  fromRing : Bool := false
  /-- The slot header that goes to the hold slot with the payload. -/
  hdr     : List Byte := []
  /-- The bytes could not be read: the packet ends in EOB (R397). -/
  bad     : Bool := false
  deriving DecidableEq, Repr

/-- An event that waits for its flush read, its place in the event ring, or both (R30, R255): ring type, flags, context number shown, port,
address, pipe, quality, frame, payload, and whether its flush read is done. -/
structure Event where
  typ     : Nat
  flags   : Nat
  ctx     : Nat
  port    : Nat
  addr    : Nat
  pipe    : Nat
  quality : Nat
  frame   : Nat
  payload : List Byte
  flushed : Bool
  /-- FORWARD messages that wait for the same flush: chip, gallery, message id of the event, and message (R291). -/
  fwds    : List (Nat × Nat × Nat × List Byte) := []
  /-- Whether the ring takes a copy. -/
  ring    : Bool := true
  /-- Its place in the order of arrival, and whether it has a flush read of its own; one without waits for that of an event before it (R291). -/
  stamp   : Nat := 0
  own     : Bool := false
  deriving DecidableEq, Repr

/-- A pipe context beside its registers. `mode` is 1 Disabled, 2 Enabled, 4 Held, 5 Halted, 6 Stopping (R175); Free and Waiting follow from
PX_BIND.kind and the device. -/
structure Px where
  mode    : Nat := 1
  /-- The effect frames of a pending enable, disable, or return from Halted or Held (R176, R178). -/
  enAt    : Option Nat := none
  disAt   : Option Nat := none
  /-- PX_QUAL and PX_APPLY before each pending change, by its effect frame (R176). -/
  quals   : List (Nat × Word) := []
  applies : List (Nat × Word) := []
  /-- The device index word is being read at enable (R194). -/
  wantDev : Bool := false
  /-- Periodic-in slots, header and payload, that wait for the software index (R193). -/
  wait    : List (List Byte) := []
  reading : Bool := false
  gap     : Bool := false
  nextSlot : Nat := 0
  /-- Periodic-out slots read from the ring and not consumed, oldest first (R197). -/
  slots   : List (List Byte) := []
  outRead : Option Nat := none
  /-- The index of the ring slot to read next (R197). -/
  rdIdx   : Word := 0
  /-- The hold value was displaced by a reflex: the head slot goes next whatever its target (R200). -/
  again   : Bool := false
  /-- The last read of the software index failed; its ring counts as full (R315). -/
  swBad   : Bool := false
  /-- Accession has claimed the context for a hub's pipe 1 (R174). -/
  hub     : Bool := false
  deriving DecidableEq, Repr

/-- The schedule of a catalogue entry: exponent, phase, reflex slot (R186). -/
structure CatSched where
  exp    : Nat
  phase  : Nat
  reflex : Bool
  deriving DecidableEq, Repr

/-- A valid catalogue entry (R186). `olds` holds, oldest first, what each edit that is not yet in effect replaces, by its effect frame: none
before an Insert, the earlier schedule before a Modify (R187). -/
structure CatEntry where
  ctx      : Nat
  sched    : CatSched
  cost     : Nat
  reflexNs : Nat
  since    : Nat
  until_   : Option Nat := none
  olds     : List (Nat × Option CatSched) := []
  /-- A Modify has replaced a shed entry: until this frame the schedule it replaces stays shed (R210). -/
  shedTo   : Option Nat := none
  deriving DecidableEq, Repr

/-- One item of a plan (R213, R214): the catalogue entry and context, the pipe kind, whether it is a reflex slot, its downstream start from the
boundary in 100 ps, and the value to send. -/
structure PlanItem where
  idx    : Nat
  ctx    : Nat
  kind   : Nat
  reflex : Bool
  start  : Nat := 0
  /-- The frame-relative apply time computed when the plan was built (R199). -/
  apply  : Option Nat := none
  val    : Option OutVal := none
  /-- The value is a reflex output (R217), with its source event's time. -/
  ts     : Option Nat := none
  deriving DecidableEq, Repr

/-- The plan of a frame for one port: its items, the end of its periodic window, and where the placement goes on after it, the downstream start
and the end of the last upstream slot in 100 ps from the boundary (R203, R218). -/
structure Plan where
  frame  : Nat
  items  : List PlanItem
  endNs  : Nat
  dEnd   : Nat := 0
  upEnd  : Nat := 0
  closed : Bool := false
  late   : Bool := false
  deriving DecidableEq, Repr

/-- A reflex output that waits (R287): its frame, context and payload, and the time of its source event. -/
structure ReflexOut where
  frame   : Nat
  ctx     : Nat
  payload : List Byte
  ts      : Nat
  deriving DecidableEq, Repr

/-- The Curator's part of a root port. -/
structure CuPort where
  /-- Frames whose plans have been begun (R201). -/
  begun   : List Nat := []
  /-- Plans built for later frames. -/
  plans   : List Plan := []
  /-- The plan in force, and what of it is not yet sent. -/
  plan    : Option Plan := none
  todo    : List PlanItem := []
  /-- Reflex outputs that wait as urgent insertions (R217 place 3). -/
  reflexes : List ReflexOut := []
  /-- Reflex outputs whose frame's plan is not closed. -/
  later   : List ReflexOut := []
  /-- Used of the urgent reserve in this frame, in ns (R223). -/
  used    : Nat := 0
  /-- Urgent entries that did not fit in this frame (R223). -/
  deferred : List (Nat × Nat × Nat) := []
  deriving DecidableEq, Repr

/-! ## Work rings, event rings, movers (spec/08_work_rings.md, spec/09_movers.md) -/

/-- Where a fetched work entry is. -/
inductive WorkLoc where
  /-- On its way to its target, or held there by a fence (R235) or a full remote queue. -/
  | gate
  | delayed
  | queued
  | remote
  /-- Its completion is decided, and waits for the earlier entries of its pipe (R33). -/
  | ended
  deriving DecidableEq, Repr

/-- The copying of an entry's data: none asked for, waiting for its fragment table, waiting for a channel, on a channel, done. -/
inductive Stage where
  | none
  | table
  | wait
  | moving
  | done
  deriving DecidableEq, Repr

/-- A work entry that is fetched and not completed (R243). -/
structure Work where
  g       : Nat
  r       : Nat
  i       : Nat
  ent     : List Byte
  loc     : WorkLoc := .gate
  level   : Nat := 0
  /-- The frame in which it entered its level, and its place in the order of entry (R220, R222). -/
  since   : Nat := 0
  stamp   : Nat := 0
  started : Bool := false
  stage   : Stage := .none
  /-- The fragments: host address and length (R240). -/
  frags   : List (Nat × Nat) := []
  /-- Data staged for sending, or received. -/
  data    : List Byte := []
  /-- Bytes acknowledged by the device. -/
  sent    : Nat := 0
  errs    : Nat := 0
  cause   : Nat := 0
  nak     : Option Nat := none
  /-- The transfer on the bus has ended at this time, and its data is being written (R247). -/
  ended   : Option Nat := none
  /-- The status and detail it will complete with. -/
  fin     : Nat × Nat := (0, 0)
  quality : Nat := 0
  tag     : Option Nat := none
  /-- The draw from which the places of the staged data come (R23, R172, R184). -/
  seat    : Option Nat := none
  /-- The bytes of a completion that waits for the earlier entries of its pipe (R33). -/
  body    : List Byte := []
  deriving DecidableEq, Repr

/-- One work ring beside its registers: the indices fetched and not completed, in fetch order; whether an entry read is outstanding; the
malformed entry's ring stop. -/
structure Ring where
  out     : List Nat := []
  reading : Bool := false
  /-- Entry reads that were outstanding when the ring stopped: their failures are still the gallery's (R308, R315). -/
  stale   : Nat := 0
  /-- Started entries at a warm reset that complete HOST_ERR at the next enable (R277). -/
  owed    : List (Nat × List Byte) := []
  /-- The cause that the running stop gives its resume head: 1 disable, 3 halt (R250). -/
  cause   : Nat := 1
  deriving DecidableEq, Repr

/-- An event ring beside its registers (R254 to R258). -/
structure EvRing where
  wantTail : Nat := 0
  wantHead : Bool := false
  /-- Tail and head reads that were outstanding when the ring was disabled (R308, R315). -/
  staleTail : Nat := 0
  staleHead : Nat := 0
  wait     : List Event := []
  lostAt   : Option Nat := none
  lostN    : Nat := 0
  deriving DecidableEq, Repr

/-- A gallery beside its registers. -/
structure Ga where
  rings : List Ring := [{}, {}, {}, {}, {}, {}, {}, {}]
  ev    : EvRing := {}
  deriving DecidableEq, Repr

/-- A descriptor as a mover runs it (R262). -/
structure Desc where
  src  : Nat
  dst  : Nat
  len  : Nat
  /-- Byte 20: pulse, end, fixed and host bits. -/
  ctl  : Nat
  tag  : Nat := 0
  next : Nat := 0
  res  : Bool := false
  deriving DecidableEq, Repr

/-- One mover channel beside its registers: the descriptor running, 0 reading one, 1 moving, 2 reading back; host reads still to issue and
outstanding (address, length); bytes moved; the entry served and its remaining descriptors (fragment number and descriptor). -/
structure Mv where
  desc  : Option Desc := none
  phase : Nat := 0
  reads : List (Nat × Nat) := []
  outs  : List (Nat × Nat) := []
  moved : Nat := 0
  /-- Reads that were outstanding when their descriptor ended (R269). -/
  stale : Nat := 0
  work  : Option (Nat × Nat × Nat) := none
  left  : List (Nat × Desc) := []
  frag  : Nat := 0
  /-- The gallery of the entry served, whose PASID the requests carry; 0 for the manager's chains (R261). -/
  gal   : Nat := 0
  /-- Where the device keeps the descriptors of the entry, how many of them have been read, and their bytes with the status words, which stay
  until the channel takes another entry (R172, R260, R268). -/
  spot  : Nat := 0
  run   : Nat := 0
  kept  : List (List Byte) := []
  deriving DecidableEq, Repr

/-! ## The whole -/

/-- The attributes of a request that the device makes of the host (R307, R314): the gallery it is for, traffic class, virtual channel, PASID, and
the ordering attributes. -/
structure HostReq where
  gal     : Nat
  tc      : Nat
  vc      : Nat
  pasid   : Option Nat
  relaxed : Bool := false
  ido     : Bool := false
  noSnoop : Bool := false
  ecrc    : Bool := false
  deriving DecidableEq, Repr

/-- A host-memory request that waits for dma_ready, or for a tag: the bytes of a write, or what makes a read and its length, with the traffic
class. -/
inductive HostOp where
  | write (tc : Nat) (data : List Byte)
  | read (tc : Nat) (who : Reader) (len : Nat)
  deriving DecidableEq, Repr

/-- What the transmitter of a Gliys or Span port sends while it sends no packet (R84, R86, R88): electrical idle, beacon bursts of 1 µs of
IDLE with their period in ns, TS1 then TS2 sets, or IDLE sets, of which 16 go before the first packet. An IDLE set has one form at negative
running disparity and another at positive (R70). -/
inductive LineTx where
  | quiet
  | beacon (ns : Nat) (neg pos : List Sym)
  | train (ts1 ts2 : List Sym)
  | idle (neg pos : List Sym)
  deriving DecidableEq, Repr

/-- What the device sends out, oldest first in `State.out`. -/
inductive Output where
  /-- A posted write to host memory (R307). -/
  | hostWrite (q : HostReq) (addr : Nat) (data : List Byte)
  /-- A read of host memory: address, bytes. -/
  | hostRead (q : HostReq) (addr : Nat) (len : Nat)
  /-- An MSI-X message: vector, address, data (R310). -/
  | msix (vec addr data : Nat)
  /-- The data of a BAR read, and whether it is poisoned (R25). -/
  | readData (d : List Byte) (poisoned : Bool)
  /-- What the transmitter of a root port, or of a Span port, sends from now on between packets. -/
  | gliysLine (n : Nat) (tx : LineTx)
  | spanLine (m : Nat) (tx : LineTx)
  /-- A packet sent by a root port: the instant of its start delimiter in 100 ps, the pad bits before it (R72), and its code groups from the
  start delimiter to the end delimiter, bit a of each in bit 9 (R67). -/
  | gliys (n : Nat) (at_ : Nat) (pad : List Bool) (groups : List (BitVec 10))
  /-- SUS ordered sets sent by a root port (R162). -/
  | sus (n : Nat) (sets : List Sym)
  /-- A packet sent by a Span port, as its code groups (R340). -/
  | span (m : Nat) (groups : List (BitVec 10))
  /-- A DISC packet sent by a Span port, as the record it carries: the manual gives the record no byte layout. -/
  | disc (m : Nat) (r : DiscRec)
  /-- A command on PMBus: the regulator's address, the 100 kHz speed, packet error checking, command code, data (R420). -/
  | pmbus (addr : Nat) (slow pec : Bool) (cmd : Nat) (data : List Byte)
  /-- A PCI Express message by its name. -/
  | pcie (msg : String)
  /-- A read of the flash: SPI command, address, length, clocks between the address and the data, SPI clock in MHz (R436). -/
  | flash (cmd addr len dummy mhz : Nat)
  /-- Bits shifted out on TDO, first bit first. -/
  | tdo (bits : List Bool)
  /-- The levels that the boundary-scan cells drive onto the output balls. -/
  | cells (balls : List (String × Bool))
  /-- Every output placed in high impedance by the test access port (R478). -/
  | highz
  /-- A level driven on a ball. -/
  | pin (ball : String) (level : Bool)
  deriving DecidableEq, Repr

/-! ## The Charter loader, fuses, test access (spec/17_charter_and_startup.md, spec/19_electrical_and_package.md) -/

/-- What the loader runs (R432, R449, R450). -/
inductive ChJob where
  | idle
  | startup
  | check
  | load
  | reapply
  deriving DecidableEq, Repr

/-- What the loader waits for: a read of the flash (R436, R443), the check of a copy (false A, true B), or a permit. -/
inductive ChWait where
  | none
  | permit
  | sfdp
  | table
  | quad (sr2 : Bool)
  | header (b : Bool)
  | body (b : Bool)
  | verify (b : Bool)
  deriving DecidableEq, Repr

/-- The Charter loader beside its registers: the flash parameter table and the image being read; the copies that passed; the refusals of a
re-application (R449); an attach held (R433); the required devices (R448) by port and address. -/
structure Ch where
  job      : ChJob := .idle
  wait     : ChWait := .none
  table    : List Byte := []
  image    : List Byte := []
  copyA    : Option (List Byte) := none
  copyB    : Option (List Byte) := none
  refusals : Nat := 0
  attach   : Bool := false
  required : List (Nat × Nat) := []
  deriving DecidableEq, Repr

/-- The one-time fuses (R439, R479): bits [255:0] of the hash hold digest byte 0 at the top. -/
structure Fuses where
  serial     : Nat := 0
  pWc        : Nat := 0
  keyHash    : Nat := 0
  keyLock    : Bool := false
  burnFailed : Bool := false
  deriving DecidableEq, Repr

/-- The test access port (R478): the instruction, the boundary-scan cells in the order of the chain, the fuse register. -/
structure Jtag where
  ir    : Nat := 1
  cells : List Bool := List.replicate scanBalls.length false
  fuse  : Nat := 0
  deriving DecidableEq, Repr

/-- Whether the test access port holds the balls away from the device: in EXTEST, HIGHZ and CLAMP (R478). -/
def Jtag.holds (j : Jtag) : Bool := j.ir == 0 || j.ir == 3 || j.ir == 4

/-- Whether an output goes out on balls of the boundary-scan chain. -/
def Output.scanned : Output → Bool
  | .pin _ _ => true
  | .pmbus _ _ _ _ _ => true
  | .flash _ _ _ _ _ => true
  | _ => false

/-- The device. -/
structure State where
  part    : Part := .vx4880
  /-- The always-on supply is absent: the state Off (R408). -/
  off     : Bool := false
  /-- The commands that wait, first in first out. -/
  pending : List Instr := []
  /-- The registers by BAR0 offset; an unlisted one holds its reset value (R451). -/
  regs    : Tab Word := []
  /-- The upper halves captured by reads of _LO registers, by the offset of the _HI register (R15). -/
  caps    : Tab Word := []
  /-- SRAM bytes by BAR2 offset; an unlisted byte is 0 (R24, R432). -/
  sram    : List Host.Cell := []
  /-- Words of SRAM that stand flipped: a single-bit error until a write or the scrubber, a double one until a write (R24, R26, R397). -/
  flips   : List SramFlip := []
  out     : List Output := []
  /-- The number of free values drawn so far. -/
  free    : Nat := 0
  tk      : Tk := {}
  ic      : Tab IcInst := []
  rg      : Rg := {}
  fi      : Fi := {}
  cn      : Cn := {}
  pci     : Pcie := {}
  gp      : List Gp := [{}, {}, {}, {}, {}, {}, {}, {}]
  devs    : Tab Dev := []
  /-- The root's sequence bits that are not 0, by port, address and pipe (R112). -/
  seqs    : Tab Nat := []
  /-- The accession queue, oldest first (R170). -/
  acc     : List (List Byte) := []
  px      : Tab Px := []
  cat     : List (Nat × CatEntry) := []
  cu      : List CuPort := [{}, {}, {}, {}, {}, {}, {}, {}]
  /-- The frame whose plans are closed, and when the plans of each frame were complete (R229). -/
  cutoff  : Nat := 0
  built   : List (Nat × Nat) := []
  ga      : List Ga := [{}, {}, {}, {}, {}, {}, {}, {}, {}, {}, {}, {}, {}, {}, {}, {}]
  /-- Work entries fetched and not completed, in fetch order. -/
  work    : List Work := []
  /-- The number of entries into levels of the bulk queues so far (R220). -/
  stamps  : Nat := 0
  /-- Host-memory requests that wait for dma_ready (R314): gallery, address, request. -/
  owed    : List (Nat × Nat × HostOp) := []
  mv      : List Mv := [{}, {}, {}, {}, {}, {}, {}, {}]
  /-- The device-owned channel that got work last (R260). -/
  mvLast  : Nat := 7
  sp      : Sp := {}
  tw      : Tw := {}
  co      : Co := {}
  ch      : Ch := {}
  fuses   : Fuses := {}
  jtag    : Jtag := {}
  deriving DecidableEq, Repr

/-- The device right after a cold reset (R432 step 1): every register at its reset value, memory clear, every engine at rest but for step 2,
the reading of VOUT_MODE and the change of the core supply to 800 mV, which has just begun (R431): CN_PMB_STATUS shows its command. -/
def State.reset : State :=
  { regs := [(0x2044, 0x21000000)]
    cn := { supply := some { use := .coldReset, mv := 800 } }
    ch := { job := .startup }
    out := [.pin "FAULT_N" true, .pin "CHAIN_OUT" true, .pmbus 0x40 false true 0x20 [], .pmbus 0x40 false true 0x21 (voutData 800)] }

end Sys2Proof.Machine
end

