-- ==== Sys2Proof/Machine/Ops.lean ====
section
/-! DEFINITION. The named operations over registers, memory, time and the outbox. -/

namespace Sys2Proof.Machine

/-! ### Registers -/

/-- The word a register holds. -/
def State.reg (s : State) (off : Nat) : Word := tget resetWord s.regs off

/-- Give a register a word. -/
def State.setReg (s : State) (off : Nat) (w : Word) : State := { s with regs := tput resetWord s.regs off w }

/-- The value of a register field. -/
def State.get (s : State) (f : Field) : Nat := f.of (s.reg f.off)

/-- Whether a field is not zero. -/
def State.flag (s : State) (f : Field) : Bool := s.get f != 0

/-- Set a register field; the other bits of its register stay. -/
def State.put (s : State) (f : Field) (v : Nat) : State := s.setReg f.off (f.ins (s.reg f.off) v)

/-- Set a one-bit field. -/
def State.putB (s : State) (f : Field) (b : Bool) : State := s.put f (b2n b)

/-- Set an event bit or a status bit. -/
def State.raise (s : State) (f : Field) : State := s.put f 1

/-- Add to a counter that saturates. -/
def State.add (s : State) (f : Field) (n : Nat) : State := s.put f (min (maxOf f.width) (s.get f + n))

/-- Add one to a counter that saturates. -/
def State.bump (s : State) (f : Field) : State := s.add f 1

/-- Add one to a counter that wraps. -/
def State.wrap (s : State) (f : Field) : State := s.put f ((s.get f + 1) % 2 ^ f.width)

/-- The 64-bit value of the _LO register at `off` and the _HI register after it. -/
def State.reg64 (s : State) (off : Nat) : Nat := (s.reg off).toNat + (s.reg (off + 4)).toNat * 2 ^ 32

/-- Set the _LO and _HI registers at `off` to the low 64 bits of `v`. -/
def State.setReg64 (s : State) (off v : Nat) : State :=
  (s.setReg off (BitVec.ofNat 32 v)).setReg (off + 4) (BitVec.ofNat 32 (v / 2 ^ 32))

/-- Set bit `i` of a register. -/
def State.setBit (s : State) (off i : Nat) : State := s.setReg off (BitVec.ofNat 32 (withBit (s.reg off).toNat i))

/-- Clear bit `i` of a register. -/
def State.clrBit (s : State) (off i : Nat) : State := s.setReg off (BitVec.ofNat 32 (Machine.clrBit (s.reg off).toNat i))

/-! ### Outbox, free values, memory -/

/-- Put one output into the outbox. What would go out on a ball of the boundary-scan chain does not while the test access port holds the balls
(R478). -/
def State.emit (s : State) (o : Output) : State := if s.jtag.holds && o.scanned then s else { s with out := s.out ++ [o] }

/-- Draw a free value of `n` bits: a value the manual leaves open. -/
def State.draw (s : State) (n : Nat) : Nat × State :=
  ((Config.freeValue s.free).toNat % 2 ^ n, { s with free := s.free + 1 })

/-- The byte of SRAM at a BAR2 offset (R24). -/
def State.ram (s : State) (a : Nat) : Byte := tget (fun _ => 0) s.sram a

/-- Write one byte of SRAM. -/
def State.setRam (s : State) (a : Nat) (b : Byte) : State :=
  { s with sram := tput (fun _ => 0) s.sram a b, flips := s.flips.filter fun e => e.off / 8 != a / 8 }

/-- The bytes of SRAM from an offset. -/
def State.ramBytes (s : State) : Nat → Nat → List Byte
  | _, 0 => []
  | a, n + 1 => s.ram a :: s.ramBytes (a + 1) n

/-- Write bytes of SRAM from an offset. -/
def State.setRamBytes : State → Nat → List Byte → State
  | s, _, [] => s
  | s, a, b :: bs => (s.setRam a b).setRamBytes (a + 1) bs

/-! ### The part (R2, R3) -/

def State.nPorts (s : State) : Nat := match s.part with
  | .vx4880 => 8
  | .vx4840 => 4

def State.nSpan (s : State) : Nat := match s.part with
  | .vx4880 => 4
  | .vx4840 => 2

def State.hasTwin (s : State) : Bool := s.part == .vx4880

/-- The ports that exist. -/
def State.ports (s : State) : List Nat := List.range s.nPorts

def State.spans (s : State) : List Nat := List.range s.nSpan

/-! ### Time (R9, R37, R55) -/

/-- The counter of the time keeper, in TAI ns. -/
def State.now (s : State) : Nat := s.tk.time

/-- Run the counter forward to an instant that lies ahead; it never runs backwards (R37). -/
def State.advanceTo (s : State) (t : Nat) : State :=
  if s.tk.time < t then { s with tk := { s.tk with time := t, frac := 0 } } else s

/-- Nanoseconds in one second. -/
def secNs : Nat := 1000000000

/-- The frame rate in force (R57). -/
def State.rate (s : State) : Nat := s.get F.tkFrameRate_active

/-- The number of the current frame (R56). -/
def State.frame (s : State) : Nat := s.get F.tkFrameNum_frame

/-- Boundary j of a second at rate f, within the second (R55). -/
def boundaryIn (f j : Nat) : Nat := j * secNs / f

/-- The first frame boundary after the instant t at rate f (R55). -/
def nextBoundary (f t : Nat) : Nat :=
  let sec := t / secNs
  let r := t % secNs
  let j := r * f / secNs
  let c := if boundaryIn f j > r then j else if boundaryIn f (j + 1) > r then j + 1 else j + 2
  if c ≥ f then (sec + 1) * secNs else sec * secNs + boundaryIn f c

/-- pw_open in force in frame f: the register, or its value before the first change that is not yet in effect (R100). -/
def State.pwOf (s : State) (n f : Nat) : Nat :=
  (((s.gp.getD n {}).pwOld.find? fun p => newer p.1 f).map (·.2)).getD (s.get (F.gpFrameCfg_pw_open n))

/-- The first second boundary at or after t. -/
def secondAtOrAfter (t : Nat) : Nat := (t + secNs - 1) / secNs * secNs

/-- The nominal frame length at a rate, in ns, rounded down: the shortest frame (R206). -/
def frameLen (f : Nat) : Nat := secNs / f

/-- The smallest exponent whose power of two is at least the bound in ps; 15 above 16,384 ns (R53). -/
def errExp (ps : Nat) : Nat :=
  ((List.range 15).find? fun e => decide (ps ≤ 2 ^ e * 1000)).getD 15

/-- The number of Span hops from the fabric time master when time is taken over Span (R54). -/
def State.hopsFromMaster (s : State) : Nat := s.get F.spFabStatus_hops

/-- Whether the chip takes its time over Span (R52). -/
def State.overSpan (s : State) : Bool := s.get F.tkStatus_active_source == 4

/-- The error bound of the locked condition in ns (R54). -/
def State.lockedBound (s : State) : Nat := if s.overSpan then 5 + 5 * s.hopsFromMaster else 5

/-- Whole seconds in the present holdover (TK_HOLD_TIME). -/
def State.holdSeconds (s : State) : Nat :=
  if s.tk.cond = .holdover then (s.now - s.tk.holdStart) / secNs else 0

/-- The error bound of the chip in ps, none when unbounded (R54). -/
def State.chipBound (s : State) : Option Nat :=
  match s.tk.cond with
  | .freeRun => none
  | .locked => some (s.lockedBound * 1000)
  | .holdover => some (s.tk.holdBound * 1000 + s.get F.tkHoldCfg_drift * s.holdSeconds)

/-- The condition code of a chip timestamp taken at t (R51, R52, R53). In the window of a step it is stepped also before the first lock, as
worked step 9 of the first lock shows (DEDUCED, log entry 18). -/
def State.condCode (s : State) (t : Nat) : Nat :=
  match s.tk.cond with
  | .freeRun => if t < s.tk.steppedTo then 2 else 5
  | .locked => if t < s.tk.steppedTo then 2 else 0
  | .holdover => if t < s.tk.steppedTo then 2 else 1

/-- A quality byte (R52): the bound in ps, none unbounded, and the condition code. -/
def State.qualityByte (s : State) (bound : Option Nat) (cond : Nat) : Nat :=
  (match bound with
   | some ps => errExp ps
   | none => 15) * 16 + b2n s.overSpan * 8 + cond

/-- The chip quality byte of a timestamp taken at t (R54). -/
def State.chipQuality (s : State) (t : Nat) : Nat := s.qualityByte s.chipBound (s.condCode t)

/-! ### Power (R408) -/

/-- The power state: 0 Open, 1 Dimmed, 2 Closed, 3 Stowed. -/
def State.power (s : State) : Nat := s.get F.cnStatus_state

/-- Whether the core is gated or unpowered (R408). -/
def State.asleep (s : State) : Bool := 2 ≤ s.power

/-- Whether the core is gated or isolated: in Closed and Stowed, and until a cold reset has confirmed 800 mV (R408, R467). -/
def State.gated (s : State) : Bool := s.asleep || s.get F.chStatus_phase == 0

/-! ### Chip identity and Span origination (R344, R359, R361) -/

/-- This chip's ID. -/
def State.chip (s : State) : Nat := s.get F.spChipId_chip_id

/-- One Span port's engine. -/
def State.spanPort (s : State) (m : Nat) : SpanPort := s.sp.ports.getD m {}

def State.setSpanPort (s : State) (m : Nat) (p : SpanPort) : State :=
  { s with sp := { s.sp with ports := listSet s.sp.ports m p } }

/-- The next packet to become ready takes the next place in the order. -/
def State.spanTick (s : State) : State := { s with sp := { s.sp with seq := s.sp.seq + 1 } }

/-- Put a packet behind those that wait at a Span port (R353). -/
def State.spanReady (s : State) (m : Nat) (p : SpanPkt) : State :=
  s.spanTick.setSpanPort m { s.spanPort m with ready := (s.spanPort m).ready ++ [{ p with stamp := s.sp.seq }] }

/-- The state of Span link m (R342): 3 is Active. -/
def State.spanState (s : State) (m : Nat) : Nat := s.get (F.spPStatus_state m)

/-- Whether Span link m is a link of the routing tree (R359). -/
def State.treeLink (s : State) (m : Nat) : Bool :=
  s.flag (F.spPStatus_tree_parent m) || s.flag (F.spPStatus_tree_child m)

/-- The port SP_ROUTE gives for a chip (R359). -/
def State.routeTo (s : State) (d : Nat) : Option Nat :=
  if s.flag (F.spRoute_valid d) then some (s.get (F.spRoute_port d)) else none

/-- Send a packet this chip originates: to one chip by its route, or to every chip over every tree link when dst is 63 (R361). A packet of
its own that has no route is dropped, and counted as R360 counts one that it forwards, at port 0, since no port is its own (DESIGN CHOICE, log entry
152). -/
def State.spanSend (s : State) (p : SpanPkt) : State :=
  if p.dst = 63 then
    forEach s.spans s fun s m => if s.treeLink m then s.spanReady m p else s
  else match s.routeTo p.dst with
    | some m => s.spanReady m p
    | none => s.bump (F.spPTraffic_lost 0)

end Sys2Proof.Machine
end

