-- ==== Sys2Proof/Machine/Units.lean ====
section
/-! DEFINITION. Access to the ports, devices, contexts, catalogue, work entries and rings, and the figures that registers show of them. -/

namespace Sys2Proof.Machine

/-! ### Ports and devices -/

/-- The engine of root port n. -/
def State.port (s : State) (n : Nat) : Gp := s.gp.getD n {}

/-- Change the engine of root port n. -/
def State.modPort (s : State) (n : Nat) (f : Gp → Gp) : State := { s with gp := listSet s.gp n (f (s.port n)) }

/-- The key of device a of port n. -/
def devKey (n a : Nat) : Nat := n * 64 + a

/-- What accession knows of a device. -/
def State.dev (s : State) (n a : Nat) : Dev := tget (fun _ => {}) s.devs (devKey n a)

/-- Change what accession knows of a device. -/
def State.modDev (s : State) (n a : Nat) (f : Dev → Dev) : State :=
  { s with devs := tput (fun _ => {}) s.devs (devKey n a) (f (s.dev n a)) }

/-- The link state of root port n (R84). -/
def State.link (s : State) (n : Nat) : Nat := s.get (F.gpLinkStatus_state n)

def State.setLink (s : State) (n st : Nat) : State := s.put (F.gpLinkStatus_state n) st

/-- The state of device a (R139). -/
def State.devSt (s : State) (n a : Nat) : Nat := s.get (F.gpDevState_state n a)

def State.setDevSt (s : State) (n a st : Nat) : State := s.put (F.gpDevState_state n a) st

/-- The assigned addresses. -/
def addrs : List Nat := (List.range 62).map (· + 1)

/-- The parent of device a and the hub port it hangs on; 0 and 0 for the root port. -/
def State.place (s : State) (n a : Nat) : Nat × Nat := (s.get (F.gpDevState_parent n a), s.get (F.gpDevState_parent_port n a))

/-- Whether a device is attached: in Accession, Unranged, Ranged, Resynced or Suspended (R139). -/
def State.attached (s : State) (n a : Nat) : Bool := 2 ≤ s.devSt n a && s.devSt n a ≤ 6

/-- Whether a device has a valid ranging result and is served in packed slots (R155). -/
def State.isRanged (s : State) (n a : Nat) : Bool := s.devSt n a == 4 || s.devSt n a == 5

/-- Whether a device is a hub. -/
def State.isHub (s : State) (n a : Nat) : Bool := s.get (F.gpDevId3_class n a) == 1

/-! ### Shared ports of a twin pair (R368, R371) -/

/-- Whether port n is shared with the twin partner. -/
def State.sharedPort (s : State) (n : Nat) : Bool :=
  s.hasTwin && s.flag F.twCtrl_enable && bitOf (s.get F.twCfg_shared) n

/-- Whether the entries of port n carry the extra cost of a shared port (R371): TW_CFG lists it. -/
def State.costShared (s : State) (n : Nat) : Bool := s.hasTwin && bitOf (s.get F.twCfg_shared) n

/-- Whether this chip owns the tree of port n: it runs accession and sends packets on it. -/
def State.ownsPort (s : State) (n : Nat) : Bool := !s.sharedPort n || bitOf (s.get F.twStatus_own) n

/-! ### Contexts -/

/-- The engine's part of context c. -/
def State.ctx (s : State) (c : Nat) : Px := tget (fun _ => {}) s.px c

/-- Change the engine's part of context c. -/
def State.modCtx (s : State) (c : Nat) (f : Px → Px) : State := { s with px := tput (fun _ => {}) s.px c (f (s.ctx c)) }

def State.pxPort (s : State) (c : Nat) : Nat := s.get (F.pxBind_port c)
def State.pxAddr (s : State) (c : Nat) : Nat := s.get (F.pxBind_addr c)
def State.pxPipe (s : State) (c : Nat) : Nat := s.get (F.pxBind_pipe c)
def State.pxKind (s : State) (c : Nat) : Nat := s.get (F.pxBind_kind c)
def State.pxMax (s : State) (c : Nat) : Nat := s.get (F.pxBind_max_len c)
def State.pxGal (s : State) (c : Nat) : Nat := s.get (F.pxCtrl_gallery c)
def State.pxArm (s : State) (c : Nat) : Bool := s.flag (F.pxBind_armour c)

/-- Whether frame f has been reached (R10). -/
def State.reached (s : State) (f : Nat) : Bool := !newer f s.frame

/-- The effect frame of a change accepted now (R176). -/
def State.effect (s : State) : Nat := (s.frame + 3) % 2 ^ 32

/-- Whether the device state lets a pipe of a kind be served (R175). -/
def kindServed (kind st : Nat) : Bool :=
  if kind = 1 || kind = 2 then st == 4 || st == 5 else st == 3 || st == 4 || st == 5

/-- The state code of context c (R175). -/
def State.pxState (s : State) (c : Nat) : Nat :=
  if s.pxKind c = 0 then 0
  else
    let m := (s.ctx c).mode
    if m = 2 && !kindServed (s.pxKind c) (s.devSt (s.pxPort c) (s.pxAddr c)) then 3 else m

/-- Whether context c is served by plans and polls of frame f: Enabled, Stopping once any pending enable has taken effect (R178), or Disabled,
Held or Halted with a return to Enabled that takes effect by then (R176, R180, R181). -/
def State.pxServed (s : State) (c f : Nat) : Bool :=
  let x := s.ctx c
  s.pxState c == 2 || (x.mode == 6 && (match x.enAt with
    | some e => !newer e f
    | none => true) && (match x.disAt with
    | some d => newer d f
    | none => true)) || ((x.mode == 1 || x.mode == 4 || x.mode == 5) && (match x.enAt with
    | some e => !newer e f
    | none => false))

/-- The value of a setting in force in frame f: the register, or its value before the first change that is not yet in effect (R176). -/
def inForce (f : Nat) (reg : Word) : List (Nat × Word) → Word
  | [] => reg
  | (e, w) :: rest => if newer e f then w else inForce f reg rest

def State.qualOf (s : State) (c f : Nat) : Word := inForce f (s.reg (R.pxQual c)) (s.ctx c).quals
def State.applyOf (s : State) (c f : Nat) : Word := inForce f (s.reg (R.pxApply c)) (s.ctx c).applies

/-- The contexts that are not Free. -/
def State.ctxs (s : State) : List Nat :=
  ((s.regs.filter fun p => 0x40000 ≤ p.1 && p.1 < 0x80000 && p.1 % 0x80 == 4).map fun p => (p.1 - 0x40004) / 0x80).filter fun c => s.pxKind c != 0

/-! ### Regions (R184) -/

/-- The slot stride of a context in granules. -/
def State.stride (s : State) (c : Nat) : Nat := ceilDiv (16 + s.pxMax c) 64

/-- The smallest region of a context in granules. -/
def State.minRegion (s : State) (c : Nat) : Nat :=
  match s.pxKind c with
  | 2 => (2 + s.get (F.pxBind_reflex_target c)) * s.stride c
  | 3 => 2 * ceilDiv (s.pxMax c) 64
  | 4 => 2 * ceilDiv (s.pxMax c) 64
  | _ => 2 * s.stride c

/-- The byte offset of slot k of a context's region. -/
def State.slotAt (s : State) (c k : Nat) : Nat := (s.get (F.pxRegion_base c) + k * s.stride c) * 64

/-- The number of staging slots of a periodic-in or event-in region; a hub's pipe 1 is staged elsewhere (R174). -/
def State.nSlots (s : State) (c : Nat) : Nat :=
  let k := s.get (F.pxRegion_size c) / max 1 (s.stride c)
  if k = 0 then 32 else k

/-- The offsets of the reflex slot and of the hold slot of a periodic-out region. -/
def State.reflexSlot (s : State) (c : Nat) : Nat := s.slotAt c 0
def State.holdSlot (s : State) (c : Nat) : Nat := s.slotAt c (s.get (F.pxBind_reflex_target c))

/-! ### The catalogue (R185, R186) -/

/-- The valid entry at a catalogue index. -/
def State.catAt (s : State) (i : Nat) : Option CatEntry := (s.cat.find? (·.1 == i)).map (·.2)

/-- The valid entries of the partition of port n, in ascending index. -/
def State.partition (s : State) (n : Nat) : List (Nat × CatEntry) := s.cat.filter fun e => e.1 / 2048 == n

/-! ### Work entries (R234 to R238) -/

def Work.op (w : Work) : Nat := byteAt w.ent 0
def Work.fence (w : Work) : Bool := bitOf (byteAt w.ent 1) 0
def Work.indirect (w : Work) : Bool := bitOf (byteAt w.ent 1) 1
def Work.level0 (w : Work) : Nat := byteAt w.ent 1 / 4 % 8
def Work.notBefore (w : Work) : Bool := bitOf (byteAt w.ent 1) 5
def Work.irq (w : Work) : Bool := bitOf (byteAt w.ent 1) 6
def Work.target (w : Work) : Nat := leAt w.ent 4 4
def Work.remote (w : Work) : Bool := bitOf w.target 31
def Work.chip (w : Work) : Nat := w.target / 2 ^ 24 % 64
def Work.port (w : Work) : Nat := w.target / 2 ^ 18 % 8
def Work.addr (w : Work) : Nat := w.target / 2 ^ 12 % 64
def Work.ctx (w : Work) : Nat := w.target % 2048
def Work.len (w : Work) : Nat := leAt w.ent 8 3
def Work.nFrag (w : Work) : Nat := byteAt w.ent 11 + 1
def Work.frame (w : Work) : Nat := leAt w.ent 12 4
def Work.host (w : Work) : Nat := leAt w.ent 16 8
def Work.setup (w : Work) : List Byte := (w.ent.drop 24).take 8
/-- The data stage runs upstream (R104). -/
def Work.setupUp (w : Work) : Bool := bitOf (byteAt w.ent 24) 7
def Work.setupLen (w : Work) : Nat := leAt w.ent 30 2
/-- Catalogue parameters (R238). -/
def Work.catIndex (w : Work) : Nat := leAt w.ent 16 2 % 2 ^ 14
def Work.catSched (w : Work) : CatSched := { exp := byteAt w.ent 18 % 16, phase := leAt w.ent 20 2 % 1024, reflex := bitOf (byteAt w.ent 19) 0 }
/-- Whether an entry is a transfer of the bulk queue. -/
def Work.bulk (w : Work) : Bool := 1 ≤ w.op && w.op ≤ 3
/-- The bytes that an entry's buffer holds. -/
def Work.bytes (w : Work) : Nat := if w.op = 3 then w.setupLen else w.len
/-- Whether the data goes to the device. -/
def Work.outward (w : Work) : Bool := w.op == 2 || (w.op == 3 && !w.setupUp)

/-- The bytes that an entry's transfer has moved: acknowledged by the device, or received from it (R245). -/
def Work.moved (w : Work) : Nat := if w.outward then w.sent else w.data.length

/-- Whether a control transfer is that of a work entry. -/
def CtlFor.isWork : CtlFor → Bool
  | .work _ _ _ => true
  | _ => false

/-- The root port, address and pipe of a local transfer. -/
def State.workPlace (s : State) (w : Work) : Nat × Nat × Nat :=
  if w.op = 3 then (w.port, w.addr, 0) else (s.pxPort w.ctx, s.pxAddr w.ctx, s.pxPipe w.ctx)

/-- The entry of a ring that is fetched and not completed. -/
def State.findWork (s : State) (g r i : Nat) : Option Work := s.work.find? fun w => w.g == g && w.r == r && w.i == i

/-- Change one work entry. -/
def State.modWork (s : State) (g r i : Nat) (f : Work → Work) : State :=
  { s with work := s.work.map fun w => if w.g = g && w.r = r && w.i = i then f w else w }

/-- A work entry is gone. -/
def State.dropWork (s : State) (g r i : Nat) : State :=
  { s with work := s.work.filter fun w => !(w.g == g && w.r == r && w.i == i) }

/-! ### Rings (R230 to R233) -/

/-- A gallery's rings and event ring. -/
def State.gaOf (s : State) (g : Nat) : Ga := s.ga.getD g {}
def State.modGa (s : State) (g : Nat) (f : Ga → Ga) : State := { s with ga := listSet s.ga g (f (s.gaOf g)) }
def State.ring (s : State) (g r : Nat) : Ring := (s.gaOf g).rings.getD r {}
def State.modRing (s : State) (g r : Nat) (f : Ring → Ring) : State :=
  s.modGa g fun a => { a with rings := listSet a.rings r (f (s.ring g r)) }

/-! ### The Curator's ports -/

def State.cuPort (s : State) (n : Nat) : CuPort := s.cu.getD n {}
def State.modCu (s : State) (n : Nat) (f : CuPort → CuPort) : State := { s with cu := listSet s.cu n (f (s.cuPort n)) }

/-! ### Routes (R280) -/

/-- A field of a route entry: word, lowest bit, width. -/
def rf (ws : List Nat) (i lo width : Nat) : Nat := bitsOf (ws.getD i 0) lo width

def routeValid (ws : List Nat) : Bool := rf ws 0 31 1 == 1
def routeKind (ws : List Nat) : Nat := rf ws 0 28 3

/-- Whether chip number d names this chip in a route: 62, or its own ID. -/
def State.isHere (s : State) (d : Nat) : Bool := d == 62 || d == s.chip

/-- Whether a valid route entry takes its events from a pipe of this chip. -/
def State.routedPipe (s : State) (n a p : Nat) : Bool :=
  s.flag F.coCtrl_routes_enable && s.co.routes.any fun e =>
    routeValid e.2 && s.isHere (rf e.2 0 20 6) && rf e.2 0 17 3 == n && rf e.2 0 11 6 == a && rf e.2 0 7 4 == p

/-! ### Queues (R220, R224, R295) -/

/-- The entries in the bulk queue of port n, in the order they were fetched. -/
def State.bulkQueue (s : State) (n : Nat) : List Work := s.work.filter fun w => w.loc == .queued && (s.workPlace w).1 == n

/-- need_n of R216. -/
def State.tagNeed (s : State) (n : Nat) : Nat := (s.get (F.cuPortCfg_fill_ns n) + 12) / 80 + 2

/-- Tags of the bulk engine in flight on a port, those of answered transactions included while their windows are open (R216). -/
def State.tagsUsed (s : State) (n : Nat) : Nat :=
  ((s.port n).opens.filter (·.pool)).length + ((s.port n).tags.filter fun t => s.now * 10 < t.2.1 && t.2.2).length

/-- The number of items in the delay lists. -/
def State.delayCount (s : State) : Nat := (s.work.filter (·.loc == .delayed)).length

/-- The number of entries in the Courier's remote queue; one that is sent has left it, and holds a tag (R294, R295). -/
def State.remoteCount (s : State) : Nat := (s.work.filter fun w => w.loc == .remote && !w.started).length

end Sys2Proof.Machine
end

