-- ==== Sys2Proof/Machine/Account.lean ====
section
/-! DEFINITION. The Conservator's account and its permit queue (spec/16_conservator.md R425 to R428). -/

namespace Sys2Proof.Machine

/-- The supply charge at a setpoint in mV (R425). -/
def supplyCharge (v : Nat) : Nat := if v ≤ 720 then 0 else ceilDiv (1750 * (v * v - 720 * 720)) (720 * 720)

/-- The setpoint that the account charges: the one last confirmed, or that of a step-up which runs, whose cost stays charged from its grant on
(R425, R427). -/
def State.chargedMv (s : State) : Nat :=
  let v := s.get F.cnSupply_setpoint_mv
  match s.cn.supply with
  | some u => match u.use with
    | .stepUp => max v u.mv
    | .forced => max v u.mv
    | _ => v
  | none => v

/-- The periodic cap of a port in ns (R206). -/
def State.capNs (s : State) (n : Nat) : Nat := s.get F.cuAdmitCfg_cap_pct * frameLen s.rate / 100 - s.pwOf n s.frame

/-- The periodic reserve of a port (R425). -/
def State.periodicCharge (s : State) (n : Nat) : Nat := ceilDiv (60 * s.get (F.cuPortLoad_time_max n)) (s.capNs n)

def sumOf (xs : List Nat) : Nat := xs.foldl (· + ·) 0

/-- The sum of the periodic reserves. -/
def State.periodicCharges (s : State) : Nat := sumOf (s.ports.map s.periodicCharge)

/-- The number of root ports not in Disabled. -/
def State.livePorts (s : State) : Nat := (s.ports.filter fun n => s.flag (F.gpLinkStatus_state n)).length

/-- The number of Span ports not in Disabled. -/
def State.liveSpans (s : State) : Nat := (s.spans.filter fun m => s.flag (F.spPStatus_state m)).length

/-- The standing charges in mW (R425). -/
def State.standing (s : State) : Nat :=
  250 + 300 + 550 + 300 + (if s.pci.link = .l0 then 400 else 0) + 75 * s.livePorts + 110 * s.liveSpans + s.periodicCharges +
  (if s.power = 0 then 30 * s.livePorts else 0) + supplyCharge s.chargedMv

/-- The limit that can be allotted: the budget less the leakage margin (R425). -/
def State.allottable (s : State) : Nat := s.get F.cnBudget_limit_mw - 260

/-- The cost of the permits held. -/
def State.permitsHeld (s : State) : Nat := sumOf (s.cn.held.map (·.cost))

/-- The kind code of a permit (R427). -/
def PermitFor.kind : PermitFor → Nat
  | .training _ => 1
  | .spanTraining _ => 2
  | .sweep _ _ => 3
  | .spanSweep _ => 4
  | .scrub => 5
  | .discovery => 6
  | .charter => 7
  | .stepUp => 8

/-- The cost of a permit (R427); that of a step-up is the rise in supply charge for 5 mV (R423). -/
def State.permitCost (s : State) : PermitFor → Nat
  | .training _ => 120
  | .spanTraining _ => 150
  | .sweep _ _ => 40
  | .spanSweep _ => 40
  | .scrub => 60
  | .discovery => 30
  | .charter => 50
  | .stepUp => supplyCharge (s.get F.cnSupply_setpoint_mv + 5) - supplyCharge (s.get F.cnSupply_setpoint_mv)

/-- A refusal: counted, and an event (R428). -/
def State.permitRefused (s : State) : State := (s.bump F.cnPermitCnt_refused).raise F.cnEvents_permit_refused

/-- Whether a step down into Closed is in progress (R411). -/
def State.closing (s : State) : Bool :=
  match s.cn.move with
  | .down _ st _ => st == 2
  | _ => false

/-- Whether port n's bulk engine has a transaction open (R220, R411). -/
def State.bulkOut (s : State) (n : Nat) : Bool :=
  (s.port n).opens.any fun x => match x.use with
    | .bulk _ _ _ => true
    | .ctl (.work _ _ _) => true
    | _ => false

/-- Whether a request would be refused on arrival, by causes 1 to 3 (R428). -/
def State.permitBars (s : State) (use : PermitFor) : Bool :=
  s.asleep || s.closing || s.standing + s.permitCost use > s.allottable || 16 ≤ s.cn.queue.length

/-- A queue whose head has changed at time t: the head's wait begins (R428). -/
def headAt (t : Nat) : List Permit → List Permit
  | [] => []
  | p :: ps => { p with at_ := t } :: ps

/-- Ask for a permit: queued, at the head for a step-up, or refused (R426, R428). The answer says whether it is queued. -/
def State.permitAsk (s : State) (use : PermitFor) : Bool × State :=
  if s.permitBars use then (false, s.permitRefused)
  else
    let p : Permit := { use := use, cost := s.permitCost use, at_ := s.now }
    (true, { s with cn := { s.cn with queue := if use.kind = 8 then p :: s.cn.queue else s.cn.queue ++ [p] } })

/-- Whether a permit for this use is held. -/
def State.holds (s : State) (use : PermitFor) : Bool := s.cn.held.any (·.use == use)

/-- Whether a request for this use waits in the queue. -/
def State.asked (s : State) (use : PermitFor) : Bool := s.cn.queue.any (·.use == use)

/-- The holder returns its permit, and its cost leaves the account (R427). -/
def State.permitReturn (s : State) (use : PermitFor) : State :=
  { s with cn := { s.cn with held := s.cn.held.filter (·.use != use) } }

/-- A request leaves the queue unanswered. -/
def State.permitDrop (s : State) (use : PermitFor) : State :=
  let q := s.cn.queue.filter (·.use != use)
  { s with cn := { s.cn with queue := if s.cn.queue.any (·.use == use) && q.head? != s.cn.queue.head? then headAt s.now q else q } }

end Sys2Proof.Machine
end

