-- ==== Sys2Proof/Machine/Operands.lean ====
section
/-! DEFINITION. The registers and sources that the operands of commands name. -/

namespace Sys2Proof.Machine

/-- The key of interrupt source i of gallery page g, and of shared source n (R324, R325). -/
def privKey (g i : Nat) : Nat := g * 64 + i
def shKey (n : Nat) : Nat := 1024 + n

/-- The key of source k: of gallery g's private ones, or a shared one. -/
def srcKey (g : Option (Fin 16)) (k : Nat) : Nat := match g with
  | some g => privKey g k
  | none => shKey k

/-- Word k of the MSI-X table entry of a vector (R310). -/
def msixWord (v k : Nat) : Nat := 0x800 + 0x10 * v + 4 * k

/-- CU_ADMIT_CFG, or CU_PORTn_CFG of a port. -/
def admissionReg (n : Option (Fin 8)) : Nat := match n with
  | some n => R.cuPortCfg n
  | none => R.cuAdmitCfg

/-- Word k of the enables of gallery g's private sources (two words), or of the shared ones. -/
def enableReg (g : Option (Fin 16)) (k : Fin 6) : Nat := match g with
  | some g => R.icEnableLo g + 4 * (k % 2)
  | none => R.icShEn k

end Sys2Proof.Machine
end

