-- ==== Sys2Proof/Machine/Irq.lean ====
section
/-! DEFINITION. The interrupt controller's sources, instances, delivery and claims (spec/12_interrupts.md), and the galleries' readiness. -/

namespace Sys2Proof.Machine

/-! ### Galleries (R314, R316) -/

/-- The state code of a gallery: 0 Closed, 1 Open, 2 Halted, 3 Resetting, 4 Closing (R316). -/
def State.gal (s : State) (g : Nat) : Nat := s.get (F.gaStatus_state g)

/-- Whether a host is attached (R311). -/
def State.hosted (s : State) : Bool := s.flag (F.gaStatus_hosted 0)

/-- GA_STATUS.dma_ready (R314). -/
def State.dmaReady (s : State) (g : Nat) : Bool :=
  s.pci.busMaster && s.hosted && s.gal g != 0 && (g == 0 || (s.pci.pasidEn && s.flag (F.gaPasid_valid g)))

/-! ### Sources (R324, R325) -/

/-- Whether a private source exists in a page (R324). -/
def privExists (g n : Nat) : Bool :=
  n < 64 && (if g = 0 then n != 12 && n != 15 else n < 14 || 32 ≤ n)

/-- Whether a shared source can become pending on the part (R325). -/
def State.shExists (s : State) (n : Nat) : Bool :=
  64 ≤ n && n < 256 &&
  (n < 78 || (80 ≤ n && n < 104 && (n - 80) % 8 < s.nPorts) || (104 ≤ n && n < 107) || (112 ≤ n && n < 112 + s.nSpan) ||
   (n == 116 && s.hasTwin) || (117 ≤ n && n < 121) || 128 ≤ n)

/-- Whether the source of a key exists. -/
def State.srcExists (s : State) (k : Nat) : Bool := if k < 1024 then privExists (k / 64) (k % 64) else s.shExists (k - 1024)

/-- The offset of the configuration word of a source. -/
def icCfg (k : Nat) : Nat := if k < 1024 then R.icSrccfg (k / 64) (k % 64) else R.icShCfg (k - 1024 - 64)

def State.icPrio (s : State) (k : Nat) : Nat := bitsOf (s.reg (icCfg k)).toNat 0 4
def State.icCount (s : State) (k : Nat) : Nat := max 1 (bitsOf (s.reg (icCfg k)).toNat 8 8)
def State.icTarget (s : State) (k : Nat) : Nat := bitsOf (s.reg (icCfg k)).toNat 4 4

/-- The enable bit of a source (R328). -/
def State.icEnabled (s : State) (k : Nat) : Bool :=
  if k < 1024 then bitOf (s.reg (R.icEnableLo (k / 64) + k % 64 / 32 * 4)).toNat (k % 32)
  else bitOf (s.reg (R.icShEn ((k - 1024 - 64) / 32))).toNat ((k - 1024) % 32)

/-- The instance of a source. -/
def State.inst (s : State) (k : Nat) : IcInst := tget (fun _ => {}) s.ic k

def State.setInst (s : State) (k : Nat) (i : IcInst) : State := { s with ic := tput (fun _ => {}) s.ic k i }

/-- The instance becomes Pending; its fallback timer starts (R333). -/
def State.icPend (s : State) (k : Nat) : State :=
  s.setInst k { s.inst k with phase := .pending, since := s.now, fallen := false }

/-- One event at a source: it gathers or pends by its enable bit and coalescing count (R327, R328). -/
def State.icEvent (s : State) (k : Nat) : State :=
  if s.srcExists k && s.icEnabled k then
    match (s.inst k).phase with
    | .idle => if s.icCount k ≤ 1 then s.icPend k else s.setInst k { s.inst k with phase := .gathering 1 s.now }
    | .gathering n t => if s.icCount k ≤ n + 1 then s.icPend k else s.setInst k { s.inst k with phase := .gathering (n + 1) t }
    | .pending => s
  else s

/-- An event of a private source of a gallery (R324). -/
def State.privEvent (s : State) (g n : Nat) : State := s.icEvent (privKey g n)

/-- A software set: an event that meets the coalescing condition (R336). -/
def State.icSet (s : State) (k : Nat) : State :=
  if s.srcExists k && s.icEnabled k && (s.inst k).phase != .pending then s.icPend k else s

/-! ### Delivery (R330 to R335) -/

/-- Whether a shared source's target is served: Open or Resetting with dma_ready (R333). -/
def State.served (s : State) (g : Nat) : Bool := (s.gal g == 1 || s.gal g == 3) && s.dmaReady g

/-- Whether the delivery of the source lies with gallery g (R330, R333). -/
def State.liesWith (s : State) (g k : Nat) : Bool :=
  if k < 1024 then k / 64 == g
  else if (s.inst k).fallen then g == 0
  else s.icTarget k == g && s.served g

/-- The running level of a gallery (R330). -/
def State.icLevel (s : State) (g : Nat) : Nat :=
  s.ic.foldl (fun m p => match p.2.claim with
    | some (h, pr) => if h = g then max m pr else m
    | none => m) 0

/-- The number of sources a gallery holds Claimed. -/
def State.icClaims (s : State) (g : Nat) : Nat :=
  (s.ic.filter fun p => match p.2.claim with
    | some (h, _) => h == g
    | none => false).length

/-- Whether a source is deliverable to gallery g (R330). -/
def State.deliverable (s : State) (g k : Nat) : Bool :=
  (s.inst k).phase == .pending && (s.inst k).claim.isNone && s.icPrio k > s.get (F.icThreshold_threshold g) &&
  s.icPrio k > s.icLevel g && s.liesWith g k

/-- The number of a source. -/
def srcNum (k : Nat) : Nat := if k < 1024 then k % 64 else k - 1024

/-- The deliverable source with the highest priority, the lowest number among equals (R330). -/
def State.icBest (s : State) (g : Nat) : Option Nat :=
  s.ic.foldl (fun b p =>
    if s.deliverable g p.1 then
      match b with
      | none => some p.1
      | some c => if s.icPrio p.1 > s.icPrio c || (s.icPrio p.1 == s.icPrio c && srcNum p.1 < srcNum c) then some p.1 else b
    else b) none

/-- The request line of a gallery: high while a source is deliverable; held low while Closed (R331, R332). -/
def State.reqLine (s : State) (g : Nat) : Bool := s.gal g != 0 && (s.icBest g).isSome

/-- A read of IC_CLAIM: the number it returns, 0xFFFF for none, and its effect (R330). -/
def State.icClaim (s : State) (g : Nat) : Nat × State :=
  match s.icBest g with
  | some k => (srcNum k, s.setInst k { s.inst k with phase := .idle, claim := some (g, s.icPrio k), fallen := false })
  | none => (0xFFFF, s)

/-- The conditions of an MSI-X message on a vector (R331, R337). -/
def State.msiReady (s : State) (v : Nat) : Bool :=
  !s.asleep && s.pci.msixEn && s.pci.busMaster && s.hosted && (v == 0 || v == 16 || s.dmaReady v)

/-- Whether a vector or its function is masked (R310). -/
def State.msixMasked (s : State) (v : Nat) : Bool := s.pci.msixMask || bitOf (s.reg (msixWord v 3)).toNat 0

/-- Send a message on a vector, or set its pending bit while it is masked (R310). -/
def State.msi (s : State) (v : Nat) : State :=
  if s.msixMasked v then s.setBit 0xC00 v
  else (s.clrBit 0xC00 v).emit (.msix v ((s.reg (msixWord v 0)).toNat + (s.reg (msixWord v 1)).toNat * 2 ^ 32) (s.reg (msixWord v 2)).toNat)

/-- Send the messages whose pending bits stand, whose vectors are no longer masked, and which a message can leave for (R310, R331). -/
def State.msixFlush (s : State) : State :=
  forEach (List.range 17) s fun s v =>
    if bitOf (s.reg 0xC00).toNat v && !s.msixMasked v && s.msiReady v then s.msi v else s

/-- The enable bit of a source goes to 0: its instance returns to Idle, a claim stays (R328). -/
def State.icDisable (s : State) (k : Nat) : State :=
  s.setInst k { s.inst k with phase := .idle, fallen := false }

/-- The interrupt part of a gallery reset (R318 step 4, R335). -/
def State.icGalleryReset (s : State) (g : Nat) : State :=
  forEach (s.ic.map (·.1)) s fun s k =>
    if k < 1024 then
      if k / 64 = g then
        s.setInst k { s.inst k with claim := none, phase := if (s.inst k).phase = .pending then .idle else (s.inst k).phase }
      else s
    else match (s.inst k).claim with
      | some (h, _) =>
        if h = g then
          if s.icEnabled k then
            let s1 := s.setInst k { s.inst k with claim := none }
            if (s.inst k).phase = .pending then s1 else s1.icPend k
          else s.setInst k { s.inst k with claim := none, phase := .idle }
        else s
      | none => s

end Sys2Proof.Machine
end

