-- ==== Sys2Proof/Machine/Views.lean ====
section
/-! DEFINITION. What a read of each register returns: the stored word, with the fields that show the device's present state (R487). -/

namespace Sys2Proof.Machine

/-- Set a field of a word. -/
def withField (w : Word) (f : Field) (v : Nat) : Word := f.ins w v

/-- A map of bits: bit i is set where `p` holds, for i below n. -/
def bitMap (n : Nat) (p : Nat → Bool) : Word :=
  BitVec.ofNat 32 ((List.range n).foldl (fun a i => if p i then a + 2 ^ i else a) 0)

/-- TK registers that show the counter and the chip quality (R9, R52). -/
def State.peekTk (s : State) (off : Nat) : Word :=
  if off = R.tkTimeLo then BitVec.ofNat 32 s.now
  else if off = R.tkTimeHi then BitVec.ofNat 32 (s.now / 2 ^ 32)
  else if off = R.tkStatus then withField (s.reg off) F.tkStatus_quality (s.chipQuality s.now)
  else if off = R.tkHoldTime then BitVec.ofNat 32 s.holdSeconds
  else s.reg off

/-- CN registers that show the account and the permit queue (R425, R426). The account begins with the release of the core: until a cold reset has
set the supply its words hold their reset value (R453, R467). -/
def State.peekCn (s : State) (off : Nat) : Word :=
  if s.get F.chStatus_phase = 0 then s.reg off
  else if off = R.cnAccount then BitVec.ofNat 32 (s.standing + s.permitsHeld * 2 ^ 16)
  else if off = R.cnCharges then BitVec.ofNat 32 (s.periodicCharges + supplyCharge s.chargedMv * 2 ^ 16)
  else if off = R.cnPermitStatus then
    BitVec.ofNat 32 (s.cn.queue.length * 2 ^ 24 + (match s.cn.queue with
      | p :: _ => p.use.kind
      | [] => 0) * 2 ^ 20 + s.cn.held.length)
  else s.reg off

/-- The figures of the Curator that follow its queues and tags (R170, R216, R220, R225). -/
def State.peekCu (s : State) (off : Nat) : Word :=
  let need := sumOf (s.ports.map s.tagNeed)
  if off = R.cuDelayStatus then withField (s.reg off) F.cuDelayStatus_count s.delayCount
  else if off = R.cuTagStatus then
    withField (withField (s.reg off) F.cuTagStatus_reserved need) F.cuTagStatus_pool_free (1024 - need - sumOf (s.ports.map s.tagsUsed))
  else if R.cuAccRec 0 ≤ off && off ≤ R.cuAccRec 3 then BitVec.ofNat 32 (leAt (s.acc.headD []) (off - R.cuAccRec 0) 4)
  else if 0x8200 ≤ off && off < 0x8300 && off % 0x20 = 0xC then
    let n := (off - 0x8200) / 0x20
    let q := s.bulkQueue n
    withField (withField (s.reg off) (F.cuPortQueue_queued n) q.length) (F.cuPortQueue_urgent n)
      ((q.filter fun w => w.level == 7).length + (s.cu.getD n {}).reflexes.length)
  else s.reg off

/-- MV_STATUS (R259, R273). -/
def State.peekMv (s : State) (off : Nat) : Word :=
  if off = R.mvStatus then
    let st c := s.get (F.mvChState_state c)
    bitMap 8 (fun c => st c == 1 || st c == 2) ||| (bitMap 8 fun c => s.flag (F.mvChCtrl_owner c)) <<< 8
  else s.reg off

/-- The Courier's figures of valid routes, tags, tickets and the remote queue. -/
def State.peekCo (s : State) (off : Nat) : Word :=
  if off = R.coStatus then
    withField (withField (s.reg off) F.coStatus_routes (s.co.routes.filter fun r => bitOf (r.2.getD 0 0) 31).length) F.coStatus_tags s.co.rems.length
  else if off = R.coRemoteStatus then
    withField (withField (s.reg off) F.coRemoteStatus_tickets s.co.tickets.length) F.coRemoteStatus_queued s.remoteCount
  else s.reg off

/-- Mirror messages that are queued, or sent on port 3 and not acknowledged (R372). -/
def State.mirrorBacklog (s : State) : Nat :=
  let p := s.spanPort 3
  let mine (x : SpanPkt) : Bool := x.typ == 3 && byteAt x.tsd 0 == 0x11
  s.tw.mirror.length + (p.replay.filter fun x => mine x.2.2.2).length

/-- CH_STATUS.missing: required devices that are not Ranged (R448). -/
def State.missing (s : State) : Nat := (s.ch.required.filter fun p => s.devSt p.1 p.2 != 4).length

/-- Private interrupt bank registers that show sources and claims (R330). -/
def State.peekGa (s : State) (off : Nat) : Word :=
  let g := off / 0x1000 - 0x10
  let o := off % 0x1000
  let pend i := (s.inst (privKey g i)).phase == .pending
  let clm i := match (s.inst (privKey g i)).claim with
    | some _ => true
    | none => false
  if o = 0x004 then withField (s.reg off) (F.gaStatus_dma_ready g) (b2n (s.dmaReady g))
  else if o = 0x800 then BitVec.ofNat 32 (match s.icBest g with
    | some k => srcNum k
    | none => 0xFFFF)
  else if o = 0x80C then
    withField (withField (s.reg off) (F.icLevel_claimed g) (s.icClaims g)) (F.icLevel_level g) (s.icLevel g)
  else if o = 0x828 then bitMap 32 pend
  else if o = 0x82C then bitMap 32 fun i => pend (32 + i)
  else if o = 0x830 then bitMap 32 clm
  else if o = 0x834 then bitMap 32 fun i => clm (32 + i)
  else s.reg off

/-- Shared interrupt bank registers that show sources (R333). -/
def State.peekSh (s : State) (off : Nat) : Word :=
  let o := off - 0xE000
  let i b := s.inst (shKey (64 + 32 * (o % 0x20 / 4) + b))
  if 0x320 ≤ o && o < 0x338 then bitMap 32 fun b => (i b).phase == .pending
  else if 0x340 ≤ o && o < 0x358 then bitMap 32 fun b => (i b).claim.isSome
  else if 0x360 ≤ o && o < 0x378 then bitMap 32 fun b => (i b).fallen
  else s.reg off

/-! ### Trigger definitions (R382, R383) -/

/-- The ranges of definition t: base and count (R382). -/
def State.trigRanges (s : State) (t : Nat) : List (Nat × Nat) :=
  [(s.get (F.rgTrigSel0_base_lo t), s.get (F.rgTrigSel0_count_lo t)), (s.get (F.rgTrigSel0_base_hi t), s.get (F.rgTrigSel0_count_hi t)),
   (s.get (F.rgTrigSel1_base_lo t), s.get (F.rgTrigSel1_count_lo t)), (s.get (F.rgTrigSel1_base_hi t), s.get (F.rgTrigSel1_count_hi t))]

/-- The vitrine indices that definition t records, in order (R382). -/
def State.trigWords (s : State) (t : Nat) : List Nat :=
  (s.trigRanges t).flatMap fun p => (List.range p.2).map (p.1 + ·)

/-- Whether definition t is bad (R382). -/
def State.trigBad (s : State) (t : Nat) : Bool :=
  64 < sumOf ((s.trigRanges t).map (·.2)) || (s.trigRanges t).any (fun p => 0 < p.2 && 0x400 < p.1 + p.2) ||
  (s.get (F.rgTrigCfg_kind t) == 3 && (s.get (F.rgTrigCfg_source_num t) < 64 || 128 ≤ s.get (F.rgTrigCfg_source_num t))) ||
  bitOf s.rg.resBits t

/-- RG registers that show the records under way and the bad definitions (R382, R386). -/
def State.peekRg (s : State) (off : Nat) : Word :=
  if off = R.rgStatus then withField (s.reg off) F.rgStatus_writing (b2n !s.rg.todo.isEmpty)
  else if 0x5200 ≤ off && off % 16 = 0 then
    withField (s.reg off) (F.rgTrigCfg_bad ((off - 0x5200) / 16)) (b2n (s.trigBad ((off - 0x5200) / 16)))
  else s.reg off

/-- PX_CTRL shows the state and the enable, PX_STREAM_CFG the stride (R175, R184). -/
def State.peekPx (s : State) (off : Nat) : Word :=
  let c := (off - 0x40000) / 0x80
  let o := off % 0x80
  if o = 0 then
    let st := s.pxState c
    let en := (2 ≤ st && st ≤ 5) || (st == 1 && (s.ctx c).enAt.isSome)
    withField (withField (s.reg off) (F.pxCtrl_state c) st) (F.pxCtrl_enable c) (b2n en)
  else if o = 0x0C then withField (s.reg off) (F.pxStreamCfg_stride c) (if s.get (F.pxBind_kind c) = 0 then 0 else s.stride c)
  else s.reg off

/-- Whether the part lacks the block that holds the offset, or the twin whose detector it serves (R3, R378, R396). -/
def State.absent (s : State) (off : Nat) : Bool :=
  s.part == .vx4840 &&
  ((0x30000 ≤ off && off < 0x40000) || (0x8280 ≤ off && off < 0x8300) || (0x8110 ≤ off && off < 0x8120) ||
   (0xC180 ≤ off && off < 0xC200) || (0xD000 ≤ off && off < 0xE000) ||
   [R.fiCfg 0x12, R.fiCnt 0x12, R.fiInjCtrl 0x12, R.fiInjAddr 0x12].contains off)

/-- The value of a register as a read shows it, without any effect of the read (R12, R16, R487). -/
def State.peek (s : State) (off : Nat) : Word :=
  if s.absent off || (regRow off).isNone then 0
  else if off = R.idPart then (if s.hasTwin then 0x4880 else 0x4840)
  else if 0x1000 ≤ off && off < 0x2000 then s.peekTk off
  else if 0x2000 ≤ off && off < 0x3000 then s.peekCn off
  else if off = R.chStatus then withField (s.reg off) F.chStatus_missing s.missing
  else if 0x5000 ≤ off && off < 0x6000 then s.peekRg off
  else if 0x7000 ≤ off && off < 0x8000 then s.rg.words.getD ((off - 0x7000) / 4) 0
  else if 0x8000 ≤ off && off < 0x9000 then s.peekCu off
  else if 0x9000 ≤ off && off < 0xA000 then s.peekMv off
  else if 0xA000 ≤ off && off < 0xC000 then s.peekCo off
  else if off = R.twMirror then withField (s.reg off) F.twMirror_backlog (min 65535 s.mirrorBacklog)
  else if 0xE000 ≤ off && off < 0xF000 then s.peekSh off
  else if 0x10000 ≤ off && off < 0x20000 then s.peekGa off
  else if 0x40000 ≤ off then s.peekPx off
  else s.reg off

/-- The register that vitrine word i copies (R378). -/
def vitSource (i : Nat) : Nat :=
  if i < 0x008 then 4 * i
  else if i < 0x010 then 0x3000 + 4 * (i - 0x008)
  else if i < 0x040 then 0x1000 + 4 * (i - 0x010)
  else if i < 0x060 then 0x2000 + 4 * (i - 0x040)
  else if i < 0x080 then 0x4000 + 4 * (i - 0x060)
  else if i < 0x090 then 0x8000 + 4 * (i - 0x080)
  else if i < 0x0D0 then 0x8200 + 4 * (i - 0x090)
  else if i < 0x100 then 0x80C0 + 4 * (i - 0x0D0)
  else if i < 0x300 then 0x20000 + 0x4000 * ((i - 0x100) / 0x40) + 4 * ((i - 0x100) % 0x40)
  else if i < 0x308 then 0x9000 + 4 * (i - 0x300)
  else if i < 0x340 then 0x9100 + 0x20 * ((i - 0x308) / 7) + 4 * ((i - 0x308) % 7)
  else if i < 0x380 then 0xA000 + 4 * (i - 0x340)
  else if i < 0x390 then 0xC000 + 4 * (i - 0x380)
  else if i < 0x3C0 then 0xC100 + 0x40 * ((i - 0x390) / 12) + 4 * ((i - 0x390) % 12)
  else if i < 0x3E0 then 0xD000 + 4 * (i - 0x3C0)
  else if i < 0x3F0 then R.gaStatus (i - 0x3E0)
  else R.icLevel (i - 0x3F0)

/-- The 1,024 vitrine words as they stand now (R378, R379). -/
def State.vitrines (s : State) : List Word := (List.range 1024).map fun i => s.peek (vitSource i)

end Sys2Proof.Machine
end

