-- ==== Sys2Proof/Machine/Fabric.lean ====
section
/-! DEFINITION. What the whole device tells the fabric and its twin: this chip's record and its flooding (spec/13_span_fabric_and_twin.md R357,
R362), and the mirror messages of a shared tree (R349, R372). -/

namespace Sys2Proof.Machine

/-! ### This chip's record (R357, R362) -/

/-- The local quality of this chip: the quality byte of its best accepted source among codes 1 to 3, 0xF5 without one (R362). -/
def State.localQuality (s : State) : Nat :=
  let a := s.get F.tkStatus_active_source
  if s.get F.tkStatus_accepted % 8 = 0 then 0xF5 else if 1 ≤ a && a ≤ 3 then s.chipQuality s.now else 0x30

/-- This chip's serial (ID_SERIAL). -/
def State.serialNo (s : State) : Nat := s.reg64 R.idSerialLo

/-- This chip's link-state record (R357). -/
def State.ownRecord (s : State) : DiscRec :=
  { serial := s.serialNo
    id := s.chip
    src := s.get F.spChipId_id_source
    quality := s.localQuality
    partners := (List.range 4).map fun m => if s.spanState m = 3 then some ((s.spanPort m).partner, (s.spanPort m).pport) else none
    version := s.sp.version }

/-- A record is stored in place of the one held of the same chip. -/
def State.storeRec (s : State) (r : DiscRec) : State :=
  { s with sp := { s.sp with records := r :: s.sp.records.filter (·.serial != r.serial) } }

/-- A record waits for a packet boundary of Span port m; it takes the place of an older one of the same chip. -/
def State.discSend (s : State) (m : Nat) (r : DiscRec) : State :=
  let p := s.spanPort m
  s.setSpanPort m { p with disc := p.disc.filter (·.serial != r.serial) ++ [r] }

/-- The Active Span ports. -/
def State.activeSpans (s : State) : List Nat := s.spans.filter fun m => s.spanState m == 3

/-- This chip floods its record: a new version on every Active port (R357). -/
def State.discFlood (s : State) : State :=
  let s1 : State := { s with sp := { s.sp with version := (s.sp.version + 1) % 2 ^ 16 } }
  let r := s1.ownRecord
  (forEach s1.activeSpans (s1.storeRec r) fun s m => s.discSend m r).put F.spFabStatus_discovering 1

/-- The record is to be flooded under a permit: after a link change or a write (R357). -/
def State.discAsk (s : State) : State :=
  let s1 := ({ s with sp := { s.sp with flood := true } } : State).put F.spFabStatus_permit_wait 1
  if s.asked .discovery then s1 else (s1.permitAsk .discovery).2

/-- The discovery permit is granted: the record is flooded (R357). -/
def State.discGranted (s : State) : State :=
  let s1 := ({ s with sp := { s.sp with flood := false } } : State).put F.spFabStatus_permit_wait 0
  let s2 := s1.discFlood
  if s2.activeSpans.isEmpty then s2.permitReturn .discovery else s2

/-- A chip ID with its source; the change is flooded without a permit (R355, R357). -/
def State.setChipId (s : State) (id src : Nat) : State :=
  if s.chip = id && s.get F.spChipId_id_source = src then s
  else ((s.put F.spChipId_chip_id id).put F.spChipId_id_source src).discFlood

/-! ### The time parent (R364) -/

/-- The time parent is lost. -/
def State.parentLost (s : State) : State :=
  if s.flag F.spFabStatus_parent_valid then
    let m := s.get F.spFabStatus_time_parent
    let s1 := ((s.put F.spFabStatus_parent_valid 0).put F.spFabStatus_rate_mismatch 0).raise F.spFabEvents_time_parent_lost
    let s2 := s1.setSpanPort m { s1.spanPort m with heard := none }
    { s2 with sp := { s2.sp with delta := (0, 0) } }
  else s

/-! ### Mirror messages of a twin (R349, R372) -/

/-- Whether this chip owns the tree of a shared port and has a Paired partner to mirror it to. -/
def State.mirrors (s : State) (n : Nat) : Bool := s.sharedPort n && s.ownsPort n && s.flag F.twStatus_paired

/-- Pieces of a list of at most k items; n bounds their number. -/
def chunks {α : Type} (k : Nat) : Nat → List α → List (List α)
  | 0, _ => []
  | n + 1, xs => if xs.isEmpty then [] else xs.take k :: chunks k n (xs.drop k)

/-- The bytes of one part of a mirror item (R349). -/
def mirrorPart (typ n addr pipe index : Nat) (last : Bool) (len : Nat) (body : List Byte) : List Byte :=
  [BitVec.ofNat 8 (typ + b2n (!last) * 128), BitVec.ofNat 8 n, BitVec.ofNat 8 addr, BitVec.ofNat 8 pipe] ++ leBytes 2 index ++ leBytes 2 len ++
    body

/-- The ID of the twin partner: that of the Paired one, else that which discovery gives the chip on port 3; 62 while neither is known. -/
def State.partnerId (s : State) : Nat :=
  let p := s.get F.twStatus_partner_chip
  if p = 62 then s.get (F.spPStatus_partner_chip 3) else p

/-- An EVT of a kind for the twin partner. -/
def State.partnerPkt (s : State) (kind : Nat) (pl : List Byte) : SpanPkt :=
  { typ := 3, vc := 2, dst := s.partnerId, src := s.chip, tsd := leBytes 8 kind, payload := pl }

/-- An EVT to the twin partner over port 3. -/
def State.toPartner (s : State) (kind : Nat) (pl : List Byte) : State := s.spanReady 3 (s.partnerPkt kind pl)

/-- A mirror message joins the mirror queue, which serves mirroring alone (R22). -/
def State.toMirror (s : State) (pl : List Byte) : State :=
  let p := { s.partnerPkt 0x11 pl with stamp := s.sp.seq }
  { s.spanTick with tw := { s.tw with mirror := s.tw.mirror ++ [p] } }

/-- Send a mirror item in as many packets as it takes (R349). -/
def State.mirrorItem (s : State) (typ n addr pipe index : Nat) (body : List Byte) : State :=
  let ps := chunks 504 8 body
  forEach ps.zipIdx s fun s p => s.toMirror (mirrorPart typ n addr pipe index (p.2 + 1 == ps.length) body.length p.1)

/-- The words of consecutive registers as bytes. -/
def State.regBytes (s : State) (off : Nat) : Nat → List Byte
  | 0 => []
  | k + 1 => leBytes 4 (s.peek off).toNat ++ s.regBytes (off + 4) k

/-- The mirror item of device a: its state, identity and range (R349). -/
def State.devBody (s : State) (n a : Nat) : List Byte :=
  s.regBytes (R.gpDevState n a) 1 ++ s.regBytes (R.gpDevId0 n a) 4 ++ s.regBytes (R.gpRangeDev0 n a) 4 ++ leBytes 12 0

/-- The bytes of a context that have a meaning, its counters as 0: offsets 0x000 to 0x037 and 0x040 to 0x05B (R349). -/
def State.ctxBody (s : State) (c : Nat) : List Byte × List Byte :=
  (s.regBytes (R.pxCtrl c) 14, leBytes 16 0 ++ s.regBytes (R.pxLastTimeLo c) 3)

/-- Working bytes of the device, which have no defined meaning. -/
def State.drawBytes (s : State) : Nat → List Byte × State
  | 0 => ([], s)
  | n + 1 =>
    let x := s.draw 8
    let y := x.2.drawBytes n
    (BitVec.ofNat 8 x.1 :: y.1, y.2)

/-- The four words of a catalogue entry as the catalogue holds them (R186). -/
def catWords (n : Nat) (e : CatEntry) : List Nat :=
  [2 ^ 31 + b2n e.sched.reflex * 2 ^ 30 + b2n e.until_.isSome * 2 ^ 29 + n * 2 ^ 26 + e.sched.exp * 2 ^ 22 + e.sched.phase * 2 ^ 12 + e.ctx,
   e.cost * 2 ^ 16 + e.reflexNs, e.since, e.until_.getD 0]

/-- The 16 bytes of catalogue index i (R186); an invalid entry is 0. -/
def State.catBody (s : State) (i : Nat) : List Byte :=
  match s.catAt i with
  | some e => (catWords (i / 2048) e).flatMap (leBytes 4)
  | none => leBytes 16 0

def State.mirrorDev (s : State) (n a : Nat) : State := s.mirrorItem 1 n a 0 0 (s.devBody n a)

/-- The mirror item of a context, with the place that `b` (the state before a change) or the context itself gives it. -/
def State.mirrorCtx (s b : State) (c : Nat) : State :=
  let t := if s.pxKind c = 0 then b else s
  let w := s.ctxBody c
  let x := s.drawBytes 8
  let y := x.2.drawBytes 36
  y.2.mirrorItem 2 (t.pxPort c) (t.pxAddr c) (t.pxPipe c) c (w.1 ++ x.1 ++ w.2 ++ y.1)

def State.mirrorCat (s : State) (i : Nat) : State := s.mirrorItem 3 (i / 2048) 0 0 i (s.catBody i)

/-- The items 1 to 3 of a shared tree that a command has changed are mirrored (R372). -/
def State.mirrorChanges (s0 s : State) : State :=
  if !s.flag F.twStatus_paired then s
  else
    let ns := s.ports.filter s.mirrors
    let s1 := forEach ns s fun x n => forEach (addrs.filter fun a => s.devBody n a != s0.devBody n a) x fun x a => x.mirrorDev n a
    let cs := (s.ctxs ++ s0.ctxs).eraseDups.filter fun c =>
      ns.contains (if s.pxKind c = 0 then s0.pxPort c else s.pxPort c) && s.ctxBody c != s0.ctxBody c
    let s2 := forEach cs s1 fun x c => x.mirrorCtx s0 c
    let is := ((s.cat ++ s0.cat).map (·.1)).eraseDups.filter fun i => ns.contains (i / 2048) && s.catBody i != s0.catBody i
    forEach is s2 fun x i => x.mirrorCat i

/-! ### What follows a command -/

/-- A change of local quality is flooded without a permit (R357), and changes of shared trees are mirrored. -/
def settleFabric (s0 s : State) : State :=
  let s1 := if s.localQuality = s0.localQuality || s.activeSpans.isEmpty then s else s.discFlood
  State.mirrorChanges s0 s1

end Sys2Proof.Machine
end

