-- ==== Sys2Proof/Machine/Lines.lean ====
section
/-! DEFINITION. What the transmitters of the ports send between packets, and the SFP transmitter-disable balls (spec/03_gliys_link.md R84 to R89,
spec/13_span_fabric_and_twin.md R342). -/

namespace Sys2Proof.Machine

/-- The beacon period after a number of consecutive training failures in ns (R84, R88). -/
def beaconNs (fails : Nat) : Nat := if 8 ≤ fails then 100000000 else 100000

/-- Beacon bursts of IDLE (R84, R88), and IDLE between packets (R70). -/
def beaconTx (fails : Nat) : LineTx := .beacon (beaconNs fails) (idleSet false) (idleSet true)
def idleTx : LineTx := .idle (idleSet false) (idleSet true)

/-- TS1 and TS2 of a role with its flags (R86). -/
def trainSets (role flags : Nat) : LineTx := .train (tsSet false role flags) (tsSet true role flags)

/-- What root port n sends between packets (R84, R86, R88, R89); after its SUS sets it is in electrical idle (R162). -/
def State.gpTx (s : State) (n : Nat) : LineTx :=
  let g := s.port n
  match s.link n with
  | 1 => beaconTx g.fails
  | 2 => trainSets 1 (b2n g.fast + b2n (s.flag (F.gpLinkCtrl_media n)) * 2)
  | 3 => if g.suspend = 2 then .quiet else idleTx
  | 4 => trainSets 1 (b2n g.fast + b2n (s.flag (F.gpLinkCtrl_media n)) * 2)
  | _ => .quiet

/-- What Span port m sends between packets (R342): role 6, the flags of R86, and flag bit 2 on port 3 while TW_CTRL.enable is 1. -/
def State.spanTx (s : State) (m : Nat) : LineTx :=
  let p := s.spanPort m
  let flags := b2n p.fast + b2n (s.flag (F.spPCtrl_media m)) * 2 + b2n (m == 3 && s.flag F.twCtrl_enable) * 4
  match s.get (F.spPStatus_state m) with
  | 1 => beaconTx p.fails
  | 2 => trainSets 6 flags
  | 3 => idleTx
  | 4 => trainSets 6 flags
  | _ => .quiet

/-- The ball that disables a module's transmitter. -/
def sfpTxDis (n : Nat) : String := "GP" ++ toString n ++ "_SFP_TXDIS"

/-- The level of that ball while the media is fibre: asserted in Disabled and Cut (R89). -/
def State.txDis (s : State) (n : Nat) : Option Bool :=
  if s.flag (F.gpLinkCtrl_media n) then some (s.link n == 0 || s.link n == 6) else none

/-- The transmitters and the transmitter-disable balls follow the state of their ports. -/
def settleTx (s0 s : State) : State :=
  let s1 := forEach s.ports s fun a n =>
    let b := if s.gpTx n = s0.gpTx n then a else a.emit (.gliysLine n (s.gpTx n))
    match s.txDis n with
    | some l => if s0.txDis n = some l then b else b.emit (.pin (sfpTxDis n) l)
    | none => b
  forEach s.spans s1 fun a m => if s.spanTx m = s0.spanTx m then a else a.emit (.spanLine m (s.spanTx m))

end Sys2Proof.Machine
end

