-- ==== Sys2Proof/Machine/Flags.lean ====
section
/-! DEFINITION. TAKE and the vitrine latch (spec/14_registrar_and_vitrines.md), fault detection and injection opportunities
(spec/15_faults_and_injection.md), and what follows every command: status lines, request lines and the fault summary (R326, R331, R337). -/

namespace Sys2Proof.Machine

/-! ### Definitions in force (R382, R383) -/

/-- The kind of definition t in force: 0 for a bad one, and for every one while RG_CTRL.enable is 0 (R382, R383). -/
def State.trigKind (s : State) (t : Nat) : Nat :=
  if s.trigBad t || !s.flag F.rgCtrl_enable then 0 else s.get (F.rgTrigCfg_kind t)

/-- The kind 1 definitions that fire on a latch with these sources (R383). -/
def State.trigKind1 (s : State) (sources : Nat) : List Nat :=
  (List.range 32).filter fun t => s.trigKind t == 1 &&
    (List.range 6).any fun i => bitOf (s.get (F.rgTrigCfg_sel_mask t)) i && bitOf sources (i + 1)

/-! ### TAKE (R380, R381, R384, R385) -/

/-- Records of the definitions given, in ascending definition number (R383). -/
def State.recReqs (s : State) (k1 : List Nat) (evt : List (Nat × Bool)) : List RecReq :=
  ((List.range 32).filter fun t => k1.contains t || evt.any (·.1 == t)).map fun t =>
    { trig := t, words := s.trigWords t, event := !k1.contains t, notOk := evt.any fun e => e.1 == t && e.2 }

/-- The release of the vitrines once the records of the latch are done and keep or release allows it (R385). -/
def State.vitRelease (s : State) : State :=
  if s.flag F.rgStatus_held && s.rg.todo.isEmpty && (!s.flag F.rgCtrl_keep || s.rg.released) then
    { (s.put F.rgStatus_held 0) with rg := { s.rg with released := false } }
  else s

/-- Missed TAKEs or firings (R384). -/
def State.takeMissed (s : State) (n : Nat) : State :=
  (({ s with rg := { s.rg with missed := min 65535 (s.rg.missed + n) } } : State).add F.rgMissed_total n).raise F.rgEvents_missed

/-- The TAKE_OUT pulse of a latch: out_width_us, 0 acting as 1; a pulse that runs is extended (R381). -/
def State.takePulse (s : State) : State :=
  if s.flag F.rgCtrl_take_out_en then
    let e := s.now + max 1 (s.get F.rgTakeCfg_out_width_us) * 1000
    let s1 : State := { s with rg := { s.rg with takeOut := true, takeEnd := if s.rg.takeOut then max s.rg.takeEnd e else e } }
    if s.rg.takeOut then s1 else s1.emit (.pin "TAKE_OUT" true)
  else s

/-- Latch all vitrine words at time t (R379), and note the records that follow. -/
def State.latch (s : State) (code t origin : Nat) (evt : List (Nat × Bool)) : State :=
  let src := 2 ^ code
  let rg := { s.rg with
    words := s.vitrines
    latched := true
    time := t
    frame := s.frame
    quality := s.chipQuality t
    sources := src
    origin := origin
    released := false
    todo := s.recReqs (s.trigKind1 src) evt }
  let s1 : State := { s with rg := rg }
  let s2 := (((s1.setReg64 R.rgLastTakeLo t).put F.rgLastTake_sources src).put F.rgLastTake_origin origin).wrap F.rgLastTake_latches
  ((s2.raise F.rgStatus_held).takePulse).vitRelease

/-- Put a record request in its place by definition number (R383). -/
def recInsert (x : RecReq) : List RecReq → List RecReq
  | [] => [x]
  | y :: ys => if x.trig < y.trig then x :: y :: ys else y :: recInsert x ys

/-- A request within 5 ns of the latch shares it (R381). -/
def State.joinLatch (s : State) (code : Nat) (evt : List (Nat × Bool)) : State :=
  let src := withBit s.rg.sources code
  let old := s.rg.todo.map (·.trig)
  let more := (s.recReqs (s.trigKind1 src) evt).filter fun r => !old.contains r.trig
  let s1 := { s with rg := { s.rg with sources := src, todo := more.foldl (fun xs r => recInsert r xs) s.rg.todo } }
  ((s1.put F.rgLastTake_sources src).raise F.rgStatus_held).vitRelease

/-- The TAKE message of R367: origin chip, source code, quality, origin time. -/
def State.takeMessage (s : State) (code t dst : Nat) : SpanPkt :=
  { typ := 3, vc := 2, dst := dst, src := s.chip, tsd := leBytes 8 3,
    payload := leBytes 8 (s.chip + code * 2 ^ 8 + s.chipQuality t * 2 ^ 16) ++ leBytes 8 t }

/-- A TAKE latched, shared, missed, or counted while asleep (R381, R384, R393); before the core is released there is nothing to latch it (R467).
`evt` lists the event-kind definitions that fire with it and
whether their mover status was not OK. -/
def State.takeLocal (s : State) (code t origin : Nat) (evt : List (Nat × Bool)) : State :=
  if s.asleep then { s with cn := { s.cn with asleep := s.cn.asleep + 1 } }
  else if s.gated then s
  else if s.rg.latched && s.rg.time ≤ t && t ≤ s.rg.time + 5 then s.joinLatch code evt
  else if s.flag F.rgStatus_held then s.takeMissed (if code = 7 then evt.length else 1)
  else s.latch code t origin evt

/-- A TAKE request at time t (R380). A local one whose bit stands in take_fwd is sent to every chip (R367). -/
def State.take (s : State) (code t : Nat) : State :=
  let s := s.takeLocal code t s.chip []
  if !s.gated && 1 ≤ code && code ≤ 4 && bitOf (s.get F.spFabCtrl_take_fwd) (code - 1) then
    (s.spanSend (s.takeMessage code t 63)).bump F.spTakeCnt_sent
  else s

/-- Event-kind definitions fire and issue their TAKE (R383, R384). -/
def State.takeEvent (s : State) (evt : List (Nat × Bool)) : State :=
  if evt.isEmpty || s.gated then s else s.takeLocal 7 s.now s.chip evt

/-! ### Shared source events (R326) -/

/-- An event of shared source n: at the interrupt controller, and at the source-kind definitions whether or not it is enabled (R383). -/
def State.sharedEvent (s : State) (n : Nat) : State :=
  (s.icEvent (shKey n)).takeEvent
    (((List.range 32).filter fun t => s.trigKind t == 3 && s.get (F.rgTrigCfg_source_num t) == n).map (·, false))

/-- Bits of an event register that are enabled. -/
def State.masked (s : State) (ev en : Nat) : Bool := (s.reg ev &&& s.reg en) != 0

/-- The line of a Status source: high while an enabled bit of its block's event register is set (R325, R326). -/
def State.lineOf (s : State) (n : Nat) : Bool :=
  s.shExists n &&
  (if n < 78 then bitOf (s.reg R.tkEvents).toNat (n - 64)
   else if 80 ≤ n && n < 88 then s.masked (R.gpLinkEvents (n - 80)) (R.gpLinkEventEn (n - 80))
   else if 88 ≤ n && n < 96 then s.masked (R.gpXactEvents (n - 88)) (R.gpXactEventEn (n - 88))
   else if 96 ≤ n && n < 104 then s.masked (R.gpAccEvents (n - 96)) (R.gpAccEventEn (n - 96))
   else if n = 104 then s.flag F.cuAccStatus_count
   else if n = 105 then s.masked R.cuEvents R.cuEventEn
   else if n = 106 then s.masked R.coEvents R.coEventEn
   else if 112 ≤ n && n < 116 then
     s.masked (R.spPEvents (n - 112)) (R.spPEventEn (n - 112)) || (n == 112 && s.masked R.spFabEvents R.spFabEventEn)
   else if n = 116 then s.masked R.twEvents R.twEventEn
   else if n = 117 then s.masked R.rgEvents R.rgEventEn
   else if n = 118 then s.masked R.cnEvents R.cnEventEn
   else if n = 119 then s.masked R.chEvents R.chEventEn
   else n == 120 && s.masked R.fiSummary R.fiSummaryEn)

/-- The numbers of the Status sources. -/
def statusSources : List Nat := (List.range 64).map (64 + ·)

/-- A write of IC_COMPLETE: the claim ends, and a Status line still high is an event (R326, R330). -/
def State.icComplete (s : State) (g n : Nat) : State :=
  let k := if n < 64 then privKey g n else shKey n
  match (s.inst k).claim with
  | some (h, _) =>
    if h = g && n < 256 then
      let s1 := s.setInst k { s.inst k with claim := none }
      if 64 ≤ n && s1.lineOf n then s1.sharedEvent n else s1
    else s.bump (F.icLevel_bad_complete g)
  | none => s.bump (F.icLevel_bad_complete g)

/-! ### Detection (R394 to R402) -/

/-- Assert FAULT_N (R402): counted, and the ball driven low. -/
def State.faultN (s : State) : State :=
  let s1 := s.bump F.fiFault_count
  if s.flag F.fiFault_active then s1 else (s1.raise F.fiFault_active).emit (.pin "FAULT_N" false)

/-- The four words of a log entry (R400). -/
def logWords (d cls inst detail gal t : Nat) (inj : Bool) : List Nat :=
  [d * 2 ^ 24 + cls * 2 ^ 21 + b2n inj * 2 ^ 20 + gal % 16 * 2 ^ 16 + inst % 256, detail, t % 2 ^ 32, t / 2 ^ 32]

/-- Write words at consecutive registers. -/
def State.setRegs (s : State) (off : Nat) : List Nat → State
  | [] => s
  | w :: ws => (s.setReg off (BitVec.ofNat 32 w)).setRegs (off + 4) ws

/-- The time that log words hold: of entry e of the log, and of FI_FIRST. -/
def State.logTime (s : State) (off : Nat) : Nat := (s.reg (off + 8)).toNat + (s.reg (off + 12)).toNat * 2 ^ 32

/-- Entries of a later detection time, or of the same one and a higher ID than d, move up one place, from place e downwards: the place that is then free, and the
state (R400). n bounds their number. -/
def State.logPlace : Nat → State → Nat → Nat → Nat → Nat × State
  | 0, s, e, _, _ => (e, s)
  | n + 1, s, e, d, t =>
    let p := R.fiLog0 ((e + 15) % 16)
    if t < s.logTime p || (d < (s.reg p).toNat / 2 ^ 24 && s.logTime p = t) then
      ((s.setRegs (R.fiLog0 e) ((List.range 4).map fun i => (s.reg (p + 4 * i)).toNat))).logPlace n ((e + 15) % 16) d t
    else (e, s)

/-- Write an entry of the fault log, in order of detection time, then of ID (R400). -/
def State.faultLogWrite (s : State) (d cls inst detail gal t : Nat) (inj : Bool) : State :=
  let e := if s.get F.fiStatus_count = 0 then 0 else (s.get F.fiStatus_newest + 1) % 16
  let x := s.logPlace 15 e d t
  let s1 := (x.2.setRegs (R.fiLog0 x.1) (logWords d cls inst detail gal t inj)).put F.fiStatus_newest e
  let s2 := s1.put F.fiStatus_count (min 16 (s.get F.fiStatus_count + 1))
  { s2 with fi := { s2.fi with last := (d, inst, t) :: s2.fi.last.filter (·.1 != d) } }

/-- Log a detection, unless the detector's last entry has the same instance and is within 1 ms (R400). -/
def State.faultLog (s : State) (d cls inst detail gal t : Nat) (inj : Bool) : State :=
  match s.fi.last.find? (·.1 == d) with
  | some (_, i, u) => if i = inst && t ≤ u + 1000000 then s else s.faultLogWrite d cls inst detail gal t inj
  | none => s.faultLogWrite d cls inst detail gal t inj

/-- The class a detection takes: FI_CFG.fault_n adds FAULT_N (R395). -/
def State.faultClass (s : State) (d cls : Nat) : Nat := if s.flag (F.fiCfg_fault_n d) then 4 else cls

/-- A detection at time t: counted, logged, summarised, FAULT_N and TAKE by its class and configuration (R394, R395, R400). The isolation,
halt or stop of its class is the caller's. The TAKE latches now, also for a detection that was held (R379). -/
def State.detectAt (s : State) (d cls inst detail gal t : Nat) (inj : Bool) : State :=
  let c := s.faultClass d cls
  let s1 := (s.bump (F.fiCnt_count d))
  let s2 := if inj then s1.bump (F.fiCnt_injected d) else s1
  let s3 := s2.faultLog d c inst detail gal t inj
  let s4 := if 1 ≤ c then s3.setBit R.fiSummary d else s3
  let s5 := if c = 4 then
      (if s4.get F.fiFirst0_id = 0 || t < s4.logTime R.fiFirst0 || (d < s4.get F.fiFirst0_id && s4.logTime R.fiFirst0 = t) then
        s4.setRegs R.fiFirst0 (logWords d c inst detail gal t inj) else s4).faultN
    else s4
  if s.flag (F.fiCfg_take d) then s5.take 3 s5.now else s5

/-- A detection now, of the detector's own class. -/
def State.detect (s : State) (d cls inst detail : Nat) (inj : Bool := false) : State := s.detectAt d cls inst detail 0 s.now inj

/-! ### Injection (R404 to R407) -/

/-- Whether injection point d is armed for an instance, and its parameter (R405). -/
def State.armed (s : State) (d inst : Nat) : Option Nat :=
  let m := s.get (F.fiInjCtrl_mode d)
  let i := s.get (F.fiInjCtrl_instance d)
  if (m == 1 || m == 2) && (i == 0xFF || i == inst) then some (s.get (F.fiInjCtrl_param d)) else none

/-- The injection acts: a one-shot sets fired and returns its mode to off (R405). -/
def State.injFire (s : State) (d : Nat) : State :=
  if s.get (F.fiInjCtrl_mode d) = 1 then (s.put (F.fiInjCtrl_mode d) 0).put (F.fiInjCtrl_fired d) 1 else s

/-- An opportunity of point d on an instance whose parameter meets `p`: whether the injection acts, and the state after. -/
def State.inject (s : State) (d inst : Nat) (p : Nat → Bool) : Bool × State :=
  match s.armed d inst with
  | some v => if p v then (true, s.injFire d) else (false, s)
  | none => (false, s)

/-- The SRAM region of a BAR2 offset (R24). -/
def ramRegion (a : Nat) : Nat :=
  if a < 0x200000 then 0 else if a < 0x240000 then 1 else if a < 0x280000 then 2 else if a < 0x2C0000 then 3
  else if a < 0x300000 then 4 else if a < 0x340000 then 5 else if a < 0x3C0000 then 6 else 7

/-- Whether injection point d (1 or 2) is armed on a word within the bytes `a .. a+len-1` (R407). -/
def State.ramArmed (s : State) (d a len : Nat) : Bool :=
  let m := s.get (F.fiInjCtrl_mode d)
  let w := s.get (F.fiInjAddr_addr d) / 8 * 8
  (m == 1 || m == 2) && a / 8 * 8 ≤ w && w < a + len

/-- A corrected single-bit error (SRAM_CE). -/
def State.ramCe (s : State) (a : Nat) (inj : Bool) : State := s.detect 1 0 (ramRegion a) (a / 8 * 8) inj

/-- A word that a read finds flipped: its offset, whether two bits are, and whether an injection did it. -/
structure BadWord where
  off : Nat
  two : Bool
  inj : Bool
  deriving DecidableEq, Repr

/-- Put a flipped word in its place by offset; an injection on a word that stands flipped makes one error with it (R406). -/
def badInsert (x : BadWord) : List BadWord → List BadWord
  | [] => [x]
  | y :: ys =>
    if x.off < y.off then x :: y :: ys
    else if x.off = y.off then { off := x.off, two := x.two || y.two, inj := x.inj || y.inj } :: ys
    else y :: badInsert x ys

/-- The words that a read of the bytes `a .. a+len-1` finds flipped, in ascending order: those that stand so and those that an armed injection
flips. -/
def State.badWords (s : State) (a len : Nat) : List BadWord :=
  let real := (s.flips.filter fun e => a / 8 * 8 ≤ e.off / 8 * 8 && e.off / 8 * 8 < a + len).map fun e => { off := e.off / 8 * 8, two := e.two, inj := false }
  let made := ([1, 2].filter fun d => 0 < len && s.ramArmed d a len).map fun d =>
    { off := s.get (F.fiInjAddr_addr d) / 8 * 8, two := d == 2, inj := true }
  (made ++ real).foldl (fun ws x => badInsert x ws) []

/-- The injections that act on a read of these bytes have fired. -/
def State.ramFire (s : State) (a len : Nat) : State :=
  let s1 := if 0 < len && s.ramArmed 1 a len then s.injFire 1 else s
  if 0 < len && s.ramArmed 2 a len then s1.injFire 2 else s1

/-- The words found flipped are detected up to the first uncorrectable one, whose detection is of the class and for the gallery given; the answer
is that one. -/
def State.ramErrors : List BadWord → State → Nat → Nat → Option Nat × State
  | [], s, _, _ => (none, s)
  | w :: ws, s, cls, gal =>
    if w.two then (some w.off, s.detectAt 2 cls (ramRegion w.off) w.off gal s.now w.inj) else State.ramErrors ws (s.ramCe w.off w.inj) cls gal

/-- A read of SRAM bytes by the device: the offset of the first word in them that holds an uncorrectable error, none when there is none; single
errors are corrected (R25, R397, R406, R407). -/
def State.ramRead (s : State) (a len cls : Nat) (gal : Nat := 0) : Option Nat × State :=
  State.ramErrors (s.badWords a len) (s.ramFire a len) cls gal

/-- Whether a read of these bytes would find a flipped word. -/
def State.anyBad (s : State) (a len : Nat) : Bool := !(s.badWords a len).isEmpty

/-- The words given stand flipped from now on. -/
def State.addFlips (s : State) (e : List SramFlip) : State :=
  { s with flips := (e.filter fun x => x.off < 0x400000).foldl (fun fs x =>
      let same := fs.filter fun y => y.off / 8 == x.off / 8
      { x with two := x.two || same.any (·.two) } :: fs.filter fun y => y.off / 8 != x.off / 8) s.flips }

/-- The word at an offset stands flipped no more. -/
def State.dropFlip (s : State) (a : Nat) : State := { s with flips := s.flips.filter fun e => e.off / 8 != a / 8 }

/-- A read of an item of a region in which the manual gives it no place: the place is free, and drawn where a word of the region stands flipped.
An item that meets an uncorrectable error is given up, and its words are written again with the next one (log entry 178). -/
def State.itemRead (s : State) (lo size len cls : Nat) (gal : Nat := 0) : Bool × State :=
  if s.anyBad lo size then
    let x := s.draw 16
    let y := x.2.ramRead (lo + x.1 * 8 % (size - len)) len cls gal
    match y.1 with
    | some w => (true, y.2.dropFlip w)
    | none => (false, y.2)
  else (false, s)

/-! ### What follows every command -/

/-- The Status lines that rose between two states are events of their sources (R326), in Closed and Stowed those of the time keeper only
(R338). An event can raise a further line, so the comparison is repeated; each pass compares with the state the pass before began from. -/
def settleLines : Nat → State → State → State
  | 0, _, s => s
  | n + 1, s0, s =>
    let up := statusSources.filter fun k => s.lineOf k && !s0.lineOf k && (k < 78 || !s.asleep)
    if up.isEmpty then s else settleLines n s (forEach up s fun s k => s.sharedEvent k)

/-- The other Status lines that rise while asleep are noted; those still high at the wake are events then (R338, log 154). -/
def settleRose (s0 s : State) : State :=
  if s.asleep then
    let up := statusSources.filter fun k => 78 ≤ k && s.lineOf k && !s0.lineOf k
    if up.isEmpty then s else { s with cn := { s.cn with rose := s.cn.rose ++ up } }
  else if s.cn.rose.isEmpty then s
  else forEach (s.cn.rose.filter s.lineOf) { s with cn := { s.cn with rose := [] } } fun s k => s.sharedEvent k

/-- The standing charges have come to exceed the limit (R428). -/
def settleBudget (s : State) : State :=
  let o := decide (s.allottable < s.standing)
  if o = s.cn.overLimit then s
  else
    let s1 := { s with cn := { s.cn with overLimit := o } }
    if o then s1.raise F.cnEvents_budget_over else s1

/-- The request lines and the fault summary that rose send their messages (R331, R337), at a wake those that are high, and the summary that rose
while the controller was gated (R338, log 154), and so do pending bits whose messages can leave. -/
def settleMsi (s0 s : State) : State :=
  let s1 := forEach (List.range 16) (if s.cn.awoke then { s with cn := { s.cn with awoke := false } } else s) fun a g =>
    if s.msiReady g && s.reqLine g && (s.cn.awoke || !(s0.msiReady g && s0.reqLine g)) then a.msi g else a
  (if s.lineOf 120 && (!s0.lineOf 120 || (s.cn.awoke && s0.cn.rose.contains 120)) && s.msiReady 16 then s1.msi 16 else s1).msixFlush

/-- The last required device has become Ranged (R448). -/
def settleRanged (s0 s : State) : State := if s.missing = 0 && s0.missing ≠ 0 then s.raise F.chEvents_all_ranged else s

/-- What follows every command, given the states before and after it. -/
def settle (s0 s : State) : State := settleFabric s0 (settleMsi s0 (settleTx s0 (settleLines 4 s0 (settleRose s0 (settleRanged s0 (settleBudget s))))))

/-- The outcome of every command: nothing happens in Off (R408), and otherwise its effect, settled. -/
def act (s : State) (f : State → State) : Host.Outcome State Fault Refusal :=
  .next (if s.off then s else settle s (f s))

/-- The outcome of a command of two accesses in order (R14): each has its effect, and each is settled. -/
def act2 (s : State) (f h : State → State) : Host.Outcome State Fault Refusal :=
  .next (if s.off then s else
    let t := settle s (f s)
    settle t (h t))

end Sys2Proof.Machine
end

