-- ==== Sys2Proof/Machine/Faults.lean ====
section
/-! DEFINITION. The fault block's own commands and registers (spec/15_faults_and_injection.md). -/

namespace Sys2Proof.Machine

/-- Every injection point is disarmed (R404). -/
def State.disarm (s : State) : State :=
  forEach (List.range 18) s fun s d => s.put (F.fiInjCtrl_mode (d + 1)) 0

/-- Lock the block: every injection point is disarmed (R404). -/
def State.fiLock (s : State) : State :=
  let s1 := (s.disarm).put F.fiStatus_unlocked 0
  { s1 with fi := { s1.fi with step1 := false } }

/-- A write of FI_UNLOCK (R404). -/
def State.writeUnlock (s : State) (w : Word) : State :=
  let key := bitsOf w.toNat 0 16
  if s.flag F.fiStatus_unlocked then s.fiLock
  else if s.fi.step1 && key = 0x6E4A then { (s.put F.fiStatus_unlocked 1) with fi := { s.fi with step1 := false } }
  else { s with fi := { s.fi with step1 := decide (key = 0x4B51) } }

/-- A write to an injection register: ignored and noted while locked; a write of a CTRL word clears fired (R404, R405). -/
def State.writeInj (s : State) (off : Nat) (plain : Word) : State :=
  if !s.flag F.fiStatus_unlocked then s.raise F.fiStatus_locked_write
  else if off % 8 = 0 then s.setReg off (plain &&& ~~~ 0x20000000)
  else s.setReg off (plain &&& 0x003FFFF8)

/-- The fault log, the counts and locked_write are cleared (R400). -/
def State.fiClearAll (s : State) : State :=
  let s1 := forEach (List.range 18) s fun s d => s.setReg (R.fiCnt (d + 1)) 0
  let s2 := forEach (List.range 64) s1 fun s i => s.setReg (R.fiLog0 0 + 4 * i) 0
  let s3 := ((s2.put F.fiStatus_count 0).put F.fiStatus_newest 0).put F.fiStatus_locked_write 0
  { s3 with fi := { s3.fi with last := [] } }

/-- FI_FIRST is set to 0 and re-armed (R400). -/
def State.fiClearFirst (s : State) : State := s.setRegs R.fiFirst0 [0, 0, 0, 0]

/-- FAULT_N is released (R402). -/
def State.fiRelease (s : State) : State :=
  let s1 := s.setReg R.fiFault 0
  if s.flag F.fiFault_active then s1.emit (.pin "FAULT_N" true) else s1

/-- A write in the FI block. `plain` is the word that the access codes alone would leave (R12). -/
def State.writeFi (s : State) (off : Nat) (w plain : Word) : State :=
  if off = R.fiUnlock then s.writeUnlock w
  else if off = R.fiFault then (if bitOf w.toNat 31 then s.fiRelease else s)
  else if off = R.fiClear then
    let s1 := if bitOf w.toNat 0 then s.fiClearAll else s
    if bitOf w.toNat 1 then s1.fiClearFirst else s1
  else if off = R.fiWdogCfg then
    let v := bitsOf w.toNat 0 16
    if 1 ≤ v && v ≤ 1000 then s.setReg off plain else s
  else if 0x4208 ≤ off && off < 0x4298 then s.writeInj off plain
  else s.setReg off plain

/-- Whether a block code of R399 names a block of the part that its watchdogs watch now (R398). -/
def State.blockWatched (s : State) (b : Nat) : Bool :=
  (b < 14 || (16 ≤ b && b - 16 < s.nPorts)) && (b != 12 || s.hasTwin) && (!s.asleep || b == 2 || b == 3)

/-- HANDSHAKE_STALL (R398): a ring's request is unacknowledged for stall_us. -/
def execHandshakeStall (blk : Fin 24) (ring : Nat) (s : State) : Host.Outcome State Fault Refusal :=
  act s fun s =>
    if s.blockWatched blk then
      let x := s.inject 0x10 blk fun p => p == ring
      x.2.detect 0x10 4 blk ring x.1
    else s

end Sys2Proof.Machine
end

