-- ==== Sys2Proof/Machine/Gliys.lean ====
section
/-! DEFINITION. Root ports and their devices: access to their state, the tree of a port, device quality, accession records, packets sent
(spec/03_gliys_link.md, spec/04_gliys_transactions_and_hubs.md, spec/05_accession.md). -/

namespace Sys2Proof.Machine

/-- The addresses from device a up to the root port, a first (at most four hubs above). -/
def State.pathUp (s : State) (n : Nat) : Nat → Nat → List Nat
  | 0, _ => []
  | k + 1, a => if a = 0 then [] else a :: s.pathUp n k (s.place n a).1

/-- Whether device a is device r or below it. -/
def State.under (s : State) (n r a : Nat) : Bool := (s.pathUp n 6 a).contains r

/-- The attached devices of a tree that a detach or reset of scope r affects (0: the whole tree), cut devices apart (R161). -/
def State.subtree (s : State) (n r : Nat) : List Nat :=
  addrs.filter fun a => s.attached n a && (r == 0 || s.under n r a)

/-- Ascending address order, with a hub before the devices below it (R157). -/
def State.hubFirst (s : State) (n : Nat) (as : List Nat) : List Nat :=
  as.foldl (fun done a =>
    done ++ ((s.pathUp n 6 a).reverse.filter fun x => as.contains x && !done.contains x)) []

/-! ### Timestamps of devices (R53, R54, R106) -/

/-- The quality byte of a timestamp taken at device a at time t. -/
def State.devQuality (s : State) (n a t : Nat) : Nat :=
  match s.devSt n a with
  | 4 => s.qualityByte (s.chipBound.map (· + 8000)) (s.condCode t)
  | 5 => s.qualityByte (s.chipBound.map (· + 24000)) (max 3 (s.condCode t))
  | _ => s.qualityByte none (max 4 (s.condCode t))

/-- A 32-bit timestamp extended to the latest 64-bit value not later than the arrival. -/
def extend32 (arrival tsc : Nat) : Nat :=
  let t := arrival / 2 ^ 32 * 2 ^ 32 + tsc % 2 ^ 32
  if t ≤ arrival then t else t - 2 ^ 32

/-! ### Accession records (R169, R170) -/

/-- Write an accession record; a full queue drops it. -/
def State.accRecord (s : State) (n addr kind parent pport time quality detail : Nat) : State :=
  if 64 ≤ s.acc.length then s.bump F.cuAccStatus_dropped
  else
    let r := leBytes 8 time ++ ([n, addr, kind, parent, pport, quality, detail, 0].map (BitVec.ofNat 8 ·))
    ({ s with acc := s.acc ++ [r] } : State).put F.cuAccStatus_count (s.acc.length + 1)

/-- A record of device a, at its place, with the time taken at the root port's balls. -/
def State.devRecord (s : State) (n a kind : Nat) (detail : Nat := 0) : State :=
  s.accRecord n a kind (s.place n a).1 (s.place n a).2 s.now (s.chipQuality s.now) detail

/-- A write of CU_ACC_POP (R170). -/
def State.accPop (s : State) : State :=
  match s.acc with
  | [] => s
  | _ :: rs => ({ s with acc := rs } : State).put F.cuAccStatus_count rs.length

/-! ### Sequence bits (R112, R115) -/

/-- The key of a pipe of device a. -/
def pipeKey (n a p : Nat) : Nat := (n * 64 + a) * 16 + p

/-- The sequence bit that the root sends next on a pipe. -/
def State.seqBit (s : State) (n a p : Nat) : Nat := tget (fun _ => 0) s.seqs (pipeKey n a p)

def State.setSeq (s : State) (n a p v : Nat) : State := { s with seqs := tput (fun _ => 0) s.seqs (pipeKey n a p) v }

/-- The sequence state of every pipe of device a is discarded. -/
def State.clearSeqs (s : State) (n a : Nat) : State := forEach (List.range 16) s fun s p => s.setSeq n a p 0

/-! ### Packets sent -/

/-- The lowest tag that no transaction of the device holds until its acceptance window closes (R216). -/
def State.freeTag (s : State) : Nat :=
  ((List.range 1024).find? fun t =>
    !s.gp.any fun g => g.opens.any (·.tag == t) || g.tags.any fun x => x.1 == t && s.now * 10 < x.2.1).getD 0

/-- The round trip of device a in 100 ps, when it is ranged (R109). -/
def State.rtt (s : State) (n a : Nat) : Option Nat :=
  if s.flag (F.gpRangeDev0_valid n a) then some (s.get (F.gpRangeDev3_rtt n a)) else none

/-- The boundary of the current frame in 100 ps: the origin of the 4 ns symbol grid (R214). -/
def State.frameAt (s : State) : Nat := s.tk.boundary * 10

/-- Round an instant up to the 4 ns symbol grid, in 100 ps. -/
def State.ceil4 (s : State) (t : Nat) : Nat := s.frameAt + ceilDiv (t - s.frameAt) 40 * 40

/-- The instant of the EOP of a packet of so many ns whose start delimiter leaves at d, in 100 ps. -/
def eopOf (d ns : Nat) : Nat := d + (ns - 4) * 10

/-- Whether device a is served by R111: no valid ranging entry, or an address that has none. -/
def State.unranged (s : State) (n a : Nat) : Bool := a = 0 || (s.rtt n a).isNone || !s.isRanged n a

/-- The guard between upstream slots in 100 ps: 32 ns on a shared port while a device is Resynced (R109, R374). -/
def State.slotGuard (s : State) (n : Nat) : Nat :=
  if s.sharedPort n && addrs.any (fun a => s.devSt n a == 5) then 320 else 240

/-- Where the bulk window's placement starts: the downstream start and the end of the upstream slots that the plan in force left (R203, R218). -/
def State.planLeft (s : State) (n : Nat) : Nat × Nat :=
  match (s.cuPort n).plan with
  | some p => (s.frameAt + p.dEnd, s.frameAt + p.upEnd)
  | none => (0, 0)

/-- Where a packet of `p` ns to a pipe of device a can leave: after the end of the pipe's last response (R219), after the last packet and one
IDLE set, and so that its response keeps the guard from the slot before it (R99, R109, R214); for an unranged device 2 µs after everything
before it (R111). -/
def State.launchAt (s : State) (n a pipe p : Nat) : Nat :=
  let g := s.port n
  let left := s.planLeft n
  let up := max g.upFree left.2
  let t0 := max (max (max (s.now * 10) left.1) (tget (fun _ => 0) g.pipeEnd (16 * a + pipe))) (max g.quiet (g.txEnd + 80))
  if s.unranged n a then s.ceil4 (max t0 (max g.txEnd up + 20000))
  else
    let rtt := (s.rtt n a).getD 0
    s.ceil4 (max t0 (up + s.slotGuard n - (rtt + (p - 4) * 10)))

/-- Where the response slot of a packet sent at d ends, or for an unranged device its window close plus 2 µs, in 100 ps. -/
def State.slotEnd (s : State) (n a d p r : Nat) : Nat :=
  if s.unranged n a then eopOf d p + 200000 + 20000 else eopOf d p + (s.rtt n a).getD 0 + r * 10

/-- The start of the end-of-frame guard of the current frame, in 100 ps (R98). -/
def State.guardAt (s : State) : Nat := (nextBoundary s.rate s.tk.boundary - 1000) * 10

/-- Whether a transaction fits before the end-of-frame guard (R99, R218). -/
def State.fits (s : State) (n a pipe p r : Nat) : Bool := s.slotEnd n a (s.launchAt n a pipe p) p r ≤ s.guardAt

/-- Send a packet at d and open its transaction: the header's tag is assigned, the packet leaves, and the response is expected. -/
def State.sendAt (s : State) (n d : Nat) (h : Hdr) (pl : List Byte) (good : Bool) (use : XUse) (room slot : Nat) : State :=
  let tag := s.freeTag
  let h := { h with tag := tag }
  let p := packetNs (h.arm == 1) pl.length
  let un := s.unranged n h.addr
  let e := eopOf d p
  let x : Xact := { tag := tag, addr := h.addr, pipe := h.pipe, use := use, seq := h.tsa % 2, room := room, eop := e
                    expect := if un then none else some (e + (s.rtt n h.addr).getD 0), slot := slot }
  let fin := s.slotEnd n h.addr d p slot
  let s1 := s.modPort n fun g =>
    { g with
      opens := g.opens ++ [x]
      txEnd := d + p * 10
      upFree := if un then fin - 20000 else max g.upFree fin
      quiet := if un then fin else g.quiet
      pipeEnd := tput (fun _ => 0) g.pipeEnd (16 * h.addr + h.pipe) (if un then fin - 20000 else fin) }
  if s.link n = 3 then s1.emit (.gliys n d [] (wireOf symSop (packetBytes h pl) good)) else s1

/-- Send a packet where it can leave, if that is before the guard. The answer says whether it went; in a Hit it is lost (R84). -/
def State.sendNow (s : State) (n : Nat) (h : Hdr) (pl : List Byte) (use : XUse) (room slot : Nat) (good : Bool := true) : Bool × State :=
  let p := packetNs (h.arm == 1) pl.length
  if s.fits n h.addr h.pipe p slot then (true, s.sendAt n (s.launchAt n h.addr h.pipe p) h pl good use room slot) else (false, s)

/-- The header of a downstream packet. -/
def downHdr (typ addr pipe : Nat) : Hdr :=
  { typ := typ, dir := 0, arm := 0, tsa := 0, addr := addr, pipe := pipe, tag := 0, tsb := 0, len := 0, tsc := 0 }

/-! ### Port service and control transfers (R118, R218) -/

/-- Queue an item of port service. -/
def State.serve (s : State) (n : Nat) (x : Svc) : State := s.modPort n fun g => { g with svc := g.svc ++ [x] }

/-- The 8-byte setup payload (R104). -/
def setupBytes (up : Bool) (kind req value index len : Nat) : List Byte :=
  [BitVec.ofNat 8 (b2n up * 128 + kind * 32), BitVec.ofNat 8 req] ++ leBytes 2 value ++ leBytes 2 index ++ leBytes 2 len

/-- Start a control transfer of port service. -/
def State.startCtl (s : State) (n a : Nat) (use : CtlFor) (setup : List Byte) : State :=
  (s.modPort n fun g => { g with ctls := g.ctls ++ [{ use := use, addr := a, setup := setup }] }).serve n (.ctl use a)

/-- SET_PORT_STATE to hub a for its port p (R131). -/
def State.setHubPort (s : State) (n a p code : Nat) (use : CtlFor) : State :=
  s.startCtl n a use (setupBytes false 1 3 code p 0)

/-- The control transfer of a use is gone. -/
def State.dropCtl (s : State) (n : Nat) (use : CtlFor) (a : Nat) : State :=
  s.modPort n fun g =>
    { g with
      ctls := g.ctls.filter fun c => !(c.use == use && c.addr == a)
      svc := g.svc.filter (· != .ctl use a)
      opens := g.opens.filter fun x => !(x.use == .ctl use && x.addr == a) }

end Sys2Proof.Machine
end

