-- ==== Sys2Proof/Machine/Dma.lean ====
section
/-! DEFINITION. Host-memory requests of the device (R307, R308, R314, R315) and the violation log (R322). -/

namespace Sys2Proof.Machine

/-! ### Requests -/

/-- Cut a range into requests that are no longer than a limit and do not cross a 4 KiB boundary (R307); n bounds their number. -/
def splitReq : Nat → Nat → Nat → Nat → List (Nat × Nat)
  | 0, _, _, _ => []
  | n + 1, lim, a, len =>
    if len = 0 then []
    else
      let k := min len (min (max 1 lim) (4096 - a % 4096))
      (a, k) :: splitReq n lim (a + k) (len - k)

/-- The attributes of a request for gallery g on a traffic class (R305, R307, R314): TC1 travels on VC1 where that is enabled and mapped, and the
gallery's PASID goes with it where PASIDs are enabled and the gallery has a valid one. -/
def State.hostReq (s : State) (g tc : Nat) : HostReq :=
  { gal := g, tc := tc, vc := b2n (tc == 1 && s.pci.vc1 && s.pci.tc1OnVc1)
    pasid := if s.pci.pasidEn && s.flag (F.gaPasid_valid g) then some (s.get (F.gaPasid_pasid g)) else none, ecrc := s.pci.ecrcGen }

/-- Post a write for gallery g on a traffic class, cut as R307 says. -/
def State.postWrite (s : State) (g tc a : Nat) (d : List Byte) : State :=
  (splitReq (d.length + 1) s.pci.mps a d.length).foldl
    (fun (x : State × List Byte) p => (x.1.emit (.hostWrite (s.hostReq g tc) p.1 (x.2.take p.2)), x.2.drop p.2)) (s, d) |>.1

/-- The requests of a read (R307). -/
def State.readReqs (s : State) (a len : Nat) : List (Nat × Nat) := splitReq (len + 1) (min 4096 s.pci.mrrs) a len

/-- Issue a read of host memory for gallery g, in requests as R307 says; one command brings all of it. -/
def State.issueRead (s : State) (g tc : Nat) (who : Reader) (a len : Nat) : State :=
  let rs := s.readReqs a len
  rs.foldl (fun x p => x.emit (.hostRead (s.hostReq g tc) p.1 p.2)) { s with pci := { s.pci with reads := s.pci.reads ++ [(who, rs.length)] } }

/-- Whether the requests of a read find tags: at most 256 are outstanding, or 512 with 10-bit tags (R307). -/
def State.readFits (s : State) (a len : Nat) : Bool :=
  s.pci.reads.foldl (fun k x => k + x.2) 0 + (s.readReqs a len).length ≤ (if s.pci.tag10 then 512 else 256)

/-- A host-memory request for gallery g: it waits while dma_ready is 0 (R314), a read also for its tags (R307), and behind those of the gallery
that wait (log entry 179). -/
def State.hostOp (s : State) (g a : Nat) (o : HostOp) : State :=
  let wait (s : State) : State := { s with owed := s.owed ++ [(g, a, o)] }
  if s.dmaReady g && !s.owed.any (·.1 == g) then
    match o with
    | .write tc d => s.postWrite g tc a d
    | .read tc who len => if s.readFits a len then s.issueRead g tc who a len else wait s
  else wait s

/-- A TC0 write of a completion, tail report, status word, event or mover copy. -/
def State.dmaWrite (s : State) (g a : Nat) (d : List Byte) : State := s.hostOp g a (.write 0 d)

/-- A read of host memory for gallery g on a traffic class. -/
def State.dmaRead (s : State) (g tc : Nat) (who : Reader) (a len : Nat) : State := s.hostOp g a (.read tc who len)

/-- The requests that waited are made once dma_ready reads 1 and there are tags (R307, R314). -/
def State.flushOwed (s : State) : State :=
  if s.owed.isEmpty then s
  else
    let go := s.owed.filter fun w => s.dmaReady w.1
    forEach go { s with owed := s.owed.filter fun w => !s.dmaReady w.1 } fun s w => s.hostOp w.1 w.2.1 w.2.2

/-! ### Completions (R308) -/

/-- The standard severity of a failed read: a requester's completion time-out, poisoned data and an unsuccessful completion are non-fatal
(PRESUMED, log entry 24). -/
def aerSeverity (_ : Nat) : Severity := .nonfatal

/-- A failed read is logged through AER: 0 UR, 1 CA, 2 poisoned, 3 timeout, 4 ECRC. The header log takes the header of the first one: its bytes are
the completer's, and free (R305, R308); a time-out has none. -/
def State.aerLog (s : State) (k : Nat) : State :=
  let x : List Byte × State := if s.pci.aerHeader.isEmpty && k != 3 then s.drawBytes 16 else (s.pci.aerHeader, s)
  { x.2 with pci := { x.2.pci with aer := x.2.pci.aer ++ [(k, aerSeverity k)], aerHeader := x.1 } }

/-- The first entry that meets a condition is taken out. -/
def dropFirst {α : Type} (p : α → Bool) : List α → List α
  | [] => []
  | x :: xs => if p x then xs else x :: dropFirst p xs

/-- A read has completed: its tags are free, and reads that wait for them go on (R307). -/
def State.readDone (s : State) (who : Reader) : State :=
  ({ s with pci := { s.pci with reads := dropFirst (·.1 == who) s.pci.reads } } : State).flushOwed

/-- The reads of a unit that are outstanding or wait to be made; while there are two or more, the next completion is that of one the unit waits
for no more. -/
def State.readsOf (s : State) (who : Reader) : Nat :=
  (s.pci.reads.filter (·.1 == who)).length + (s.owed.filter fun w => match w.2.2 with
    | .read _ x _ => x == who
    | _ => false).length

/-- Whether a read by this unit is outstanding. -/
def State.readOut (s : State) (who : Reader) : Bool := s.pci.reads.any (·.1 == who)

/-- What the completion of the read made by `who`, of a kind (0 mover, 1 work entry, 2 index, head or status word, 3 other) gives: the bytes, or none when it
failed; poisoned data and a Completer Abort are detected, and an armed injection makes one of a good completion (R407). A completion of a bad ECRC fails where the check
is enabled (R305). A time-out is no completion. -/
def State.hostData (s0 : State) (who : Reader) (kind : Nat) (r : HostRes) : Option (List Byte) × State :=
  let s := s0.readDone who
  if r = .timeout then (none, s.aerLog 3) else
  let p := s.inject 0x09 0 fun v => v == kind
  if p.1 then (none, (p.2.aerLog 2).detect 0x09 1 0 kind true)
  else
    let c := s.inject 0x0A 0 fun v => v == kind
    if c.1 then (none, (c.2.aerLog 1).detect 0x0A 1 0 kind true)
    else match r with
      | .data d => (some d, s)
      | .badEcrc d => if s.pci.ecrcChk then (none, s.aerLog 4) else (some d, s)
      | .timeout => (none, s)
      | .ur => (none, s.aerLog 0)
      | .ca => (none, (s.aerLog 1).detect 0x0A 1 0 kind)
      | .poisoned => (none, (s.aerLog 2).detect 0x09 1 0 kind)

/-- The completion of a read whose unit waits for it no more: its failure is logged and detected all the same (R308). -/
def State.lateData (s : State) (who : Reader) (kind : Nat) (r : HostRes) : Bool × State :=
  if s.readOut who then
    let x := s.hostData who kind r
    (x.1.isNone, x.2)
  else (false, s)

/-- A failed read of a ring or index word (R315). -/
def State.hostErr (s : State) (g : Nat) : State := (s.bump (F.gaStatus_host_err g)).privEvent g 11

/-! ### Violations (R322) -/

/-- The violation log takes an entry: kind, gallery (none: unknown), ring, detail and word 1. -/
def State.violation (s : State) (kind : Nat) (gal : Option Nat) (ring detail word1 : Nat) : State :=
  let g := gal.getD 0
  let s1 := s.bump (F.gaViolStatus_total 0)
  let s2 := match gal with
    | some g => s1.bump (F.gaViolCnt_count 0 g)
    | none => s1
  let e := if s.get (F.gaViolStatus_count 0) = 0 then 0 else (s.get (F.gaViolStatus_newest 0) + 1) % 16
  let s3 := s2.setRegs (R.gaViolLog0 0 e)
    [kind * 2 ^ 28 + g * 2 ^ 24 + b2n gal.isNone * 2 ^ 23 + ring * 2 ^ 20 + detail % 2 ^ 20, word1, s.now % 2 ^ 32, s.now / 2 ^ 32]
  ((s3.put (F.gaViolStatus_newest 0) e).put (F.gaViolStatus_count 0) (min 16 (s.get (F.gaViolStatus_count 0) + 1))).privEvent 0 16

end Sys2Proof.Machine
end

