-- ==== Sys2Proof/Machine/Pipes.lean ====
section
/-! DEFINITION. Pipe contexts and the catalogue: states, enable checks, effect frames, regions, edits and admission
(spec/06_pipes_catalogue_buffers.md, spec/07_curator.md R204 to R211). -/

namespace Sys2Proof.Machine

/-! ### Enable and disable (R177 to R181) -/

/-- Whether two ranges of granules overlap. -/
def overlap (b1 n1 b2 n2 : Nat) : Bool := 0 < n1 && 0 < n2 && b1 < b2 + n2 && b2 < b1 + n1

/-- Check 6 of R177: the pipe's kind and size against the descriptor of a bound device. -/
def State.descFits (s : State) (c : Nat) : Bool :=
  let n := s.pxPort c
  let a := s.pxAddr c
  match (s.dev n a).pipes[s.pxPipe c - 1]? with
  | some (k, _, u) => s.devSt n a == 0 || (k == s.pxKind c && s.pxMax c ≤ 8 * u)
  | none => true

/-- The code of the first enable check that fails, 0 for none (R177). -/
def State.enableCode (s : State) (c : Nat) : Nat :=
  let k := s.pxKind c
  let m := s.pxMax c
  let b := s.get (F.pxRegion_base c)
  let z := s.get (F.pxRegion_size c)
  let per := k == 1 || k == 2
  if !(s.pxPort c < s.nPorts && 1 ≤ s.pxAddr c && s.pxAddr c ≤ 62 && 1 ≤ s.pxPipe c && 1 ≤ k && k ≤ 5 &&
       8 ≤ m && m ≤ 1024 && m % 8 == 0 && (k != 5 || m ≤ 64)) then 1
  else if s.ctxs.any fun x => x != c && s.pxPort x == s.pxPort c && s.pxAddr x == s.pxAddr c && s.pxPipe x == s.pxPipe c then 2
  else if !(b + z ≤ 32768 && s.minRegion c ≤ z) then 3
  else if s.ctxs.any fun x => x != c && 2 ≤ s.pxState x && overlap b z (s.get (F.pxRegion_base x)) (s.get (F.pxRegion_size x)) then 4
  else if per && s.flag (F.pxStreamCfg_ring_enable c) &&
    !(1 ≤ s.get (F.pxStreamCfg_log2_slots c) && s.get (F.pxStreamCfg_log2_slots c) ≤ 16 && s.reg64 (R.pxRingBaseLo c) % 64 == 0 &&
      s.reg64 (R.pxSwWordLo c) % 4 == 0 && s.reg64 (R.pxDevWordLo c) % 4 == 0) then 5
  else if !s.descFits c then 6 else 0

/-- A write of 1 to PX_CTRL.enable (R177): in Disabled with no enable pending it runs the checks. -/
def State.pxEnable (s : State) (c : Nat) : State :=
  if s.pxState c = 1 && (s.ctx c).enAt.isNone then
    let code := s.enableCode c
    let s1 := s.put (F.pxCtrl_refuse c) code
    if code = 0 then s1.modCtx c fun x => { x with enAt := some s.effect } else s1
  else s

/-- A write of 0 to PX_CTRL.enable (R178). -/
def State.pxDisable (s : State) (c : Nat) : State :=
  let st := s.pxState c
  if 2 ≤ st && st ≤ 5 then s.modCtx c fun x => { x with mode := 6, disAt := some s.effect, enAt := none }
  else if st = 1 && (s.ctx c).enAt.isSome then s.modCtx c fun x => { x with mode := 6, disAt := some s.effect }
  else s

/-- A write of 1 to PX_CTRL.release (R180). -/
def State.pxRelease (s : State) (c : Nat) : State :=
  if s.pxState c = 4 then
    if s.descFits c then (s.put (F.pxCtrl_refuse c) 0).modCtx c fun x => { x with enAt := some s.effect }
    else s.put (F.pxCtrl_refuse c) 6
  else s

/-- Whether a CLEAR_HALT that context c asked for is queued or under way. -/
def State.pxClearing (s : State) (c : Nat) : Bool := (s.port (s.pxPort c)).ctls.any (·.use == .clearHalt c (s.pxPipe c))

/-- A write of 1 to PX_CTRL.clear_halt (R181): a CLEAR_HALT of the pipe is queued. -/
def State.pxClearHalt (s : State) (c : Nat) : State :=
  if s.pxState c = 5 && !s.pxClearing c then
    s.startCtl (s.pxPort c) (s.pxAddr c) (.clearHalt c (s.pxPipe c)) (setupBytes false 0 3 0 (s.pxPipe c) 0)
  else s

/-- The CLEAR_HALT that context c asked for pipe p of device a has succeeded or failed (R181, R115). -/
def State.pxCleared (s : State) (n a p c : Nat) (ok : Bool) : State :=
  if ok then (s.setSeq n a p 0).modCtx c fun x => if x.mode = 5 then { x with enAt := some s.effect } else x
  else s.bump (F.pxCntB_errors c)

/-- A STALL halts the context (R116). -/
def State.pxHalt (s : State) (c : Nat) : State := s.modCtx c fun x => if x.mode = 2 then { x with mode := 5, enAt := none } else x

/-- The counters of a context are cleared (PX_CTRL.cnt_clear). -/
def State.pxCntClear (s : State) (c : Nat) : State := s.setRegs (R.pxCntA c) [0, 0, 0, 0]

/-- The stream ring of a periodic context starts: the device index word is read (R194). The pipe's sequence bit stays as it is (R112, R115). A read
of its words that is still out is no longer the ring's (R315). -/
def State.pxStart (s : State) (c : Nat) : State :=
  if s.pxKind c ≤ 2 && s.flag (F.pxStreamCfg_ring_enable c) then
    let now : Bool := s.dmaReady (s.pxGal c) && s.gal (s.pxGal c) != 4
    let s2 := s.modCtx c fun x => { x with wantDev := true, wait := [], slots := [], gap := false, reading := now, outRead := none, swBad := false }
    if now then s2.dmaRead (s.pxGal c) 1 (.swIndex c) (s.reg64 (R.pxDevWordLo c)) 4 else s2
  else s

/-- The changes of context c whose effect frame is reached take effect (R176, R178). -/
def State.pxEffect (s : State) (c : Nat) : State :=
  let x := s.ctx c
  let dis : Bool := match x.disAt with
    | some d => s.reached d
    | none => false
  let en : Bool := match x.enAt with
    | some e => s.reached e
    | none => false
  if dis then s.modCtx c fun x => { x with mode := 1, disAt := none, enAt := none, wantDev := false, wait := [], slots := [], reading := false, outRead := none }
  else if en && x.mode = 6 then (s.modCtx c fun x => { x with enAt := none }).pxStart c
  else if en then
    let s1 := s.modCtx c fun x => { x with mode := 2, enAt := none }
    if x.mode = 1 then s1.pxStart c else s1
  else s

/-- Every change of a context or setting whose effect frame is reached takes effect (R176). -/
def State.pxEffects (s : State) : State :=
  forEach (s.px.map (·.1)) s fun s c =>
    (s.pxEffect c).modCtx c fun x =>
      { x with quals := x.quals.filter fun p => newer p.1 s.frame, applies := x.applies.filter fun p => newer p.1 s.frame }

/-- The pipes of a device that do not match its descriptor are held (R152, R177): whether the descriptor differs in a pipe entry from the one
that its binding knew, and the state after. A context held before its enable took effect has still to read its device index. -/
def State.pxIdentity (s : State) (n a : Nat) (pipes : List (Nat × Nat × Nat)) : Bool × State :=
  let changed := !(s.dev n a).pipes.isEmpty && (s.dev n a).pipes != pipes
  let bad := s.ctxs.filter fun c => s.pxPort c == n && s.pxAddr c == a &&
    (match pipes[s.pxPipe c - 1]? with
     | some (k, _, u) => !(k == s.pxKind c && s.pxMax c ≤ 8 * u)
     | none => true)
  (changed,
   forEach bad s fun s c => s.modCtx c fun x =>
     if x.mode = 2 || x.mode = 5 then { x with mode := 4, enAt := none }
     else if x.mode = 1 && x.enAt.isSome then
       { x with mode := 4, enAt := none, wantDev := s.pxKind c ≤ 2 && s.flag (F.pxStreamCfg_ring_enable c) }
     else x)

/-! ### The catalogue (R182 to R188) -/

/-- Whether an entry is shed (CU_SHED_MAPw). -/
def State.isShed (s : State) (i : Nat) : Bool := bitOf (s.reg (R.cuShedMap (i / 32))).toNat (i % 32)

/-- Set or clear the shed bit of an entry. -/
def State.setShed (s : State) (i : Nat) (b : Bool) : State :=
  if b then s.setBit (R.cuShedMap (i / 32)) (i % 32) else s.clrBit (R.cuShedMap (i / 32)) (i % 32)

/-- Put an entry at an index. -/
def State.catPut (s : State) (i : Nat) (e : CatEntry) : State := { s with cat := tinsert (terase s.cat i) i e }

/-- Take the entry at an index out. -/
def State.catDrop (s : State) (i : Nat) : State := ({ s with cat := terase s.cat i } : State).setShed i false

/-- The schedule in force in frame f, given the one after every edit and what each edit not yet in effect replaces (R187). -/
def schedAt (f : Nat) (last : CatSched) : List (Nat × Option CatSched) → Option CatSched
  | [] => some last
  | (e, d) :: rest => if newer e f then d else schedAt f last rest

/-- The schedule of an entry in frame f: none before it is in effect or from its removal on (R186, R187). -/
def CatEntry.at (e : CatEntry) (f : Nat) : Option CatSched :=
  let gone : Bool := match e.until_ with
    | some u => !newer u f
    | none => false
  if gone then none else schedAt f e.sched e.olds

/-- Whether an entry is due in frame f (R182), and whether with a reflex slot. -/
def CatEntry.due (e : CatEntry) (f : Nat) : Option Bool :=
  match e.at f with
  | some c => if f % 2 ^ c.exp = c.phase then some c.reflex else none
  | none => none

/-- The durations of the downstream packet and of the response of a context's transaction in ns (R204). -/
def State.pxPR (s : State) (c : Nat) : Nat × Nat :=
  if s.pxKind c = 2 then (packetNs (s.pxArm c) (s.pxMax c), 56) else (56, packetNs (s.pxArm c) (s.pxMax c))

/-- The cost of a periodic transaction of a context: p + r − 28, and 8 ns more on a shared port (R204, R371). -/
def State.pxCost (s : State) (c : Nat) : Nat := (s.pxPR c).1 + (s.pxPR c).2 - 28 + (if s.costShared (s.pxPort c) then 8 else 0)

/-! ### Admission (R205 to R208) -/

/-- An admitted load: exponent, phase, cost and the reflex slot's time. -/
structure Load where
  exp   : Nat
  phase : Nat
  cost  : Nat
  rns   : Nat
  deriving DecidableEq, Repr

/-- The load of an entry. -/
def CatEntry.load (e : CatEntry) : Load := { exp := e.sched.exp, phase := e.sched.phase, cost := e.cost, rns := e.reflexNs }

/-- The loads of port n: its valid entries that are not shed, nor removed (R205, R208). -/
def State.loads (s : State) (n : Nat) : List Load :=
  ((s.partition n).filter fun e => !s.isShed e.1 && e.2.until_.isNone).map (·.2.load)

/-- The loads due in residue ρ. -/
def dueIn (ls : List Load) (ρ : Nat) : List Load := ls.filter fun l => ρ % 2 ^ l.exp == l.phase

/-- T[ρ] of R205 for the loads due in a residue. -/
def timeOf (fill : Nat) (due : List Load) : Nat :=
  let g := b2n (!due.isEmpty) + b2n (due.any fun l => l.rns != 0)
  28 * min g 1 + g * fill + sumOf (due.map fun l => l.cost + l.rns)

/-- N[ρ] of R205. -/
def itemsOf (due : List Load) : Nat := due.length + (due.filter fun l => l.rns != 0).length

/-- The residues that tell the loads apart. -/
def residues (ls : List Load) : List Nat := List.range (2 ^ (ls.foldl (fun m l => max m l.exp) 0))

/-- The largest T[ρ] and N[ρ] of a set of loads. -/
def worstLoad (fill : Nat) (ls : List Load) : Nat × Nat :=
  (residues ls).foldl (fun m ρ => (max m.1 (timeOf fill (dueIn ls ρ)), max m.2 (itemsOf (dueIn ls ρ)))) (0, 0)

/-- The item limit of a frame rate (R207). -/
def itemLimit (f : Nat) : Nat := if f ≤ 7200 then 256 else if f ≤ 14400 then 128 else if f ≤ 19200 then 96 else 64

/-- The periodic cap of port n in frame k at a frame rate (R206). -/
def State.capAt (s : State) (n f k : Nat) : Nat := s.get F.cuAdmitCfg_cap_pct * frameLen f / 100 - s.pwOf n k

def State.fill (s : State) (n : Nat) : Nat := s.get (F.cuPortCfg_fill_ns n)

/-- The refusal code of admission in frame k for a set of loads: 0, 8 for time, 9 for items (R208). -/
def State.admitIn (s : State) (n f k : Nat) (ls : List Load) : Nat :=
  let w := worstLoad (s.fill n) ls
  if s.capAt n f k < w.1 then 8 else if itemLimit f < w.2 then 9 else 0

/-- The refusal code of admission now. -/
def State.admitCode (s : State) (n f : Nat) (ls : List Load) : Nat := s.admitIn n f s.frame ls

/-- CU_PORTn_LOAD and CU_CAT_STATUSn.used follow the partition. -/
def State.loadShow (s : State) (n : Nat) : State :=
  let w := worstLoad (s.fill n) (s.loads n)
  (((s.put (F.cuPortLoad_time_max n) w.1).put (F.cuPortLoad_items_max n) w.2).put (F.cuCatStatus_used n) (s.partition n).length).put
    (F.cuPortLate_shed n) ((s.partition n).filter fun e => s.isShed e.1).length

/-- The entries that a re-admission of port n at a rate sheds in frame k, in ascending index (R210). -/
def State.shedSet (s : State) (n f k : Nat) : List Nat :=
  ((s.partition n).filter (fun e => e.2.until_.isNone)).foldl (fun (x : List Nat × List Load) e =>
    if s.admitIn n f k (x.2 ++ [e.2.load]) = 0 then (x.1, x.2 ++ [e.2.load]) else (x.1 ++ [e.1], x.2)) ([], []) |>.1

/-- CU_RATE_CHECK (R211). -/
def State.rateCheck (s : State) : State :=
  let f := s.get F.cuRateCheck_rate
  let ovr := s.ports.filter fun n => !(s.shedSet n f s.frame).isEmpty
  let s1 := if 2000 ≤ f && f ≤ 32000 then
      (s.put F.cuRateCheck_fit (b2n ovr.isEmpty)).put F.cuRateCheck_ports_over (sumOf (ovr.map (2 ^ ·)))
    else (s.put F.cuRateCheck_fit 0).put F.cuRateCheck_ports_over 0
  (s1.put F.cuRateCheck_done 1).raise F.cuEvents_rate_check_done

/-! ### Edits (R187, R188, R209) -/

/-- Whether two schedules of one context fall due in one frame (R183). -/
def collide (a b : CatSched) : Bool := a.phase % 2 ^ min a.exp b.exp == b.phase % 2 ^ min a.exp b.exp

/-- The min_exp that the descriptor of a bound device gives the pipe of a context (R141). -/
def State.minExp (s : State) (c : Nat) : Nat :=
  if s.devSt (s.pxPort c) (s.pxAddr c) = 0 then 0
  else match (s.dev (s.pxPort c) (s.pxAddr c)).pipes[s.pxPipe c - 1]? with
    | some (_, e, _) => e
    | none => 0

/-- Codes 1 to 5 of R188 for a context and a schedule; `but` is the index of the entry a Modify replaces. -/
def State.editCode (s : State) (c : Nat) (d : CatSched) (but : Option Nat) : Nat :=
  let k := s.pxKind c
  if !(k == 1 || k == 2 || k == 5) then 1
  else if 10 < d.exp || d.exp < s.minExp c then 2
  else if 2 ^ d.exp ≤ d.phase then 3
  else if s.cat.any fun e => e.2.ctx == c && some e.1 != but && e.2.until_.isNone && collide e.2.sched d then 4
  else if d.reflex && !(k == 2 && s.flag (F.pxBind_reflex_target c)) then 5 else 0

/-- An entry for a context and schedule in effect from a frame. -/
def State.newEntry (s : State) (c : Nat) (d : CatSched) (since : Nat) : CatEntry :=
  { ctx := c, sched := d, cost := s.pxCost c, reflexNs := if d.reflex then s.pxCost c else 0, since := since
    olds := [(since, none)] }

/-- An edit refused with a code is counted (CU_CAT_STATUSn.refused). -/
def State.refuseEdit (s : State) (n : Nat) : State := s.bump (F.cuCatStatus_refused n)

/-- Insert (R187): the refusal code and index, and the state after. -/
def State.catInsert (s : State) (c : Nat) (d : CatSched) : Nat × Nat × State :=
  let n := s.pxPort c
  let code := s.editCode c d none
  if code ≠ 0 then (code, 0, s.refuseEdit n)
  else match (List.range 2048).find? fun j => (s.catAt (2048 * n + j)).isNone with
    | none => (6, 0, s.refuseEdit n)
    | some j =>
      let e := s.newEntry c d s.effect
      let code := s.admitCode n s.rate (s.loads n ++ [e.load])
      if code ≠ 0 then (code, 0, s.refuseEdit n)
      else (0, 2048 * n + j, (s.catPut (2048 * n + j) e).loadShow n)

/-- Remove (R187): code 7, and code 1 for the context of the entry (R188). -/
def State.catRemove (s : State) (i : Nat) : Nat × Nat × State :=
  let n := i / 2048
  match s.catAt i with
  | none => (7, i, s.refuseEdit (n % 8))
  | some e =>
    if e.until_.isSome then (7, i, s.refuseEdit n)
    else if !(s.pxKind e.ctx == 1 || s.pxKind e.ctx == 2 || s.pxKind e.ctx == 5) then (1, i, s.refuseEdit n)
    else (0, i, (s.catPut i { e with until_ := some s.effect }).loadShow n)

/-- Modify (R187): the old entry's load is taken out and the new one's put in (R208). The new entry is not shed; the schedule of a shed entry that it
replaces stays so until it is in effect (R210). -/
def State.catModify (s : State) (i : Nat) (d : CatSched) : Nat × Nat × State :=
  let n := i / 2048
  match s.catAt i with
  | none => (7, i, s.refuseEdit (n % 8))
  | some e =>
    if e.until_.isSome then (7, i, s.refuseEdit n)
    else
      let code := s.editCode e.ctx d (some i)
      if code ≠ 0 then (code, i, s.refuseEdit n)
      else
        let e1 := { s.newEntry e.ctx d s.effect with
                    olds := e.olds ++ [(s.effect, some e.sched)], shedTo := if s.isShed i then some s.effect else e.shedTo }
        let rest := ((s.partition n).filter fun x => x.1 != i && !s.isShed x.1 && x.2.until_.isNone).map (·.2.load)
        let code := s.admitCode n s.rate (rest ++ [e1.load])
        if code ≠ 0 then (code, i, s.refuseEdit n)
        else (0, i, ((s.catPut i e1).setShed i false).loadShow n)

/-- Entries whose removal is in effect leave the catalogue, and schedules replaced are forgotten (R187). -/
def State.catEffects (s : State) : State :=
  let gone := s.cat.filter fun e => match e.2.until_ with
    | some u => s.reached u
    | none => false
  let s1 := forEach gone s fun s e => (s.catDrop e.1)
  let s2 : State := { s1 with cat := s1.cat.map fun e => (e.1, { e.2 with olds := e.2.olds.filter (fun o => !s.reached o.1), shedTo := e.2.shedTo.filter fun u => !s.reached u }) }
  forEach (gone.map (·.1 / 2048)).eraseDups s2 fun s n => s.loadShow n

/-! ### Hub contexts (R174, R209, R147) -/

/-- Free a context: its words are 0 and its engine's part is gone, with every catalogue entry that names it. -/
def State.freeCtx (s : State) (c : Nat) : State :=
  let s1 := (List.range 32).foldl (fun (a : State) i => { a with regs := terase a.regs (0x40000 + 0x80 * c + 4 * i) }) s
  let s2 : State := { s1 with px := terase s1.px c }
  let es := s2.cat.filter (·.2.ctx == c)
  forEach (es.map (·.1 / 2048)).eraseDups (forEach es s2 fun s e => s.catDrop e.1) fun s n => s.loadShow n

/-- The context that accession has claimed for pipe 1 of a hub (R174). -/
def State.hubCtx (s : State) (n a : Nat) : Option Nat :=
  s.ctxs.find? fun c => (s.ctx c).hub && s.pxPort c == n && s.pxAddr c == a && s.pxPipe c == 1

/-- The binding of an address ends: the context claimed for it returns to Free (R174). -/
def State.hubFree (s : State) (n a : Nat) : State :=
  match s.hubCtx n a with
  | some c => s.freeCtx c
  | none => s

/-- Accession claims a context for a hub's pipe 1 and inserts its entry (R174, R209); none when it cannot. -/
def State.hubClaim (s : State) (n a : Nat) : Option State :=
  match s.hubCtx n a with
  | some _ => some s
  | none => match (List.range 2048).reverse.find? fun c => s.pxKind c == 0 with
    | none => none
    | some c =>
      let s1 := s.setReg (R.pxBind c) (BitVec.ofNat 32 (n * 2 ^ 29 + a * 2 ^ 22 + 1 * 2 ^ 18 + 5 * 2 ^ 15 + 2 ^ 14 + 16))
      let s2 := ((s1.setReg (R.pxRegion c) 0).put (F.pxCtrl_gallery c) 0).modCtx c fun _ => { enAt := some s.effect, hub := true }
      [1, 2, 3, 0].foldl (fun (r : Option State) p => match r with
        | some x => some x
        | none =>
          let x := s2.catInsert c { exp := 2, phase := p, reflex := false }
          if x.1 = 0 then some x.2.2 else none) none

end Sys2Proof.Machine
end

