-- ==== Sys2Proof/Machine/Complete.lean ====
section
/-! DEFINITION. Work entries and their completion, ring positions, stops and halts (spec/08_work_rings.md). -/

namespace Sys2Proof.Machine

/-- The state of a ring: 0 Disabled, 1 Running, 2 Stopping, 3 Halted. -/
def State.ringSt (s : State) (g r : Nat) : Nat := s.get (F.gaRingState_state g r)

/-- The host address of an entry (R230). -/
def State.entryAt (s : State) (g r i : Nat) : Nat := s.reg64 (R.gaRingBaseLo g r) + 32 * (i % 2 ^ s.get (F.gaRingCtrl_log2_size g r))

/-- The fresh lap stamp of an index (R231). -/
def lapOf (n i : Nat) : Nat := i / 2 ^ n % 256

/-- The tail report: the lowest index not completed (R232). -/
def State.tail (s : State) (g r : Nat) : Nat := (s.ring g r).out.headD (s.get (F.gaRingPos_fetch g r))

/-- The status word of a ring (GA_RINGr_STAT). -/
def State.statusWord (s : State) (g r : Nat) : Nat :=
  s.get (F.gaRingPos_tail g r) + b2n (s.ringSt g r == 3) * 2 ^ 16 + b2n (s.ringSt g r == 0) * 2 ^ 17 +
  s.get (F.gaRingState_back_pressured g r) * 2 ^ 18 + s.get (F.gaRingResume_valid g r) * 2 ^ 19

/-- Write the status word. -/
def State.writeStatus (s : State) (g r : Nat) : State := s.dmaWrite g (s.reg64 (R.gaRingStatLo g r)) (leBytes 4 (s.statusWord g r))

/-- Bring the tail report up to date, and write it when it has moved. -/
def State.tailReport (s : State) (g r : Nat) : State :=
  if s.tail g r = s.get (F.gaRingPos_tail g r) then s else (s.put (F.gaRingPos_tail g r) (s.tail g r)).writeStatus g r

/-! ### Completion (R245 to R247) -/

/-- Bytes 4 to 31 of a completion. -/
def doneBytes (status detail index actual frame time quality : Nat) : List Byte :=
  leBytes 1 status ++ leBytes 1 detail ++ leBytes 2 index ++ leBytes 4 (actual % 2 ^ 24) ++ leBytes 4 frame ++ leBytes 8 time ++
  leBytes 1 quality ++ leBytes 7 0

/-- A posted-write error for gallery g (R302): the log, the gallery's source, the event. `pl` is the message of R348. -/
def State.postedError (s : State) (src : Nat) (pl : List Byte) : State :=
  let g := byteAt pl 2 % 16
  let n := if s.get F.coPwerrStatus_count = 0 then 0 else (s.get F.coPwerrStatus_newest + 1) % 8
  let s1 := s.setRegs (R.coPwerrLog0 n)
    [src * 2 ^ 26 + leAt pl 0 2 % 2 ^ 11 * 2 ^ 15 + g * 2 ^ 11 + byteAt pl 3 % 8 * 2 ^ 8 + byteAt pl 6, leAt pl 4 2, leAt pl 8 4, leAt pl 12 4]
  let s2 := (s1.put F.coPwerrStatus_newest n).put F.coPwerrStatus_count (min 8 (s.get F.coPwerrStatus_count + 1))
  ((s2.bump F.coPwerrStatus_total).privEvent g 13).raise F.coEvents_pwerr

/-- A write-error message (R348). -/
def writeError (ctx : Nat) (p : Posted) (body : List Byte) : List Byte :=
  leBytes 2 ctx ++ leBytes 1 p.gal ++ leBytes 1 p.ring ++ leBytes 2 p.idx ++ body.take 2 ++ (body.drop 12).take 8

/-- Work run for another chip has ended (R297, R302): its result waits at its ticket, or a failed posted write is reported to its origin. The
ring number 8 names the ticket, 9 the posted write. -/
def State.remoteEnd (s : State) (w : Work) (body : List Byte) : State :=
  if w.r = 8 then
    { s with co := { s.co with tickets := s.co.tickets.map fun t => if t.num = w.i then { t with result := some (body, w.data) } else t } }
  else match s.co.posted.find? (·.num == w.i) with
    | none => s
    | some p =>
      let s1 : State := { s with co := { s.co with posted := s.co.posted.filter (·.num != w.i) } }
      let pl := writeError w.ctx p body
      if byteAt body 0 = 0 then s1
      else if p.chip = s.chip then s1.postedError s.chip pl
      else s1.spanSend { typ := 3, vc := 2, dst := p.chip, src := s.chip, tsd := leBytes 8 4, payload := pl }

/-- A completion written over an entry in two writes (R31), the tail report, and the completion source (R235); a remote entry's tag is free now
(R295). -/
def State.completeRing (s : State) (w : Work) (body : List Byte) : State :=
  let a := s.entryAt w.g w.r w.i
  let s1 := (s.dmaWrite w.g (a + 4) body).dmaWrite w.g (a + 3) (leBytes 1 (byteAt w.ent 2))
  let s2 := (s1.dropWork w.g w.r w.i).modRing w.g w.r fun x => { x with out := x.out.filter (· != w.i) }
  let s3 := (s2.wrap (F.gaRingCnt_completed w.g w.r)).tailReport w.g w.r
  let s4 : State := { s3 with co := { s3.co with rems := s3.co.rems.filter fun x => !(x.g == w.g && x.r == w.r && x.i == w.i) } }
  if w.irq then s4.privEvent w.g w.r else s4

/-- Whether an earlier entry of the same pipe and gallery is fetched and not completed (R33); one in a delay list has not come to its pipe. -/
def State.pipeAhead (s : State) (w : Work) : Bool :=
  w.bulk && (s.work.takeWhile fun x => !(x.g == w.g && x.r == w.r && x.i == w.i)).any fun x =>
    x.g == w.g && x.r < 8 && x.bulk && (x.op == 3) == (w.op == 3) && x.target == w.target && x.loc != .delayed

/-- Write the completions that wait and whose turn has come (R33); n bounds their number. -/
def State.heldGo : Nat → State → State
  | 0, s => s
  | n + 1, s => match s.work.find? fun x => x.loc == .ended && !s.pipeAhead x with
    | some x => State.heldGo n (s.completeRing x x.body)
    | none => s

/-- An entry completes: in its ring, in order within its pipe (R33), or for the chip it was run for. -/
def State.completeWith (s : State) (w : Work) (body : List Byte) : State :=
  if 8 ≤ w.r then (s.dropWork w.g w.r w.i).remoteEnd w body
  else if s.pipeAhead w then
    s.modWork w.g w.r w.i fun x => { x with loc := .ended, stage := .done, started := true, body := body }
  else (s.completeRing w body).heldGo s.work.length

/-- A completion at a time, with the frame of completion. -/
def State.completeAt (s : State) (w : Work) (status detail actual time quality : Nat) : State :=
  s.completeWith w (doneBytes status detail 0 actual s.frame time quality)

/-- A completion decided now. -/
def State.complete (s : State) (w : Work) (status detail : Nat) (actual : Nat := 0) : State :=
  s.completeAt w status detail actual s.now (s.chipQuality s.now)

/-- A silent violation: every result field is 0 (R243 check 4, R322). Work run for another chip has no ring here: its ring number is 0. -/
def State.completeViolation (s : State) (w : Work) (kind : Nat) : State :=
  (s.completeWith w (List.replicate 28 0)).violation kind (some w.g) (if w.r < 8 then w.r else 0) w.i w.target

/-! ### Ownership (R173, R244) -/

/-- Whether gallery g owns a control target: none but gallery 0 owns an absent port or an address outside 1 to 62. -/
def State.ownsTarget (s : State) (g n a : Nat) : Bool :=
  g == 0 || (n < s.nPorts && 1 ≤ a && a ≤ 62 && s.ctxs.any fun c => s.pxGal c == g && s.pxPort c == n && s.pxAddr c == a)

/-- The kind of violation that a local entry is, 0 for none (R243 check 4, R244, R319). -/
def State.violationOf (s : State) (w : Work) : Nat :=
  if w.remote then 0
  else match w.op with
    | 1 => if s.pxGal w.ctx = w.g then 0 else 3
    | 2 => if s.pxGal w.ctx = w.g then 0 else 3
    | 4 => if s.pxGal w.ctx = w.g then 0 else 3
    | 3 => if w.g ≠ 0 && byteAt w.ent 24 / 32 % 4 = 1 then 4 else if s.ownsTarget w.g w.port w.addr then 0 else 4
    | 5 => match s.catAt w.catIndex with
      | some e => if s.pxGal e.ctx = w.g then 0 else 3
      | none => 0
    | 6 => match s.catAt w.catIndex with
      | some e => if s.pxGal e.ctx = w.g then 0 else 3
      | none => 0
    | _ => 0

/-! ### Resume heads, stops and halts (R248 to R253) -/

/-- A resume head replaces a valid one only when it is lower (R250). -/
def State.setResume (s : State) (g r head cause : Nat) : State :=
  if s.flag (F.gaRingResume_valid g r) && !newerMod 16 (s.get (F.gaRingResume_head g r)) head then s
  else ((s.put (F.gaRingResume_valid g r) 1).put (F.gaRingResume_cause g r) cause).put (F.gaRingResume_head g r) head

/-- The channel that serves an entry serves it no more. -/
def State.mvForget (s : State) (g r i : Nat) : State :=
  { s with mv := s.mv.map fun m => if m.work = some (g, r, i) then { m with work := none, left := [] } else m }

/-- The control transfer of a work entry is abandoned at the packet boundary. -/
def State.ctlForget (s : State) (n a g r i : Nat) : State :=
  s.modPort n fun p =>
    { p with
      ctls := p.ctls.filter fun c => !(c.use == .work g r i && c.addr == a)
      opens := p.opens.map fun x => if x.use = .ctl (.work g r i) then { x with use := .gone } else x }

/-- Entries of a ring that are not started are discarded: they stay in host memory, not completed (R248 step 2). -/
def State.discard (s : State) (g r : Nat) : State :=
  let out := s.work.filter fun w => w.g == g && w.r == r && !w.started
  (forEach out s fun s w => (s.mvForget w.g w.r w.i).dropWork w.g w.r w.i).heldGo s.work.length

/-- An entry read that is outstanding is no longer the ring's (R308, R315). -/
def Ring.idleRead (x : Ring) : Ring := { x with reading := false, stale := x.stale + b2n x.reading }

/-- A Running ring becomes Stopping: steps 1 and 2 of R248. -/
def State.ringStop (s : State) (g r cause : Nat) : State :=
  if s.ringSt g r = 1 then
    ((s.put (F.gaRingState_state g r) 2).modRing g r fun x => { x.idleRead with cause := cause }).discard g r
  else s

/-- Whether every started entry of a ring has completed. -/
def State.ringQuiet (s : State) (g r : Nat) : Bool := !s.work.any fun w => w.g == g && w.r == r

/-- Steps 3 and 4 of R248: the ring is Disabled, with its resume head, its start and its tail report. -/
def State.ringDone (s : State) (g r : Nat) : State :=
  let h := s.tail g r
  let s1 := ((s.setResume g r h (s.ring g r).cause).put (F.gaRingStart_start g r) h).put (F.gaRingPos_tail g r) h
  let s2 := ((s1.put (F.gaRingState_state g r) 0).put (F.gaRingState_back_pressured g r) 0).put (F.gaRingCtrl_enable g r) 0
  (s2.modRing g r fun x => { x.idleRead with out := [], cause := 1 }).writeStatus g r

/-- A halt of a gallery (R252): its rings are Halted and their entries that are not started are discarded. -/
def State.galleryHalt (s : State) (g : Nat) : State :=
  let s1 := if s.gal g = 1 then s.put (F.gaStatus_state g) 2 else s
  let s2 := forEach (List.range 8) s1 fun s r =>
    if s.ringSt g r = 1 || s.ringSt g r = 2 then
      (((s.put (F.gaRingState_state g r) 3).modRing g r fun x => { x.idleRead with cause := 3 }).discard g r).writeStatus g r
    else s
  let s3 := s2.privEvent g 10
  if g ≠ 0 then s3.privEvent 0 14 else s3

/-- The halt that a malformed entry causes (R252): the ring that met it is the source. -/
def State.malformed (s : State) (g r i op : Nat) (inj : Bool) : State :=
  let s1 := (s.put (F.gaRingState_halt_source g r) 1).setReg (R.gaRingHaltIdx g r) (BitVec.ofNat 32 (op * 2 ^ 24 + i))
  (s1.detectAt 8 3 g (r * 2 ^ 16 + i) g s.now inj).galleryHalt g

/-! ### Entries of a device that leaves (R157, R160) -/

/-- Whether an entry fetched names device a of port n in a local transfer. -/
def State.namesDev (s : State) (n a : Nat) (w : Work) : Bool :=
  w.bulk && !w.remote && (s.workPlace w).1 == n && (s.workPlace w).2.1 == a

/-- The bytes that an entry of port n has moved: for a control transfer on the bus, those of its data stage (R245, R247). -/
def State.workMoved (s : State) (n : Nat) (w : Work) : Nat :=
  match (s.port n).ctls.find? (·.use == .work w.g w.r w.i) with
  | some c => if bitOf (byteAt c.setup 0) 7 then c.data.length else leAt c.setup 6 2 - c.data.length
  | none => w.moved

/-- The entries for device a end with a status: those in the bulk queue, in staging or on the bus, and for a bus reset those on their way to it
(R157, R160); a bus reset publishes the lowest index of each ring. -/
def State.workKill (s : State) (n a status : Nat) : State :=
  let hit := s.work.filter fun w => s.namesDev n a w && (w.loc == .queued || (status == 5 && w.loc == .gate))
  let s1 := forEach hit s fun s w =>
    let s1 := ((s.mvForget w.g w.r w.i).ctlForget n a w.g w.r w.i).complete w status 0 (s.workMoved n w)
    if status = 5 && w.r < 8 then s1.setResume w.g w.r w.i 2 else s1
  s1.modPort n fun p =>
    { p with
      ctls := p.ctls.filter fun c => !(c.use.isWork && c.addr == a)
      opens := p.opens.map fun x => match x.use with
        | .ctl u => if u.isWork && x.addr == a then { x with use := .gone } else x
        | _ => x }

end Sys2Proof.Machine
end

