-- ==== Sys2Proof/Machine/Accession.lean ====
section
/-! DEFINITION. Accession: detach, attach, address, ranging, bus reset, suspend (spec/05_accession.md), and the link states of a root port
(spec/03_gliys_link.md). -/

namespace Sys2Proof.Machine

/-- A new link state. -/
def State.enterLink (s : State) (n st : Nat) : State := s.setLink n st

/-! ### Detach (R156, R157) -/

/-- GP_RANGE_DEVa reads 0 (R157); with the first-tier hub of a shared tree D_hop is lost (R370). -/
def State.clearRange (s : State) (n a : Nat) : State :=
  let s1 := s.setRegs (R.gpRangeDev0 n a) [0, 0, 0, 0]
  if s.sharedPort n && (s.place n a).1 = 0 then (s1.put (F.twHop_valid n) 0).put (F.twHop_d_hop n) 0 else s1

/-- A sweep of device a, queued or under way, is gone, and its permit is returned (R427). -/
def State.dropSweep (s : State) (n a : Nat) : State :=
  let run : Bool := match (s.port n).sweep with
    | some w => w.addr == a
    | none => false
  let s1 := s.modPort n fun g =>
    { g with
      sweeps := g.sweeps.filter (· != a)
      sweep := if run then none else g.sweep
      svc := g.svc.filter (· != .sweep a) }
  if run then (s1.permitReturn (.sweep n a)).permitDrop (.sweep n a) else s1

/-- The control transfers and port service of device a are abandoned, those of work entries with their entries (`workKill`); packets still on the
wire answer to nothing. A cut that a hub has not acknowledged has not been made (R123). -/
def State.dropService (s : State) (n a : Nat) : State :=
  s.modPort n fun g =>
    { g with
      ctls := g.ctls.filter fun c => c.addr != a || c.use.isWork
      svc := g.svc.filter fun x => match x with
        | .ctl _ b => b != a
        | .probe b _ => b != a
        | _ => true
      opens := g.opens.map fun x => if x.addr == a then (match x.use with
        | .ctl u => if u.isWork then x else { x with use := .gone }
        | _ => x) else x
      cutting := g.cutting.filter fun x => (s.place n x).1 != a
      recut := g.recut ++ g.cutting.filter fun x => (s.place n x).1 == a }

/-- Start the next attach that waits, when none runs (R148). -/
def State.attachKick (s : State) (n : Nat) : State :=
  match (s.port n).attach, (s.port n).attaches with
  | none, (parent, pt) :: rest =>
    if s.link n != 3 || (s.port n).resuming || !s.ownsPort n then s
    else
      let tries := (((s.port n).tries.find? fun x => x.1 == parent && x.2.1 == pt).map (·.2.2)).getD 0
      let t : Attach := { parent := parent, port := pt, tries := tries, step := if parent = 0 then 2 else 1 }
      let s1 := (s.modPort n fun g => { g with attaches := rest, attach := some t, again := g.again.filter (· != (parent, pt)) }).put (F.gpAccStatus_busy n) 1
      if parent = 0 then s1 else s1.setHubPort n parent pt 1 .forward
  | _, _ => s

/-- The attach under way is abandoned when it is of device a, or of a port of hub a (R161), and the next one that waits begins (R148). -/
def State.dropAttach (s : State) (n a : Nat) : State :=
  let hit : Bool := match (s.port n).attach with
    | some t => a == t.parent || (a == t.addr && t.addr != 0)
    | none => false
  let s1 := s.modPort n fun g =>
    { g with
      attaches := g.attaches.filter (·.1 != a)
      rejected := g.rejected.filter (·.1 != a)
      strict := g.strict.filter (·.1 != a)
      tries := g.tries.filter (·.1 != a)
      attach := if hit then none else g.attach
      ctls := if hit then g.ctls.filter (·.addr != 0) else g.ctls
      svc := if hit then g.svc.filter (fun x => match x with
        | .ctl _ b => b != 0
        | _ => true) else g.svc }
  if hit then ((s1.put (F.gpAccStatus_busy n) 0).put (F.gpAccStatus_attach_addr n) 0).attachKick n else s1

/-- Device a leaves: its new state, its work ended with a status, its record of a kind with a time and quality (none: no record). -/
def State.leave (s : State) (n a st status : Nat) (rec_ : Option (Nat × Nat × Nat)) : State :=
  let s1 := (((s.setDevSt n a st).clearRange n a).clearSeqs n a).put (F.gpDevState_wake_enabled n a) 0
  let s2 := ((((s1.dropSweep n a).dropService n a).dropAttach n a)).modPort n fun g =>
    { g with cutting := g.cutting.filter (· != a), recut := g.recut.filter (· != a) }
  let s3 := s2.modDev n a fun d => { d with absentAt := s.now, lost := 0, excur := 0, silent := 0, hadRange := false }
  let s4 := s3.workKill n a status
  match rec_ with
  | some (kind, t, q) => s4.accRecord n a kind (s.place n a).1 (s.place n a).2 t q 0
  | none => s4

/-- Devices are detached, in the order of R157: their records of kind detached carry the time and quality given. -/
def State.detach (s : State) (n : Nat) (as : List Nat) (t q : Nat) : State :=
  forEach (s.hubFirst n as) s fun s a => s.leave n a 1 0x04 (some (0x04, t, q))

/-- Every device of the tree is detached now. -/
def State.detachTree (s : State) (n : Nat) : State := s.detach n (s.subtree n 0) s.now (s.chipQuality s.now)

/-- The attached device that hangs on a place of port n. -/
def State.deviceAt (s : State) (n parent port : Nat) : Option Nat :=
  addrs.find? fun a => 2 ≤ s.devSt n a && s.place n a == (parent, port)

/-! ### Attach (R147 to R152) -/

/-- A port that comes back holds no device that was rejected or that the strict rule stopped: GP_ACC_RETRY is no longer for it (R151). -/
def State.placeBack (s : State) (n parent pt : Nat) : State :=
  s.modPort n fun g => { g with rejected := g.rejected.filter (· != (parent, pt)), strict := g.strict.filter (· != (parent, pt)) }

/-- An attach of the port of a hub (0 and 0 for the root port) is queued (R147). -/
def State.attachQueue (s : State) (n parent pt : Nat) : State :=
  let g := s.port n
  let run : Bool := match g.attach with
    | some t => t.parent == parent && t.port == pt
    | none => false
  let s0 := s.placeBack n parent pt
  if run || g.attaches.contains (parent, pt) then s0
  else (s0.modPort n fun g => { g with attaches := g.attaches ++ [(parent, pt)] }).attachKick n

/-- The attach under way is over, and the next begins. -/
def State.attachEnd (s : State) (n : Nat) : State :=
  ((((s.modPort n fun g => { g with attach := none }).put (F.gpAccStatus_busy n) 0).put (F.gpAccStatus_attach_addr n) 0)).attachKick n

/-- The failed attempts of a place are forgotten. -/
def State.clearTries (s : State) (n parent pt : Nat) : State :=
  s.modPort n fun g => { g with tries := g.tries.filter fun x => !(x.1 == parent && x.2.1 == pt) }

/-- Root port n takes its link through 2 ms of Disabled (R156, R160); a port in Cut stays there (R161). -/
def State.portPulse (s : State) (n : Nat) : State :=
  if s.link n = 6 then s
  else
    let s1 := s.enterLink n 0
    let s2 := s1.modPort n fun g => { g with beacons := 0, fast := false, suspend := 0, resuming := false, pulse := true }
    ((s2.permitReturn (.training n)).permitDrop (.training n)).put (F.gpLinkStatus_permit_wait n) 0

/-- Reset the port that a device hangs on: by its hub, or by 2 ms of Disabled (R151, R156). -/
def State.resetPlace (s : State) (n parent pt : Nat) : State :=
  if parent = 0 then
    let s1 := s.detachTree n
    s1.portPulse n
  else s.setHubPort n parent pt 5 (.setPort pt 5)

/-- The identity of an address is dropped: it is Free (R158). -/
def State.unbind (s : State) (n a : Nat) : State :=
  let s1 := (s.hubFree n a).setRegs (R.gpDevState n a) [0]
  { (s1.setRegs (R.gpDevId0 n a) [0, 0, 0, 0]) with devs := terase s1.devs (devKey n a) }

/-- The address chosen by an attach that does not go on returns to Free or Absent; a hub that has reached step 7 is attached, and is detached. -/
def State.unchoose (s : State) (n : Nat) (t : Attach) : State :=
  if t.addr = 0 || !s.attached n t.addr then s
  else if t.step = 7 then s.leave n t.addr 1 0x04 (some (0x04, s.now, s.chipQuality s.now))
  else if t.fresh then (s.leave n t.addr 1 0x04 none).unbind n t.addr
  else s.leave n t.addr 1 0x04 none

/-- Rejection (R151): the device is taken off the wire, and then a record says why, with the address once SET_ADDRESS has given it (R169). The
next attach begins after that. -/
def State.attachReject (s : State) (n : Nat) (t : Attach) (detail : Nat) : State :=
  let at0 : Nat := if 5 ≤ t.step && !t.setErr then t.addr else 0
  let s1 := (s.clearTries n t.parent t.port).modPort n fun g => { g with rejected := (t.parent, t.port) :: g.rejected, attach := none }
  let s2 := s1.unchoose n t
  let s3 := if t.parent = 0 then (((s2.put (F.gpLinkCtrl_enable n) 0).detachTree n).portPulse n).modPort n fun g => { g with pulse := false }
    else s2.setHubPort n t.parent t.port 6 (.setPort t.port 6)
  let s4 := (s3.accRecord n at0 0x07 t.parent t.port s.now (s.chipQuality s.now) detail).raise (F.gpAccEvents_rejected n)
  s4.attachEnd n

/-- A step of the attach has failed (R151): tried again 10 ms later, or rejected at the third failure. -/
def State.attachFail (s : State) (n : Nat) (detail : Nat) : State :=
  match (s.port n).attach with
  | none => s
  | some t =>
    if 3 ≤ t.tries + 1 then s.attachReject n t detail
    else
      let s1 := s.modPort n fun g =>
        { g with
          attach := some { t with step := if 5 ≤ t.step then 9 else 8, tries := t.tries + 1, addr := 0 }
          tries := (t.parent, t.port, t.tries + 1) :: g.tries.filter fun x => !(x.1 == t.parent && x.2.1 == t.port)
          ctls := g.ctls.filter (·.addr != 0)
          svc := g.svc.filter fun x => match x with
            | .ctl _ b => b != 0
            | _ => true }
      s1.unchoose n t

/-- ATTACH_RETRY (R151): from step 1, after a port reset when step 5 or a later one had failed. While the port is not Active the retry waits. -/
def State.attachAgain (s : State) (n : Nat) : State :=
  match (s.port n).attach with
  | none => s
  | some t =>
    if t.step ≠ 8 && t.step ≠ 9 then s
    else if s.link n ≠ 3 || (s.port n).resuming then s.modPort n fun g => { g with attach := some { t with due := true } }
    else if t.step = 9 then
      (((s.modPort n fun g => { g with attach := none, again := (t.parent, t.port) :: g.again }).resetPlace n t.parent t.port)).attachEnd n
    else (s.modPort n fun g => { g with attach := none, attaches := (t.parent, t.port) :: g.attaches }).attachKick n

/-- The port is Active again: an attach whose retry waited for that is retried, or the next begins. -/
def State.attachOn (s : State) (n : Nat) : State :=
  if ((s.port n).attach.map (·.due)).getD false then s.attachAgain n else s.attachKick n

/-- GET_IDENTITY at an address (R144). -/
def State.getIdentity (s : State) (n a : Nat) (use : CtlFor) : State := s.startCtl n a use (setupBytes true 0 1 0 0 64)

/-- ATTACH_WAIT_DONE (R149): the 1 ms wait is over. -/
def State.attachWaited (s : State) (n : Nat) : State :=
  match (s.port n).attach with
  | some t =>
    if t.step = 2 then (s.modPort n fun g => { g with attach := some { t with step := 3 } }).getIdentity n 0 .identity0 else s
  | none => s

/-- Pipe entries 1 to 15 of a descriptor: kind, min_exp, units (R141). -/
def descPipes (d : List Byte) : List (Nat × Nat × Nat) :=
  (List.range 15).map fun i => (byteAt d (24 + 2 * i) % 8, byteAt d (24 + 2 * i) / 16, byteAt d (25 + 2 * i))

/-- Whether a pipe entry is in order (R143). -/
def pipeOk (d : List Byte) (i : Nat) : Bool :=
  let b := byteAt d (24 + 2 * i)
  let u := byteAt d (25 + 2 * i)
  let k := b % 8
  k < 6 && b / 8 % 2 == 0 && b / 16 ≤ 10 && (k == 1 || k == 2 || b / 16 == 0) && (if k = 0 then u == 0 else 1 ≤ u && u ≤ 128)

/-- The checks of R143 on an identity descriptor. -/
def descOk (d : List Byte) : Bool :=
  let cls := byteAt d 2
  let fl := byteAt d 22
  let ks := (descPipes d).map (·.1)
  let p1 := (descPipes d).headD (0, 0, 0)
  d.length == 64 && byteAt d 0 == 64 && byteAt d 1 == 1 && leAt d 60 4 == crc32c (d.take 60) &&
  ((1 ≤ cls && cls ≤ 9) || cls == 0xFF) && leAt d 4 2 != 0 && leAt d 8 8 != 0 &&
  (64 ≤ leAt d 16 2 && leAt d 16 2 ≤ 1024 && leAt d 16 2 % 8 == 0) && 32 ≤ byteAt d 18 &&
  (if ks.contains 2 then 2 ≤ byteAt d 19 else byteAt d 19 == 0) && (1980 ≤ leAt d 20 2 && leAt d 20 2 ≤ 2020) &&
  (List.range 15).all (pipeOk d) && (bitOf fl 1 == (cls == 1)) &&
  (cls != 1 || (2 ≤ byteAt d 23 && byteAt d 23 ≤ 15 && p1.1 == 5 && 2 ≤ p1.2.2 && p1.2.2 ≤ 8)) &&
  (!bitOf fl 0 || ks.contains 5)

/-- Whether an address is bound to a descriptor's maker, product and serial (R150). -/
def State.boundTo (s : State) (n : Nat) (d : List Byte) (a : Nat) : Bool :=
  s.devSt n a != 0 && s.get (F.gpDevId0_maker n a) == leAt d 4 2 && s.get (F.gpDevId0_product n a) == leAt d 6 2 &&
  s.get (F.gpDevId1_serial_lo n a) == leAt d 8 4 && s.get (F.gpDevId2_serial_hi n a) == leAt d 12 4

/-- The address that has been Absent longest, the lowest among equals. -/
def State.longestAbsent (s : State) (n : Nat) : Option Nat :=
  (addrs.filter fun a => s.devSt n a == 1).foldl (fun b a => match b with
    | none => some a
    | some c => if (s.dev n a).absentAt < (s.dev n c).absentAt then some a else b) none

/-- Bind an address to a descriptor's identity and place (R139). -/
def State.bind (s : State) (n a : Nat) (d : List Byte) (parent pt : Nat) : State :=
  let up := if parent = 0 then 0 else s.get (F.gpDevState_hubs_above n parent) + 1
  let s1 := s.setRegs (R.gpDevId0 n a) [leAt d 4 4, leAt d 8 4, leAt d 12 4, byteAt d 2 * 2 ^ 24 + byteAt d 3 * 2 ^ 16 + leAt d 54 2]
  let s2 := s1.setRegs (R.gpDevState n a) [up * 2 ^ 24 + pt * 2 ^ 20 + parent * 2 ^ 8 + 2]
  s2.modDev n a fun x =>
    { x with
      ctlMax := leAt d 16 2
      tCal := leAt d 20 2
      flags := byteAt d 22
      newly := true
      anySerial := false }

/-- The device of the attach takes address a: step 4 goes on with SET_ADDRESS, after a hub's context is claimed (R150, R174). -/
def State.attachTake (s : State) (n a : Nat) (t : Attach) (fresh : Bool) : State :=
  let s0 := if s.attached n a then s.leave n a 1 0x04 (some (0x04, s.now, s.chipQuality s.now)) else s
  let s1 := s0.bind n a t.desc t.parent t.port
  let t1 := { t with step := 4, addr := a, fresh := fresh }
  let s2 := (s1.modPort n fun g => { g with attach := some t1 }).put (F.gpAccStatus_attach_addr n) a
  match (if byteAt t.desc 2 = 1 then s2.hubClaim n a else some s2) with
  | none => s2.attachReject n t1 3
  | some s3 => s3.startCtl n 0 .setAddress (setupBytes false 0 2 a 0 0)

/-- Whether the Charter keeps address a for any device of the descriptor's maker and product at a place (R442). -/
def State.keptFor (s : State) (n : Nat) (t : Attach) (a : Nat) : Bool :=
  s.devSt n a == 1 && (s.dev n a).anySerial && s.get (F.gpDevId0_maker n a) == leAt t.desc 4 2 &&
  s.get (F.gpDevId0_product n a) == leAt t.desc 6 2 && (s.dev n a).place == some (t.parent, t.port)

/-- The address that an attaching device is bound to, or that the Charter keeps for it (R150, R442). -/
def State.boundAddr (s : State) (n : Nat) (t : Attach) : Option Nat :=
  match addrs.find? (s.boundTo n t.desc) with
  | some a => some a
  | none => addrs.find? (s.keptFor n t)

/-- Step 4 of R149: the choice of the address (R150). DESIGN CHOICE (log 151): a device whose bound address is in Cut, and not released, gets
none. -/
def State.attachChoose (s : State) (n : Nat) (t : Attach) : State :=
  match s.boundAddr n t with
  | some a => if s.devSt n a = 7 then s.attachReject n t 3 else s.attachTake n a t false
  | none =>
    if s.flag (F.gpAccCtrl_strict n) then
      let s0 := if t.parent = 0 then s else s.setHubPort n t.parent t.port 2 (.setPort t.port 2)
      let s1 := (s0.accRecord n 0 0x08 t.parent t.port s.now (s.chipQuality s.now) 0).raise (F.gpAccEvents_unknown n)
      (s1.modPort n fun g => { g with strict := (t.parent, t.port) :: g.strict }).attachEnd n
    else match addrs.find? fun a => s.devSt n a == 0 with
    | some a => s.attachTake n a t true
    | none => match s.longestAbsent n with
      | some a => (s.unbind n a).attachTake n a t true
      | none => s.attachReject n t 3

/-- Queue a sweep of a device (R153). -/
def State.sweepAdd (s : State) (n a : Nat) : State :=
  if (s.port n).sweeps.contains a then s else s.modPort n fun g => { g with sweeps := g.sweeps ++ [a] }

/-- Begin the next sweep that waits, when none runs: its permit is asked for; a refusal takes it off the queue (R94, R428). -/
def State.sweepKick (s : State) (n : Nat) : State :=
  match (s.port n).sweep, (s.port n).sweeps with
  | none, a :: rest =>
    if s.link n != 3 then s
    else
      let s1 := s.modPort n fun g => { g with sweeps := rest }
      let x := s1.permitAsk (.sweep n a)
      if x.1 then x.2.modPort n fun g => { g with sweep := some { addr := a } } else x.2
  | _, _ => s

/-- Sweeps that wait, as GP_ACC_STATUS shows them. -/
def State.sweepShow (s : State) (n : Nat) : State :=
  s.put (F.gpAccStatus_sweeps_pending n) (min 15 ((s.port n).sweeps.length))

/-- A sweep is queued and begun when it can be. -/
def State.sweepQueue (s : State) (n a : Nat) : State := ((s.sweepAdd n a).sweepKick n).sweepShow n

/-- The permit of a sweep is granted: its first probe waits for port service (R94). -/
def State.sweepGranted (s : State) (n a : Nat) : State := s.serve n (.sweep a)

/-- The sweep under way is over; the next begins. -/
def State.sweepOver (s : State) (n a : Nat) : State := ((s.dropSweep n a).sweepKick n).sweepShow n

/-- Step 5 has confirmed the device (R149): it is Unranged, its sweep waits, and a hub's ports are read. -/
def State.attachDone (s : State) (n : Nat) (t : Attach) : State :=
  let a := t.addr
  let s1 := (s.setDevSt n a 3).devRecord n a 0x01
  let s2 := match (s.dev n a).place with
    | some p => if p == (t.parent, t.port) then s1 else s1.devRecord n a 0x09
    | none => s1
  let x := s2.pxIdentity n a (descPipes t.desc)
  let s3 := if x.1 then x.2.devRecord n a 0x0A else x.2
  let s4 := ((s3.modDev n a fun d => { d with pipes := descPipes t.desc }).clearTries n t.parent t.port).sweepQueue n a
  if byteAt t.desc 2 = 1 then
    (s4.modPort n fun g => { g with attach := some { t with step := 7 } }).startCtl n a .hubStatus (setupBytes true 1 1 0 0 8)
  else s4.attachEnd n

/-- The next GET_PORT_STATUS of step 7, or the end of the attach (R149). -/
def State.attachPorts (s : State) (n : Nat) (t : Attach) : State :=
  match t.left with
  | [] => s.attachEnd n
  | p :: ps =>
    (s.modPort n fun g => { g with attach := some { t with left := ps } }).startCtl n t.addr (.portStatus p) (setupBytes true 1 2 0 p 8)

/-- A control transfer of accession has ended well with the data received. -/
def State.accOk (s : State) (n : Nat) (c : Ctl) : State :=
  match c.use, (s.port n).attach with
  | .forward, some t => s.modPort n fun g => { g with attach := some { t with step := 2 } }
  | .identity0, some t =>
    if descOk c.data then s.attachChoose n { t with desc := c.data } else s.attachFail n 2
  | .setAddress, some t => (s.modPort n fun g => { g with attach := some { t with step := 5 } }).getIdentity n t.addr .identity1
  | .identity1, some t =>
    if c.data.length = 64 && (c.data.drop 8).take 8 = (t.desc.drop 8).take 8 then s.attachDone n t
    else s.attachFail n (if t.setErr then 4 else 2)
  | .hubStatus, some t => s.attachPorts n { t with left := (List.range (byteAt t.desc 23)).map (· + 1) }
  | .portStatus p, some t =>
    let s1 := if byteAt c.data 0 = 3 then s.attachQueue n t.addr p else s
    s1.attachPorts n t
  | .setPort p 4, _ => s.modPort n fun g => { g with cutting := g.cutting.filter fun a => s.place n a != (c.addr, p) }
  | _, _ => s

/-- A control transfer of accession has ended otherwise; `lost` says that only its status-stage answer was missing (R145). -/
def State.accFail (s : State) (n : Nat) (c : Ctl) (lost stall : Bool) : State :=
  match c.use, (s.port n).attach with
  | .forward, some _ => s.attachFail n 1
  | .identity0, some _ => s.attachFail n 1
  | .setAddress, some t =>
    if lost && !stall then
      (s.modPort n fun g => { g with attach := some { t with step := 5, setErr := true } }).getIdentity n t.addr .identity1
    else s.attachFail n 4
  | .identity1, some t => s.attachFail n (if t.setErr then 4 else 1)
  | .hubStatus, some _ => s.attachFail n 1
  | .portStatus _, some _ => s.attachFail n 1
  | .setPort p 3, _ => s.modPort n fun g =>
    { g with
      cutting := g.cutting.filter fun a => s.place n a != (c.addr, p)
      recut := g.recut ++ g.cutting.filter fun a => s.place n a == (c.addr, p) }
  | _, _ => s

/-! ### Ranging (R90 to R96, R153, R154) -/

/-- D of R93 in 100 ps, with GP_RANGE_CFG.asym also on copper (DESIGN CHOICE, log entry 21). -/
def State.distance (s : State) (n : Nat) (lrt : Int) : Int := (lrt - signed 16 (s.get (F.gpRangeCfg_asym n)) + 1) / 2

/-- The D that device a is given: on a shared tree the first-tier hub has 0 and every device below it D − D_hop (R370). -/
def State.givenD (s : State) (n a : Nat) (lrt : Int) : Int :=
  if !s.sharedPort n then s.distance n lrt
  else if (s.place n a).1 = 0 then 0
  else s.distance n lrt - signed 24 (s.get (F.twHop_d_hop n))

/-- The range that a standby keeps of a device below the first-tier hub, derived from the owner's rtt and L_rt of the device and of the hub and
from its own of the hub (R371). -/
def State.twinDerive (s : State) (n a : Nat) : State :=
  match addrs.find? fun h => s.devSt n h != 0 && (s.place n h).1 == 0 with
  | none => s
  | some h =>
    let d := tget (fun _ => (0, 0)) s.tw.rttA (devKey n a)
    let u := tget (fun _ => (0, 0)) s.tw.rttA (devKey n h)
    if a = h || d.1 = 0 || u.1 = 0 || !s.flag (F.gpRangeDev0_valid n h) then s
    else
      let shift : Int := (s.get (F.gpRangeDev3_rtt n h) : Int) - u.1
      (s.put (F.gpRangeDev3_rtt n a) (unsigned 32 (d.1 + shift))).put (F.gpRangeDev2_l_rt n a) (unsigned 16 (d.2 + shift))

/-- Every device below the first-tier hub of a standby's tree follows the hub's own range. -/
def State.twinDeriveAll (s : State) (n : Nat) : State := forEach (addrs.filter fun a => 2 ≤ s.devSt n a) s fun s a => s.twinDerive n a

/-- Store a ranging result (GP_RANGE_DEVa). -/
def State.storeRange (s : State) (n a : Nat) (lrt : Int) (rd ru tt : Nat) : State :=
  let s1 := s.setRegs (R.gpRangeDev0 n a)
    [2 ^ 31 + unsigned 24 (s.givenD n a lrt), ru % 2 ^ 16 * 2 ^ 16 + rd % 2 ^ 16, tt % 2 ^ 16 * 2 ^ 16 + unsigned 16 lrt,
     unsigned 32 (lrt + rd + ru + tt)]
  if s.sharedPort n && (s.place n a).1 = 0 then
    let s2 := (s1.put (F.twHop_valid n) 1).put (F.twHop_d_hop n) (unsigned 24 (s.distance n lrt))
    if s.ownsPort n then s2 else s2.twinDeriveAll n
  else s1

/-- Insertion into a sorted list. -/
def insertSorted (x : Int) : List Int → List Int
  | [] => [x]
  | y :: ys => if x ≤ y then x :: y :: ys else y :: insertSorted x ys

/-- The result of the 8 values of an attempt (R94): none when the middle four span more than 1.0 ns. -/
def sweepMean (vals : List Int) : Option Int :=
  let v := ((vals.foldr insertSorted []).drop 2).take 4
  if (v.getLastD 0) - (v.headD 0) > 10 then none else some (roundDiv (v.foldl (· + ·) 0) 4)

/-- A failed attempt (R94, R153): repeated, or at the third the sweep has failed. -/
def State.sweepFail (s : State) (n : Nat) (w : Sweep) : State :=
  if 3 ≤ w.tries + 1 then
    ((s.devRecord n w.addr 0x0D).raise (F.gpAccEvents_sweep_failed n)).sweepOver n w.addr
  else
    (s.modPort n fun g => { g with sweep := some { addr := w.addr, tries := w.tries + 1, next := s.now + 10000 } }).serve n (.sweep w.addr)

/-- An attempt goes on with a further probe, or is judged (R94). -/
def State.sweepOn (s : State) (n : Nat) (w : Sweep) : State :=
  if w.vals.length < 8 && w.probes < 16 then
    (s.modPort n fun g => { g with sweep := some { w with next := s.now + 10000 } }).serve n (.sweep w.addr)
  else if w.vals.length < 8 || w.bad then s.sweepFail n w
  else match sweepMean w.vals with
    | none => s.sweepFail n w
    | some m => (s.modPort n fun g => { g with sweep := some { w with result := some m, next := s.now + 10000 } }).serve n (.sweep w.addr)

/-- Whether every device that a bus reset waits for is Ranged again; then the reset is done (R160). -/
def State.resetDone (s : State) (n : Nat) (b : BusReset) : State :=
  let s1 := s.modPort n fun g => { g with resets := g.resets.filter (·.scope != b.scope) }
  let s2 := (s1.accRecord n b.scope 0x0B (s.place n b.scope).1 (s.place n b.scope).2 s.now (s.chipQuality s.now) 0).raise
    (F.gpAccEvents_reset_done n)
  s2.put (F.gpAccStatus_reset_active n) (b2n !(s2.port n).resets.isEmpty)

/-- The bus resets of a port whose devices are all Ranged again are done (R160). -/
def State.resetCheck (s : State) (n : Nat) : State :=
  forEach (s.port n).resets s fun s b => if b.phase != 0 && b.wait.all (fun a => s.devSt n a == 4) then s.resetDone n b else s

/-- Device a becomes Unranged and is swept again (R95, R153); on a standby's port only its own range of the hub is lost. -/
def State.unrange (s : State) (n a : Nat) : State :=
  if !s.ownsPort n then
    ((s.clearRange n a).modDev n a fun d => { d with lost := 0, excur := 0 }).sweepQueue n a
  else
  let s1 := (((s.setDevSt n a 3).clearRange n a).raise (F.gpLinkEvents_range_shift n)).devRecord n a 0x03
  (s1.modDev n a fun d => { d with lost := 0, excur := 0 }).sweepQueue n a

/-- An echo of the sweep: a value of the attempt, or the answer to the probe that delivered D, on which the range is stored (R94;
DESIGN CHOICE, log entry 20). -/
def State.sweepEcho (s : State) (n : Nat) (w : Sweep) (lrt : Int) (rd ru tt : Nat) : State :=
  let a := w.addr
  let off := decide (((tt : Int) - (s.dev n a).tCal).natAbs > 10)
  match w.result with
  | some m =>
    if off then s.sweepFail n w
    else if !s.ownsPort n then (s.storeRange n a m rd ru tt).sweepOver n a
    else
    let s1 := ((s.storeRange n a m rd ru tt).setDevSt n a 4).devRecord n a 0x02
    let s2 := if (s.dev n a).newly then s1.raise (F.gpAccEvents_ranged n) else s1
    ((s2.modDev n a fun d => { d with newly := false, lost := 0, excur := 0 }).sweepOver n a).resetCheck n
  | none => s.sweepOn n { w with vals := w.vals ++ [lrt], bad := w.bad || off }

/-- An accepted maintenance echo (R95). -/
def State.maintain (s : State) (n a : Nat) (lrt : Int) (rd ru tt : Nat) : State :=
  let old : Int := s.get (F.gpRangeDev2_l_rt n a)
  let d := lrt - old
  if (s.dev n a).derived && s.ownsPort n then
    let s0 := s.modDev n a fun v => { v with derived := false }
    if d.natAbs ≤ 40 then (((s0.storeRange n a lrt rd ru tt).setDevSt n a 4).modDev n a fun v => { v with lost := 0, excur := 0 }).resetCheck n
    else s0.unrange n a
  else if d.natAbs ≤ 20 then
    let s1 := s.storeRange n a (old + roundDiv d 8) rd ru tt
    let s2 := if s.ownsPort n then s1.setDevSt n a 4 else s1
    (s2.modDev n a fun v => { v with lost := 0, excur := 0 }).resetCheck n
  else if 3 ≤ (s.dev n a).excur + 1 then s.unrange n a
  else (s.bump (F.gpRangeCfg_excursions n)).modDev n a fun v => { v with lost := 0, excur := v.excur + 1 }

/-- A ranging echo with its round trip and the residences and turnaround it carries (R93). -/
def State.rangingEcho (s : State) (n a rtt rd ru tt : Nat) : State :=
  let lrt : Int := (rtt : Int) - rd - ru - tt
  match (s.port n).sweep with
  | some w =>
    if w.addr = a then s.sweepEcho n w lrt rd ru tt
    else if s.isRanged n a then s.maintain n a lrt rd ru tt else s
  | none => if s.isRanged n a then s.maintain n a lrt rd ru tt else s

/-- A lost echo (R96). It does not end a run of excursions (R95; DESIGN CHOICE, log entry 167). That of the probe that delivers D is asked for again, and its third loss fails the attempt (DESIGN CHOICE, log entry
20). -/
def State.echoLost (s : State) (n a : Nat) : State :=
  let run : Option Sweep := match (s.port n).sweep with
    | some w => if w.addr = a then some w else none
    | none => none
  match run with
  | some w =>
    match w.result with
    | some _ =>
      if 3 ≤ w.dlost + 1 then s.sweepFail n w
      else (s.modPort n fun g => { g with sweep := some { w with dlost := w.dlost + 1, next := s.now + 10000 } }).serve n (.sweep a)
    | none => s.sweepOn n w
  | none =>
    if !s.isRanged n a then s
    else if 3 ≤ (s.dev n a).lost + 1 then s.unrange n a
    else s.modDev n a fun v => { v with lost := v.lost + 1 }

/-- The payload of a ranging probe (R90). -/
def probeBytes (seq dset : Nat) : List Byte := leBytes 4 0 ++ leBytes 4 seq ++ leBytes 4 dset ++ leBytes 4 0

/-- Send a ranging probe to device a where it fits, under the port's next probe number. The answer says whether it went. -/
def State.sendProbe (s : State) (n a dset : Nat) : Bool × State :=
  let k := (s.port n).probeNo
  let x := s.sendNow n (downHdr 6 a 0) (probeBytes k dset) .probe 16 136
  (x.1, if x.1 then x.2.modPort n fun g =>
      { g with
        probeNo := (k + 1) % 2 ^ 32
        opens := g.opens.map fun y => if y.addr == a && y.use == .probe then { y with num := k } else y }
    else x.2)

/-- The probe of the sweep (R94). -/
def State.sendSweep (s : State) (n a : Nat) : Bool × State :=
  match (s.port n).sweep with
  | none => (true, s)
  | some w =>
    if w.addr ≠ a then (true, s)
    else if s.now < w.next then (false, s)
    else
      let x := s.sendProbe n a (match w.result with
        | some m => 2 ^ 31 + unsigned 24 (s.givenD n a m)
        | none => 0)
      if x.1 then (true, x.2.modPort n fun g => { g with sweep := some { w with probes := w.probes + 1 } }) else x

/-! ### Link states (R84 to R89, R488) -/

/-- The link of a port is lost for its devices (on a standby only its own range of the first-tier hub goes, R370): they are detached, one in Accession among them (R157), and attaches and sweeps end; a
bus reset that waited for a resume has only the retraining left (R160). -/
def State.linkLost (s : State) (n : Nat) : State :=
  let s1 := s.modPort n fun g => { g with attach := none, attaches := [] }
  let s2 := (s1.put (F.gpAccStatus_busy n) 0).put (F.gpAccStatus_attach_addr n) 0
  let s3 := if s.ownsPort n then s2.detachTree n
    else forEach (addrs.filter fun a => (s.place n a).1 == 0 && s.flag (F.gpRangeDev0_valid n a)) s2 fun s a => s.clearRange n a
  let s4 := (s3.modPort n fun g =>
    { g with
      attaches := [], ctls := [], svc := [], strict := [], tries := [], resuming := false, suspend := 0, sweeps := [], cutting := [], recut := []
      parked := none, resets := g.resets.map fun x => if x.phase = 0 then { x with phase := 2 } else x })
  ((match (s4.port n).sweep with
    | some w => s4.dropSweep n w.addr
    | none => s4).put (F.gpAccStatus_suspended n) 0).sweepShow n

/-- The training permit is given back or the request withdrawn (R87). -/
def State.endTraining (s : State) (n : Nat) : State :=
  (((s.permitReturn (.training n)).permitDrop (.training n)).put (F.gpLinkStatus_permit_wait n) 0)

/-- Enter Detect: beacons are counted anew. -/
def State.toDetect (s : State) (n : Nat) : State :=
  ((s.enterLink n 1).endTraining n).modPort n fun g => { g with beacons := 0, fast := false, began := 0, pulse := false }

/-- GP_LINK_CTRL.enable set to 1 (R84, R88). -/
def State.portEnable (s : State) (n : Nat) : State :=
  let s1 := ((s.put (F.gpLinkCtrl_enable n) 1).placeBack n 0 0).modPort n fun g => { g with fails := 0 }
  if s.link n = 0 && !(s.port n).pulse then s1.toDetect n else s1

/-- GP_LINK_CTRL.enable cleared (R84). -/
def State.portDisable (s : State) (n : Nat) : State :=
  let st := s.link n
  let s1 := ((s.put (F.gpLinkCtrl_enable n) 0).enterLink n 0).endTraining n
  let s2 := s1.modPort n fun g => { g with beacons := 0, fast := false, began := 0, pulse := false }
  if 2 ≤ st && st ≤ 5 then (s2.raise (F.gpLinkEvents_detached n)).linkLost n else s2.linkLost n

/-- GP_LINK_CTRL.retrain (R488). -/
def State.portRetrain (s : State) (n : Nat) : State :=
  let st := s.link n
  let s1 := s.modPort n fun g => { g with fails := 0 }
  if st = 1 then s1.toDetect n
  else if 2 ≤ st && st ≤ 4 then ((s1.toDetect n).raise (F.gpLinkEvents_detached n)).linkLost n
  else s

/-- A device in Cut is released: its address is Absent and its bit cleared (R125). -/
def State.uncut (s : State) (n a : Nat) : State :=
  ((s.setDevSt n a 1).clrBit (if a < 32 then R.gpCutMapLo n else R.gpCutMapHi n) (a % 32)).modDev n a fun d => { d with absentAt := s.now }

/-- GP_LINK_CTRL.cut_release (R84). -/
def State.portCutRelease (s : State) (n : Nat) : State :=
  if s.link n = 6 then
    (forEach (addrs.filter fun a => s.devSt n a == 7 && (s.place n a).1 == 0) s fun s a => s.uncut n a).toDetect n
  else s

/-- Ask for a training permit (R87): the port waits for it, or asks again 10 ms after a refusal. -/
def State.askTraining (s : State) (n : Nat) : State := (s.permitAsk (.training n)).2.put (F.gpLinkStatus_permit_wait n) 1

/-- What a copper port sees of its partner's signal; a fibre module's LOS ball says it (R89). On copper a burst or a training shows a signal, and
only the loss of the beacons in Detect or Train takes it back (DESIGN CHOICE, log entry 166). -/
def State.signalSeen (s : State) (n : Nat) (b : Bool) : State :=
  if s.flag (F.gpLinkCtrl_media n) then s else s.putB (F.gpLinkStatus_signal_present n) b

/-- A partner beacon burst in Detect (R84). -/
def State.gpBeacon (s : State) (n t : Nat) (commas : Bool) : State :=
  if s.link n = 1 && (s.port n).beacons < 3 then
    let r := burstRun (s.port n).beacons (s.port n).beaconAt t commas
    let s1 := (s.modPort n fun g => { g with beacons := r.1, beaconAt := r.2 }).signalSeen n (commas || s.flag (F.gpLinkStatus_signal_present n))
    if 3 ≤ (s1.port n).beacons then s1.askTraining n else s1
  else s

/-- The partner's beacons stop (R87). -/
def State.gpBeaconLoss (s : State) (n : Nat) : State :=
  if s.link n = 1 || s.link n = 2 then
    ((s.endTraining n).signalSeen n false).modPort n fun g => { g with beacons := 0 }
  else s

/-- The training permit is granted (R84). -/
def State.trainingGranted (s : State) (n : Nat) : State :=
  if s.link n = 1 then (s.enterLink n 2).put (F.gpLinkStatus_permit_wait n) 0 else s

/-- 10 ms after a refused training permit (R87). -/
def State.gpPermitRetry (s : State) (n : Nat) : State :=
  if s.link n = 1 && 3 ≤ (s.port n).beacons && !s.holds (.training n) && !s.asked (.training n) then s.askTraining n else s

/-- A training has failed (R84, R88): counted, an event, and the port is in Detect; devices that were suspended are detached. -/
def State.trainFailed (s : State) (n : Nat) : State :=
  let wasSus := (s.port n).began == 5
  let s1 := ((s.bump (F.gpHitCnt_train_fail n)).raise (F.gpLinkEvents_train_fail n)).modPort n fun g => { g with fails := g.fails + 1 }
  let s2 := s1.toDetect n
  if wasSus then s2.linkLost n else s2

/-- Every Ranged device below scope r (0: the tree) is Resynced after a Hit (R134). -/
def State.resync (s : State) (n r : Nat) : State :=
  forEach (addrs.filter fun a => s.devSt n a == 4 && (r == 0 || s.under n r a)) s fun s a => s.setDevSt n a 5

/-- A standby whose link is Active again ranges the first-tier hub of its tree for itself (R371). -/
def State.hubSweep (s : State) (n : Nat) : State :=
  forEach (addrs.filter fun a => s.attached n a && (s.place n a).1 == 0) s fun s a => s.sweepQueue n a

/-- A request to suspend the tree at the next boundary (R162). -/
def State.suspendAsk (s : State) (n : Nat) : State :=
  if s.link n = 3 then s.modPort n fun g => { g with suspend := max 1 g.suspend } else s

/-- The step into Closed asks port n to suspend its tree, unless that is asked already (R411). -/
def State.closeAsk (s : State) (n : Nat) : State :=
  if s.closing && s.link n = 3 && (s.port n).suspend = 0 then
    ({ s with cn := { s.cn with parked := n :: s.cn.parked } } : State).suspendAsk n
  else s

/-- A training ends with the TS2 exchange (R84, R86): a partner of a role that cannot face a root port fails it, in Hit without leaving it.
Active reached from a full training sets GP_LINK_EVENTS.attached, also where a fast training timed out before it (R85). -/
def State.gpTrainedTo (s : State) (n role : Nat) : State :=
  let ok := role == 2 || role == 3 || role == 5
  let g := s.port n
  let s1 := s.put (F.gpLinkStatus_partner_role n) role
  let full s := if g.fast then s else State.raise s (F.gpLinkEvents_attached n)
  if s.link n = 4 then
    if ok then
      let s2 := (full ((s1.enterLink n 3).raise (F.gpLinkEvents_hit_recovered n))).modPort n fun g => { g with fast := false, began := 0, fails := 0 }
      let s3 := if s.ownsPort n then s2.resync n 0 else s2
      ((s3.signalSeen n true).sweepKick n).attachOn n
    else ((s1.bump (F.gpHitCnt_train_fail n)).raise (F.gpLinkEvents_train_fail n)).modPort n fun g => { g with fails := g.fails + 1 }
  else if s.link n = 2 then
    if !ok then s1.trainFailed n
    else if g.began = 5 then
      (full (s1.enterLink n 3)).modPort n fun g => { g with fast := false, began := 0, fails := 0, fstFrom := s.now + 500000, resuming := true }
    else
      let s2 := ((full (s1.enterLink n 3)).endTraining n).modPort n fun g => { g with fails := 0, resuming := false }
      if s.ownsPort n then s2.attachQueue n 0 0 else s2.hubSweep n
  else s

/-- GP training has ended (R85), seen also by a step into Closed, which suspends a tree that has just become Active (R411). -/
def State.gpTrained (s : State) (n role : Nat) : State := (s.gpTrainedTo n role).closeAsk n

/-- 2 ms of a full training pass (R84); in Hit only the limit of 1 ms counts (R85). -/
def State.gpTrainTimeout (s : State) (n : Nat) : State := if s.link n = 2 && !(s.port n).fast then s.trainFailed n else s

/-- 50 µs of a fast training pass: a full training follows at once, without a permit (R85). -/
def State.gpFastTimeout (s : State) (n : Nat) : State :=
  if (s.link n = 2 || s.link n = 4) && (s.port n).fast then s.modPort n fun g => { g with fast := false } else s

/-- Loss of signal or of commas in Active (R84): a sweep is abandoned (R96). -/
def State.gpHit (s : State) (n : Nat) : State :=
  if s.link n = 3 then
    let s1 := (((s.enterLink n 4).bump (F.gpHitCnt_hits n)).raise (F.gpLinkEvents_hit n)).modPort n fun g => { g with fast := true, began := 4 }
    match (s.port n).sweep with
    | some w => ((s1.dropSweep n w.addr).sweepAdd n w.addr).sweepShow n
    | none => s1
  else s

/-- A Hit has lasted 1 ms (R84). -/
def State.gpHitTimeout (s : State) (n : Nat) : State :=
  if s.link n = 4 then ((s.toDetect n).raise (F.gpLinkEvents_detached n)).linkLost n else s

/-- The 2 ms of Disabled of a root port reset are over (R156). -/
def State.pulseEnd (s : State) (n : Nat) : State :=
  if (s.port n).pulse then
    let s1 := s.modPort n fun g => { g with pulse := false }
    if s.link n = 0 && s.flag (F.gpLinkCtrl_enable n) then s1.toDetect n else s1
  else s

/-! ### Babble and cut-off (R122 to R125) -/

/-- A device counts as cut (R123): its state and bit, the event, its record; the devices below it are detached. -/
def State.deviceCut (s : State) (n a : Nat) (ev : Field) (t q : Nat) : State :=
  let below := (s.subtree n a).filter (· != a)
  let s1 := (s.leave n a 7 0x04 (some (0x06, t, q))).setBit (if a < 32 then R.gpCutMapLo n else R.gpCutMapHi n) (a % 32)
  (s1.raise ev).detach n below t q

/-- Root port n enters Cut (R123). -/
def State.portCut (s : State) (n : Nat) : State :=
  let q := s.chipQuality s.now
  let s1 := ((s.enterLink n 6).raise (F.gpLinkEvents_cut n)).endTraining n
  let s2 := match s.deviceAt n 0 0 with
    | some a => s1.deviceCut n a (F.gpXactEvents_device_cut n) s.now q
    | none => s1
  s2.linkLost n

/-- A babble observation, attributed to an address or to none (R122, R123). -/
def State.babble (s : State) (n : Nat) (who : Option Nat) (inj : Bool := false) : State :=
  let f := s.frame
  let a := who.getD 0
  let s1 := (s.detect 5 2 n a inj).raise (F.gpXactEvents_babble n)
  let s2 := s1.setReg (R.gpLastBabble n) (BitVec.ofNat 32 (f % 2 ^ 16 * 2 ^ 16 + b2n who.isSome * 2 ^ 15 + a))
  let s3 := if who.isNone then s2.bump (F.gpBabbleCnt_unattributed n) else s2.bump (F.gpBabbleCnt_attributed n)
  let s4 := s3.modPort n fun g => { g with babble := ((f, who) :: g.babble.filter fun x => (f + 2 ^ 32 - x.1) % 2 ^ 32 < 64) }
  let seen w := ((s4.port n).babble.filter fun x => x.2 == who && (f + 2 ^ 32 - x.1) % 2 ^ 32 < w).length
  if who.isNone then (if 8 ≤ seen 64 && s.link n != 6 then s4.portCut n else s4)
  else if (2 ≤ seen 16 || (s.port n).recut.contains a) && s.attached n a && !(s.port n).cutting.contains a then
    if (s.place n a).1 = 0 then s4.portCut n
    else (s4.modPort n fun g => { g with cutting := a :: g.cutting, recut := g.recut.filter (· != a) }).setHubPort n (s.place n a).1
      (s.place n a).2 3 (.setPort (s.place n a).2 3)
  else s4

/-- The hub has acknowledged the setup of SET_PORT_STATE with CUT (R123, R132). -/
def State.cutAcked (s : State) (n hub p : Nat) : State :=
  match s.deviceAt n hub p with
  | some a => if s.devSt n a = 7 then s else s.deviceCut n a (F.gpXactEvents_device_cut n) s.now (s.chipQuality s.now)
  | none => s

/-- A write of GP_CUT_RELEASE (R125). A standby sends no request to a hub (R371). -/
def State.cutRelease (s : State) (n a : Nat) : State :=
  if 1 ≤ a && a ≤ 62 && s.devSt n a = 7 then
    if (s.place n a).1 = 0 then (if s.link n = 6 then s.portCutRelease n else s.uncut n a)
    else if s.ownsPort n then (s.uncut n a).setHubPort n (s.place n a).1 (s.place n a).2 4 (.setPort (s.place n a).2 4)
    else s
  else s

/-- A device that left 32 transactions in a row without a response is lost (R121, R156). -/
def State.deviceLost (s : State) (n a : Nat) : State :=
  let p := s.place n a
  let below := (s.subtree n a).filter (· != a)
  let q := s.chipQuality s.now
  let s1 := (s.raise (F.gpXactEvents_device_lost n)).leave n a 1 0x04 (some (0x05, s.now, q))
  (s1.detach n below s.now q).resetPlace n p.1 p.2

/-! ### Bus reset (R159 to R161) -/

/-- Whether a running bus reset affects device a. -/
def State.resetting (s : State) (n a : Nat) : Bool := (s.port n).resets.any (·.addrs.contains a)

/-- Step 3 of R160: the link or the hub port is reset, and the affected devices go to Absent. -/
def State.resetGo (s : State) (n : Nat) (b : BusReset) : State :=
  let p := s.place n b.scope
  let s1 := forEach (s.hubFirst n b.addrs) s fun s a => s.leave n a 1 0x05 none
  let s2 := s1.modPort n fun g => { g with resets := g.resets.map fun x => if x.scope = b.scope then { x with phase := 1 } else x }
  if b.scope = 0 then (s2.linkLost n).portPulse n else s2.setHubPort n p.1 p.2 5 (.setPort p.2 5)

/-- The tree is resumed (R163): a fast training begins. -/
def State.resume (s : State) (n cause : Nat) : State :=
  if s.link n = 5 then
    ((s.enterLink n 2).put (F.gpAccStatus_resume_cause n) cause).modPort n fun g =>
      { g with fast := true, began := 5, ownWake := cause == 3 }
  else s

/-- A resume runs and its first FST has not left (R163). -/
def State.waking (s : State) (n : Nat) : Bool := (s.link n == 2 && (s.port n).began == 5) || (s.port n).resuming

/-- A write of GP_ACC_RESET (R159 to R161). On a Suspended tree, and while it resumes, the reset waits for the first FST. -/
def State.busReset (s : State) (n a : Nat) : State :=
  let free := a ≠ 0 && (a = 63 || s.devSt n a ≤ 1 || s.devSt n a = 7)
  if free then s
  else
    let sc := if a ≠ 0 && (s.place n a).1 = 0 then 0 else a
    let inside := (s.port n).resets.any fun b => b.scope == 0 || (sc != 0 && s.under n b.scope sc)
    if inside then s
    else
      let as := s.subtree n sc
      let taken := (s.port n).resets.filter fun b => sc == 0 || s.under n sc b.scope
      let b : BusReset :=
        { scope := sc, addrs := (as ++ taken.flatMap (·.addrs)).eraseDups
          wait := (as.filter (fun x => 3 ≤ s.devSt n x) ++ taken.flatMap (·.wait)).eraseDups, since := s.now }
      let s1 := s.modPort n fun g => { g with resets := g.resets.filter (fun x => !taken.contains x) ++ [b] }
      let s2 := forEach as (s1.put (F.gpAccStatus_reset_active n) 1) fun s x => (s.dropService n x).workKill n x 0x05
      if s.link n = 5 then s2.resume n 2 else if s.waking n then s2 else s2.resetGo n b

/-- 2 ms after the reset: the link of a tree reset enters Detect; a reset that no attached device waits for is done (R160). -/
def State.resetRetrain (s : State) (n : Nat) : State :=
  let s1 := s.modPort n fun g => { g with resets := g.resets.map fun x => if x.phase = 1 then { x with phase := 2 } else x }
  (if (s.port n).resets.any (fun b => b.scope == 0 && b.phase == 1) then s1.pulseEnd n else s1).resetCheck n

/-- 500 ms after the oldest bus reset began (R160). -/
def State.resetTimeout (s : State) (n : Nat) : State :=
  match (s.port n).resets with
  | b :: _ => (s.advanceTo (b.since + 500000000)).resetDone n b
  | [] => s

/-! ### Suspend and resume (R162 to R168) -/

/-- At the boundary: SUS in place of the FST (R162). -/
def State.suspendSend (s : State) (n : Nat) : State :=
  if (s.port n).suspend = 1 && s.link n = 3 then (s.modPort n fun g => { g with suspend := 2 }).emit (.sus n susSets) else s

/-- Whether a control transfer belongs to an attach under way: one at address 0, or one of step 7 (R149). -/
def CtlFor.ofAttach (use : CtlFor) (a : Nat) : Bool :=
  a == 0 || match use with
    | .hubStatus => true
    | .portStatus _ => true
    | _ => false

/-- The tree is Suspended (R162): the attach under way and the sweep are abandoned. After the resume the attach of a device that is not yet
Unranged begins again, by a port reset when its device may hold its address (R151), and a hub in step 7 begins that step again (DESIGN CHOICE,
log entry 176). -/
def State.suspended (s : State) (n : Nat) : State :=
  if (s.port n).suspend = 2 then
    let s1 := match (s.port n).attach with
      | some t =>
        let s1 := s.modPort n fun g =>
          if 5 ≤ t.step && t.step ≠ 8 then { g with attach := none, parked := some t }
          else { g with attach := none, attaches := (t.parent, t.port) :: g.attaches }
        if t.step = 7 then s1 else s1.unchoose n t
      | none => s
    let s2 := match (s1.port n).sweep with
      | some w => (s1.dropSweep n w.addr).sweepAdd n w.addr
      | none => s1
    let s3 := forEach (addrs.filter fun a => 3 ≤ s2.devSt n a && s2.devSt n a ≤ 5) s2 fun s a =>
      (s.modDev n a fun d => { d with hadRange := 4 ≤ s.devSt n a }).setDevSt n a 6
    let s4 := (s3.enterLink n 5).modPort n fun g =>
      { g with
        suspend := 0
        ctls := g.ctls.filter fun c => !c.use.ofAttach c.addr
        svc := g.svc.filter fun x => match x with
          | .ctl use b => !use.ofAttach b
          | _ => true
        opens := g.opens.map fun x => match x.use with
          | .ctl use => if use.ofAttach x.addr then { x with use := .gone } else x
          | _ => x }
    ((((s4.put (F.gpAccStatus_busy n) 0).put (F.gpAccStatus_attach_addr n) 0).put (F.gpAccStatus_suspended n) 1).raise (F.gpAccEvents_suspended n)).sweepShow n
  else s

/-- The attach that the suspend abandoned goes on after the resume (log entry 176). -/
def State.unpark (s : State) (n : Nat) : State :=
  match (s.port n).parked with
  | none => s
  | some t =>
    let s1 := s.modPort n fun g => { g with parked := none }
    if t.step = 7 then
      if 2 ≤ s.devSt n t.addr && s.devSt n t.addr ≤ 6 then
        (((s1.modPort n fun g => { g with attach := some { t with left := [] } }).put (F.gpAccStatus_busy n) 1).put
          (F.gpAccStatus_attach_addr n) t.addr).startCtl n t.addr .hubStatus (setupBytes true 1 1 0 0 8)
      else s1
    else (s1.modPort n fun g => { g with again := (t.parent, t.port) :: g.again }).resetPlace n t.parent t.port

/-- The first FST after a resume has left: devices are Resynced or Unranged again (R163). -/
def State.resumed (s : State) (n : Nat) : State :=
  let s1 := s.modPort n fun g => { g with resuming := false }
  let s2 := forEach (addrs.filter fun a => s.devSt n a == 6) s1 fun s a => s.setDevSt n a (if (s.dev n a).hadRange then 5 else 3)
  let s3 := ((s2.put (F.gpAccStatus_suspended n) 0).raise (F.gpAccEvents_resumed n))
  let s4 := (forEach ((s3.port n).resets.filter (·.phase == 0)) s3 fun s b => s.resetGo n b).unpark n
  ((s4.sweepKick n).attachOn n).sweepShow n

/-! ### Port-change reports (R124, R133, R134, R147) -/

/-- What a hub port keeps of a device that has left it: the hold of the strict rule ends, and so do its failed attempts, unless accession
itself has reset the port to try again (R151). -/
def State.placeLeft (s : State) (n a p : Nat) : State :=
  s.modPort n fun g =>
    { g with
      strict := g.strict.filter (· != (a, p))
      tries := if g.again.contains (a, p) then g.tries else g.tries.filter fun x => !(x.1 == a && x.2.1 == p) }

/-- A port-change report of hub a (R133): its 16 bytes. -/
def State.hubReport (s : State) (n a : Nat) (b : List Byte) : State :=
  let t := leAt b 0 8
  let p := byteAt b 8
  let fl := byteAt b 10
  let q := s.devQuality n a t
  let child s p := State.deviceAt s n a p
  let s1 := if bitOf fl 5 || bitOf fl 6 then s.raise (F.gpXactEvents_owner_changed n) else s
  if 15 < p || p = 0 then s1
  else
    let s2 := if bitOf fl 4 then match child s1 p with
        | some c => if s1.devSt n c = 7 then s1.raise (F.gpXactEvents_hub_cut n) else s1.deviceCut n c (F.gpXactEvents_hub_cut n) t q
        | none => s1.raise (F.gpXactEvents_hub_cut n)
      else s1
    let s3 := if bitOf fl 1 then match child s2 p with
        | some c => if s2.devSt n c = 7 then s2 else s2.detach n (s2.subtree n c) t q
        | none => s2
      else s2
    let s3 := if bitOf fl 1 then s3.placeLeft n a p else s3
    let s4 := if bitOf fl 2 || bitOf fl 3 then match child s3 p with
        | some c => s3.resync n c
        | none => s3
      else s3
    if bitOf fl 0 then s4.attachQueue n a p else s4

/-- A wake event of a device (R167, R168). -/
def State.wakeEvent (s : State) (n a : Nat) (b : List Byte) : State :=
  let coll := bitOf (byteAt b 11) 0 && !(s.port n).ownWake
  let s1 := if coll then s.raise (F.gpAccEvents_wake_collided n) else s
  s1.accRecord n a (0x0C + b2n coll * 128) (s.place n a).1 (s.place n a).2 s.now (s.chipQuality s.now) (byteAt b 10)

/-! ### Other registers of accession -/

/-- A write of GP_ACC_RETRY (R151). -/
def State.accRetry (s : State) (n hub p : Nat) : State :=
  if (s.port n).rejected.contains (hub, p) then
    let s1 := (s.modPort n fun g => { g with rejected := g.rejected.filter (· != (hub, p)) }).clearTries n hub p
    if hub = 0 then s1.portEnable n else s1.setHubPort n hub p 5 (.setPort p 5)
  else if (s.port n).strict.contains (hub, p) then
    ((s.modPort n fun g => { g with strict := g.strict.filter (· != (hub, p)) }).clearTries n hub p).attachQueue n hub p
  else s

end Sys2Proof.Machine
end

