-- ==== Sys2Proof/Machine/Registrar.lean ====
section
/-! DEFINITION. The Registrar's records, its registers and the TAKE balls (spec/14_registrar_and_vitrines.md). -/

namespace Sys2Proof.Machine

/-- The BAR2 offset of the record store (R24). -/
def rgStore : Nat := 0x340000

/-- The size of the record store in bytes. -/
def rgSize : Nat := 0x80000

/-- The size a record of n words takes in the store (R387). -/
def recSize (n : Nat) : Nat := (32 + 4 * n + 7) / 8 * 8

/-- The recorded words of a record request: the vitrine words it names (R382). -/
def State.recData (s : State) (r : RecReq) : List Byte :=
  r.words.flatMap fun i => leBytes 4 (s.rg.words.getD i 0).toNat

/-- The flags byte of a new record with complete set (R387). -/
def recFlags (r : RecReq) : Nat := 1 + b2n r.event * 4 + b2n r.notOk * 8

/-- The bytes of a new record of the latch held (R387). -/
def State.recBytes (s : State) (r : RecReq) : List Byte :=
  leBytes 8 s.rg.time ++ leBytes 8 s.rg.time ++ leBytes 4 s.rg.frame ++
  leBytes 4 (r.trig + s.rg.sources * 2 ^ 8 + s.rg.origin % 64 * 2 ^ 16 + r.words.length * 2 ^ 24) ++
  leBytes 4 (s.rg.quality + recFlags r * 2 ^ 8) ++ leBytes 4 (s.rg.missed) ++
  s.recData r

/-- Whether the newest record equals a record request: definition, word count and every word (R388). The answer carries the state after the
read of the store. -/
def State.recEqual (s : State) (r : RecReq) : Bool × State :=
  match s.rg.newest with
  | none => (false, s)
  | some o =>
    let a := rgStore + o
    let x := s.ramRead a (32 + 4 * r.words.length) 0
    (!x.1.isSome && (s.ram (a + 20)).toNat == r.trig && (s.ram (a + 23)).toNat == r.words.length &&
      s.ramBytes (a + 32) (4 * r.words.length) == s.recData r, x.2)

/-- An update of the newest record by a repeat (R388, R389). -/
def State.recUpdate (s : State) (o : Nat) : State :=
  let a := rgStore + o
  let rep := leVal (s.ramBytes (a + 26) 2)
  let miss := min 65535 (leVal (s.ramBytes (a + 28) 2) + s.rg.missed)
  let fl := (s.ram (a + 25)).toNat
  let s1 := s.setRamBytes (a + 26) (leBytes 2 (min 65535 (rep + 1)) ++ leBytes 2 miss)
  let s2 := s1.setRamBytes (a + 8) (leBytes 8 s.rg.time)
  let s3 := s2.setRam (a + 25) (BitVec.ofNat 8 (if rep = 65535 then withBit fl 1 else fl))
  let s4 := s3.setRam (a + 30) (BitVec.ofNat 8 ((s.ram (a + 30)).toNat + 2))
  ({ s4 with rg := { s4.rg with missed := 0 } } : State).raise F.rgEvents_repeat

/-- A new record written at the write pointer (R387). -/
def State.recWrite (s : State) (r : RecReq) : State :=
  let p := s.get F.rgWritePtr_ptr
  let s1 := s.setRamBytes (rgStore + p) (fit (recSize r.words.length) (s.recBytes r))
  let s2 := (s1.put F.rgWritePtr_ptr (p + recSize r.words.length)).bump F.rgCount_records
  ({ s2 with rg := { s2.rg with missed := 0, newest := some p } } : State).raise F.rgEvents_record

/-- A record that does not fit: recording stops, and it is dropped (R390). -/
def State.recDrop (s : State) : State :=
  let s1 := if s.flag F.rgStatus_full then s else (s.raise F.rgStatus_full).raise F.rgEvents_full
  s1.bump F.rgCount_dropped

/-- One record of the latch: merged, written or dropped (R388, R390). -/
def State.recOne (s : State) (r : RecReq) : State :=
  let x := s.recEqual r
  if x.1 then x.2.recUpdate (s.rg.newest.getD 0)
  else if s.flag F.rgStatus_full || rgSize < s.get F.rgWritePtr_ptr + recSize r.words.length then x.2.recDrop
  else x.2.recWrite r

/-- The store is emptied (R392). -/
def State.storeClear (s : State) : State :=
  let s1 := (((s.put F.rgWritePtr_ptr 0).put F.rgCount_records 0).put F.rgStatus_full 0).put F.rgStatus_clearing 0
  { s1 with rg := { s1.rg with missed := 0, newest := none } }

/-- The Registrar finishes one record; a waiting clear runs, and the vitrines may be released (R385, R386, R392). -/
def State.recordDone (s : State) : State :=
  match s.rg.todo with
  | [] => s
  | r :: rs =>
    let s1 := s.recOne r
    let s2 : State := { s1 with rg := { s1.rg with todo := rs } }
    (if s.flag F.rgStatus_clearing then s2.storeClear else s2).vitRelease

/-- A mover pulse to the Registrar: the mover-kind definitions that it meets fire (R272, R383). -/
def State.pulseRegistrar (s : State) (ch tag : Nat) (ok : Bool) : State :=
  let hit t :=
    s.trigKind t == 2 && bitOf (s.get (F.rgTrigCfg_sel_mask t)) ch &&
    (BitVec.ofNat 16 tag &&& BitVec.ofNat 16 (s.get (F.rgTrigMatch_tag_mask t)))
      == (BitVec.ofNat 16 (s.get (F.rgTrigMatch_tag_value t)) &&& BitVec.ofNat 16 (s.get (F.rgTrigMatch_tag_mask t))) &&
    (match s.get (F.rgTrigCfg_mv_status t) with
     | 1 => ok
     | 2 => !ok
     | _ => true)
  s.takeEvent (((List.range 32).filter hit).map (·, !ok))

/-- A write of RG_CTRL: the configuration bits, then release, clear, cnt_clear and take (R380, R385, R392). -/
def State.writeRgCtrl (s : State) (w : Word) : State :=
  let b i := bitOf w.toNat i
  let s1 := s.setReg R.rgCtrl (w &&& 7)
  let s2 := if b 30 && s1.flag F.rgStatus_held then ({ s1 with rg := { s1.rg with released := true } } : State) else s1
  let s3 := s2.vitRelease
  let s4 := if b 29 then (if s3.rg.todo.isEmpty then s3.storeClear else s3.raise F.rgStatus_clearing) else s3
  let s5 := if b 28 then (s4.put F.rgCount_dropped 0).setReg R.rgMissed 0 else s4
  if b 31 then s5.take 2 s5.now else s5

/-- A write in the RG control block (R382, R392). -/
def State.writeRg (s : State) (off : Nat) (w : Word) (plain : Word) : State :=
  if off = R.rgCtrl then s.writeRgCtrl w
  else if 0x5200 ≤ off && off % 16 = 0 then
    let t := (off - 0x5200) / 16
    let res := (w &&& 0x3F001F00) != 0
    let m := Machine.clrBit s.rg.resBits t
    { (s.setReg off plain) with rg := { s.rg with resBits := if res then withBit m t else m } }
  else s.setReg off plain

/-! ### The commands -/

/-- TAKE_IN_EDGE (R380): an edge on TAKE_IN; the edge that RG_TAKE_CFG.in_falling selects requests a TAKE of code 1, whose latch time is the
counter at the latch (R379). -/
def execTakeInEdge (t : Nat) (rise : Bool) (s : State) : Host.Outcome State Fault Refusal :=
  act s fun s =>
    let s1 := s.advanceTo t
    if rise = s.flag F.rgTakeCfg_in_falling then s1 else s1.take 1 s1.now

/-- RECORD_WRITE_DONE (R386). -/
def execRecordWriteDone (s : State) : Host.Outcome State Fault Refusal := act s fun s => s.recordDone

/-- The TAKE_OUT pulse is over. -/
def State.takeOutEnd (s : State) : State :=
  if s.rg.takeOut then
    ((({ s with rg := { s.rg with takeOut := false } } : State).advanceTo s.rg.takeEnd).emit (.pin "TAKE_OUT" false))
  else s

/-- TAKE_OUT_PULSE_END (R381). -/
def execTakeOutPulseEnd (s : State) : Host.Outcome State Fault Refusal :=
  act s fun s => s.takeOutEnd

end Sys2Proof.Machine
end

