-- ==== Sys2Proof/Machine/Movers.lean ====
section
/-! DEFINITION. The movers: descriptors, their checks, runs, status words and pulses, and the copies of work entries
(spec/09_movers.md). -/

namespace Sys2Proof.Machine

/-! ### Channels -/

/-- The engine of a channel. -/
def State.chan (s : State) (c : Nat) : Mv := s.mv.getD c {}
def State.modChan (s : State) (c : Nat) (f : Mv → Mv) : State := { s with mv := listSet s.mv c (f (s.chan c)) }

/-- The state of a channel: 0 Idle, 1 Running, 2 Stopping, 3 Fault (R273). -/
def State.chSt (s : State) (c : Nat) : Nat := s.get (F.mvChState_state c)

/-- Whether a channel belongs to the manager (R259). -/
def State.chManager (s : State) (c : Nat) : Bool := s.flag (F.mvChCtrl_owner c)

def Desc.srcHost (d : Desc) : Bool := bitOf d.ctl 0
def Desc.dstHost (d : Desc) : Bool := bitOf d.ctl 1
def Desc.srcFixed (d : Desc) : Bool := bitOf d.ctl 2
def Desc.dstFixed (d : Desc) : Bool := bitOf d.ctl 3
def Desc.last (d : Desc) : Bool := bitOf d.ctl 4
def Desc.pulse (d : Desc) : Nat := d.ctl / 64 % 4

/-- The descriptor that 32 bytes spell (R262). -/
def descOf (b : List Byte) : Desc :=
  { src := leAt b 0 8, dst := leAt b 8 8, len := leAt b 16 3, ctl := byteAt b 20, tag := leAt b 22 2, next := leAt b 24 4 % 2 ^ 21
    res := byteAt b 19 != 0 || bitOf (byteAt b 20) 5 || byteAt b 21 != 0 || 2 ^ 21 ≤ leAt b 24 4 }

/-- The address of the word at an offset of a descriptor's side (R263). -/
def sideAt (base off : Nat) (fixed : Bool) : Nat := if fixed then base else base + off

/-- Whether every buffer word of one side lies where a manager's channel may touch it (R264 check 3). -/
def sideOk (base len : Nat) (fixed : Bool) : Bool := sideAt base (len - 8) fixed + 8 ≤ 0x200000

/-- The status of the checks before a manager's descriptor runs: 0 OK, 3 BAD_DESC, 1 MISALIGNED, 2 RANGE (R264). -/
def Desc.check (d : Desc) : Nat :=
  if d.res || d.len = 0 || (d.srcHost && d.dstHost) || d.pulse = 1 || d.pulse = 2 then 3
  else if d.src % 8 ≠ 0 || d.dst % 8 ≠ 0 || d.len % 8 ≠ 0 then 1
  else if (!d.srcHost && !sideOk d.src d.len d.srcFixed) || (!d.dstHost && !sideOk d.dst d.len d.dstFixed) then 2
  else 0

/-! ### The copies of work entries (R260, R265, R270) -/

/-- The fragments of an entry's buffer: a direct buffer is one. -/
def Work.pieces (w : Work) : List (Nat × Nat) := if w.indirect then w.frags else [(w.host, w.bytes)]

/-- The descriptors of one fragment (R265): its length rounded up to 8, in two where one cannot express it. -/
def fragDescs (toHost : Bool) (num a len : Nat) : List (Nat × Desc) :=
  let n := ceilDiv len 8 * 8
  let one (a n : Nat) : Nat × Desc :=
    (num, if toHost then { src := 0, dst := a, len := n, ctl := 0x42 } else { src := a, dst := 0, len := n, ctl := 0x41 })
  if 16777208 < n then [one a 16777208, one (a + 16777208) (n - 16777208)] else if n = 0 then [] else [one a n]

/-- The fragments cut at a number of bytes: what an inward transfer that ended short writes. -/
def cutPieces : Nat → List (Nat × Nat) → List (Nat × Nat)
  | _, [] => []
  | n, (a, l) :: t => if n = 0 then [] else (a, min n l) :: cutPieces (n - min n l) t

/-- The descriptors of an entry (R260). -/
def Work.descs (w : Work) : List (Nat × Desc) :=
  let ps := if w.outward then w.pieces else cutPieces w.data.length w.pieces
  ps.zipIdx.flatMap fun p => fragDescs (!w.outward) (if w.indirect then p.2 + 1 else 0) p.1.1 p.1.2

/-! ### Staging in SRAM (R23, R172, R184, R301, R397) -/

/-- A read of the ring-cache and mover-staging region for gallery g: an uncorrectable error halts the gallery (R397). -/
def State.ramReadHalt (s : State) (a len g : Nat) : Option Nat × State :=
  let x := s.ramRead a len 3 g
  if x.1.isSome then (x.1, x.2.galleryHalt g) else x

/-- The same of an item that has no stated place in the Curator's queues (lo 0x280000) or in the ring caches and stages (lo 0x3C0000): whether it
met an uncorrectable error. -/
def State.itemReadHalt (s : State) (lo len g : Nat) : Bool × State :=
  let x := s.itemRead lo 0x40000 len 3 g
  if x.1 then (true, x.2.galleryHalt g) else x

/-- How much of an entry's data lies in one piece: a packet of a bulk pipe in one buffer of its region, else all of it. -/
def State.pieceLen (s : State) (w : Work) : Nat := if w.op = 3 || w.remote then 4096 else max 8 (s.pxMax w.ctx)

/-- Where byte o of an entry's staged data lies: in the Span buffers at the origin of remote work (R301), in mover staging for a control data stage
(R172), in a packet buffer of the pipe's region for bulk (R184). Which place that is in each, is not defined, and free (log entry 160). -/
def State.seatAt (s : State) (w : Work) (o : Nat) : Nat :=
  let v (k : Nat) := (Config.freeValue (w.seat.getD 0 + k)).toNat
  if w.remote then 0x2C0000 + v 0 % 4032 * 64 + o % 4096
  else if w.op = 3 then 0x3C0000 + v 0 % 4032 * 64 + o % 4096
  else
    let m := s.pieceLen w
    let g := ceilDiv (s.pxMax w.ctx) 64
    (s.get (F.pxRegion_base w.ctx) + v (o / m) % max 1 (s.get (F.pxRegion_size w.ctx) / max 1 g) * g) * 64 + o % m

/-- The places of an entry's data are drawn, when its staging begins. -/
def State.seatDraw (s : State) (w : Work) : State :=
  let s1 := s.modWork w.g w.r w.i fun x => { x with seat := some s.free }
  { s1 with free := s.free + w.bytes / s.pieceLen w + 1 }

/-- Bytes of an entry's data are put into their places, from offset `off` on; n bounds the pieces. -/
def State.putStaged : Nat → State → Work → Nat → List Byte → State
  | 0, s, _, _, _ => s
  | n + 1, s, w, off, bs =>
    if bs.isEmpty then s
    else
      let k := s.pieceLen w - off % s.pieceLen w
      (s.setRamBytes (s.seatAt w off) (bs.take k)).putStaged n w (off + k) (bs.drop k)

/-- A read of an entry's staged bytes in their place, with the class of its region (R397). -/
def State.stageRead (s : State) (w : Work) (a len : Nat) : Option Nat × State :=
  if w.op = 3 && !w.remote then s.ramReadHalt a len w.g else s.ramRead a len 2

/-- Read `len` bytes of an entry's staged data from offset `off` on: the bytes up to the first word that holds an uncorrectable error, and the
offset of that word, none where there is none. A piece whose buffer has since held another piece is put there again first. n bounds the
pieces. -/
def State.takeStaged : Nat → State → Work → Nat → Nat → List Byte × Option Nat × State
  | 0, s, _, _, _ => ([], none, s)
  | n + 1, s, w, off, len =>
    if len = 0 then ([], none, s)
    else
      let k := min len (s.pieceLen w - off % s.pieceLen w)
      let a := s.seatAt w off
      let b := (w.data.drop off).take k
      let s1 := if s.ramBytes a b.length == b then s else s.setRamBytes a b
      let x := s1.stageRead w a k
      match x.1 with
      | some e => (s1.ramBytes a (e - a), some (off + (e - a)), x.2)
      | none =>
        let y := State.takeStaged n x.2 w (off + k) (len - k)
        (s1.ramBytes a k ++ y.1, y.2)

/-- The bytes of a descriptor (R262). -/
def Desc.bytes (d : Desc) : List Byte :=
  leBytes 8 d.src ++ leBytes 8 d.dst ++ leBytes 3 d.len ++ leBytes 1 0 ++ leBytes 1 d.ctl ++ leBytes 1 0 ++ leBytes 2 d.tag ++ leBytes 4 d.next ++
  leBytes 4 0

/-- Where the device keeps descriptor k of the entry that a channel serves (R260). -/
def Mv.descAt (m : Mv) (k : Nat) : Nat := 0x3C0000 + (m.spot + k) % 8192 * 32

/-- The byte of the descriptors that the device keeps, at an offset of BAR2; none where no descriptor stands. -/
def State.descByte (s : State) (off : Nat) : Option Byte :=
  s.mv.findSome? fun m => (m.kept.zipIdx.find? fun p => m.descAt p.2 == off / 32 * 32).map fun p => p.1.getD (off % 32) 0

/-- The status word of the descriptor that a channel of the device runs stands in it (R268). -/
def Mv.stamp (m : Mv) (word : Nat) : Mv :=
  { m with kept := m.kept.zipIdx.map fun p => if p.2 + 1 = m.run then fit 28 p.1 ++ leBytes 4 word else p.1 }

/-- The entry leaves mover staging: an outward one may go to the bus, an inward one completes (R220, R247). -/
def State.stageDone (s : State) (g r i : Nat) : State :=
  match s.findWork g r i with
  | none => s
  | some w =>
    if w.outward then s.modWork g r i fun w => { w with stage := .done, data := w.data.take w.bytes }
    else s.completeAt w w.fin.1 w.fin.2 w.data.length (w.ended.getD s.now) w.quality

/-- A channel of the device takes an entry, with the descriptors of its staging (R260). -/
def State.mvTake (s : State) (c : Nat) (w : Work) : State :=
  let s1 := s.modWork w.g w.r w.i fun w => { w with stage := .moving, data := if w.outward then [] else w.data, sent := 0 }
  let x := s1.draw 13
  let s2 := (x.2.put (F.mvChState_state c) 1).modChan c fun m =>
    { m with work := some (w.g, w.r, w.i), left := w.descs, phase := 0, desc := none, moved := 0, gal := w.g, spot := x.1, run := 0
             kept := w.descs.map (·.2.bytes) }
  { s2 with mvLast := c }

/-- Idle channels of the device take the entries that wait, in rotation (R260); n bounds the number. -/
def State.mvKick : Nat → State → State
  | 0, s => s
  | n + 1, s =>
    let free := ((List.range 8).map fun k => (s.mvLast + 1 + k) % 8).find? fun c => !s.chManager c && s.chSt c == 0 && !s.asleep && !s.closing
    match free, s.work.find? (·.stage == .wait) with
    | some c, some w =>
      State.mvKick n
        (if w.descs.isEmpty then (s.modWork w.g w.r w.i fun w => { w with stage := .moving }).stageDone w.g w.r w.i else s.mvTake c w)
    | _, _ => s

/-! ### Running (R266 to R272) -/

/-- The gallery whose PASID a channel's requests carry (R261). -/
def State.chGal (s : State) (c : Nat) : Nat := (s.chan c).gal

/-- Issue host reads of the running descriptor, up to 8 outstanding (R266); n bounds their number. -/
def State.mvIssue : Nat → State → Nat → State
  | 0, s, _ => s
  | n + 1, s, c =>
    let m := s.chan c
    match m.desc, m.reads with
    | some d, (a, len) :: _ =>
      if 8 ≤ m.outs.length + m.stale || len = 0 then s
      else
        let k := if d.srcFixed then 8 else min len (min (min s.pci.mrrs 4096) (4096 - a % 4096))
        let s1 := s.modChan c fun m =>
          { m with reads := [(sideAt a k d.srcFixed, len - k)], outs := m.outs ++ [(a, k)] }
        State.mvIssue n (s1.dmaRead (s.chGal c) 0 (.mover c) a k) c
    | _, _ => s

/-- The channel leaves its descriptor for the next one, or goes Idle (R266 step 5, R271, R275); in the handshake of Closed it stops (R277). -/
def State.mvNext (s : State) (c : Nat) (d : Desc) : State :=
  let m := s.chan c
  let idle (s : State) := (s.put (F.mvChState_state c) 0).modChan c fun m => { m with desc := none, phase := 0, work := none, left := [] }
  if !s.chManager c then
    (if m.left.isEmpty then idle s else s.modChan c fun m => { m with desc := none, phase := 0, moved := 0 }).mvKick 16
  else
    let stop := s.chSt c == 2 || s.closing
    let bad := !d.last && (d.next % 32 != 0 || 0x200000 ≤ d.next)
    let s1 := if d.last || bad then s else s.put (F.mvChState_desc c) d.next
    if d.last then (if stop then (idle s1).put (F.mvChState_stopped c) 1 else idle s1)
    else if bad then ((idle s1).put (F.mvChState_state c) 3).put (F.mvChState_chain_err c) 1
    else if stop then (idle s1).put (F.mvChState_stopped c) 1
    else s1.modChan c fun m => { m with desc := none, phase := 0, moved := 0 }

/-- The Curator's part of a pulse: the entry's next descriptor, its release, or its end (R270, R272). -/
def State.mvPulse (s : State) (c status : Nat) : State :=
  let m := s.chan c
  match m.work with
  | none => s.modChan c fun m => { m with left := [] }
  | some (g, r, i) =>
    if status = 0 then
      if m.left.isEmpty then (s.modChan c fun m => { m with work := none }).stageDone g r i else s
    else
      let s1 := s.modChan c fun m => { m with work := none, left := [] }
      match s.findWork g r i with
      | some w => s1.complete w (if status = 1 then 7 else 8) m.frag w.sent
      | none => s1

/-- A descriptor has completed with a status and the bytes moved (R266 steps 3 to 5, R268, R272). -/
def State.mvEnd (s : State) (c : Nat) (d : Desc) (status moved : Nat) : State :=
  let s0 := s.modChan c fun m => { m with stale := m.stale + m.outs.length, outs := [], reads := [] }
  let s1 := if status = 0 then s0.bump (F.mvChCnt_ok c) else s0.bump (F.mvChCnt_bad c)
  let word := 2 ^ 31 + status * 2 ^ 24 + moved
  let s2 := s1.setReg (R.mvChLast c) (BitVec.ofNat 32 word)
  let s3 := if status = 1 then s2.bump F.mvErrCnt_misaligned else if status = 4 || status = 5 then s2.bump F.mvErrCnt_host_err else s2
  if s.chManager c then
    let s4 := s3.setRamBytes (s.get (F.mvChState_desc c) + 28) (leBytes 4 word)
    (if d.pulse = 3 then s4.pulseRegistrar c d.tag (status == 0) else s4).mvNext c d
  else ((s3.modChan c fun m => m.stamp word).mvPulse c status).mvNext c d

/-- Write words to a side of buffer memory in ascending order. -/
def State.putSide (s : State) (base off : Nat) (fixed : Bool) : Nat → List Byte → State
  | 0, _ => s
  | n + 1, bs =>
    if bs.isEmpty then s
    else (s.setRamBytes (sideAt base off fixed) (bs.take 8)).putSide base (off + 8) fixed n (bs.drop 8)

/-- Copy words within buffer memory in ascending order. -/
def State.copyWords (s : State) (d : Desc) (off : Nat) : Nat → State
  | 0 => s
  | n + 1 => (s.setRamBytes (sideAt d.dst off d.dstFixed) (s.ramBytes (sideAt d.src off d.srcFixed) 8)).copyWords d (off + 8) n

/-- The bytes of a buffer-memory source. -/
def State.srcBytes (s : State) (d : Desc) : List Byte :=
  if d.srcFixed then (List.range (d.len / 8)).flatMap fun _ => s.ramBytes d.src 8 else s.ramBytes d.src d.len

/-- The last destination address written. -/
def Desc.lastDst (d : Desc) : Nat := sideAt d.dst (d.len - 8) d.dstFixed

/-- Bytes brought to a length: what is missing has no defined value and is free (R265). -/
def State.padFree (s : State) (n : Nat) (bs : List Byte) : List Byte × State :=
  if n ≤ bs.length then (bs.take n, s)
  else
    let x := s.draw 64
    ((bs ++ leBytes 8 x.1).take n, x.2)

/-- Write bytes to a descriptor's destination in host memory (R263, R266, R314). -/
def State.mvPost (s : State) (c : Nat) (d : Desc) (bytes : List Byte) : State :=
  if d.dstFixed then (chunks 8 (bytes.length / 8) bytes).foldl (fun a b => State.dmaWrite a (s.chGal c) d.dst b) s
  else s.dmaWrite (s.chGal c) d.dst bytes

/-- The entry that a channel serves. -/
def State.chWork (s : State) (c : Nat) : Option Work :=
  match (s.chan c).work with
  | some (g, r, i) => s.findWork g r i
  | none => none

/-- Read a descriptor's source in SRAM, buffer memory or an entry's staged data: the bytes up to the first word that holds an uncorrectable error,
and how many they are, none when there is no such word (R269). Past the end of the data of an entry nothing is defined (R265). -/
def State.mvSource (s : State) (c : Nat) (d : Desc) : List Byte × Option Nat × State :=
  if s.chManager c then
    let x := s.ramRead d.src (if d.srcFixed then 8 else d.len) 2
    (s.srcBytes d, x.1.map fun e => if d.srcFixed then 0 else e - d.src, x.2)
  else match s.chWork c with
    | some w =>
      let k := min d.len (w.data.length - w.sent)
      let x := State.takeStaged (ceilDiv k 8) s w w.sent k
      let y := x.2.2.padFree d.len x.1
      (y.1, x.2.1.map (· - w.sent), y.2)
    | none => ([], none, s)

/-- Begin a descriptor whose checks have passed (R266 steps 1 and 2). -/
def State.mvStart (s : State) (c : Nat) (d : Desc) : State :=
  let s1 := s.modChan c fun m => { m with desc := some d, phase := 1, moved := 0 }
  if d.srcHost then (s1.modChan c fun m => { m with reads := [(d.src, d.len)] }).mvIssue 8 c
  else
    let x := s1.mvSource c d
    let sent (s : State) (k : Nat) : State := match (s.chan c).work with
      | some (g, r, i) => s.modWork g r i fun w => { w with sent := min w.data.length (w.sent + k) }
      | none => s
    match x.2.1 with
    | some k => if d.dstHost then (sent (x.2.2.mvPost c d (x.1.take k)) k).mvEnd c d 6 k else (x.2.2.copyWords d 0 (k / 8)).mvEnd c d 6 k
    | none =>
      if d.dstHost then
        (((sent x.2.2 d.len).mvPost c d x.1).modChan c fun m => { m with phase := 2, moved := d.len }).dmaRead (s.chGal c) 0 (.moverBack c)
          d.lastDst 8
      else (x.2.2.copyWords d 0 (d.len / 8)).modChan c fun m => { m with phase := 2, moved := d.len }

/-- The read of a device's own descriptor meets an uncorrectable error (R271, R397): Fault, the gallery halts, and an entry that is left,
since it is started, completes HOST_ERR. -/
def State.mvBadDesc (s : State) (c : Nat) : State :=
  let s1 := (s.put (F.mvChState_state c) 3).put (F.mvChState_chain_err c) 1
  let s2 := match s.chWork c with
    | some w => s1.complete w 8 (s.chan c).frag w.sent
    | none => s1
  s2.modChan c fun m => { m with desc := none, phase := 0, work := none, left := [] }

/-- A descriptor read completes (R264): it is checked, and refused or begun; an uncorrectable error in it is a Fault (R271). -/
def State.mvDescriptor (s : State) (c : Nat) : State :=
  let m := s.chan c
  if (s.chSt c = 1 || s.chSt c = 2) && m.phase = 0 && m.desc.isNone then
    if s.chManager c then
      let o := s.get (F.mvChState_desc c)
      let x := s.ramRead o 32 2
      if x.1.isSome then ((x.2.put (F.mvChState_state c) 3).put (F.mvChState_chain_err c) 1)
      else
        let d := descOf (s.ramBytes o 32)
        if d.check = 0 then x.2.mvStart c d else x.2.mvEnd c d d.check 0
    else match m.left with
      | [] => s.mvNext c { src := 0, dst := 0, len := 0, ctl := 0 }
      | (k, d) :: rest =>
        let x := s.ramReadHalt (m.descAt m.run) 32 m.gal
        let s1 := x.2.modChan c fun m => { m with left := rest, frag := k, run := m.run + 1 }
        if x.1.isSome then s1.mvBadDesc c
        else if d.src % 8 ≠ 0 || d.dst % 8 ≠ 0 then s1.mvEnd c d 1 0 else s1.mvStart c d
  else s

/-- A host read of a channel completes (R266, R269). -/
def State.mvHostRead (s : State) (c : Nat) (r : HostRes) : State :=
  let m := s.chan c
  if 0 < m.stale then ((s.hostData (.mover c) 0 r).2.modChan c fun m => { m with stale := m.stale - 1 }).mvIssue 8 c
  else match m.desc, m.outs with
    | some d, (_, k) :: rest =>
      let x := s.hostData (.mover c) 0 r
      let s1 := x.2.modChan c fun m => { m with outs := rest }
      match x.1 with
      | none => s1.mvEnd c d 4 m.moved
      | some bytes =>
        let b := fit k bytes
        let s2 := match s1.chWork c with
          | some w => (s1.modWork w.g w.r w.i fun w => { w with data := w.data ++ b }).putStaged (b.length + 1) w w.data.length b
          | none => if s.chManager c then s1.putSide d.dst m.moved d.dstFixed (k / 8 + 1) b else s1
        let s3 := s2.modChan c fun m => { m with moved := m.moved + k }
        if d.len ≤ m.moved + k then s3.modChan c fun m => { m with phase := 2 } else s3.mvIssue 8 c
    | _, _ => s

/-- The read-back completes (R266, R269). -/
def State.mvReadback (s : State) (c : Nat) (r : HostRes) : State :=
  let m := s.chan c
  match m.desc with
  | some d =>
    if m.phase ≠ 2 then s
    else if d.dstHost then
      let x := s.hostData (.moverBack c) 0 r
      if x.1.isSome then x.2.mvEnd c d 0 m.moved else x.2.mvEnd c d 5 m.moved
    else
      let x := match s.chWork c with
        | some w => s.stageRead w (s.seatAt w (w.data.length - 8)) 8
        | none => if s.chManager c then s.ramRead d.lastDst 8 2 else (none, s)
      if x.1.isSome then x.2.mvEnd c d 6 (m.moved - 8) else x.2.mvEnd c d 0 m.moved
  | none => s

/-! ### Registers (R259, R274, R275) -/

/-- A write of MV_CHn_CTRL: owner, then stop, then go. One that would leave the device no channel is ignored (R259). -/
def State.writeMvCtrl (s : State) (c : Nat) (w : Word) : State :=
  let b i := bitOf w.toNat i
  let st := s.chSt c
  let others := (List.range 8).any fun k => k != c && !s.chManager k
  let s1 := if b 0 && !s.chManager c && !others then s
    else if (st = 0 || st = 3) && b 0 != s.chManager c && (!b 0 || others) then
      ((s.put (F.mvChCtrl_owner c) (b2n (b 0))).put (F.mvChState_state c) 0).mvKick 16
    else if st = 3 then (s.put (F.mvChState_state c) 0).mvKick 16
    else s
  let s2 := if b 30 && s1.chManager c && s1.chSt c = 1 then s1.put (F.mvChState_state c) 2 else s1
  if b 31 && s2.chManager c && (s2.chSt c = 0 || s2.chSt c = 3) then
    let s3 := ((s2.put (F.mvChState_chain_err c) 0).put (F.mvChState_stopped c) 0).put (F.mvChState_state c) 1
    (s3.put (F.mvChState_desc c) (s2.get (F.mvChHead_addr c) / 32 * 32)).modChan c fun m =>
      { m with desc := none, phase := 0, moved := 0, work := none, left := [], gal := 0 }
  else s2

/-- A write in the MV block. -/
def State.writeMv (s : State) (off : Nat) (w plain : Word) : State :=
  if off = R.mvCntClear then
    if bitOf w.toNat 0 then forEach (List.range 8) (s.setReg R.mvErrCnt 0) fun s c => s.setReg (R.mvChCnt c) 0 else s
  else if 0x9100 ≤ off && off < 0x9200 && off % 0x20 = 0 then s.writeMvCtrl ((off - 0x9100) / 0x20) w
  else s.setReg off plain

/-! ### The commands -/

/-- DESCRIPTOR_READ_DONE (R264). -/
def execDescriptorReadDone (c : Fin 8) (s : State) : Host.Outcome State Fault Refusal := act s fun s => s.mvDescriptor c

/-- MOVER_HOST_READ_DONE (R266). -/
def execMoverHostReadDone (c : Fin 8) (d : HostRes) (s : State) : Host.Outcome State Fault Refusal := act s fun s => s.mvHostRead c d

/-- MOVER_READBACK_DONE (R266). -/
def execMoverReadbackDone (c : Fin 8) (d : HostRes) (s : State) : Host.Outcome State Fault Refusal := act s fun s => s.mvReadback c d

end Sys2Proof.Machine
end

