-- ==== Sys2Proof/Machine/Work.lean ====
section
/-! DEFINITION. Fetching and dispatching work entries, their targets, delay lists, fragment tables, ring and event ring control
(spec/08_work_rings.md, spec/07_curator.md R220 to R226). -/

namespace Sys2Proof.Machine

/-! ### Reserved bits (R235 to R238) -/

/-- Whether the bits of a number outside a mask are all 0. -/
def within (x mask : Nat) : Bool := x &&& mask == x

/-- The target word's bits that an operation uses. -/
def targetMask (op : Nat) (remote : Bool) : Nat :=
  let rem := if remote then 0xBF000000 else 0x80000000
  match op with
  | 1 => rem + 0x7FF
  | 2 => rem + 0x7FF
  | 3 => rem + 0x1FF000
  | 4 => 0x7FF
  | _ => 0

/-- The bits of bytes 16 to 23 that an operation uses. -/
def addrMask (w : Work) : Nat :=
  match w.op with
  | 1 => 2 ^ 64 - 1
  | 2 => 2 ^ 64 - 1
  | 3 => if w.setupLen = 0 then 0 else 2 ^ 64 - 1
  | 4 => 0x000003FF010F0000
  | 5 => 0x3FFF
  | 6 => 0x000003FF010F3FFF
  | _ => 0

/-- Whether the bytes that software keeps of an entry are free of reserved bits and its operation is defined: bytes 0 to 2, which a completion
leaves as they are (R245). -/
def Work.headOk (w : Work) : Bool := 1 ≤ w.op && w.op ≤ 7 && !bitOf (byteAt w.ent 1) 7 && (!w.indirect || w.bulk)

/-- Whether an entry is free of reserved bits and its operation is defined (R243 check 1). -/
def Work.shapely (w : Work) : Bool :=
  w.headOk && within w.target (targetMask w.op w.remote) && (if w.op = 1 || w.op = 2 then true else w.len == 0) &&
  (w.indirect || byteAt w.ent 11 == 0) && (w.notBefore || w.frame == 0) &&
  within w.host (addrMask w) && (w.op == 3 || leVal w.setup == 0)

/-! ### Targets (R220, R224, R226, R243) -/

/-- Whether the entry at hand is held back (R226). -/
def State.backPressed (s : State) (w : Work) : Bool :=
  if w.notBefore && newer w.frame s.frame then 512 ≤ s.delayCount
  else if w.remote then 256 ≤ s.remoteCount
  else w.bulk && 512 ≤ (s.bulkQueue (s.workPlace w).1).length

/-- Whether every earlier entry of its gallery has completed (R220, R235). -/
def State.fenceOpen (s : State) (w : Work) : Bool :=
  !w.fence || ((s.work.filter fun x => x.g == w.g && x.r < 8).takeWhile fun x => !(x.r == w.r && x.i == w.i)).isEmpty

/-- The status with which a bulk entry's context or device refuses it, none when it may be queued (R157, R160, R178, R246, R371). -/
def State.bulkRefusal (s : State) (w : Work) : Option (Nat × Nat) :=
  let p := s.workPlace w
  let st := s.pxState w.ctx
  let d := s.devSt p.1 p.2.1
  let gone := d ≤ 1 || d == 7 || !s.ownsPort p.1
  if w.op = 3 then
    if p.1 ≥ s.nPorts || p.2.1 = 0 || p.2.1 = 63 then some (0x0A, 0x12)
    else if s.resetting p.1 p.2.1 then some (5, 0) else if gone then some (4, 0) else none
  else if s.pxKind w.ctx ≠ w.op + 2 then some (0x0A, 0x11)
  else if s.resetting p.1 p.2.1 then some (5, 0)
  else if gone then some (4, 0)
  else if st = 1 || st = 6 || st = 4 then some (6, st)
  else if st = 5 then some (1, 0) else none

/-- Whether a catalogue edit names a tree that the chip does not own: by the context of an Insert, by the index of a Remove or Modify (R371). -/
def State.editAway (s : State) (w : Work) : Bool := !s.ownsPort (if w.op = 4 then s.pxPort w.ctx else w.catIndex / 2048)

/-- An entry's data begins its way through mover staging: its fragment table is read first when it has one (R240). -/
def State.stageBegin (s : State) (w : Work) : State :=
  if w.indirect then
    (s.modWork w.g w.r w.i fun w => { w with stage := .table }).dmaRead w.g 0 (.fragTable w.g w.r w.i) w.host (16 * w.nFrag)
  else (s.modWork w.g w.r w.i fun w => { w with stage := .wait }).mvKick 16

/-- A transfer enters the bulk queue of its port at its level; outward data is staged (R220, R237). -/
def State.bulkEnter (s : State) (w : Work) : State :=
  let s0 := (s.seatDraw w).modWork w.g w.r w.i fun w => { w with loc := .queued, level := w.level0, since := s.frame, stamp := s.stamps }
  let s1 : State := { s0 with stamps := s.stamps + 1 }
  if w.outward && (w.bytes ≠ 0 || (w.indirect && w.op = 2)) then s1.stageBegin w else s1

/-- A catalogue edit of a tree that the chip does not own completes DETACHED, with its index as every catalogue operation has it (R245, R371). -/
def State.editGone (s : State) (w : Work) : State :=
  s.completeWith w (doneBytes 4 0 (if w.op = 4 then 0 else w.catIndex) 0 s.frame s.now (s.chipQuality s.now))

/-- A completion of a catalogue edit (R245). -/
def State.editDone (s : State) (w : Work) (x : Nat × Nat × State) : State :=
  let st := if x.1 = 0 then 0 else 0x0A
  x.2.2.completeWith w (doneBytes st x.1 x.2.1 0 (if x.1 = 0 then s.effect else s.frame) s.now (s.chipQuality s.now))

/-- The entry is at its target: ownership is checked again (R319), then the target takes it, or it stays (R225, R235). -/
def State.workReach (s : State) (w : Work) : State :=
  let v := s.violationOf w
  if v ≠ 0 then s.completeViolation w v
  else if w.remote then
    if 256 ≤ s.remoteCount then s
    else
      let s0 := (s.seatDraw w).modWork w.g w.r w.i fun w => { w with loc := .remote, stamp := s.stamps }
      let s1 : State := { s0 with stamps := s.stamps + 1 }
      if w.outward && (w.bytes ≠ 0 || (w.indirect && w.op = 2)) then s1.stageBegin w else s1
  else if w.bulk then
    match s.bulkRefusal w with
    | some (st, d) => if st = 5 then (s.complete w st d).setResume w.g w.r w.i 2 else s.complete w st d
    | none => if 512 ≤ (s.bulkQueue (s.workPlace w).1).length then s else s.bulkEnter w
  else if !s.fenceOpen w then s
  else if 4 ≤ w.op && w.op ≤ 6 && s.editAway w then s.editGone w
  else match w.op with
    | 4 => s.editDone w (s.catInsert w.ctx w.catSched)
    | 5 => s.editDone w (s.catRemove w.catIndex)
    | 6 => s.editDone w (s.catModify w.catIndex w.catSched)
    | _ => s.complete w 0 0

/-- The entry g, r, i is taken on to its target, when it is on its way there. -/
def State.workGo (s : State) (g r i op : Nat) : State :=
  match s.findWork g r i with
  | some w => if w.loc = .gate && w.op = op then s.workReach w else s
  | none => s

/-- The delay list that an entry waits in: that of its port, or the list of actions that name none (R224). -/
def State.delayList (s : State) (w : Work) : Nat := if w.bulk && !w.remote then (s.workPlace w).1 else 8

/-- Move the items of one delay list whose frame is reached to their targets, in order of F and arrival; a list whose head cannot move waits
behind it, and the head is counted (R225). n bounds the number. -/
def State.delayRun : Nat → State → Nat → State
  | 0, s, _ => s
  | n + 1, s, l =>
    let mine := s.work.filter fun w => w.loc == .delayed && s.delayList w == l && s.reached w.frame
    let head := mine.foldl (fun (b : Option Work) w => match b with
      | none => some w
      | some x => if newer x.frame w.frame then some w else b) none
    match head with
    | none => s
    | some w =>
      let s1 := (s.modWork w.g w.r w.i fun w => { w with loc := .gate }).workReach { w with loc := .gate }
      match s1.findWork w.g w.r w.i with
      | some x =>
        if x.loc = .gate && !(x.fence && !x.bulk && !s.fenceOpen x) then
          ((s1.modWork w.g w.r w.i fun w => { w with loc := .delayed }).bump F.cuDelayStatus_held).raise F.cuEvents_delay_held
        else s1.delayRun n l
      | none => s1.delayRun n l

/-- Every delay list at a frame boundary (R225). -/
def State.delaysRun (s : State) : State := forEach (List.range 9) s fun s l => s.delayRun 512 l

/-! ### Fetching (R242, R243) -/

/-- Read the entry at a ring's fetch index (R239). -/
def State.entryRead (s : State) (g r : Nat) : State :=
  (s.modRing g r fun x => { x with reading := true }).dmaRead g 0 (.workEntry g r) (s.entryAt g r (s.get (F.gaRingPos_fetch g r))) 32

/-- Whether a ring fetches now (R314, R316). -/
def State.fetches (s : State) (g r : Nat) : Bool := s.ringSt g r == 1 && s.gal g == 1 && s.dmaReady g && !s.asleep

/-- RING_POLL (R242). -/
def State.ringPoll (s : State) (g r : Nat) : State :=
  if s.fetches g r && !(s.ring g r).reading then s.entryRead g r else s

/-- The fetch index moves on. -/
def State.fetchNext (s : State) (g r : Nat) : State := s.put (F.gaRingPos_fetch g r) ((s.get (F.gaRingPos_fetch g r) + 1) % 2 ^ 16)

/-- Whether an address of an entry breaks check 5 of R243. -/
def Work.misaligned (w : Work) : Bool := w.bulk && (if w.indirect then w.host % 16 != 0 else w.host % 8 != 0)

/-- Checks 4 to 8 of R243 on an entry just fetched. -/
def State.workTake (s : State) (w : Work) : State :=
  let v := s.violationOf w
  if v ≠ 0 then s.completeViolation w v
  else if w.op = 3 && byteAt w.ent 24 / 32 % 4 = 0 && byteAt w.ent 25 = 2 then s.complete w 0x0A 0x10
  else if w.misaligned then s.complete w 7 0
  else if (w.op = 1 && w.len = 0) || (w.op = 3 && 4096 < w.setupLen) || (w.remote && 4096 < w.bytes) then s.complete w 0x0B 0
  else if w.notBefore && newer w.frame s.frame then s.modWork w.g w.r w.i fun w => { w with loc := .delayed }
  else s

/-- A fresh entry (R243): malformed, complete already, held back, or fetched. -/
def State.workFresh (s : State) (g r i : Nat) (ent : List Byte) : State :=
  let w : Work := { g := g, r := r, i := i, ent := ent }
  let lap := byteAt ent 2
  let done := byteAt ent 3
  let inj := s.inject 0x08 g fun p => p % 8 == r
  if inj.1 || !(if done = lap then w.headOk else w.shapely && done == 255 - lap) then inj.2.malformed g r i w.op inj.1
  else if done = lap then
    ((((s.fetchNext g r).wrap (F.gaRingCnt_completed g r)).put (F.gaRingState_back_pressured g r) 0).tailReport g r).entryRead g r
  else if s.backPressed w then
    let s1 := s.bump (F.gaRingCnt_held_polls g r)
    if s.flag (F.gaRingState_back_pressured g r) then s1 else (s1.put (F.gaRingState_back_pressured g r) 1).writeStatus g r
  else
    let s1 := ((s.fetchNext g r).put (F.gaRingState_back_pressured g r) 0).modRing g r fun x => { x with out := x.out ++ [i] }
    let s2 : State := { s1 with work := s1.work ++ [w] }
    let s3 := s2.workTake w
    if s3.fetches g r then s3.entryRead g r else s3

/-- WORK_ENTRY_READ: a work-entry read completes (R242, R243, R315). The entry is read from the ring cache (R172): an uncorrectable error there
halts the gallery (R397). -/
def State.workEntry (s : State) (g r : Nat) (d : HostRes) : State :=
  if 0 < (s.ring g r).stale then
    let x := (s.modRing g r fun x => { x with stale := x.stale - 1 }).hostData (.workEntry g r) 1 d
    if x.1.isSome then x.2 else x.2.hostErr g
  else if !(s.ring g r).reading then s
  else
    let s0 := s.modRing g r fun x => { x with reading := false }
    let x := s0.hostData (.workEntry g r) 1 d
    match x.1 with
    | none => x.2.hostErr g
    | some b =>
      let i := s.get (F.gaRingPos_fetch g r)
      let ent := fit 32 b
      if !s.fetches g r then x.2
      else
        let y := x.2.itemReadHalt 0x3C0000 32 g
        if y.1 || byteAt ent 2 ≠ lapOf (s.get (F.gaRingCtrl_log2_size g r)) i then y.2 else y.2.workFresh g r i ent

/-! ### Fragment tables (R240) -/

/-- The fragments that a table spells: host address and the whole length word. -/
def fragsOf (b : List Byte) (n : Nat) : List (Nat × Nat) := (List.range n).map fun k => (leAt b (16 * k) 8, leAt b (16 * k + 8) 3)

/-- The number, from 1, of the first fragment that a test fails. -/
def firstBad (fs : List (Nat × Nat)) (bad : Nat → Nat × Nat → Bool) : Option Nat :=
  (fs.zipIdx.find? fun p => bad p.2 p.1).map (·.2 + 1)

/-- FRAGMENT_TABLE_READ_DONE: the table of an entry is read (R240, R246). -/
def State.fragTable (s : State) (g r i : Nat) (d : HostRes) : State :=
  match s.findWork g r i with
  | none => (s.lateData (.fragTable g r i) 3 d).2
  | some w =>
    if w.stage ≠ .table || 2 ≤ s.readsOf (.fragTable g r i) then (s.lateData (.fragTable g r i) 3 d).2
    else
      let x := s.hostData (.fragTable g r i) 3 d
      match x.1 with
      | none => x.2.complete w 8 0 w.sent
      | some b =>
        let fs := fragsOf (fit (16 * w.nFrag) b) w.nFrag
        match firstBad fs (fun _ f => f.2 == 0) with
        | some k => x.2.complete w 9 k w.sent
        | none =>
          if sumOf (fs.map (·.2)) ≠ w.bytes then x.2.complete w 9 0 w.sent
          else match firstBad fs (fun k f => f.1 % 8 != 0 || (k + 1 != fs.length && f.2 % 8 != 0)) with
            | some k => x.2.complete w 7 k w.sent
            | none => (x.2.modWork g r i fun w => { w with stage := .wait, frags := fs }).mvKick 16

/-! ### Ring control (R230, R233, R248) -/

/-- Entries that a warm reset took from the movers complete HOST_ERR (R277). -/
def State.ringOwed (s : State) (g r : Nat) : State :=
  let xs := (s.ring g r).owed
  forEach xs (s.modRing g r fun x => { x with owed := [] }) fun s e =>
    let a := s.entryAt g r e.1
    let s1 := s.dmaWrite g (a + 4) (doneBytes 8 0 0 0 s.frame s.now (s.chipQuality s.now))
    let s2 := (s1.dmaWrite g (a + 3) (leBytes 1 (byteAt e.2 2))).wrap (F.gaRingCnt_completed g r)
    if bitOf (byteAt e.2 1) 6 then s2.privEvent g r else s2

/-- A write of 1 to GA_RINGr_CTRL.enable with the ring Disabled (R230, R233). -/
def State.ringEnable (s : State) (g r : Nat) : State :=
  let n := s.get (F.gaRingCtrl_log2_size g r)
  if s.ringSt g r ≠ 0 || s.gal g ≠ 1 then s
  else if n < 4 || 12 < n || s.reg64 (R.gaRingBaseLo g r) % 64 ≠ 0 || s.reg64 (R.gaRingStatLo g r) % 4 ≠ 0 then
    s.put (F.gaRingState_refused g r) 1
  else
    let st := s.get (F.gaRingStart_start g r)
    let s1 := ((s.setReg (R.gaRingPos g r) (BitVec.ofNat 32 (st * 2 ^ 16 + st))).put (F.gaRingResume_valid g r) 0).setReg (R.gaRingCnt g r) 0
    let s2 := (((s1.setReg (R.gaRingState g r) 1).setReg (R.gaRingHaltIdx g r) 0).put (F.gaRingCtrl_enable g r) 1)
    ((s2.modRing g r fun x => { x.idleRead with out := [], cause := 1 }).ringOwed g r).writeStatus g r

/-- A write of a ring's registers: configuration ignores writes unless Disabled; enable starts or stops the ring, and a 1 is ignored while it is
Stopping or Halted (R251, R253). -/
def State.writeRing (s : State) (g r off : Nat) (w plain : Word) : State :=
  let on := bitOf w.toNat 31
  if off = R.gaRingCtrl g r then
    if s.ringSt g r = 0 then
      let s1 := s.setReg off (plain &&& 0x7FFFFFFF)
      if on then s1.ringEnable g r else s1
    else if on then (if s.ringSt g r = 1 then s.put (F.gaRingResume_valid g r) 0 else s) else s.ringStop g r 1
  else if s.ringSt g r = 0 then s.setReg off plain else s

/-- RING_STOP_DONE: every started entry of a Stopping ring has completed (R248). -/
def State.ringStopped (s : State) (g r : Nat) : State :=
  if s.ringSt g r = 2 && s.ringQuiet g r then s.ringDone g r else s

/-! ### Event rings (R254 to R258) -/

def State.evr (s : State) (g : Nat) : EvRing := (s.gaOf g).ev
def State.modEv (s : State) (g : Nat) (f : EvRing → EvRing) : State := s.modGa g fun a => { a with ev := f a.ev }

/-- Reads of the tail and head words that are outstanding are no longer the ring's (R308, R315). -/
def EvRing.idleRead (e : EvRing) : EvRing :=
  { e with wantTail := 0, wantHead := false, staleTail := e.staleTail + b2n (e.wantTail == 2), staleHead := e.staleHead + b2n e.wantHead }

/-- Whether the event ring is in use: enabled, its tail word read, and the gallery neither Closing nor without dma_ready (R254, R314). -/
def State.evRunning (s : State) (g : Nat) : Bool :=
  s.flag (F.gaEvtStatus_running g) && (s.evr g).wantTail == 0 && s.dmaReady g && s.gal g != 4 && s.gal g != 0

/-- Whether the cached head makes the event ring look full (R257). -/
def State.evLooksFull (s : State) (g : Nat) : Bool :=
  (s.get (F.gaEvtPos_index g) + 2 ^ 16 - s.get (F.gaEvtPos_head g)) % 2 ^ 16 == 2 ^ s.get (F.gaEvtCtrl_log2_size g)

/-- Whether the ring counts as full (R257). -/
def State.evFull (s : State) (g : Nat) : Bool := !s.evRunning g || s.flag (F.gaEvtStatus_full g)

/-- The tail word is read at the first moment that dma_ready is 1 (R254). -/
def State.evKick (s : State) (g : Nat) : State :=
  if (s.evr g).wantTail = 1 && s.dmaReady g then
    (s.modEv g fun e => { e with wantTail := 2 }).dmaRead g 0 (.eventTail g) (s.reg64 (R.gaEvtTailLo g)) 4
  else s

/-- The head word is read when the ring looks full (R257). -/
def State.evHeadRead (s : State) (g : Nat) : State :=
  if (s.evr g).wantHead || !s.evRunning g then s
  else (s.modEv g fun e => { e with wantHead := true }).dmaRead g 0 (.eventHead g) (s.reg64 (R.gaEvtHeadLo g)) 4

/-- Write one 80-byte entry, then the tail word (R255, R256). -/
def State.evWrite (s : State) (g : Nat) (body : List Byte) : State :=
  let n := s.get (F.gaEvtCtrl_log2_size g)
  let i := s.get (F.gaEvtPos_index g)
  let a := s.reg64 (R.gaEvtBaseLo g) + 80 * (i % 2 ^ n)
  let s1 := (s.dmaWrite g (a + 1) body).dmaWrite g a (leBytes 1 (lapOf n i))
  let s2 := s1.put (F.gaEvtPos_index g) ((i + 1) % 2 ^ 16)
  let s3 := (s2.dmaWrite g (s.reg64 (R.gaEvtTailLo g)) (leBytes 4 ((i + 1) % 2 ^ 16))).privEvent g 8
  if s3.evLooksFull g then s3.evHeadRead g else s3

/-- Bytes 1 to 79 of an event's entry (R255). -/
def Event.bytes (e : Event) : List Byte :=
  ([e.typ, e.payload.length, e.flags].map (BitVec.ofNat 8 ·)) ++ leBytes 2 e.ctx ++
  ([e.port, e.addr, e.pipe, e.quality, 0, 0].map (BitVec.ofNat 8 ·)) ++ leBytes 4 e.frame ++ fit 64 e.payload

/-- Bytes 1 to 79 of a loss marker (R255, R258). -/
def lossBytes (t n frame : Nat) : List Byte :=
  ([3, 16, 0].map (BitVec.ofNat 8 ·)) ++ leBytes 2 0x7FF ++ List.replicate 6 0 ++ leBytes 4 frame ++ fit 64 (leBytes 8 t ++ leBytes 4 n)

/-- The ring copy of an event is dropped (R257). -/
def State.evDrop (s : State) (g t : Nat) : State :=
  (s.bump (F.gaEvtStatus_lost g)).modEv g fun e => { e with lostAt := some (e.lostAt.getD t), lostN := e.lostN + 1 }

/-- Whether a context is the source of a valid Courier route, or a hub's pipe 1, so that it is polled although the ring is full (R257). -/
def State.polledAlways (s : State) (c : Nat) (routed : Bool) : Bool := routed || (s.pxPipe c == 1 && s.isHub (s.pxPort c) (s.pxAddr c))

/-- Whether an event's pipe is polled although the ring is full; an event forwarded by another chip comes whatever this ring does. -/
def State.polledFor (s : State) (e : Event) : Bool := 2048 ≤ e.ctx || s.polledAlways e.ctx (s.routedPipe e.port e.addr e.pipe)

/-- The ring is full or disabled: the copies that wait of events whose pipes are polled all the same are dropped, so that an unread ring holds
no reflex route (R28, R257). -/
def State.evShed (s : State) (g : Nat) : State :=
  let out := (s.evr g).wait.filter fun e => e.flushed && s.polledFor e
  forEach out (s.modEv g fun v => { v with wait := v.wait.filter fun e => !(e.flushed && s.polledFor e) }) fun s e => s.evDrop g (leAt e.payload 0 8)

/-- Write what is ready while the ring has space: a loss marker when events were dropped, then the flushed events in the order in which they became
ready (R256, R258); a ring that is not in use counts as full, and keeps no copy that evShed drops. n bounds the number. -/
def State.evPump : Nat → State → Nat → State
  | 0, s, _ => s
  | n + 1, s, g =>
    let e := s.evr g
    if !s.evRunning g then s.evShed g
    else match e.lostAt, e.wait.find? (·.flushed) with
      | some t, _ =>
        if s.evLooksFull g then s.evHeadRead g
        else State.evPump n ((s.modEv g fun e => { e with lostAt := none, lostN := 0 }).evWrite g (lossBytes t e.lostN s.frame)) g
      | none, some v =>
        if s.evLooksFull g then s.evHeadRead g
        else State.evPump n ((s.modEv g fun e => { e with wait := e.wait.erase v }).evWrite g v.bytes) g
      | none, none => s

/-- An event whose flush is done, for the ring of a gallery: dropped when the ring is full and its pipe is polled all the same (R257). -/
def State.evOffer (s : State) (g : Nat) (e : Event) (always : Bool) (t : Nat) : State :=
  if s.evFull g && always then s.evDrop g t
  else (s.modEv g fun x => { x with wait := x.wait ++ [{ e with flushed := true }] }).evPump 64 g

/-- EVENT_TAIL_READ_DONE (R254). -/
def State.evTail (s : State) (g : Nat) (d : HostRes) : State :=
  if 0 < (s.evr g).staleTail then
    let x := (s.modEv g fun e => { e with staleTail := e.staleTail - 1 }).hostData (.eventTail g) 2 d
    if x.1.isSome then x.2 else x.2.hostErr g
  else if (s.evr g).wantTail ≠ 2 then s
  else
    let x := s.hostData (.eventTail g) 2 d
    match x.1 with
    | none => (x.2.hostErr g).modEv g fun e => { e with wantTail := 1 }
    | some b =>
      let i := leAt b 0 2
      let s1 := (x.2.put (F.gaEvtPos_index g) i).put (F.gaEvtPos_head g) i
      ((s1.put (F.gaEvtStatus_full g) 0).modEv g fun e => { e with wantTail := 0 }).evPump 64 g

/-- EVENT_HEAD_READ_DONE (R257). -/
def State.evHead (s : State) (g : Nat) (d : HostRes) : State :=
  if 0 < (s.evr g).staleHead then
    let x := (s.modEv g fun e => { e with staleHead := e.staleHead - 1 }).hostData (.eventHead g) 2 d
    if x.1.isSome then x.2 else x.2.hostErr g
  else if !(s.evr g).wantHead then s
  else
    let x := (s.modEv g fun e => { e with wantHead := false }).hostData (.eventHead g) 2 d
    match x.1 with
    | none => (x.2.hostErr g).evShed g
    | some b =>
      let s1 := x.2.put (F.gaEvtPos_head g) (leAt b 0 2)
      if s1.evLooksFull g then
        (if s1.flag (F.gaEvtStatus_full g) then s1 else (s1.put (F.gaEvtStatus_full g) 1).privEvent g 9).evShed g
      else (s1.put (F.gaEvtStatus_full g) 0).evPump 64 g

/-- Of the events that wait for a flush, those with FORWARD messages: the messages do not depend on the ring (R291). -/
def keepFwds (es : List Event) : List Event := (es.filter fun e => !e.flushed && !e.fwds.isEmpty).map fun e => { e with ring := false }

/-- A write of 1 to GA_EVT_CTRL.enable with the ring disabled (R254). -/
def State.evEnable (s : State) (g : Nat) : State :=
  let n := s.get (F.gaEvtCtrl_log2_size g)
  if n < 4 || 12 < n || s.reg64 (R.gaEvtBaseLo g) % 16 ≠ 0 || s.reg64 (R.gaEvtHeadLo g) % 4 ≠ 0 || s.reg64 (R.gaEvtTailLo g) % 4 ≠ 0 then
    s.put (F.gaEvtStatus_refused g) 1
  else if s.gal g = 0 then s
  else
    let s1 := (s.setReg (R.gaEvtStatus g) 3).put (F.gaEvtCtrl_enable g) 1
    (s1.modEv g fun e => { e.idleRead with wantTail := 1 }).evKick g

/-- The event ring is disabled, which is treated as full (R257): what waits for it waits on, but for the copies dropped by evShed. -/
def State.evDisable (s : State) (g : Nat) : State :=
  ((((s.put (F.gaEvtCtrl_enable g) 0).put (F.gaEvtStatus_running g) 0).put (F.gaEvtStatus_full g) 1).modEv g fun e => e.idleRead).evShed g

/-- A write of the event ring's registers. -/
def State.writeEvt (s : State) (g off : Nat) (w plain : Word) : State :=
  let on := bitOf w.toNat 31
  let run := s.flag (F.gaEvtStatus_running g)
  if off = R.gaEvtCtrl g then
    if !run then
      let s1 := s.setReg off (plain &&& 0x7FFFFFFF)
      if on then s1.evEnable g else s1
    else if on then s else s.evDisable g
  else if run then s else s.setReg off plain

/-! ### The commands -/

/-- RING_POLL (R242). -/
def execRingPoll (g : Fin 16) (r : Fin 8) (s : State) : Host.Outcome State Fault Refusal := act s fun s => s.ringPoll g r

/-- WORK_ENTRY_READ (R243). -/
def execWorkEntryRead (g : Fin 16) (r : Fin 8) (d : HostRes) (s : State) : Host.Outcome State Fault Refusal :=
  act s fun s => s.workEntry g r d

/-- BULK_IN (R237): the entry enters the bulk queue of its port. -/
def execBulkIn (g : Fin 16) (r : Fin 8) (i : BitVec 16) (s : State) : Host.Outcome State Fault Refusal :=
  act s fun s => s.workGo g r i.toNat 1

/-- BULK_OUT (R237): the entry is staged and enters the bulk queue. -/
def execBulkOut (g : Fin 16) (r : Fin 8) (i : BitVec 16) (s : State) : Host.Outcome State Fault Refusal :=
  act s fun s => s.workGo g r i.toNat 2

/-- CONTROL (R237): the entry enters the bulk queue as a control transfer. -/
def execControl (g : Fin 16) (r : Fin 8) (i : BitVec 16) (s : State) : Host.Outcome State Fault Refusal :=
  act s fun s => s.workGo g r i.toNat 3

/-- CAT_INSERT (R187). -/
def execCatInsert (g : Fin 16) (r : Fin 8) (i : BitVec 16) (s : State) : Host.Outcome State Fault Refusal :=
  act s fun s => s.workGo g r i.toNat 4

/-- CAT_REMOVE (R187). -/
def execCatRemove (g : Fin 16) (r : Fin 8) (i : BitVec 16) (s : State) : Host.Outcome State Fault Refusal :=
  act s fun s => s.workGo g r i.toNat 5

/-- CAT_MODIFY (R187). -/
def execCatModify (g : Fin 16) (r : Fin 8) (i : BitVec 16) (s : State) : Host.Outcome State Fault Refusal :=
  act s fun s => s.workGo g r i.toNat 6

/-- MARK (R237). -/
def execMark (g : Fin 16) (r : Fin 8) (i : BitVec 16) (s : State) : Host.Outcome State Fault Refusal :=
  act s fun s => s.workGo g r i.toNat 7

/-- RING_STOP_DONE (R248). -/
def execRingStopDone (g : Fin 16) (r : Fin 8) (s : State) : Host.Outcome State Fault Refusal := act s fun s => s.ringStopped g r

/-- FRAGMENT_TABLE_READ_DONE (R240). -/
def execFragmentTableReadDone (g : Fin 16) (r : Fin 8) (i : BitVec 16) (d : HostRes) (s : State) : Host.Outcome State Fault Refusal :=
  act s fun s => s.fragTable g r i.toNat d

/-- EVENT_TAIL_READ_DONE (R254). -/
def execEventTailReadDone (g : Fin 16) (d : HostRes) (s : State) : Host.Outcome State Fault Refusal := act s fun s => s.evTail g d

/-- EVENT_HEAD_READ_DONE (R257). -/
def execEventHeadReadDone (g : Fin 16) (d : HostRes) (s : State) : Host.Outcome State Fault Refusal := act s fun s => s.evHead g d

end Sys2Proof.Machine
end

