-- ==== Sys2Proof/Machine/Streams.lean ====
section
/-! DEFINITION. Periodic-in slots and stream rings, and the ring reads of periodic-out pipes
(spec/06_pipes_catalogue_buffers.md R190 to R197). -/

namespace Sys2Proof.Machine

/-! ### Slots (R190 to R195) -/

/-- Whether a slot's time is unqualified (R195). -/
def State.unqualified (s : State) (c quality : Nat) : Bool :=
  let w := s.qualOf c s.frame
  (F.pxQual_q_max c).of w < quality / 16 || bitOf ((F.pxQual_bad_cond c).of w) (quality % 8)

/-- A slot's bytes: time, length, quality, flags (R191). -/
def State.slotBytes (s : State) (time quality flags : Nat) (pl : List Byte) : List Byte :=
  leBytes 8 time ++ leBytes 4 s.frame ++ leBytes 2 pl.length ++ leBytes 1 quality ++ leBytes 1 flags ++ pl

/-- A slot with a flag bit set. -/
def slotFlag (b : List Byte) (i : Nat) : List Byte := listSet b 15 (BitVec.ofNat 8 (withBit (byteAt b 15) i))

/-- Whether the stream ring of a context takes host writes now (R314). -/
def State.streamOpen (s : State) (c : Nat) : Bool := s.dmaReady (s.pxGal c) && s.gal (s.pxGal c) != 4

/-- A slot is dropped (R193, R194): counted, and flagged on the next. -/
def State.slotGap (s : State) (c : Nat) : State := (s.bump (F.pxCntA_gaps c)).modCtx c fun x => { x with gap := true }

/-- Whether the cached software index makes the ring look full (R193, R315). A ring that has lapped stays full: PX_CNT_A.laps counts every
slot written over an unread one. DEDUCED (log 7): unsafe. -/
def State.ringFull (s : State) (c : Nat) : Bool :=
  (s.ctx c).swBad || 2 ^ s.get (F.pxStreamCfg_log2_slots c) ≤ (s.reg (R.pxDevIdx c) - s.reg (R.pxSwIdx c)).toNat

/-- The host address of slot i of a stream ring (R192). -/
def State.ringSlot (s : State) (c i : Nat) : Nat :=
  s.reg64 (R.pxRingBaseLo c) + i % 2 ^ s.get (F.pxStreamCfg_log2_slots c) * 64 * s.stride c

/-- The device index word of a stream ring is written (R192, R196). -/
def State.writeDevWord (s : State) (c : Nat) : State :=
  if s.dmaReady (s.pxGal c) then s.postWrite (s.pxGal c) 1 (s.reg64 (R.pxDevWordLo c)) (leBytes 4 (s.reg (R.pxDevIdx c)).toNat) else s

/-- The staging slot that number k takes in rotation (R184). -/
def State.inStage (s : State) (c k : Nat) : Nat := s.slotAt c (k % s.nSlots c)

/-- The bytes of staging slot k, with the flags that it goes out with: read from the region, or none when they hold an uncorrectable error (R23,
R191, R397). -/
def State.stageOut (s : State) (c k : Nat) (b : List Byte) : Option (List Byte) × State :=
  let a := s.inStage c k
  let s1 := if s.ram (a + 15) = b.getD 15 0 then s else s.setRam (a + 15) (b.getD 15 0)
  let x := s1.ramRead a b.length 2
  (if x.1.isSome then none else some (s1.ramBytes a b.length), x.2)

/-- The slot staged as number k is written to host memory, then the device index word (R29, R192); while the ring takes no host writes it is dropped
(R314), and so is one that its region gives back with an uncorrectable error (R397). -/
def State.slotOut (s : State) (c k : Nat) (b : List Byte) (lap : Bool) : State :=
  if !s.streamOpen c then s.slotGap c else
  let b1 := if (s.ctx c).gap then slotFlag b 2 else b
  let x := s.stageOut c k (if lap then slotFlag b1 1 else b1)
  match x.1 with
  | none => x.2.slotGap c
  | some b2 =>
    let a := s.ringSlot c (s.reg (R.pxDevIdx c)).toNat
    let s1 := x.2.postWrite (s.pxGal c) 1 a (fit (ceilDiv b2.length 8 * 8) b2)
    let s2 := if lap then s1.bump (F.pxCntA_laps c) else s1
    ((s2.setReg (R.pxDevIdx c) (s.reg (R.pxDevIdx c) + 1)).modCtx c fun x => { x with gap := false }).writeDevWord c

/-- A slot that finds the ring still full: dropped, or written over an unread one (R193). -/
def State.slotFull (s : State) (c k : Nat) (b : List Byte) : State :=
  if s.flag (F.pxStreamCfg_keep_new c) then s.slotOut c k b true else s.slotGap c

/-- Read an index word of a stream ring on TC1. -/
def State.indexRead (s : State) (c : Nat) (dev : Bool) : State :=
  if (s.ctx c).reading || !s.streamOpen c then s
  else (s.modCtx c fun x => { x with reading := true }).dmaRead (s.pxGal c) 1 (.swIndex c) (s.reg64 (if dev then R.pxDevWordLo c else R.pxSwWordLo c)) 4

/-- The next staging slot takes the bytes (R184, R194). -/
def State.stageSlot (s : State) (c : Nat) (b : List Byte) : State :=
  let k := (s.ctx c).nextSlot
  let s1 := if s.get (F.pxRegion_size c) = 0 then s else s.setRamBytes (s.inStage c k) b
  s1.modCtx c fun x => { x with nextSlot := (k + 1) % 2 ^ 32 }

/-- A slot of a periodic-in pipe (R192 to R194, R314). Until the device index has been read it waits in its staging slot. -/
def State.slotIn (s : State) (c : Nat) (b : List Byte) : State :=
  let x := s.ctx c
  if !s.flag (F.pxStreamCfg_ring_enable c) then s.stageSlot c b
  else if s.nSlots c ≤ x.wait.length then s.slotGap c
  else if !s.streamOpen c then s.slotGap c
  else
    let s1 := s.stageSlot c b
    if x.wantDev then (s1.modCtx c fun x => { x with wait := x.wait ++ [b] }).indexRead c true
    else if !x.wait.isEmpty || s.ringFull c then (s1.modCtx c fun x => { x with wait := x.wait ++ [b] }).indexRead c false
    else s1.slotOut c x.nextSlot b false

/-- A slot with its qualification (R195), counted and delivered. -/
def State.slotNew (s : State) (c time quality flags : Nat) (pl : List Byte) : State :=
  let bad := s.unqualified c quality
  let s1 := if bad then s.bump (F.pxCntD_unqualified c) else s
  s1.slotIn c (s.slotBytes time quality (if bad then withBit flags 6 else flags) pl)

/-- A due frame of a periodic-in pipe without a sample (R190): counted, and an empty slot when write_missing is 1. -/
def State.slotMissed (s : State) (c : Nat) : State :=
  let s1 := s.bump (F.pxCntB_missed c)
  if s.pxKind c = 1 && s.flag (F.pxStreamCfg_write_missing c) then
    s1.slotNew c s.tk.boundary (s.chipQuality s.tk.boundary) 32 []
  else s1

/-- The slots that waited for the software index go out by it (R193). -/
def State.slotsGo (s : State) (c : Nat) : State :=
  let x := s.ctx c
  let k (i : Nat) : Nat := (x.nextSlot + 2 ^ 32 - x.wait.length + i) % 2 ^ 32
  forEach x.wait.zipIdx (s.modCtx c fun x => { x with wait := [] }) fun s b =>
    if s.ringFull c then s.slotFull c (k b.2) b.1 else s.slotOut c (k b.2) b.1 false

/-! ### Periodic-out rings (R196, R197) -/

/-- Whether an out ring shows a slot that is not read yet. -/
def State.outMore (s : State) (c : Nat) : Bool := s.reg (R.pxSwIdx c) != (s.ctx c).rdIdx

/-- Read the next slot of an out ring on TC1. -/
def State.outSlotRead (s : State) (c f : Nat) : State :=
  (s.modCtx c fun x => { x with outRead := some f }).dmaRead (s.pxGal c) 1 (.outRing c) (s.ringSlot c (s.ctx c).rdIdx.toNat) (64 * s.stride c)

/-- A read that the ring no longer waits for: its failure is one of a ring or index word all the same (R308, R315). -/
def State.lateIndex (s : State) (c : Nat) (who : Reader) (r : HostRes) : State :=
  let h := s.lateData who 2 r
  if h.1 then h.2.hostErr (s.pxGal c) else h.2

/-- An index word has been read (R193, R194, R196, R315). -/
def State.indexDone (s : State) (c : Nat) (r : HostRes) : State :=
  let x := s.ctx c
  if !x.reading || 2 ≤ s.readsOf (.swIndex c) then s.lateIndex c (.swIndex c) r
  else
    let h := (s.modCtx c fun x => { x with reading := false }).hostData (.swIndex c) 2 r
    match h.1 with
    | none =>
      let s1 := h.2.hostErr (s.pxGal c)
      if x.wantDev then forEach x.wait (s1.modCtx c fun x => { x with wait := [] }) fun s _ => s.slotGap c
      else (s1.modCtx c fun x => { x with swBad := true }).slotsGo c
    | some b =>
      let v := BitVec.ofNat 32 (leAt b 0 4)
      if x.wantDev then
        let s1 := ((h.2.setReg (R.pxDevIdx c) v).setReg (R.pxSwIdx c) v).modCtx c fun x =>
          { x with wantDev := false, slots := [], rdIdx := v }
        if s.pxKind c = 2 then s1.indexRead c false else s1.slotsGo c
      else
        let s1 := (h.2.setReg (R.pxSwIdx c) v).modCtx c fun x => { x with swBad := false }
        if s.pxKind c = 2 then (if s1.outMore c then s1.outSlotRead c (nextDue s1) else s1) else s1.slotsGo c
where
  /-- The newest frame whose plan is still open. -/
  nextDue (s : State) : Nat := (s.frame + 2) % 2 ^ 32

/-- The staging slot of a periodic-out region that a ring index uses, and how many there are (R184). -/
def State.outStages (s : State) (c : Nat) : Nat :=
  max 1 (s.get (F.pxRegion_size c) / max 1 (s.stride c) - s.get (F.pxBind_reflex_target c) - 1)
def State.outStage (s : State) (c i : Nat) : Nat := s.slotAt c (s.get (F.pxBind_reflex_target c) + 1 + i % s.outStages c)

/-- The ring index of slot j of those held. -/
def State.heldIdx (s : State) (c j : Nat) : Nat := ((s.ctx c).rdIdx - BitVec.ofNat 32 (s.ctx c).slots.length + BitVec.ofNat 32 j).toNat

/-- Held slot j is put into its staging slot, header and payload. -/
def State.outPut (s : State) (c j : Nat) : State :=
  match (s.ctx c).slots[j]? with
  | some b => s.setRamBytes (s.outStage c (s.heldIdx c j)) (b.take (16 + min (leAt b 12 2) (s.pxMax c)))
  | none => s

/-- The head of the slots held leaves: the first that had no staging slot takes the one that is free (R184, R197). -/
def State.outPop (s : State) (c : Nat) : State :=
  (s.modCtx c fun x => { x with slots := x.slots.drop 1, again := false }).outPut c (s.outStages c - 1)

/-- A slot of an out ring has been read (R197): it waits at the end of those held, in the staging area of its region once that has room. -/
def State.outSlotDone (s : State) (c : Nat) (r : HostRes) : State :=
  if (s.ctx c).outRead.isNone || 2 ≤ s.readsOf (.outRing c) then s.lateIndex c (.outRing c) r
  else
    let h := (s.modCtx c fun x => { x with outRead := none }).hostData (.outRing c) 2 r
    match h.1 with
    | none => h.2.hostErr (s.pxGal c)
    | some b =>
      let k := (s.ctx c).slots.length
      let s1 := h.2.modCtx c fun x => { x with slots := x.slots ++ [fit (64 * s.stride c) b], rdIdx := x.rdIdx + 1 }
      if k < s.outStages c then s1.outPut c k else s1

/-! ### The commands -/

/-- SW_INDEX_READ_DONE (R193): a stream ring's index word has been read. -/
def execSwIndexReadDone (c : Fin 2048) (r : HostRes) (s : State) : Host.Outcome State Fault Refusal := act s fun s => s.indexDone c r

end Sys2Proof.Machine
end

