-- ==== Sys2Proof/Machine/Supply.lean ====
section
/-! DEFINITION. Starting a change of the core supply, and the forced step-up (spec/16_conservator.md R420, R423, R424). -/

namespace Sys2Proof.Machine

/-- Send a command on PMBus to a regulator, by its address, at the speed and with the error checking of CN_PMB_CFG (R420). -/
def State.pmbTo (s : State) (addr cmd : Nat) (d : List Byte) : State :=
  (s.put F.cnPmbStatus_last_cmd cmd).emit (.pmbus addr (s.flag F.cnPmbCfg_slow) (s.flag F.cnPmbCfg_pec) cmd d)

/-- Send a command to the core regulator. -/
def State.pmb (s : State) (cmd : Nat) (d : List Byte) : State := s.pmbTo (s.get F.cnPmbCfg_core_addr) cmd d

/-- Begin a supply change, in place of one that runs (R420). -/
def State.supplyGo (s : State) (use : SupplyFor) (mv : Nat) : State :=
  ({ s with cn := { s.cn with supply := some { use := use, mv := mv } } } : State).pmb 0x21 (voutData mv)

/-- The setpoint that a forced step-up raises: that of an upward change which runs, or the one last confirmed. -/
def State.risingMv (s : State) : Nat :=
  match s.cn.supply with
  | some u => max u.mv (s.get F.cnSupply_setpoint_mv)
  | none => s.get F.cnSupply_setpoint_mv

/-- A forced step-up (R424): 20 mV at once, and no step down for 10 s. A change that runs is replaced, unless it already asks for the highest
setpoint. None is made while supply changes are stopped (R421). -/
def State.forceUp (s : State) : State :=
  if s.gated || s.flag F.cnStatus_avs_halted then s
  else
    let s1 := (s.bump F.cnSupply_forced).raise F.cnEvents_forced_step
    let s2 := if s.cn.supply.any fun u => 880 ≤ u.mv then s1 else s1.supplyGo .forced (min 880 (s.risingMv + 20))
    { s2 with cn := { s2.cn with noDown := s.now + 10 * secNs } }

end Sys2Proof.Machine
end

