-- ==== Sys2Proof/Machine/Plans.lean ====
section
/-! DEFINITION. Routes as data, plans, periodic-out values, reflex outputs in the plan, issuing periodic packets
(spec/07_curator.md R201 to R217, R227 to R229, spec/06_pipes_catalogue_buffers.md R196 to R200). -/

namespace Sys2Proof.Machine

/-! ### Route entries (R280) -/

/-- The eight words of a route entry. -/
def State.route (s : State) (i : Nat) : List Nat := tget (fun _ => List.replicate 8 0) s.co.routes i

/-! ### The frame grid -/

/-- The frame rate in force just after an instant, a pending change included (R57). -/
def State.rateFrom (s : State) (t : Nat) : Nat :=
  match s.tk.rateAt with
  | some r => if r ≤ t then s.get F.tkFrameRate_requested else s.rate
  | none => s.rate

/-- The instant k boundaries after the boundary at t. -/
def State.frameGo (s : State) : Nat → Nat → Nat
  | 0, t => t
  | k + 1, t => s.frameGo k (nextBoundary (s.rateFrom t) t)

/-- The boundary that begins frame f, this one or one of the next 63. -/
def State.boundaryOf (s : State) (f : Nat) : Nat := s.frameGo ((f + 2 ^ 32 - s.frame) % 2 ^ 32 % 64) s.tk.boundary

/-- The next frame's number. -/
def nextFrame (f : Nat) : Nat := (f + 1) % 2 ^ 32

/-! ### Building (R213 to R215) -/

/-- Whether an event-in context is held back: no staging slot is free, or its gallery's event ring is full (R213, R257). -/
def State.eventHeld (s : State) (c : Nat) : Bool :=
  let g := s.pxGal c
  let always := s.polledAlways c (s.routedPipe (s.pxPort c) (s.pxAddr c) (s.pxPipe c))
  s.nSlots c ≤ sumOf ((List.range 16).map fun h => ((s.evr h).wait.filter fun e => e.ctx == c && e.ring).length) || (s.evFull g && !always)

/-- Whether a device lies beyond the reach of its port (R215). -/
def State.beyond (s : State) (n a : Nat) : Bool := s.fill n * 10 < s.get (F.gpRangeDev3_rtt n a)

/-- Whether a device of a tree that resumes is Resynced from its first FST on (R163 step 4): the frames planned until then count on it. -/
def State.resyncs (s : State) (n a : Nat) : Bool := (s.port n).resuming && s.devSt n a == 6 && (s.dev n a).hadRange

/-- Whether the plan of frame f can hold a context's items (R213). -/
def State.plannable (s : State) (n f c : Nat) : Bool :=
  let a := s.pxAddr c
  let back := s.resyncs n a
  (s.pxServed c f || (back && (s.ctx c).mode == 2)) && (s.isRanged n a || back) && !s.beyond n a

/-- The frame-relative apply time of an output of context c in frame f (R199). -/
def State.applyTime (s : State) (c f : Nat) : Option Nat :=
  let w := s.applyOf c f
  if (F.pxApply_apply_mode c).of w = 1 then
    some (s.boundaryOf ((f + max 1 ((F.pxApply_lead c).of w)) % 2 ^ 32) + (F.pxApply_offset_ns c).of w)
  else none

/-- Whether an entry of port n is shed in frame f: a rate or pw_open that takes effect by then is admitted afresh (R210). -/
def State.shedFor (s : State) (n f : Nat) : Nat → Bool :=
  let r := s.rateFrom (s.boundaryOf f)
  if r = s.rate && s.pwOf n f = s.pwOf n s.frame then s.isShed
  else
    let out := s.shedSet n r f
    fun i => out.contains i

/-- Whether a catalogue entry is shed in frame f, or the schedule that it still has then is (R210). -/
def State.shedIn (s : State) (n f : Nat) (e : Nat × CatEntry) : Bool := s.shedFor n f e.1 || e.2.shedTo.any fun u => newer u f

/-- The items of the plan of frame f for port n, not yet placed (R213). -/
def State.planItems (s : State) (n f : Nat) : List PlanItem :=
  (s.partition n).flatMap fun e =>
    let c := e.2.ctx
    match e.2.due f with
    | none => []
    | some r =>
      if s.shedIn n f e || !s.plannable n f c then []
      else
        let k := s.pxKind c
        let it : PlanItem := { idx := e.1, ctx := c, kind := k, reflex := false, apply := if k = 2 then s.applyTime c f else none }
        (if k = 5 && s.eventHeld c then [] else [it]) ++ (if r && k = 2 then [{ it with reflex := true, apply := none }] else [])

/-- Whether item x goes before item y within its group: rtt descending, then context ascending (R214). -/
def State.itemBefore (s : State) (n : Nat) (x y : PlanItem) : Bool :=
  let r (i : PlanItem) := s.get (F.gpRangeDev3_rtt n (s.pxAddr i.ctx))
  r y < r x || (r x == r y && x.ctx ≤ y.ctx)

/-- Insertion of an item in the order of R214. -/
def State.insertItem (s : State) (n : Nat) (x : PlanItem) : List PlanItem → List PlanItem
  | [] => [x]
  | y :: ys => if s.itemBefore n x y then x :: y :: ys else y :: s.insertItem n x ys

/-- Two groups, reflex slots first, each sorted (R214). -/
def State.sortItems (s : State) (n : Nat) (xs : List PlanItem) : List PlanItem :=
  (xs.filter (·.reflex)).foldr (s.insertItem n) [] ++ (xs.filter (!·.reflex)).foldr (s.insertItem n) []

/-- Placement by R214 in 100 ps from the boundary, from the downstream start d and the upstream instant up: the items, where the next packet may
start, and the end of the last slot. -/
def State.placeItems (s : State) (n : Nat) : Nat → Nat → Nat → List PlanItem → List PlanItem × Nat × Nat
  | d, _, e, [] => ([], d, e)
  | d, up, _, x :: xs =>
    let pr := s.pxPR x.ctx
    let rtt := s.get (F.gpRangeDev3_rtt n (s.pxAddr x.ctx))
    let start := ceilDiv (max d (up - (pr.1 - 4) * 10 - rtt)) 40 * 40
    let sop := start + (pr.1 - 4) * 10 + rtt
    let e := sop + pr.2 * 10
    let y := s.placeItems n (start + pr.1 * 10 + 80) (e + s.slotGuard n) e xs
    ({ x with start := start } :: y.1, y.2)

/-- Sorted items placed as the plan of frame f for port n. -/
def State.planWith (s : State) (n f : Nat) (items : List PlanItem) : Plan :=
  let d := s.pwOf n f * 10
  let y := s.placeItems n d 0 d items
  { frame := f, items := y.1, endNs := ceilDiv y.2.2 10, dEnd := y.2.1, upEnd := if items.isEmpty then 0 else y.2.2 }

/-- The plan of frame f for port n. -/
def State.planOf (s : State) (n f : Nat) : Plan := s.planWith n f (s.sortItems n (s.planItems n f))

/-- The plans not yet in force are placed again, with the guard that now holds (R374). -/
def State.plansAgain (s : State) (n : Nat) : State :=
  s.modCu n fun cu => { cu with plans := cu.plans.map fun p => { s.planWith n p.frame p.items with closed := p.closed, late := p.late } }

/-- Re-admission of port n at the rate in force (R210). The plans already built and not closed are built again with the entries that are shed
now; a closed one stays. -/
def State.readmit (s : State) (n : Nat) : State :=
  let out := s.shedSet n s.rate s.frame
  let same := (s.partition n).all fun e => s.isShed e.1 == (out.contains e.1 || (e.2.until_.isSome && s.isShed e.1))
  let s1 := forEach (s.partition n) s fun s e => s.setShed e.1 (out.contains e.1 || (e.2.until_.isSome && s.isShed e.1))
  let s2 := if out.isEmpty then s1 else s1.raise F.cuEvents_shed
  (if same then s2 else s2.modCu n fun cu => { cu with plans := cu.plans.map fun p => if p.closed then p else s2.planOf n p.frame }).loadShow n

/-- Re-admission of every port. -/
def State.readmitAll (s : State) : State := forEach s.ports s fun s n => s.readmit n

/-- Due frames lost to devices beyond the reach of port n (R215). -/
def State.reachLost (s : State) (n f : Nat) : State :=
  forEach (s.partition n) s fun s e =>
    let a := s.pxAddr e.2.ctx
    if (e.2.due f).isSome && !s.shedIn n f e && s.pxServed e.2.ctx f && s.isRanged n a && s.beyond n a then
      ((s.raise F.cuEvents_reach_exceeded).bump (F.cuPortReach_count n)).put (F.cuPortReach_last_addr n) a
    else s

/-- The frame whose plans are being built, and the port whose plan is next: the plans of the next frame, while it is open, come before those of
the frame after it, and the ports in ascending order (R201). -/
def State.building (s : State) : Option (Nat × Nat) :=
  let f := nextFrame s.frame
  let open_ (f n : Nat) : Bool := s.link n == 3 && (s.cuPort n).begun.contains f && !(s.cuPort n).plans.any (·.frame == f)
  let first (f : Nat) : Option (Nat × Nat) := (s.ports.find? (open_ f)).map fun n => (f, n)
  match if s.cutoff = f then none else first f with
  | some x => some x
  | none => first (nextFrame f)

/-- The build of port n's plan completes (R201, R227): the plan is kept, and the time noted. -/
def State.planBuild (s : State) (n : Nat) : State :=
  match s.building with
  | some (f, m) =>
    if m = n then
      let s1 := (s.modCu n fun cu => { cu with plans := cu.plans ++ [s.planOf n f] }).reachLost n f
      { s1 with built := (f, s.now) :: s1.built.filter (·.1 != f) }
    else s
  | none => s

/-! ### Periodic-out values (R196 to R200) -/

/-- A ring slot of a periodic-out context is consumed: the head moves on. -/
def State.consume (s : State) (c : Nat) : State :=
  (s.setReg (R.pxDevIdx c) (s.reg (R.pxDevIdx c) + 1)).writeDevWord c

/-- Whether frame f takes a slot: it has no target, or that of f, or a reflex has displaced it (R197 rules 2 and 3, R200). -/
def slotFor (f : Nat) (b : List Byte) (again : Bool) : Bool := again || !bitOf (byteAt b 15) 0 || leAt b 8 4 == f

/-- Whether a slot is discarded in frame f: too long, its target older or not newer than the last output the partner mirrored, or, where frame f
would send it, its apply time 2^31 ns or more after the boundary (R197, R199, R376). -/
def State.slotDiscarded (s : State) (c f : Nat) (b : List Byte) (again : Bool) : Bool :=
  let k := pipeKey (s.pxPort c) (s.pxAddr c) (s.pxPipe c)
  s.pxMax c < leAt b 12 2 || (bitOf (byteAt b 15) 0 && !again && newer f (leAt b 8 4)) ||
  (bitOf (byteAt b 15) 0 && s.sharedPort (s.pxPort c) && s.tw.outs.any (fun e => e.1 == k && !newer (leAt b 8 4) e.2)) ||
  (slotFor f b again && leAt b 0 8 != 0 && s.boundaryOf f + 2 ^ 31 ≤ leAt b 0 8)

/-- Slots at the head that are discarded in frame f leave (R197 rule 1). -/
def State.dropSlots (f : Nat) : Nat → State → Nat → State
  | 0, s, _ => s
  | k + 1, s, c =>
    match (s.ctx c).slots with
    | b :: _ =>
      if s.slotDiscarded c f b (s.ctx c).again then
        State.dropSlots f k (((s.outPop c).bump (F.pxCntD_discarded c)).consume c) c
      else s
    | [] => s

/-- The head slot, when frame f may take it. -/
def State.headSlot (s : State) (c f : Nat) : Option (List Byte) :=
  match (s.ctx c).slots with
  | b :: _ => if slotFor f b (s.ctx c).again then some b else none
  | [] => none

/-- A value from a slot's header and payload. -/
def valOf (hdr pl : List Byte) (apply : Option Nat) (ring : Bool) : OutVal :=
  { data := pl, apply := if leAt hdr 0 8 = 0 then apply else some (leAt hdr 0 8), fromRing := ring, hdr := hdr }

/-- A value that could not be read when the plan closed: not planned, missed and an error (R397). -/
def State.outLost (s : State) (c : Nat) : State := (s.bump (F.pxCntB_missed c)).bump (F.pxCntB_errors c)

/-- The hold value of a context (R198); a repeated plan sends it whatever out_idle says (R228). -/
def State.holdVal (s : State) (c f : Nat) (it : PlanItem) (rep : Bool := false) : Option OutVal × State :=
  if !rep && (F.pxApply_out_idle c).of (s.applyOf c f) = 1 then (none, s)
  else
    let a := s.holdSlot c
    let x := s.ramRead a (16 + s.pxMax c) 2
    if x.1.isSome then (none, x.2.outLost c)
    else
      let h := s.ramBytes a 16
      (some (valOf h (s.ramBytes (a + 16) (min (leAt h 12 2) (s.pxMax c))) it.apply false), x.2)

/-- The value that the plan of frame f sends for a scheduled output, read from its staging slot or its hold slot (R23, R197, R198). -/
def State.chooseVal (s : State) (c f : Nat) (it : PlanItem) : Option OutVal × State :=
  if s.flag (F.pxStreamCfg_ring_enable c) then
    let s1 := State.dropSlots f 65536 s c
    match s1.headSlot c f with
    | some b =>
      let a := s1.outStage c (s1.heldIdx c 0)
      let x := s1.ramRead a (16 + leAt b 12 2) 2
      let s2 := x.2.outPop c
      if x.1.isSome then (none, (s2.outLost c).consume c)
      else (some (valOf (s1.ramBytes a 16) (s1.ramBytes (a + 16) (leAt b 12 2)) it.apply true), s2)
    | none => s1.holdVal c f it
  else s.holdVal c f it

/-- The frames whose plans are open and in which an entry of context c is due, in order: of the next frame before its cut-off, and of the frame
after it (R197, R201). -/
def State.openDue (s : State) (c : Nat) : List Nat :=
  let f := nextFrame s.frame
  ((if s.cutoff = f then [] else [f]) ++ [nextFrame f]).filter fun f => s.cat.any fun e => e.2.ctx == c && (e.2.due f).isSome

/-- Whether the slots given settle what each of these due frames sends: taken in order, by the rules of R197, none finds them used up. -/
def State.outCovers (s : State) (c : Nat) : List Nat → List (List Byte) → Bool → Bool
  | [], _, _ => true
  | f :: fs, bs, again =>
    let rest := if again then bs else bs.dropWhile fun b => s.slotDiscarded c f b false
    match rest with
    | [] => false
    | b :: t => if slotFor f b again then s.outCovers c fs t false else s.outCovers c fs rest false

/-- Held slots that the first open due frame discards leave (R197 rule 1). -/
def State.outPurge (s : State) (c : Nat) : State :=
  match s.openDue c with
  | f :: _ => State.dropSlots f 65536 s c
  | [] => s

/-- The ring of a periodic-out context is read on for frame f until the slots held settle the open due frames: its tail word first when no slot is
known to wait (R197). -/
def State.outNext (s : State) (c f : Nat) : State :=
  let x := s.ctx c
  if !s.flag (F.pxStreamCfg_ring_enable c) || !s.streamOpen c || x.outRead.isSome || s.outCovers c (s.openDue c) x.slots x.again then s
  else if x.wantDev then s.indexRead c true
  else if s.outMore c then s.outSlotRead c f
  else s.indexRead c false

/-- The ring of a periodic-out context is read for a due frame from the boundary two frames before it on (R197). -/
def State.outRingRead (s : State) (c f : Nat) : State :=
  if s.flag (F.pxStreamCfg_ring_enable c) then (s.outPurge c).outNext c f else s

/-- OUT_RING_READ_DONE (R197): the slots at the head that the first open due frame discards leave, and the ring is read on while it shows more. -/
def State.outRingDone (s : State) (c : Nat) (r : HostRes) : State :=
  let s1 := s.outSlotDone c r
  match (s.ctx c).outRead with
  | none => s1
  | some f => if (s1.ctx c).rdIdx = (s.ctx c).rdIdx then s1 else
      let s2 := s1.outPurge c
      if s2.outMore c then s2.outNext c f else s2

/-- A ring slot chosen and not sent goes back to the head, and into its staging slot. -/
def State.slotBack (s : State) (c : Nat) (v : OutVal) : State :=
  if v.fromRing then (s.modCtx c fun x => { x with slots := (v.hdr ++ v.data) :: x.slots }).outPut c 0 else s

/-- A scheduled output is displaced: counted, not consumed, and sent at the next due frame (R34, R200). -/
def State.outDisplaced (s : State) (c : Nat) (v : OutVal) : State :=
  let s1 := (s.slotBack c v).bump (F.pxCntC_displaced c)
  if v.fromRing then s1.modCtx c fun p => { p with again := true } else s1

/-! ### Reflex outputs (R217, R286, R287) -/

/-- The first frame that a reflex output delivered now can be sent in (R217). -/
def State.reflexFrame (s : State) : Nat :=
  let f := nextFrame s.frame
  if s.cutoff = f then nextFrame f else f

/-- The first frame from f on that holds no reflex for the context; at most four wait (R287). -/
def reflexFree (xs : List ReflexOut) (c : Nat) : Nat → Nat → Nat
  | 0, f => f
  | k + 1, f => if xs.any (fun x => x.ctx == c && x.frame == f) then reflexFree xs c k (nextFrame f) else f

/-- Reflex outputs of a context that are placed and not sent. -/
def State.reflexHeld (s : State) (c : Nat) : List ReflexOut :=
  let cu := s.cuPort (s.pxPort c)
  (cu.later ++ cu.reflexes).filter (·.ctx == c)

/-- Reflex outputs of a context that wait behind the one of the next open frame (R287). DEDUCED (log 8): the one that the next plan sends does
not wait. -/
def State.reflexWait (s : State) (c : Nat) : List ReflexOut :=
  (s.cuPort (s.pxPort c)).later.filter fun r => r.ctx == c && r.frame != s.reflexFrame

/-- A slot header of a value without apply time. -/
def plainHdr (len : Nat) : List Byte := leBytes 12 0 ++ leBytes 2 len ++ leBytes 2 0

/-- Put a reflex output in its place by frame. -/
def reflexInsert (r : ReflexOut) : List ReflexOut → List ReflexOut
  | [] => [r]
  | x :: xs => if newer x.frame r.frame then r :: x :: xs else x :: reflexInsert r xs

/-- The mirror items of a context's reflex outputs that are placed and not sent, the four of the earliest frames, and of a placement (R349, R372): a
new owner sends them (R376). -/
def State.mirrorWaiting (s : State) (c : Nat) : State :=
  if s.mirrors (s.pxPort c) then
    let ws := ((s.reflexHeld c).foldr reflexInsert []).take 4
    s.mirrorItem 7 (s.pxPort c) (s.pxAddr c) (s.pxPipe c) c
      (leBytes 8 ws.length ++ ws.flatMap fun w => leBytes 8 w.ts ++ leBytes 2 w.payload.length ++ leBytes 6 0 ++ fit 56 w.payload)
  else s

def placementBody (r : ReflexOut) : List Byte := leBytes 4 r.frame ++ leBytes 4 0 ++ leBytes 8 r.ts

def State.mirrorPlacement (s : State) (r : ReflexOut) : State :=
  let c := r.ctx
  if s.mirrors (s.pxPort c) then s.mirrorItem 6 (s.pxPort c) (s.pxAddr c) (s.pxPipe c) 0 (placementBody r) else s

/-- Whether the mirror message of a placement is not yet acknowledged (R373). Its pipe and source event name it: the frame numbers of one that
has been sent are those of its sending (R366). -/
def State.placementOpen (s : State) (r : ReflexOut) : Bool :=
  let key : List Byte := [6, s.pxPort r.ctx, s.pxAddr r.ctx, s.pxPipe r.ctx].map (BitVec.ofNat 8 ·)
  let is (b : List Byte) : Bool := b.take 4 == key && leAt b 16 8 == r.ts
  (s.tw.mirror.any fun x => is x.payload) ||
  ((s.spanPort 3).replay.any fun x => byteAt x.2.2.2.tsd 0 == 0x11 && is x.2.2.2.payload) ||
  s.tw.unacked.any fun b => b.take 4 == key && leAt b 12 8 == r.ts

/-- A reflex output dropped for a cause (R286 to R288). -/
def State.reflexDrop (s : State) (cause chip port addr pipe : Nat) : State :=
  ((s.bump F.coReflexCnt_dropped).setReg R.coReflexLast
    (BitVec.ofNat 32 (cause * 2 ^ 29 + chip * 2 ^ 23 + port * 2 ^ 20 + addr * 2 ^ 14 + pipe * 2 ^ 10))).raise F.coEvents_reflex_dropped

/-- A reflex output that was placed for context c of port n can no longer be sent, and is dropped (R155): the cause is that of the first item of
R286 that fails now. DEDUCED (log 8). -/
def State.reflexLost (s : State) (n c : Nat) : State :=
  if s.ownsPort n then
    s.reflexDrop (if s.link n != 3 && s.link n != 4 then 6 else if s.pxServed c s.frame then 1 else 2) s.chip n (s.pxAddr c) (s.pxPipe c)
  else s

/-- A reflex output is placed for a frame: kept, written into the reflex slot when it is the pipe's next, and mirrored. -/
def State.reflexPlace (s : State) (r : ReflexOut) : State :=
  let c := r.ctx
  let first := (s.reflexHeld c).isEmpty
  let s1 := s.modCu (s.pxPort c) fun cu => { cu with later := cu.later ++ [r] }
  let s2 := if first && s.flag (F.pxBind_reflex_target c) then
      s1.setRamBytes (s.reflexSlot c) (plainHdr r.payload.length ++ r.payload) else s1
  (s2.mirrorPlacement r).mirrorWaiting c

/-- A placement goes back to a later frame, ahead of the outputs that have come after it: each of these that stands there moves on by one frame
(R287). k bounds the number. -/
def reflexPush : Nat → List ReflexOut → ReflexOut → List ReflexOut
  | 0, xs, r => xs ++ [r]
  | k + 1, xs, r => match xs.find? fun x => x.ctx == r.ctx && x.frame == r.frame with
    | some y => reflexPush k (xs.erase y ++ [r]) { y with frame := nextFrame y.frame }
    | none => xs ++ [r]

/-- A reflex output that frame f cannot send waits for the next frame, and with it those behind it: as many wait as before (R287). -/
def State.reflexMove (s : State) (n f : Nat) (r : ReflexOut) : State :=
  let old := (s.cuPort n).later
  let new := reflexPush 8 old { r with frame := nextFrame f }
  (forEach (new.filter fun x => !old.contains x) (s.modCu n fun cu => { cu with later := new }) fun s x => s.mirrorPlacement x).mirrorWaiting r.ctx

/-- Put a reflex output into the plan of frame f of port n: the pipe's reflex slot, its scheduled slot, or an urgent insertion (R217). -/
def putReflex (r : ReflexOut) (items : List PlanItem) : Option (List PlanItem) :=
  let v : OutVal := { data := r.payload, hdr := plainHdr r.payload.length }
  let rec put (p : PlanItem → Bool) : List PlanItem → List PlanItem
    | [] => []
    | x :: xs => if p x then { x with val := some v, ts := some r.ts } :: xs else x :: put p xs
  if items.any fun x => x.reflex && x.ctx == r.ctx then some (put (fun x => x.reflex && x.ctx == r.ctx) items)
  else if items.any fun x => x.kind == 2 && x.ctx == r.ctx then some (put (fun x => x.kind == 2 && x.ctx == r.ctx) items)
  else none

/-- Reflex outputs for frame f of port n go into its plan (R217); with `late` the plan is a repeat and what has no place waits for the next
frame (R228). On a mirrored tree a placement not yet acknowledged moves on (R373), and so does one whose pipe still has an urgent insertion
waiting (R287). -/
def State.reflexesInto (s : State) (n f : Nat) (late : Bool) (items : List PlanItem) : List PlanItem × State :=
  let mine := (s.cuPort n).later.filter (·.frame == f)
  let s0 := s.modCu n fun cu => { cu with later := cu.later.filter (·.frame != f) }
  let move (s : State) (r : ReflexOut) : State := s.reflexMove n f r
  mine.foldl (fun (x : List PlanItem × State) r =>
    if x.2.mirrors n && x.2.placementOpen r then (x.1, (move x.2 r).bump F.twMirror_late)
    else if (s.cuPort n).reflexes.any (·.ctx == r.ctx) then (x.1, move x.2 r)
    else match putReflex r x.1 with
      | some ys =>
        (ys, if x.2.flag (F.pxBind_reflex_target r.ctx) then
            x.2.setRamBytes (x.2.reflexSlot r.ctx) (plainHdr r.payload.length ++ r.payload) else x.2)
      | none =>
        if late then (x.1, move x.2 r)
        else (x.1, x.2.modCu n fun cu => { cu with reflexes := cu.reflexes ++ [r] })) (items, s0)

/-! ### Closing (R202, R228, R229) -/

/-- Whether a scheduled output of a context is displaced in these items: a reflex output of the pipe stands in them (R34). -/
def displacedIn (items : List PlanItem) (c : Nat) : Bool := items.any fun x => x.ctx == c && x.ts.isSome

/-- Give a scheduled output its value, or note that a reflex displaces it (R34, R200). With `late` only the hold value is used: in a repeated
plan (R228: `rep`), and in the plan of a standby, which is not sent (R371). -/
def State.closeItem (s : State) (f : Nat) (late rep : Bool) (items : List PlanItem) (it : PlanItem) : PlanItem × State :=
  if it.kind ≠ 2 then (it, s)
  else if !s.ownsPort (s.pxPort it.ctx) && displacedIn items it.ctx then (it, s)
  else
    let taken := displacedIn items it.ctx
    if it.reflex then
      (it, s)
    else if taken then
      let x := if late then s.holdVal it.ctx f it rep else s.chooseVal it.ctx f it
      match x.1 with
      | some v => (it, x.2.outDisplaced it.ctx v)
      | none => (it, x.2)
    else
      let x := if late then s.holdVal it.ctx f it rep else s.chooseVal it.ctx f it
      ({ it with val := x.1 }, x.2)

/-- The plan of frame f closes: reflex outputs, then the values of the scheduled outputs. -/
def State.closeItems (s : State) (n f : Nat) (late : Bool) (items : List PlanItem) : List PlanItem × State :=
  let x := s.reflexesInto n f late items
  x.1.foldl (fun (a : List PlanItem × State) it =>
    let y := a.2.closeItem f (late || !s.ownsPort n) late x.1 it
    (a.1 ++ [y.1], y.2)) ([], x.2)

/-- The plan-late fallback of R228, with its forced step-up (R424). -/
def State.planLate (s : State) (f n : Nat) (inj : Bool) : State :=
  let old : Plan := (s.cuPort n).plan.getD { frame := f, items := [], endNs := s.pwOf n f }
  let s1 := (((s.bump (F.cuPortLate_late_frames n)).raise F.cuEvents_plan_late).detect 0x11 1 n f inj).forceUp
  let x := s1.closeItems n f true (old.items.map fun it =>
    { it with val := none, ts := none, apply := if it.kind = 2 && !it.reflex then s.applyTime it.ctx f else none })
  x.2.modCu n fun cu =>
    { cu with plans := { old with frame := f, items := x.1, closed := true, late := true } :: cu.plans.filter (·.frame != f) }

/-- The plan of frame f for one port at its cut-off: closed, or replaced by the plan in force (R228). Where no plan was begun, a reflex output
for the frame is an urgent insertion (R217); where the link is not Active, it is dropped. -/
def State.closePort (s : State) (f : Nat) (n : Nat) : State :=
  let cu := s.cuPort n
  if s.link n != 3 then
    let s0 := s.modCu n fun cu =>
      { cu with begun := cu.begun.filter (· != f), plans := cu.plans.filter (·.frame != f), later := cu.later.filter (·.frame != f) }
    forEach (cu.later.filter (·.frame == f)) s0 fun s r => s.reflexLost n r.ctx
  else if !cu.begun.contains f then (s.reflexesInto n f false []).2
  else
      let s0 := s.modCu n fun cu => { cu with begun := cu.begun.filter (· != f) }
      let i := s0.inject 0x11 n fun _ => true
      match cu.plans.find? (·.frame == f) with
      | some p =>
        if i.1 then i.2.planLate f n true else
        let x := i.2.closeItems n f false p.items
        x.2.modCu n fun cu => { cu with plans := { p with items := x.1, closed := true } :: cu.plans.filter (·.frame != f) }
      | none => i.2.planLate f n i.1

/-- The cut-off of the next frame (R201, R202, R228, R229). -/
def State.planCutoff (s : State) : State :=
  let f := nextFrame s.frame
  let t := nextBoundary s.rate s.tk.boundary - 1000
  if s.cutoff = f then s
  else
    let s0 := s.advanceTo t
    let ports := s0.ports.filter fun n => (s0.cuPort n).begun.contains f && s0.link n == 3
    let late0 := s0.ports.any fun n => (s0.cuPort n).begun.contains f && s0.link n == 3 && !(s0.cuPort n).plans.any (·.frame == f)
    let s1 : State := { s0 with cutoff := f }
    let s2 := forEach s1.ports s1 fun s n => s.closePort f n
    if ports.isEmpty then s2
    else
      let late := late0 || ports.any fun n => (s2.cuPort n).plans.any fun p => p.frame == f && p.late
      let m := if late then 0 else match s2.built.find? (·.1 == f) with
        | some b => min 65535 ((t - b.2) / 100)
        | none => 0
      let s3 := (s2.put F.cuPlanMargin_last_margin m).put F.cuPlanMargin_min_margin (min m (s2.get F.cuPlanMargin_min_margin))
      { s3 with
        built := s3.built.filter (·.1 != f)
        cn := { s3.cn with mMin := some (min m (s3.cn.mMin.getD m)) } }

/-! ### Issuing (R214, R203) -/

/-- The header of a periodic-out packet (R101). -/
def outHdr (a p : Nat) (arm : Bool) (v : OutVal) : Hdr :=
  { downHdr 2 a p with
    arm := b2n (arm && !v.data.isEmpty)
    tsb := b2n v.apply.isSome
    tsc := (v.apply.getD 0) % 2 ^ 32 }

/-- The time and frame of the last transaction handled on a context. -/
def State.lastUse (s : State) (c t : Nat) : State :=
  (s.setReg64 (R.pxLastTimeLo c) t).setReg (R.pxLastFrame c) (BitVec.ofNat 32 s.frame)

/-- The value sent becomes the hold value (R197, R200). -/
def State.toHold (s : State) (c : Nat) (v : OutVal) : State := s.setRamBytes (s.holdSlot c) (fit 16 v.hdr ++ v.data)

/-- The hold value and the frame of the last output of a context are mirrored (R372). -/
def State.mirrorHold (s : State) (c : Nat) (v : OutVal) : State :=
  if s.mirrors (s.pxPort c) && !v.bad then
    s.mirrorItem 4 (s.pxPort c) (s.pxAddr c) (s.pxPipe c) c (leBytes 8 s.frame ++ fit 16 v.hdr ++ v.data)
  else s

/-- A reflex output is read at sending from the pipe's reflex slot, where it is put again when another has stood there since: its bytes, or a packet
that ends in EOB (R23, R200, R397). -/
def State.reflexRead (s : State) (c : Nat) (v : OutVal) : OutVal × State :=
  if s.flag (F.pxBind_reflex_target c) then
    let a := s.reflexSlot c
    let b := fit 16 v.hdr ++ v.data
    let s1 := if s.ramBytes a b.length == b then s else s.setRamBytes a b
    let x := s1.ramRead a b.length 2
    ({ v with data := s1.ramBytes (a + 16) v.data.length, bad := x.1.isSome }, x.2)
  else (v, s)

/-- Send a periodic-out value at d: it is consumed from its ring, becomes the hold value and is mirrored; what could not be read does not. -/
def State.sendOut (s : State) (n d c : Nat) (v : OutVal) (reflex : Bool) : State :=
  let y := if reflex then s.reflexRead c v else (v, s)
  let v := y.1
  let s1 := y.2.sendAt n d (outHdr (s.pxAddr c) (s.pxPipe c) (s.pxArm c) v) v.data (!v.bad) (.periodicOut c) 0 56
  let s2 := if (v.fromRing || reflex) && !v.bad then s1.toHold c v else s1
  let s3 := if v.fromRing then s2.consume c else s2
  (((s3.lastUse c (d / 10)).mirrorHold c v)).mirrorWaiting c

/-- A token to a periodic-in or event-in pipe. -/
def State.sendToken (s : State) (n d c : Nat) (use : XUse) : State :=
  let sq := if s.pxKind c = 5 then s.seqBit n (s.pxAddr c) (s.pxPipe c) else 0
  s.sendAt n d { downHdr 1 (s.pxAddr c) (s.pxPipe c) with tsa := sq, tsc := s.pxMax c } [] true use (s.pxMax c)
    (packetNs (s.pxArm c) (s.pxMax c))

/-- Whether a context's catalogue entry is due in frame f: an item repeated by R228 need not be. -/
def State.itemDue (s : State) (f : Nat) (it : PlanItem) : Bool :=
  match s.catAt it.idx with
  | some e => e.ctx == it.ctx && (e.due f).isSome
  | none => false

/-- PERIODIC_ISSUE (R214): the periodic engine launches the next packet of the plan. Between a step and the next FST nothing leaves (R50), nor
after the SUS sets of a suspend (R162). -/
def State.periodicIssue (s : State) (n : Nat) : State :=
  let cu := s.cuPort n
  match if s.tk.stepping then [] else cu.todo with
  | [] => s
  | it :: rest =>
    let d := s.frameAt + it.start
    let s1 := (s.modCu n fun cu => { cu with todo := rest }).advanceTo (d / 10)
    let c := it.ctx
    let live := (s.link n == 3 || s.link n == 4) && (s.port n).suspend != 2 && s.ownsPort n && s.pxServed c s.frame && s.isRanged n (s.pxAddr c)
    let miss (s : State) : State := if s.itemDue s.frame it then s.slotMissed c else s
    match it.kind, it.val with
    | 2, some v =>
      if live then s1.sendOut n d c v it.ts.isSome
      else if it.ts.isSome then s1.reflexLost n c else miss (s1.slotBack c v)
    | 2, none => s1
    | 1, _ =>
      if !live then miss s1
      else s1.sendToken n d c (if s.itemDue s.frame it then .periodicIn c else .gone)
    | _, _ => if live then s1.sendToken n d c (.event c) else miss s1

/-! ### The commands -/

/-- OUT_RING_READ_DONE (R197). -/
def execOutRingReadDone (c : Fin 2048) (r : HostRes) (s : State) : Host.Outcome State Fault Refusal := act s fun s => s.outRingDone c r

/-- PLAN_BUILD_DONE (R201, R227): the plan that is being built is complete, when it is that of the port given. -/
def execPlanBuildDone (n : Fin 8) (s : State) : Host.Outcome State Fault Refusal := act s fun s => s.planBuild n

/-- PLAN_CUTOFF (R202, R228): the plans of the next frame close. -/
def execPlanCutoff (s : State) : Host.Outcome State Fault Refusal := act s fun s => s.planCutoff

/-- PERIODIC_ISSUE (R214). -/
def execPeriodicIssue (n : Fin 8) (s : State) : Host.Outcome State Fault Refusal := act s fun s => s.periodicIssue n

end Sys2Proof.Machine
end

