-- ==== Sys2Proof/Machine/Courier.lean ====
section
/-! DEFINITION. The Courier: the routing table, lookup, reflex outputs, forwarded events, TAKE routes, remote access
(spec/10_courier.md, with the messages of spec/13_span_fabric_and_twin.md R345 to R348). -/

namespace Sys2Proof.Machine

/-! ### The routing table (R280 to R282) -/

/-- The mask of the bits of each word of a route entry that its kind uses (R280). -/
def routeMask (kind : Nat) : List Nat :=
  let w0 := 0xF3FFFF80
  match kind with
  | 1 => [w0, 0xFFFFFFFF, 0xFFFFE11F, 0xFFFF0000, 0xFFFFFFFF, 0xFFFFFFFF, 0xFFFFFFFF, 0xFFFFFFFF]
  | 2 => [w0, 0xFFFFFFFF, 0xFC001F1F, 0xFFFF0000, 0xFFFFFFFF, 0xFFFFFFFF, 0xFFFFFFFF, 0xFFFFFFFF]
  | _ => [w0, 0xFFFFFFFF, 0xFC000000, 0, 0, 0, 0, 0]

/-- The refusal code of a route write, 0 when it is accepted (R281). -/
def State.routeCode (s : State) (ws : List Nat) : Nat :=
  let k := routeKind ws
  let src := rf ws 0 20 6
  let dst := rf ws 2 26 6
  if !routeValid ws then 0
  else if k = 0 || 4 ≤ k then 1
  else if (ws.zip (routeMask k)).any fun p => !within p.1 p.2 then 2
  else if src = 63 || rf ws 0 11 6 = 0 || rf ws 0 11 6 = 63 || rf ws 0 7 4 = 0 || (s.isHere src && s.nPorts ≤ rf ws 0 17 3) then 3
  else if (dst = 63 && k ≠ 3) ||
    (k = 1 && (rf ws 2 17 6 = 0 || rf ws 2 17 6 = 63 || rf ws 2 13 4 = 0 || (s.isHere dst && s.nPorts ≤ rf ws 2 23 3))) then 4
  else if 14 < rf ws 2 0 5 || (rf ws 2 8 1 = 1 && rf ws 2 0 5 ≠ 0) then 5 else 0

/-- Put an entry into the routing table. -/
def State.setRoute (s : State) (i : Nat) (ws : List Nat) : State :=
  { s with co := { s.co with routes := tput (fun _ => List.replicate 8 0) s.co.routes i ws } }

/-- The words of CO_ROUTE_DATA. -/
def State.routeData (s : State) : List Nat := (List.range 8).map fun w => (s.reg (R.coRouteData w)).toNat

/-- CO_ROUTE_CMD.write (R281). -/
def State.routeWrite (s : State) : State :=
  let code := s.routeCode s.routeData
  let s1 := s.put F.coRouteCmd_refuse code
  if code = 0 then s1.setRoute (s.get F.coRouteIdx_index) s.routeData else s1

/-- CO_ROUTE_CMD.read. -/
def State.routeRead (s : State) : State := s.setRegs (R.coRouteData 0) (s.route (s.get F.coRouteIdx_index))

/-- CO_ROUTE_CMD.clear (R282): the entry's valid becomes 0. -/
def State.routeClear (s : State) (i : Nat) : State :=
  let ws := s.route i
  s.setRoute i (listSet ws 0 (Machine.clrBit (ws.getD 0 0) 31))

/-! ### Lookup (R278, R283 to R285) -/

/-- The key of an event (R278) with its time, quality and payload. -/
structure EvKey where
  chip    : Nat
  port    : Nat
  addr    : Nat
  pipe    : Nat
  msg     : Nat
  time    : Nat
  quality : Nat
  payload : List Byte
  deriving DecidableEq, Repr

/-- Whether an entry matches an event (R283); src_chip 62 is the local chip. -/
def State.routeHit (s : State) (k : EvKey) (ws : List Nat) : Bool :=
  routeValid ws && (rf ws 0 20 6 == k.chip || (rf ws 0 20 6 == 62 && k.chip == s.chip)) && rf ws 0 17 3 == k.port && rf ws 0 11 6 == k.addr &&
  rf ws 0 7 4 == k.pipe && (k.msg &&& rf ws 1 16 16) == (rf ws 1 0 16 &&& rf ws 1 16 16)

/-- The output payload of a REFLEX route, and the message of a FORWARD route (R285). -/
def routeOut (ws : List Nat) (pl : List Byte) : List Byte :=
  leBytes 2 (rf ws 3 16 16) ++
  (if rf ws 2 8 1 = 1 then pl.drop 10 else ((ws.drop 4).flatMap (leBytes 4 ·)).take (rf ws 2 0 5))

/-- The 16-byte header of a reflex or forward message (R348). -/
def evtHeader (k : EvKey) (b12 b13 : Nat) : List Byte :=
  leBytes 8 k.time ++ ([k.quality, k.chip, k.port * 32 + k.pipe, k.addr, b12, b13].map (BitVec.ofNat 8 ·)) ++ leBytes 2 k.msg

/-! ### Reflex outputs (R286 to R288) -/

/-- The context that a reflex output can reach (R286 item 2). -/
def State.reflexCtx (s : State) (n a p : Nat) : Option Nat :=
  s.ctxs.find? fun c => s.pxPort c == n && s.pxAddr c == a && s.pxPipe c == p && s.pxKind c == 2 && s.flag (F.pxBind_reflex_target c) &&
    (s.pxState c == 2 || s.pxState c == 3 || s.pxState c == 6)

/-- The destination Courier's part for a reflex output (R286, R287). -/
def State.reflexLocal (s : State) (chip n a p ts : Nat) (pl : List Byte) : State :=
  if !(n < s.nPorts && s.link n == 3) then s.reflexDrop 6 chip n a p
  else match s.reflexCtx n a p with
    | none => s.reflexDrop 2 chip n a p
    | some c =>
      if !s.isRanged n a then s.reflexDrop 1 chip n a p
      else if s.pxMax c < pl.length then s.reflexDrop 3 chip n a p
      else
        let f := reflexFree (s.cuPort n).later c 8 s.reflexFrame
        if f ≠ s.reflexFrame && 4 ≤ (s.reflexWait c).length then s.reflexDrop 5 chip n a p
        else (s.reflexPlace { frame := f, ctx := c, payload := pl, ts := ts }).bump F.coReflexCnt_placed

/-- A reflex output for a chip: placed here, sent to the tree's owner by its standby (R371), or sent over Span (R288). -/
def State.reflexSend (s : State) (chip n a p : Nat) (k : EvKey) (pl : List Byte) : State :=
  let msg := evtHeader k (n * 32 + p) a ++ pl
  if s.isHere chip then
    if n < s.nPorts && !s.ownsPort n && s.flag F.twStatus_paired then s.toPartner 1 msg else s.reflexLocal chip n a p k.time pl
  else if s.chip = 62 || (s.routeTo chip).isNone then s.reflexDrop 4 chip n a p
  else s.spanSend { typ := 3, vc := 2, dst := chip, src := s.chip, tsd := leBytes 8 1, payload := msg }

/-! ### TAKE and FORWARD routes (R291 to R293) -/

/-- A TAKE route (R293); a message without a route is dropped and counted as lost (R303, log entry 152). -/
def State.takeRoute (s : State) (chip : Nat) : State :=
  if chip = 63 then
    ((s.takeLocal 5 s.now s.chip []).spanSend (s.takeMessage 5 s.now 63)).bump F.spTakeCnt_sent
  else if s.isHere chip then s.takeLocal 5 s.now s.chip []
  else
    let s1 := s.spanSend (s.takeMessage 5 s.now chip)
    if (s.routeTo chip).isNone then s1 else s1.bump F.spTakeCnt_sent

/-- A forwarded event for the event ring of gallery g on this chip (R292). -/
def State.forwardIn (s : State) (g : Nat) (k : EvKey) (msg : List Byte) : State :=
  s.evOffer g { typ := 1, flags := 0, ctx := 0xFFFE, port := k.port, addr := k.addr, pipe := k.pipe, quality := k.quality
                frame := s.frame, payload := leBytes 8 k.time ++ msg, flushed := true } true k.time

/-- A FORWARD message goes, now that R30 lets its event be written (R291); one without a route is dropped and counted as lost (R303, log entry
152). -/
def State.forwardGo (s : State) (chip g : Nat) (k : EvKey) (msg : List Byte) : State :=
  if s.isHere chip then s.forwardIn g k msg
  else
    let s1 := s.spanSend { typ := 3, vc := 2, dst := chip, src := s.chip, tsd := leBytes 8 2, payload := evtHeader k g 0 ++ msg }
    if (s.routeTo chip).isNone then s1 else s1.bump F.coFwdCnt_forwarded

/-- The lookup reads the Courier tables: a route entry that holds an uncorrectable error has its valid bit cleared, and the lookup misses (R397).
Which entry a word holds is not stated, and free. -/
def State.tableRead (s : State) : State :=
  let x := s.itemRead 0x2C0000 0x40000 32 2
  if x.1 then
    let y := x.2.draw 12
    y.2.routeClear y.1
  else x.2

/-- Look an event up and act on up to eight matching entries (R283, R284): the FORWARD messages to send and the state after. FORWARD entries
act only on events of their own chip. -/
def State.lookup (s0 : State) (k : EvKey) (own : Bool) : List (Nat × Nat × Nat × List Byte) × State :=
  let s := s0.tableRead
  if !s0.flag F.coCtrl_routes_enable then ([], s0)
  else
    let hits := (s.co.routes.map (·.2)).filter (s.routeHit k)
    let s1 := if 8 < hits.length then (s.add F.coFwdCnt_fanout_excess (hits.length - 8)).raise F.coEvents_fanout else s
    (hits.take 8).foldl (fun (x : List (Nat × Nat × Nat × List Byte) × State) ws =>
      let dst := rf ws 2 26 6
      match routeKind ws with
      | 1 => (x.1, x.2.reflexSend dst (rf ws 2 23 3) (rf ws 2 17 6) (rf ws 2 13 4) k (routeOut ws k.payload))
      | 3 => (x.1, x.2.takeRoute dst)
      | 2 => if own then (x.1 ++ [(dst, rf ws 2 9 4, k.msg, routeOut ws k.payload)], x.2) else x
      | _ => x) ([], s1)

/-- The key of an event that waits in an event ring's list. -/
def Event.key (e : Event) (chip msg : Nat) : EvKey :=
  { chip := chip, port := e.port, addr := e.addr, pipe := e.pipe, msg := msg, time := leAt e.payload 0 8, quality := e.quality
    payload := e.payload }

/-- The FORWARD messages of an event go, in the order of their entries. -/
def State.forwardsGo (s : State) (e : Event) : State :=
  forEach e.fwds s fun s f => s.forwardGo f.1 f.2.1 (e.key s.chip f.2.2.1) f.2.2.2

/-- The first event of context c that waits for a flush, by arrival, and its gallery: a context may have moved since (R291). -/
def State.flushHead (s : State) (c : Nat) : Option (Nat × Event) :=
  ((List.range 16).flatMap fun g => ((s.evr g).wait.filter fun e => e.ctx == c && !e.flushed).map fun e => (g, e)).foldl
    (fun b x => match b with
      | some y => if x.2.stamp < y.2.stamp then some x else b
      | none => some x) none

/-- An event accepted from a pipe of this chip (R30, R257, R279): routed at once; its ring copy and FORWARD messages wait for the flush read
when its pipe has a stream ring, and an event behind one that waits does too, whatever has become of the ring since (R291). -/
def State.eventIn (s : State) (c : Nat) (e : Event) : State :=
  let g := s.pxGal c
  let always := s.polledAlways c (s.routedPipe e.port e.addr e.pipe)
  let x := s.lookup (e.key s.chip (leAt e.payload 8 2)) true
  let drop := x.2.evFull g && always
  let s1 := if drop then x.2.evDrop g (leAt e.payload 0 8) else x.2
  let behind := (s1.flushHead c).isSome
  let own := s.flag (F.pxStreamCfg_ring_enable c) && (s1.dmaReady g || behind)
  let e1 := { e with flushed := false, fwds := x.1, ring := !drop, stamp := s1.co.seq, own := own }
  if (own || behind) && (!drop || !x.1.isEmpty) then
    let s2 : State := { s1.modEv g fun v => { v with wait := v.wait ++ [e1] } with co := { s1.co with seq := s1.co.seq + 1 } }
    if own then s2.dmaRead g 1 (.flush c) (s.reg64 (R.pxDevWordLo c)) 4 else s2
  else
    let s2 := s1.forwardsGo e1
    if drop then s2 else (s2.modEv g fun v => { v with wait := v.wait ++ [{ e1 with flushed := true, fwds := [] }] }).evPump 64 g

/-- An event that waited for a flush need wait no more: its FORWARD messages go, and its ring copy joins those that are ready, behind them (R256,
R291). -/
def State.flushEnd (s : State) (g : Nat) (v : Event) : State :=
  let s1 := s.modEv g fun e => { e with wait := e.wait.erase v ++ (if v.ring then [{ v with flushed := true, fwds := [] }] else []) }
  let s2 := s1.forwardsGo v
  if s2.evFull g then s2.evShed g else s2.evPump 64 g

/-- The events of context c next in order that have no flush read of their own are ready with the one before them; n bounds their number. -/
def State.flushNext : Nat → State → Nat → State
  | 0, s, _ => s
  | n + 1, s, c => match s.flushHead c with
    | some (g, v) => if v.own then s else State.flushNext n (s.flushEnd g v) c
    | none => s

/-- FLUSH_READ_DONE (R30): the flush read of a context completes, its FORWARD messages go and its event may be written. A failed read flushes
all the same: the read was made. -/
def State.flushDone (s : State) (c : Nat) (r : HostRes) : State :=
  match s.flushHead c with
  | none => s.lateIndex c (.flush c) r
  | some (g, v) =>
    let x := s.hostData (.flush c) 2 r
    let s1 := if x.1.isNone then x.2.hostErr g else x.2
    (s1.flushEnd g v).flushNext 32768 c

/-! ### Remote access: the target (R296, R297, R299) -/

/-- An answer to a request (R297, R347): 1 DATA, 2 ACCEPT, 3 RETRY, 4 STALE, 5 DENIED; the status, the ticket, the data and the trailer. -/
structure Answer where
  code    : Nat
  status  : Nat := 0
  ticket  : Nat := 0xFFFF
  data    : List Byte := []
  trailer : List Byte := []
  deriving DecidableEq, Repr

/-- A request as it was put together (R345, R346). -/
structure Request where
  src    : Nat
  tag    : Nat
  op     : Nat
  gal    : Nat
  ticket : Nat
  seg0   : List Byte
  data   : List Byte
  deriving DecidableEq, Repr

/-- The trailer of a DATA answer from a completion's bytes 4 to 31 (R300, R347). -/
def trailerOf (body : List Byte) : List Byte :=
  (body.drop 12).take 8 ++ leBytes 1 (withBit (byteAt body 20) 3) ++ leBytes 1 (byteAt body 1) ++ leBytes 2 0 ++ (body.drop 4).take 4

/-- The DATA answer of a completion. -/
def dataAnswer (body data : List Byte) : Answer := { code := 1, status := byteAt body 0, data := data, trailer := trailerOf body }

/-- DENIED, counted (R296). -/
def State.deny (s : State) (q : Request) : Answer × State :=
  ({ code := 5 }, (((s.bump F.coRemoteDenied_count).put F.coRemoteDenied_last_chip q.src).put F.coRemoteDenied_last_gallery q.gal).raise
    F.coEvents_denied)

/-- The local gallery that CO_REMOTE_MAP gives a requester (R296). -/
def State.remoteMap (s : State) (chip gal : Nat) : Option Nat :=
  ((List.range 16).find? fun m => s.flag (F.coRemoteMap_valid m) && s.get (F.coRemoteMap_origin_chip m) == chip &&
    s.get (F.coRemoteMap_origin_gallery m) == gal).map fun m => s.get (F.coRemoteMap_local_gallery m)

/-- The work entry that a request stands for on this chip: operation, level, local target word, count, setup payload. -/
def Request.entry (q : Request) : List Byte :=
  leBytes 1 q.op ++ leBytes 1 (byteAt q.seg0 8 % 8 * 4) ++ leBytes 2 0 ++ leBytes 4 (leAt q.seg0 0 4 % 2 ^ 24) ++
  leBytes 4 (if q.op = 3 then 0 else leAt q.seg0 4 3) ++ leBytes 12 0 ++ (q.seg0.drop 16).take 8

/-- The lowest number below n that a list does not hold. -/
def lowestFree (n : Nat) (xs : List Nat) : Option Nat := (List.range n).find? fun k => !xs.contains k

/-- Work taken for another chip draws the places of its data, and what came with it is put there (R301). -/
def State.remoteSeat (s : State) (g r i : Nat) : State :=
  match s.findWork g r i with
  | some w =>
    let s1 := s.seatDraw w
    match s1.findWork g r i with
    | some w => s1.putStaged (w.data.length + 1) w 0 w.data
    | none => s1
  | none => s

/-- A fresh request is taken into the bulk queue of its port, or refused (R296, R297); its data goes into buffers of the pipe, or mover staging
(R301). -/
def State.remoteTake (s : State) (q : Request) (lg : Nat) : Answer × State :=
  let w : Work := { g := lg, r := 8, i := 0, ent := q.entry, loc := .queued, level := byteAt q.seg0 8 % 8, since := s.frame, stamp := s.stamps }
  if s.violationOf w ≠ 0 then s.deny q
  else match s.bulkRefusal w with
    | some (st, d) => (dataAnswer (doneBytes st d 0 0 s.frame s.now (s.chipQuality s.now)) [], s)
    | none =>
      if 512 ≤ (s.bulkQueue (s.workPlace w).1).length then ({ code := 3 }, s)
      else if q.op = 2 then
        match (if s.co.posted.length < Config.postedBuffers then lowestFree (s.co.posted.length + 1) (s.co.posted.map (·.num)) else none) with
        | none => ({ code := 3 }, s)
        | some k =>
          let p : Posted := { num := k, chip := q.src, gal := q.gal, ring := byteAt q.seg0 9 % 8, idx := leAt q.seg0 10 2 }
          ({ code := 2 }, ({ s with stamps := s.stamps + 1
                                    work := s.work ++ [{ w with r := 9, i := k, stage := .done, data := q.data }]
                                    co := { s.co with posted := s.co.posted ++ [p] } } : State).remoteSeat lg 9 k)
      else match lowestFree 256 (s.co.tickets.map (·.num)) with
        | none => ({ code := 3 }, s)
        | some k =>
          ({ code := 3, ticket := k },
           ({ s with stamps := s.stamps + 1
                     work := s.work ++ [{ w with i := k, stage := if w.outward then .done else .none, data := if w.outward then q.data else [] }]
                     co := { s.co with tickets := s.co.tickets ++ [{ num := k, chip := q.src, gal := q.gal, tag := q.tag }] } } : State).remoteSeat lg 8 k)

/-- A ticket is freed. -/
def State.dropTicket (s : State) (k : Nat) : State := { s with co := { s.co with tickets := s.co.tickets.filter (·.num != k) } }

/-- The target's answer to a request (R296, R297). -/
def State.remoteServe (s : State) (q : Request) : Answer × State :=
  if !s.flag F.coCtrl_remote_enable then s.deny q
  else match s.remoteMap q.src q.gal with
    | none => s.deny q
    | some lg =>
      if q.ticket = 0xFFFF then s.remoteTake q lg
      else match s.co.tickets.find? fun t => t.num == q.ticket && t.chip == q.src && t.tag == q.tag with
        | none => ({ code := 4 }, s)
        | some t => match t.result with
          | none => ({ code := 3, ticket := t.num }, s)
          | some (body, data) => (dataAnswer body data, s.dropTicket t.num)

/-- TICKET_DISCARD (R299): a result that no retry has collected is discarded. -/
def State.ticketDiscard (s : State) (k : Nat) : State :=
  if s.co.tickets.any fun t => t.num == k && t.result.isSome then
    ((s.dropTicket k).bump F.coRemoteCnt_discarded).raise F.coEvents_discarded
  else s

/-! ### Remote access: the origin (R295, R298, R300) -/

/-- The target pipe of a remote entry (R295). -/
def Work.remotePipe (w : Work) : Nat × Nat := (w.chip, if w.op = 3 then 2048 + w.port * 64 + w.addr else w.ctx)

def State.remOf (s : State) (tag : Nat) : Option Rem := s.co.rems.find? (·.tag == tag)
def State.modRem (s : State) (tag : Nat) (f : Rem → Rem) : State :=
  { s with co := { s.co with rems := s.co.rems.map fun x => if x.tag = tag then f x else x } }

/-- The outward data of an entry, read from the Span buffers (R301). -/
def State.remoteData (s : State) (w : Work) : List Byte × Option Nat × State :=
  if w.outward then s.takeStaged (w.bytes + 1) w 0 (min w.bytes w.data.length) else ([], none, s)

/-- The request that an entry's next packet stands for, with its data. -/
def State.requestOf (s : State) (w : Work) (x : Rem) (d : List Byte) : Request :=
  { src := s.chip, tag := x.tag, op := w.op, gal := w.g, ticket := x.ticket.getD 0xFFFF
    seg0 := leBytes 4 w.target ++ leBytes 4 w.bytes ++ leBytes 1 w.level0 ++ leBytes 1 w.r ++ leBytes 2 w.i ++ leBytes 4 0 ++
      (if w.op = 3 then w.setup else leBytes 8 0) ++ leBytes 8 0
    data := if w.outward && x.ticket.isNone then fit w.bytes d else [] }

/-- The type-specific bytes of a REQ or RSP (R345). -/
def reqTsd (tag b8 b9 ticket seg count : Nat) : List Byte :=
  leBytes 2 tag ++ leBytes 1 b8 ++ leBytes 1 b9 ++ leBytes 2 ticket ++ leBytes 1 seg ++ leBytes 1 count

/-- Send a request's packets: segment 0, then the data (R345, R346). -/
def State.sendRequest (s : State) (dst : Nat) (q : Request) : State :=
  let segs := q.seg0 :: chunks 512 8 q.data
  forEach segs.zipIdx s fun s p =>
    s.spanSend { typ := 1, vc := 0, dst := dst, src := s.chip, tsd := reqTsd q.tag q.op q.gal q.ticket p.2 segs.length, payload := p.1 }

/-- The segments of an answer's payload: the trailer is never split (R347). -/
def answerSegs (a : Answer) : List (List Byte) :=
  if a.code ≠ 1 then [[]]
  else
    let ds := chunks 512 8 a.data
    match ds.getLast? with
    | none => [a.trailer]
    | some l => if l.length ≤ 496 then ds.dropLast ++ [l ++ a.trailer] else ds ++ [a.trailer]

/-- Send an answer's packets (R347). -/
def State.sendAnswer (s : State) (dst tag : Nat) (a : Answer) : State :=
  let segs := answerSegs a
  forEach segs.zipIdx s fun s p =>
    s.spanSend { typ := 2, vc := 1, dst := dst, src := s.chip, tsd := reqTsd tag a.code a.status a.ticket p.2 segs.length, payload := p.1 }

/-- An entry ends REMOTE_ERR with a detail (R300). -/
def State.remoteErr (s : State) (w : Work) (detail : Nat) : State :=
  let s1 := if detail = 2 || detail = 4 then s.bump F.coRemoteCnt_retry_exhausted else s
  (if detail = 2 then s1.raise F.coEvents_retry_exhausted else s1).complete w 0x0C detail

/-- The retries of an entry are exhausted (R298). -/
def State.remoteExhausted (s : State) (w : Work) (inj : Bool) : State := (s.detect 0x0C 1 0xFF 1 inj).remoteErr w 2

/-- The answer to an entry's request arrives (R297, R298, R300). -/
def State.remoteAnswered (s : State) (x : Rem) (w : Work) (a : Answer) : State :=
  match a.code with
  | 1 =>
    let st := a.status
    let d := byteAt a.trailer 9
    let s1 := if st = 5 then s.setResume w.g w.r w.i 2 else s
    let t := leAt a.trailer 0 8
    let q := byteAt a.trailer 8
    if w.outward || a.data.isEmpty then s1.completeAt w st d (leAt a.trailer 12 3) t q
    else
      let s2 := s1.modWork w.g w.r w.i fun w =>
        { w with data := a.data.take w.bytes, fin := (st, d), ended := some t, quality := q }
      (s2.putStaged (w.bytes + 1) w 0 (a.data.take w.bytes)).stageBegin w
  | 2 => s.complete w 0 0 w.bytes
  | 3 =>
    if max 1 (s.get F.coRetryCfg_limit) ≤ x.retries + 1 then s.remoteExhausted w false
    else s.modRem x.tag fun y =>
      { y with retries := x.retries + 1, waiting := true, ticket := if a.ticket = 0xFFFF then none else some a.ticket }
  | 4 => s.remoteErr w 3
  | 5 => s.completeViolation w 5
  | _ => s

/-- An entry's request goes out: to another chip by its route, or on this chip without a hop (R288, R300, R489). One whose data cannot be read from
the Span buffers is discarded, as a packet that fails its CRC (R397): no answer comes to it. -/
def State.remoteGo (s0 : State) (x : Rem) (w : Work) : State :=
  let y := if x.ticket.isNone then s0.remoteData w else ([], none, s0)
  let s := y.2.2
  let q := s.requestOf w x y.1
  if y.2.1.isSome then s
  else if s.chip = 62 then s.remoteErr w 1
  else if w.chip = s.chip then
    let y := s.remoteServe q
    y.2.remoteAnswered x w y.1
  else if (s.routeTo w.chip).isNone then s.remoteErr w 1
  else s.sendRequest w.chip q

/-- Whether a remote entry may be sent: first for its target pipe, staged, its fence open, none in flight on the pipe (R235, R295, R301). -/
def State.remoteReady (s : State) (w : Work) : Bool :=
  w.loc == .remote && !w.started && s.fenceOpen w && (!w.outward || w.stage == .none || w.stage == .done) &&
  !s.work.any fun v => v.loc == .remote && v.remotePipe == w.remotePipe && (v.started || v.stamp < w.stamp)

/-- REMOTE_SEND (R295): the entry takes the lowest free tag and its request is sent. -/
def State.remoteSend (s : State) (g r i : Nat) : State :=
  match s.findWork g r i with
  | none => s
  | some w =>
    if !s.remoteReady w then s
    else if !s.flag F.coCtrl_remote_enable then s.remoteErr w 1
    else match lowestFree 1024 (s.co.rems.map (·.tag)) with
      | none => s
      | some tag =>
        let x : Rem := { tag := tag, g := g, r := r, i := i }
        let s1 := s.modWork g r i fun w => { w with started := true }
        let s2 : State := { s1 with co := { s1.co with rems := s1.co.rems ++ [x] } }
        let j := s2.inject 0x0C 0xFF fun p => p == 1
        let w1 := { w with started := true }
        if j.1 then j.2.remoteExhausted w1 true else j.2.remoteGo x w1

/-- The entry of a Courier tag, while it waits for an answer: one whose result is there holds its tag until it completes (R295). -/
def State.remWork (s : State) (tag : Nat) : Option (Rem × Work) :=
  match s.remOf tag with
  | none => none
  | some x => ((s.findWork x.g x.r x.i).filter fun w => w.loc == .remote && w.ended.isNone).map fun w => (x, w)

/-- RETRY_BACKOFF_EXPIRE (R298): the request is sent again. -/
def State.remoteAgain (s : State) (tag : Nat) : State :=
  match s.remWork tag with
  | some (x, w) => if x.waiting then (s.modRem tag fun y => { y with waiting := false }).remoteGo { x with waiting := false } w else s
  | none => s

/-- REMOTE_TIMEOUT (R298): no answer came in time. -/
def State.remoteLate (s : State) (tag : Nat) : State :=
  match s.remWork tag with
  | some (x, w) => if x.waiting then s else s.remoteErr w 4
  | none => s

/-! ### Messages received over Span (R288, R292, R302, R345) -/

/-- The first packet in a Span port's inbox that a test picks, and the state without it. Its buffer's credit is owed to the sender (R352). -/
def State.spanTake (s : State) (m : Nat) (p : SpanPkt → Bool) : Option (SpanPkt × State) :=
  match (s.spanPort m).inbox.find? p with
  | none => none
  | some x =>
    let q := s.spanPort m
    let owe := if x.vc < 3 then listSet q.owe x.vc (q.owe.getD x.vc 0 + 1) else q.owe
    some (x, s.setSpanPort m { q with inbox := q.inbox.erase x, owe := owe })

/-- Whether a packet is an EVT of a kind. -/
def isEvt (k : Nat) (x : SpanPkt) : Bool := x.typ == 3 && byteAt x.tsd 0 == k

/-- The key that the header of a reflex or forward message carries (R348). -/
def evtKey (b : List Byte) : EvKey :=
  { chip := byteAt b 9 % 64, port := byteAt b 10 / 32, addr := byteAt b 11 % 64, pipe := byteAt b 10 % 16, msg := leAt b 14 2
    time := leAt b 0 8, quality := byteAt b 8, payload := b.take 8 ++ b.drop 16 }

/-- REFLEX_MESSAGE (R288). -/
def State.reflexMessage (s : State) (m : Nat) : State :=
  match s.spanTake m (isEvt 1) with
  | none => s
  | some (x, s1) =>
    let b := x.payload
    let n := byteAt b 12 / 32
    let a := byteAt b 13 % 64
    let p := byteAt b 12 % 16
    if s1.chip = 62 then s1.reflexDrop 4 x.dst n a p
    else if n < s1.nPorts && !s1.ownsPort n && s1.flag F.twStatus_paired then s1.toPartner 1 b
    else s1.reflexLocal x.dst n a p (leAt b 0 8) (b.drop 16)

/-- FORWARD_MESSAGE (R284, R292): the event is written to the gallery's ring, and looked up for REFLEX and TAKE entries. -/
def State.forwardMessage (s : State) (m : Nat) : State :=
  match s.spanTake m (isEvt 2) with
  | none => s
  | some (x, s1) =>
    let k := evtKey x.payload
    ((s1.forwardIn (byteAt x.payload 12 % 16) k (x.payload.drop 16)).lookup k false).2

/-- WRITE_ERROR_MESSAGE (R302). -/
def State.writeErrorMessage (s : State) (m : Nat) : State :=
  match s.spanTake m (isEvt 4) with
  | none => s
  | some (x, s1) => s1.postedError x.src x.payload

/-- A packet of a segmented REQ or RSP is put with those before it; when it is the last, their payloads. -/
def State.assemble (s : State) (x : SpanPkt) : Option (List (List Byte)) × State :=
  let key := (x.typ, x.src, leAt x.tsd 0 2)
  let is (p : Nat × Nat × Nat × List (List Byte)) : Bool := (p.1, p.2.1, p.2.2.1) == key
  let seg := byteAt x.tsd 6
  let have_ := if seg = 0 then [] else ((s.co.parts.find? is).map (·.2.2.2)).getD []
  let rest := s.co.parts.filter fun p => !is p
  if have_.length ≠ seg then (none, { s with co := { s.co with parts := rest } })
  else
    let all := have_ ++ [x.payload]
    if seg + 1 = byteAt x.tsd 7 then (some all, { s with co := { s.co with parts := rest } })
    else (none, { s with co := { s.co with parts := rest ++ [(x.typ, x.src, key.2.2, all)] } })

/-- REMOTE_REQUEST (R297): a REQ packet is consumed, and a whole request is answered at once. -/
def State.remoteRequest (s : State) (m : Nat) : State :=
  match s.spanTake m (·.typ == 1) with
  | none => s
  | some (x, s1) =>
    let y := s1.assemble x
    match y.1 with
    | none => y.2
    | some segs =>
      let q : Request := { src := x.src, tag := leAt x.tsd 0 2, op := byteAt x.tsd 2, gal := byteAt x.tsd 3 % 16, ticket := leAt x.tsd 4 2
                           seg0 := segs.headD [], data := (segs.drop 1).flatten }
      let z := y.2.remoteServe q
      z.2.sendAnswer x.src q.tag z.1

/-- REMOTE_RESPONSE (R297): an RSP packet is consumed, and a whole answer is acted on. -/
def State.remoteResponse (s : State) (m : Nat) : State :=
  match s.spanTake m (·.typ == 2) with
  | none => s
  | some (x, s1) =>
    let y := s1.assemble x
    match y.1, y.2.remWork (leAt x.tsd 0 2) with
    | some segs, some (r, w) =>
      if r.waiting || w.chip ≠ x.src then y.2
      else
        let all := segs.flatten
        let n := all.length - 16
        y.2.remoteAnswered r w { code := byteAt x.tsd 2, status := byteAt x.tsd 3, ticket := leAt x.tsd 4 2, data := all.take n
                                 trailer := all.drop n }
    | _, _ => y.2

/-! ### Registers -/

/-- A write in the CO block. -/
def State.writeCo (s : State) (off : Nat) (w plain : Word) : State :=
  let b i := bitOf w.toNat i
  if off = R.coRouteCmd then
    let s1 := if b 31 then s.routeWrite else s
    let s2 := if b 29 then s1.routeClear (s.get F.coRouteIdx_index) else s1
    if b 30 then s2.routeRead else s2
  else if off = R.coCntClear then
    if b 0 then (((s.setReg R.coReflexCnt 0).setReg R.coFwdCnt 0).setReg R.coRemoteCnt 0).put F.coRemoteDenied_count 0 else s
  else if off = R.coPwerrClear then
    if b 0 then (s.setRegs (R.coPwerrLog0 0) (List.replicate 32 0)).put F.coPwerrStatus_count 0 |>.put F.coPwerrStatus_total 0 else s
  else s.setReg off plain

/-! ### The commands -/

/-- FLUSH_READ_DONE (R30). -/
def execFlushReadDone (c : Fin 2048) (r : HostRes) (s : State) : Host.Outcome State Fault Refusal := act s fun s => s.flushDone c r

/-- REFLEX_MESSAGE (R288). -/
def execReflexMessage (m : Fin 4) (s : State) : Host.Outcome State Fault Refusal := act s fun s => s.reflexMessage m

/-- FORWARD_MESSAGE (R292). -/
def execForwardMessage (m : Fin 4) (s : State) : Host.Outcome State Fault Refusal := act s fun s => s.forwardMessage m

/-- WRITE_ERROR_MESSAGE (R302). -/
def execWriteErrorMessage (m : Fin 4) (s : State) : Host.Outcome State Fault Refusal := act s fun s => s.writeErrorMessage m

/-- REMOTE_SEND (R295). -/
def execRemoteSend (g : Fin 16) (r : Fin 8) (i : BitVec 16) (s : State) : Host.Outcome State Fault Refusal :=
  act s fun s => s.remoteSend g r i.toNat

/-- REMOTE_REQUEST (R297). -/
def execRemoteRequest (m : Fin 4) (s : State) : Host.Outcome State Fault Refusal := act s fun s => s.remoteRequest m

/-- REMOTE_RESPONSE (R297). -/
def execRemoteResponse (m : Fin 4) (s : State) : Host.Outcome State Fault Refusal := act s fun s => s.remoteResponse m

/-- RETRY_BACKOFF_EXPIRE (R298). -/
def execRetryBackoffExpire (tag : Fin 1024) (s : State) : Host.Outcome State Fault Refusal := act s fun s => s.remoteAgain tag

/-- REMOTE_TIMEOUT (R298). -/
def execRemoteTimeout (tag : Fin 1024) (s : State) : Host.Outcome State Fault Refusal := act s fun s => s.remoteLate tag

/-- TICKET_DISCARD (R299). -/
def execTicketDiscard (k : Fin 256) (s : State) : Host.Outcome State Fault Refusal := act s fun s => s.ticketDiscard k

end Sys2Proof.Machine
end

