-- ==== Sys2Proof/Machine/PortEngine.lean ====
section
/-! DEFINITION. The root port in the bulk window: port service, control transfers, bulk transfers, the urgent set, and what becomes of every
response or missing response (spec/04_gliys_transactions_and_hubs.md R109 to R123, spec/07_curator.md R216 to R223). -/

namespace Sys2Proof.Machine

/-! ### What a response says (R112 to R119) -/

/-- A response to a transaction: data with its header, a handshake, a ranging echo, or an error with its cause (R246): 1 missing, 2 discarded
for a CRC or a length, 3 armour failure, 4 a mismatch or a handshake that is not allowed. -/
inductive Resp where
  | data (h : Hdr) (pl : List Byte)
  | ack (seq : Nat) (late : Bool)
  | nak
  | stall
  | echo (pl : List Byte)
  | bad (cause : Nat)
  deriving DecidableEq, Repr

/-- The handshake that a header spells. -/
def handshakeOf (h : Hdr) : Resp :=
  match h.tsb % 8 with
  | 1 => .ack (h.tsa % 2) (h.tsc % 2 == 1)
  | 2 => .nak
  | _ => .stall

/-- What a good packet answers to a token (1), a downstream packet or setup (2 or 4) or a probe (6) (R119). -/
def respTo (sent : Nat) (h : Hdr) (pl : List Byte) : Resp :=
  match sent, h.typ with
  | 1, 2 => if h.dir = 1 then .data h pl else .bad 4
  | 1, 3 => match handshakeOf h with
    | .ack _ _ => .bad 4
    | r => r
  | 6, 7 => .echo pl
  | 6, _ => .bad 4
  | _, 3 => handshakeOf h
  | _, _ => .bad 4

/-! ### Completion of bulk and control entries (R246, R247) -/

/-- A transfer for a work entry ends with a status; `t` is the arrival of its last response. Data received goes to host memory first; the result
of a remote request stays on the chip (R297). -/
def State.workEnd (s : State) (w : Work) (status detail t : Nat) : State :=
  let q := s.chipQuality t
  if status = 0 && !w.outward && !w.data.isEmpty && w.r < 8 then
    (s.modWork w.g w.r w.i fun x => { x with ended := some t, fin := (status, detail), quality := q }).stageBegin w
  else s.completeAt w status detail w.moved t q

/-- A transfer ends in an error now, with the bytes that it has moved (R245, R247). -/
def State.workFail (s : State) (w : Work) (status detail : Nat) : State :=
  s.completeAt w status detail w.moved s.now (s.chipQuality s.now)

/-! ### Control transfers (R118) -/

def Ctl.up (c : Ctl) : Bool := bitOf (byteAt c.setup 0) 7
def Ctl.len (c : Ctl) : Nat := leAt c.setup 6 2

/-- The largest data packet on pipe 0 of device a. -/
def State.ctlMax (s : State) (n a : Nat) : Nat := (s.dev n a).ctlMax

/-- Change a control transfer. -/
def State.modCtl (s : State) (n : Nat) (use : CtlFor) (a : Nat) (f : Ctl → Ctl) : State :=
  s.modPort n fun g => { g with ctls := g.ctls.map fun c => if c.use == use && c.addr == a then f c else c }

def State.findCtl (s : State) (n : Nat) (use : CtlFor) (a : Nat) : Option Ctl :=
  (s.port n).ctls.find? fun c => c.use == use && c.addr == a

/-- The next packet of a control transfer: its header, payload, and the largest response. -/
def State.ctlPacket (s : State) (n : Nat) (c : Ctl) : Hdr × List Byte × Nat :=
  let m := s.ctlMax n c.addr
  match c.stage with
  | 0 => (downHdr 4 c.addr 0, fit 8 c.setup, 0)
  | 1 =>
    if c.up then
      let room := min m (c.len - c.data.length)
      ({ downHdr 1 c.addr 0 with tsa := c.seq, tsc := room }, [], room)
    else ({ downHdr 2 c.addr 0 with tsa := c.seq + 2 * b2n (decide (c.data.length ≤ m)) }, c.data.take m, 0)
  | _ => if c.up then ({ downHdr 2 c.addr 0 with tsa := 3 }, [], 0) else ({ downHdr 1 c.addr 0 with tsa := 1 }, [], 0)

/-- The transfer of a CONTROL entry ends. -/
def State.ctlWorkEnd (s : State) (n : Nat) (c : Ctl) (g r i status detail t : Nat) : State :=
  let s1 := s.dropCtl n c.use c.addr
  let std := byteAt c.setup 0 / 32 % 4 == 0
  let s2 := if status = 0 && std && byteAt c.setup 1 = 3 then s1.setSeq n c.addr (leAt c.setup 4 2 % 16) 0
    else if status = 0 && std && byteAt c.setup 1 = 4 then s1.put (F.gpDevState_wake_enabled n c.addr) (leAt c.setup 2 2)
    else s1
  match s2.findWork g r i with
  | none => s2
  | some w =>
    let w1 := { w with data := if c.up then c.data else w.data, sent := if c.up then 0 else c.len - c.data.length }
    let s3 := s2.modWork g r i fun _ => w1
    if status = 0 then s3.workEnd w1 0 0 t else s3.workFail w1 status detail

/-- A control transfer has succeeded. -/
def State.ctlDone (s : State) (n : Nat) (c : Ctl) (t : Nat) : State :=
  match c.use with
  | .work g r i => s.ctlWorkEnd n c g r i 0 0 t
  | .clearHalt k p => (s.dropCtl n c.use c.addr).pxCleared n c.addr p k true
  | _ => (s.dropCtl n c.use c.addr).accOk n c

/-- The accession work of a port whose tree is given up is abandoned, and queued work completes DETACHED (R371). -/
def State.treeDropped (s : State) (n : Nat) : State :=
  let as := addrs.filter fun a => 2 ≤ s.devSt n a
  let s1 := forEach as s fun s a => ((s.dropSweep n a).dropService n a).workKill n a 0x04
  let s2 := s1.modPort n fun g =>
    { g with attaches := [], attach := none, ctls := [], svc := [], strict := [], rejected := [], resets := [], cutting := [] }
  ((s2.put (F.gpAccStatus_busy n) 0).put (F.gpAccStatus_attach_addr n) 0).put (F.gpAccStatus_reset_active n) 0

/-- The first-tier hub of a tree taken over does not answer GET_HUB_STATUS (R375): after the second failure the tree is given up. -/
def State.splitTree (s : State) (n : Nat) : State :=
  let s1 := ((s.put F.twStatus_own (Machine.clrBit (s.get F.twStatus_own) n)).put F.twStatus_split 1).raise F.twEvents_split
  (({ s1 with tw := { s1.tw with check := s1.tw.check.filter (·.1 != n) } } : State).put F.twStatus_state 4).treeDropped n

/-- Whether a control transfer asks a hub of a tree just taken over for its status (R375). -/
def State.splitCheck (s : State) (n : Nat) (c : Ctl) : Bool := c.use == .hubStatus && s.tw.check.any (·.1 == n) && (s.place n c.addr).1 == 0

/-- A control transfer has failed with a status; `lost` says that only the answer of its status stage was missing (R145). -/
def State.ctlFail (s : State) (n : Nat) (c : Ctl) (status detail : Nat) (lost : Bool) : State :=
  match c.use with
  | .work g r i => s.ctlWorkEnd n c g r i status detail s.now
  | .clearHalt k p => (s.dropCtl n c.use c.addr).pxCleared n c.addr p k false
  | _ => if s.splitCheck n c then (s.dropCtl n c.use c.addr).splitTree n else (s.dropCtl n c.use c.addr).accFail n c lost (status == 1)

/-- A packet of a control transfer had an error (R120): sent again, or the transfer ends. -/
def State.ctlError (s : State) (n : Nat) (c : Ctl) (cause : Nat) : State :=
  let lim := if s.splitCheck n c then 1 else s.get (F.gpFrameCfg_retry_limit n)
  if lim < c.errs + 1 then s.ctlFail n c 2 cause (c.stage == 2)
  else s.modCtl n c.use c.addr fun c => { c with errs := c.errs + 1, cause := cause }

/-- The device has acknowledged the setup: a SET_PORT_STATE with CUT has cut its port (R123, R132). -/
def State.setupAcked (s : State) (n : Nat) (c : Ctl) : State :=
  let s1 := s.modCtl n c.use c.addr fun c => { c with stage := if c.len = 0 then 2 else 1, seq := 1, errs := 0 }
  let s2 := if s1.splitCheck n c then
      ({ s1 with tw := { s1.tw with check := s1.tw.check.filter (·.1 != n) } } : State).raise F.twEvents_takeover else s1
  if byteAt c.setup 0 / 32 % 4 = 1 && byteAt c.setup 1 = 3 && leAt c.setup 2 2 = 3 then s2.cutAcked n c.addr (leAt c.setup 4 2) else s2

/-- Data of a control transfer goes into mover staging: that of a work entry into its place, and that of accession is read there by port service,
which may meet an uncorrectable error, for gallery 0 (R172, R397). -/
def State.ctlStage (s : State) (c : Ctl) (pl : List Byte) : Bool × State :=
  match c.use with
  | .work g r i => (false, match s.findWork g r i with
    | some w => s.putStaged (pl.length + 1) w c.data.length pl
    | none => s)
  | _ => if pl.isEmpty then (false, s) else s.itemReadHalt 0x3C0000 pl.length 0

/-- What a response does to a control transfer (R112, R113, R118); the seq of a data packet or ACK of the data stage as in bulkResp (log entry
173). -/
def State.ctlResp (s : State) (n : Nat) (c : Ctl) (r : Resp) (t : Nat) : State :=
  match r with
  | .bad k => s.ctlError n c k
  | .stall => s.ctlFail n c 1 0 false
  | .nak =>
    let s1 := s.modCtl n c.use c.addr fun c => { c with nak := some s.frame, errs := 0 }
    match c.use with
    | .work _ _ _ => s1.bump (F.cuPortBulk_naks n)
    | _ => s1
  | .ack sq _ =>
    if c.stage = 0 then s.setupAcked n c
    else if c.stage = 2 then s.ctlDone n c t
    else if sq ≠ c.seq then s.modCtl n c.use c.addr fun c => { c with errs := 0 }
    else
      let rest := c.data.drop (s.ctlMax n c.addr)
      s.modCtl n c.use c.addr fun c => { c with data := rest, seq := 1 - c.seq, errs := 0, stage := if rest.isEmpty then 2 else 1 }
  | .data h pl =>
    if c.stage = 2 then (if pl.isEmpty then s.ctlDone n c t else s.ctlError n c 4)
    else if h.tsa % 2 ≠ c.seq then s.modCtl n c.use c.addr fun c => { c with errs := 0 }
    else
      let all := c.data ++ pl
      let fin := decide (c.len ≤ all.length) || h.tsa / 2 == 1 || decide (pl.length < s.ctlMax n c.addr)
      let y := s.ctlStage c pl
      if y.1 then y.2.ctlFail n c 2 0 false
      else y.2.modCtl n c.use c.addr fun c => { c with data := all, seq := 1 - c.seq, errs := 0, stage := if fin then 2 else 1 }
  | .echo _ => s.ctlError n c 4

/-! ### Bulk transfers (R112, R113, R247) -/

/-- A packet of a bulk transfer had an error (R120). -/
def State.bulkError (s : State) (n : Nat) (w : Work) (cause : Nat) : State :=
  if s.get (F.gpFrameCfg_retry_limit n) < w.errs + 1 then s.workFail w 2 cause
  else s.modWork w.g w.r w.i fun w => { w with errs := w.errs + 1, cause := cause }

/-- What a response does to a bulk transfer. The data of an inward packet goes into its place in the pipe's region (R23, R184). A data packet or an
ACK whose seq is not the packet's is neither taken nor an error (R112): the exchange is a good one, and ends the run of consecutive errors (DESIGN
CHOICE, log entry 173). -/
def State.bulkResp (s : State) (n : Nat) (w : Work) (x : Xact) (r : Resp) (t : Nat) : State :=
  let c := w.ctx
  match r with
  | .bad k => s.bulkError n w k
  | .echo _ => s.bulkError n w 4
  | .stall => (s.pxHalt c).workFail w 1 0
  | .nak => (s.modWork w.g w.r w.i fun w => { w with nak := some s.frame, errs := 0 }).bump (F.cuPortBulk_naks n)
  | .ack sq _ =>
    if sq ≠ x.seq then s.modWork w.g w.r w.i fun w => { w with errs := 0 }
    else
      let k := min (s.pxMax c) (w.data.length - w.sent)
      let w1 := { w with sent := w.sent + k, errs := 0 }
      let s1 := ((s.modWork w.g w.r w.i fun _ => w1).setSeq n x.addr x.pipe (1 - x.seq)).setReg (R.pxLastFrame c) (BitVec.ofNat 32 s.frame)
      if w.data.length ≤ w1.sent then s1.workEnd w1 0 0 t else s1
  | .data h pl =>
    if h.tsa % 2 ≠ x.seq then s.modWork w.g w.r w.i fun w => { w with errs := 0 }
    else
      let w1 := { w with data := w.data ++ pl, errs := 0 }
      let s1 := (((s.putStaged (pl.length + 1) w w.data.length pl).modWork w.g w.r w.i fun _ => w1).setSeq n x.addr x.pipe (1 - x.seq)).setReg
        (R.pxLastFrame c) (BitVec.ofNat 32 s.frame)
      if w.len ≤ w1.data.length || h.tsa / 2 = 1 || pl.length < s.pxMax c then s1.workEnd w1 0 0 t else s1

/-! ### Periodic and event pipes (R114, R190, R199, R213) -/

/-- What a response does to a periodic-in context (R190). -/
def State.inResp (s : State) (n c : Nat) (r : Resp) (t : Nat) : State :=
  match r with
  | .data h pl =>
    let own := bitOf h.tsb 0
    let time := if own then extend32 t h.tsc else s.tk.boundary
    let q := if own then s.devQuality n (s.pxAddr c) time else s.chipQuality time
    (s.slotNew c time q (b2n own + b2n (bitOf h.tsb 1) * 8 + b2n (bitOf h.tsb 3) * 16) pl).lastUse c time
  | .nak => if s.flag (F.pxBind_sparse c) then s else s.slotMissed c
  | .stall => (s.slotMissed c).pxHalt c
  | _ => (s.slotMissed c).bump (F.pxCntB_errors c)

/-- What a response does to a periodic-out context (R114, R199). -/
def State.outResp (s : State) (c : Nat) (r : Resp) : State :=
  match r with
  | .ack _ late => if late then s.bump (F.pxCntC_late c) else s
  | .nak => s.bump (F.pxCntB_missed c)
  | .stall => (s.bump (F.pxCntB_missed c)).pxHalt c
  | _ => (s.bump (F.pxCntB_missed c)).bump (F.pxCntB_errors c)

/-- Whether an event is not later than the last one the partner mirrored before its tree changed hands (R376 rule 3). -/
def State.eventSeen (s : State) (n a p time : Nat) : Bool := s.sharedPort n && time ≤ tget (fun _ => 0) s.tw.evts (pipeKey n a p) &&
  (s.tw.evts.any fun e => e.1 == pipeKey n a p)

/-- An event's slot is staged: whether reading it again meets an uncorrectable error (R172, R174, R184, R397). -/
def State.eventStage (s : State) (c : Nat) (b : List Byte) : Bool × State :=
  if s.get (F.pxRegion_size c) = 0 then s.itemReadHalt 0x280000 32 0
  else
    let a := s.inStage c (s.ctx c).nextSlot
    let x := (s.stageSlot c b).ramRead a b.length 2
    (x.1.isSome, x.2)

/-- An event is accepted (R112, R255, R279): its sequence bit toggles, it is mirrored, acted on by accession, routed and written. A wake event
is told by its message code, on a hub's pipe 1 too (R167). A payload that is shorter than the event's time is taken as an event whose missing bytes are 0
(DESIGN CHOICE, log entry 174). Its slot is staged in the pipe's region with the flags of R191, or among the items of port service for a hub (R174); one
that cannot be read there again goes no further (log entry 178). -/
def State.eventTake (s : State) (n c : Nat) (h : Hdr) (pl : List Byte) : State :=
  let a := s.pxAddr c
  let p := s.pxPipe c
  let time := leAt pl 0 8
  let wake := leAt pl 8 2 = 0xFF01 && 16 ≤ pl.length
  let hub := p == 1 && s.isHub n a && !wake
  let sq := 1 - h.tsa % 2
  let s1 := (s.setSeq n a p sq).lastUse c time
  if s.eventSeen n a p time then (s1.bump F.twCnt_suppressed).raise F.twEvents_suppressed
  else
    let s2 := if s1.mirrors n then s1.mirrorItem 5 n a p 0 (leBytes 8 sq ++ leBytes 8 time) else s1
    let e : Event := { typ := if hub then 2 else 1, flags := b2n (bitOf h.tsb 1) + b2n (bitOf h.tsb 2) * 2, ctx := c, port := n, addr := a
                       pipe := p, quality := s.devQuality n a time, frame := s.frame, payload := pl, flushed := false }
    let y := s2.eventStage c (s.slotBytes time e.quality (1 + b2n (bitOf h.tsb 1) * 8) pl)
    if y.1 then y.2.bump (F.pxCntB_errors c)
    else
      let s3 := y.2.eventIn c e
      if wake then s3.wakeEvent n a pl else if hub then s3.hubReport n a pl else s3

/-- What a response does to an event-in context (R112, R116, R120); a data packet of another seq is not taken (log entry 173). -/
def State.evtResp (s : State) (n c : Nat) (x : Xact) (r : Resp) : State :=
  match r with
  | .data h pl => if h.tsa % 2 ≠ x.seq then s else s.eventTake n c h pl
  | .nak => s
  | .stall => s.pxHalt c
  | _ => s.bump (F.pxCntB_errors c)

/-! ### Outcomes -/

/-- A device that answers, or leaves a transaction without a response (R121). A standby, which runs no accession, loses no device (R371). -/
def State.heard (s : State) (n a : Nat) (ok : Bool) : State :=
  if a = 0 || !s.attached n a then s
  else if ok then (if (s.dev n a).silent = 0 then s else s.modDev n a fun d => { d with silent := 0 })
  else if 32 ≤ (s.dev n a).silent + 1 && s.ownsPort n then s.deviceLost n a
  else s.modDev n a fun d => { d with silent := min 32 (d.silent + 1) }

/-- An outcome goes to what its transaction was for; `t` is the arrival of the response in 100 ps. -/
def State.outcome (s : State) (n : Nat) (x : Xact) (r : Resp) (t : Nat) : State :=
  match x.use with
  | .periodicIn c => s.inResp n c r (t / 10)
  | .periodicOut c => s.outResp c r
  | .event c => s.evtResp n c x r
  | .bulk g rr i => match s.findWork g rr i with
    | some w => s.bulkResp n w x r (t / 10)
    | none => s
  | .ctl u => match s.findCtl n u x.addr with
    | some c => s.ctlResp n c r (t / 10)
    | none => s
  | .probe => match r with
    | .echo pl =>
      if leAt pl 4 4 = x.num then s.rangingEcho n x.addr (t - x.eop) (leAt pl 0 4) (leAt pl 12 4) (leAt pl 8 4 % 2 ^ 16)
      else s.echoLost n x.addr
    | _ => s.echoLost n x.addr
  | .gone => s

/-- The packet type that opened a transaction: 1 a token, 2 data or a setup, 6 a probe. -/
def State.sentTyp (s : State) (n : Nat) (x : Xact) : Nat :=
  match x.use with
  | .periodicIn _ => 1
  | .event _ => 1
  | .periodicOut _ => 2
  | .probe => 6
  | .bulk g r i => match s.findWork g r i with
    | some w => if w.op = 1 then 1 else 2
    | none => 1
  | .ctl u => match s.findCtl n u x.addr with
    | some c => if c.stage = 0 then 2 else if c.up == (c.stage == 1) then 1 else 2
    | none => 1
  | .gone => 1

/-- A transaction is closed. -/
def State.closeXact (s : State) (n tag : Nat) : State := s.modPort n fun g => { g with opens := g.opens.filter (·.tag != tag) }

/-- The end of a transaction's acceptance window in 100 ps: 12 ns after the expected arrival, 50 ns for an echo, 20 µs after the EOP when it is
unranged (R96, R109, R111). -/
def Xact.closes (x : Xact) : Nat :=
  match x.expect with
  | some e => e + (if x.use == .probe then 500 else 120)
  | none => x.eop + 200000

/-- Whether an arrival lies in a transaction's acceptance window. -/
def Xact.accepts (x : Xact) (t : Nat) : Bool :=
  match x.expect with
  | some e => e ≤ t + 120 && t ≤ x.closes
  | none => x.eop + 1980 ≤ t && t ≤ x.closes

/-- The acceptance window of a transaction closes without a response (R119). -/
def State.respTimeout (s : State) (n : Nat) (x : Xact) (inj : Bool) : State :=
  let s0 := (s.advanceTo (ceilDiv x.closes 10)).closeXact n x.tag
  let s1 := ((s0.bump (F.gpXactCnt_timeouts n)).raise (F.gpXactEvents_timeout n)).detect 0x07 0 n (x.pipe * 256 + x.addr) inj
  let s2 := s1.modPort n fun g => { g with pipeEnd := tput (fun _ => 0) g.pipeEnd (16 * x.addr + x.pipe) x.closes }
  ((s2.outcome n x (.bad 1) x.closes).heard n x.addr false)

/-! ### Receiving (R83, R109, R122, R407) -/

/-- The duration of a received packet in 100 ps: its start delimiter and its symbols. -/
def rxDur (p : RxPacket) : Nat := p.groups.length * 40

/-- The header of a packet that passes checks 1 to 3 of R83. -/
def RxResult.hdr (r : RxResult) : Option Hdr :=
  match r with
  | .good h _ _ => some h
  | .payload h => h
  | .armour h _ _ => some h
  | _ => none

/-- The receive checks with the injections of points 0x03 and 0x04 (R407): the result, and whether it was injected. A packet that fails a check of
itself and meets an armed injection makes one failure with it, which is marked injected (R406). -/
def State.rxJudge (s : State) (n : Nat) (p : RxPacket) : RxResult × Bool × State :=
  match rxCheck p.start p.syms with
  | .codeViolation => (.codeViolation, false, s)
  | r =>
    let i := s.inject 0x03 n fun v => v == 0
    if i.1 then (.header (match r with
      | .header h => h
      | _ => none), true, i.2)
    else
      let j := s.inject 0x03 n fun v => v == 1
      let k := s.inject 0x04 n fun _ => true
      match r with
      | .good h pl _ =>
        if !pl.isEmpty && j.1 then (.payload (some h), true, j.2)
        else if h.arm == 1 && !pl.isEmpty && k.1 then (.armour h 1 0, true, k.2)
        else (r, false, s)
      | .payload h =>
        if j.1 then (r, true, j.2)
        else match h.filter (·.arm == 1) with
          | some h => if k.1 then (.armour h 1 0, true, k.2) else (r, false, s)
          | none => (r, false, s)
      | .armour _ _ _ => if k.1 then (r, true, k.2) else (r, false, s)
      | _ => (r, false, s)

/-- What the outcome of the checks counts (R83), and their detectors (R396). -/
def State.rxErr (s0 : State) (n : Nat) (r : RxResult) (inj : Bool) : State :=
  match r with
  | .good _ _ k => s0.add (F.gpArmCorr_bytes n) k
  | .codeViolation => s0
  | .header h => (s0.bump (F.gpCrcErr_header n)).detect 0x03 0 n ((h.map (·.addr)).getD 0) inj
  | .payload h => (s0.bump (F.gpCrcErr_payload n)).detect 0x03 0 n (2 ^ 8 + (h.map (·.addr)).getD 0) inj
  | .armour h b k => ((s0.add (F.gpArmFail_blocks n) b).add (F.gpArmCorr_bytes n) k).detect 0x04 0 n (h.pipe * 256 + h.addr) inj

/-- What the checks count, symbol by symbol and by their outcome. -/
def State.rxCount (s : State) (n : Nat) (p : RxPacket) (r : RxResult) (inj : Bool) : State :=
  ((s.add (F.gpSymErr_disparity n) p.disp).add (F.gpSymErr_code n) (codeViolations p.all)).rxErr n r inj

/-- A slot overrun (R122). -/
def State.slotOverrun (s : State) (n : Nat) (a : Option Nat) (inj : Bool) : State :=
  (((s.bump (F.gpXactCnt_overruns n)).raise (F.gpXactEvents_overrun n)).detect 0x06 1 n (a.getD 0) inj).babble n a inj

/-- An answered transaction holds its tag until its acceptance window closes (R216). -/
def State.keepTag (s : State) (n : Nat) (x : Xact) : State :=
  s.modPort n fun g => { g with tags := (x.tag, x.closes, x.pool) :: g.tags.filter fun t => s.now * 10 < t.2.1 }

/-- A response in the window of an open transaction is judged and acted on; one that overruns its slot, or of which a symbol arrives in the
end-of-frame guard, is discarded (R122). -/
def State.rxTake (s : State) (n : Nat) (x : Xact) (p : RxPacket) : State :=
  let fin := p.t + rxDur p
  let y := s.rxJudge n p
  let s1 := (((y.2.2.advanceTo (ceilDiv fin 10)).closeXact n x.tag).keepTag n x).rxCount n p y.1 y.2.1
  let s2 := if x.expect.isNone then s1.modPort n fun g =>
      { g with quiet := fin + 20000, upFree := fin, pipeEnd := tput (fun _ => 0) g.pipeEnd (16 * x.addr + x.pipe) fin } else s1
  let late : Bool := match x.expect with
    | some e => e + x.slot * 10 + 120 < fin
    | none => x.slot * 10 + 120 < rxDur p
  let big : Bool := y.1.hdr.any fun h => h.typ == 2 && x.room < h.len
  let runs := s2.inject 0x06 n fun _ => true
  let a := y.1.hdr.map (·.addr)
  let resp : Resp := match y.1 with
    | .good h pl _ => if h.addr ≠ x.addr || h.pipe ≠ x.pipe || h.tag ≠ x.tag || h.dir ≠ 1 then .bad 4 else respTo (s.sentTyp n x) h pl
    | .armour _ _ _ => .bad 3
    | _ => .bad 2
  let overran := late || big || runs.1
  let inGuard : Bool := s.guardAt < fin && p.t < s.guardAt + 10000
  let s3 := if overran then runs.2.slotOverrun n a runs.1 else if inGuard then s2.babble n a else s2
  (s3.outcome n x (if overran || inGuard then .bad 2 else resp) p.t).heard n x.addr true

/-- RESPONSE_RECEIVE: a packet arrives at a root port (R109, R122). -/
def State.receive (s : State) (n : Nat) (p : RxPacket) : State :=
  if !(n < s.nPorts) || s.link n ≠ 3 then s
  else match (s.port n).opens.find? fun x => x.accepts p.t with
    | none =>
      let y := s.rxJudge n p
      (((y.2.2.advanceTo (ceilDiv (p.t + rxDur p) 10)).rxCount n p y.1 y.2.1).babble n (y.1.hdr.map (·.addr)))
    | some x =>
      let i := s.inject 0x07 n fun _ => true
      if i.1 then i.2.respTimeout n x true else s.rxTake n x p

/-! ### Eligibility (R216, R218 to R221) -/

/-- Whether bulk engine n may take a tag (R216). -/
def State.tagFree (s : State) (n : Nat) : Bool :=
  s.tagsUsed n < 256 - s.tagNeed n && sumOf (s.ports.map s.tagsUsed) < 1024 - sumOf (s.ports.map s.tagNeed)

/-- Whether a transaction is in flight on a pipe (R219). -/
def State.pipeBusy (s : State) (n a p : Nat) : Bool := (s.port n).opens.any fun x => x.addr == a && x.pipe == p

/-- Whether a device can be sent bulk and control packets: Unranged, Ranged or Resynced (R175). -/
def State.bulkServed (s : State) (n a : Nat) : Bool := 3 ≤ s.devSt n a && s.devSt n a ≤ 5

/-- The first entry of each pipe in the bulk queue of port n, with the level and order that the pipe's entries give it (R220). -/
def State.bulkHeads (s : State) (n : Nat) : List (Work × Nat × Nat) :=
  let q := s.bulkQueue n
  let pipe w := (s.workPlace w).2
  let heads := q.foldl (fun (hs : List Work) w => if hs.any fun h => pipe h == pipe w then hs else hs ++ [w]) []
  heads.map fun h =>
    let same := q.filter fun w => pipe w == pipe h
    let top := same.foldl (fun m w => max m w.level) 0
    (h, top, ((same.find? (·.level == top)).map (·.stamp)).getD 0)

/-- Whether the head of a pipe is eligible in this frame, its fit and its pipe's transaction in flight apart (R220, R221, R223). -/
def State.bulkElig (s : State) (n : Nat) (w : Work) : Bool :=
  let p := s.workPlace w
  w.ended.isNone && s.bulkServed n p.2.1 && (w.op == 3 || s.pxState w.ctx == 2) &&
  (!w.outward || w.stage == .none || w.stage == .done) && s.fenceOpen w && w.nak != some s.frame &&
  (if w.op = 3 then match (s.port n).ctls.find? (·.addr == p.2.1) with
    | some c => c.use == .work w.g w.r w.i && c.nak != some s.frame
    | none => true
   else true)

/-- Whether the head of a pipe may issue its next packet, its fit apart (R219 to R221, R223). -/
def State.bulkReady (s : State) (n : Nat) (w : Work) : Bool :=
  s.bulkElig n w && !s.pipeBusy n (s.workPlace w).2.1 (s.workPlace w).2.2

/-- Whether the packet an entry has on the wire is its last: it has then left the urgent set (R223, and packet 9 of the full frame under
"A full frame on the feeder bay"). -/
def State.lastOut (s : State) (n : Nat) (w : Work) : Bool :=
  if w.op = 3 then (s.findCtl n (.work w.g w.r w.i) w.addr).any fun c => 2 ≤ c.stage
  else if w.op = 1 then decide (w.len - w.data.length ≤ s.pxMax w.ctx)
  else decide ((w.data.drop w.sent).length ≤ s.pxMax w.ctx)

/-- The packet that a bulk or control entry sends next: header, payload, room, use. -/
def State.bulkPacket (s : State) (n : Nat) (w : Work) : Hdr × List Byte × Nat × XUse :=
  let p := s.workPlace w
  if w.op = 3 then
    let c := ((s.findCtl n (.work w.g w.r w.i) p.2.1)).getD
      { use := .work w.g w.r w.i, addr := p.2.1, setup := w.setup, data := if w.outward then w.data else [] }
    let k := s.ctlPacket n c
    (k.1, k.2.1, k.2.2, .ctl (.work w.g w.r w.i))
  else
    let sq := s.seqBit n p.2.1 p.2.2
    let m := s.pxMax w.ctx
    if w.op = 1 then
      let room := min m (w.len - w.data.length)
      ({ downHdr 1 p.2.1 p.2.2 with tsa := sq, tsc := room }, [], room, .bulk w.g w.r w.i)
    else
      let rest := w.data.drop w.sent
      let pl := rest.take m
      ({ downHdr 2 p.2.1 p.2.2 with tsa := sq + 2 * b2n (decide (rest.length ≤ m)), arm := b2n (s.pxArm w.ctx && !pl.isEmpty) }, pl, 0,
       .bulk w.g w.r w.i)

/-- The duration of the longest response to a packet: a handshake, or data of the room on a pipe that may be armoured. -/
def State.respNs (s : State) (w : Work) (h : Hdr) (room : Nat) : Nat :=
  if h.typ = 1 then packetNs (w.op != 3 && s.pxArm w.ctx) room else 56

/-- Mark the newest transaction of a port as holding one of the bulk engine's tags. -/
def State.poolTag (s : State) (n : Nat) : State :=
  s.modPort n fun g => { g with opens := g.opens.zipIdx.map fun x => if x.2 + 1 = g.opens.length then { x.1 with pool := true } else x.1 }

/-- The cost of a transaction against the urgent reserve (R204, R223, R371). -/
def State.urgentCost (s : State) (n p r : Nat) : Nat := p + r - 28 + (if s.costShared n then 8 else 0)

/-- The urgent reserve of a frame (R206). -/
def State.reserve (s : State) : Nat := ceilDiv (5 * frameLen s.rate) 100

/-- The data of an entry's next packet is read at sending from its place in SRAM: the bytes, and whether an uncorrectable error is met, for which the
packet ends in EOB (R23, R397). -/
def State.packetRead (s : State) (w : Work) (off : Nat) (pl : List Byte) : List Byte × Bool × State :=
  if pl.isEmpty then (pl, false, s)
  else
    let x := s.takeStaged (pl.length + 1) w off pl.length
    if x.2.1.isSome then (pl, true, x.2.2) else (x.1, false, x.2.2)

/-- How far an outward entry has got: the offset in its data of its next packet. -/
def State.workOff (s : State) (n : Nat) (w : Work) : Nat :=
  if w.op = 3 then match s.findCtl n (.work w.g w.r w.i) w.addr with
    | some c => w.data.length - c.data.length
    | none => 0
  else w.sent

/-- A bulk or control entry's next packet is sent where it fits; the answer says whether it went. Its queue item is read first: an uncorrectable error
in the Curator's queues halts its gallery, and nothing is sent (R397). -/
def State.bulkSend (s : State) (n : Nat) (w : Work) (pool : Bool) : Bool × State :=
  let k := s.bulkPacket n w
  let r := s.respNs w k.1 k.2.2.1
  let stage := match s.findCtl n (.work w.g w.r w.i) w.addr with
    | some c => c.stage
    | none => 0
  if !s.fits n k.1.addr k.1.pipe (packetNs (k.1.arm == 1) k.2.1.length) r then (false, s)
  else
    let q := s.itemReadHalt 0x280000 16 w.g
    if q.1 then (false, q.2)
    else
      let y := if w.op = 3 && stage != 1 then (k.2.1, false, q.2) else q.2.packetRead w (s.workOff n w) k.2.1
      let s1 := ((y.2.2.sendNow n k.1 y.1 k.2.2.2 k.2.2.1 r (!y.2.1)).2).modWork w.g w.r w.i fun w => { w with started := true }
      let a := (s.workPlace w).2.1
      let s2 := if w.op = 3 && (s.findCtl n (.work w.g w.r w.i) a).isNone then
          s1.modPort n fun g =>
            { g with ctls := g.ctls ++ [{ use := .work w.g w.r w.i, addr := a, setup := w.setup, data := if w.outward then w.data else []
                                          began := some s.now }] }
        else s1
      (true, if pool then s2.poolTag n else s2)

/-- Entries at the heads of their pipes that their context or device refuses complete (R157, R178, R246), and those no longer owned are silent
violations (R319). -/
def State.bulkSweep1 (s : State) (n : Nat) : State :=
  forEach ((s.bulkHeads n).map (·.1)) s fun s w =>
    let p := s.workPlace w
    if w.ended.isSome || s.pipeBusy n p.2.1 p.2.2 then s
    else if !w.started && s.violationOf w ≠ 0 then s.completeViolation w (s.violationOf w)
    else match s.bulkRefusal w with
      | some (st, d) =>
        let s1 := (((s.mvForget w.g w.r w.i).ctlForget n p.2.1 w.g w.r w.i)).complete w st d (s.workMoved n w)
        if st = 5 && w.r < 8 then s1.setResume w.g w.r w.i 2 else s1
      | none => s

/-- The same until no head completes, so that every head that can go to the bus has been checked (R319); k bounds the passes. -/
def State.bulkSweep : Nat → State → Nat → State
  | 0, s, _ => s
  | k + 1, s, n =>
    let t := s.bulkSweep1 n
    if t.work.length = s.work.length then t else State.bulkSweep k t n

/-! ### The urgent set (R223) -/

/-- An urgent item is carried to a later frame. -/
def State.urgentDefer (s : State) (n : Nat) (key : Nat × Nat × Nat) : State :=
  (s.bump (F.cuPortUrgent_deferred n)).modCu n fun cu => { cu with deferred := key :: cu.deferred }

/-- The key of a reflex insertion in the list of those deferred. -/
def reflexKey (x : ReflexOut) : Nat × Nat × Nat := (16, x.ctx, x.frame)

/-- The head packet of the urgent set: sent, deferred, or none. The answer says whether the packet boundary was used. -/
def State.urgentReflex (s : State) (n : Nat) : ReflexOut → Bool × State
  | x =>
    let c := x.ctx
    let v : OutVal := { data := x.payload, hdr := plainHdr x.payload.length }
    let p := packetNs (s.pxArm c) x.payload.length
    let cost := s.pxCost c
    if !(s.pxServed c s.frame && s.isRanged n (s.pxAddr c)) then
      (false, (s.modCu n fun cu => { cu with reflexes := cu.reflexes.filter (· != x) }).reflexLost n c)
    else if s.pipeBusy n (s.pxAddr c) (s.pxPipe c) then (false, s)
    else if s.reserve < (s.cuPort n).used + cost || !s.fits n (s.pxAddr c) (s.pxPipe c) p 56 then (false, s.urgentDefer n (reflexKey x))
    else
      let s1 := s.modCu n fun cu => { cu with reflexes := cu.reflexes.filter (· != x), used := cu.used + cost }
      (true, s1.sendOut n (s1.launchAt n (s.pxAddr c) (s.pxPipe c) p) c v true)

/-- The next urgent bulk entry: sent, or deferred when it does not fit (R223). -/
def State.urgentBulk (s : State) (n : Nat) (w : Work) : Bool × State :=
  let k := s.bulkPacket n w
  let p := packetNs (k.1.arm == 1) k.2.1.length
  let r := s.respNs w k.1 k.2.2.1
  let cost := s.urgentCost n p r
  if s.reserve < (s.cuPort n).used + cost then (false, s.urgentDefer n (w.g, w.r, w.i))
  else
    let x := s.bulkSend n w false
    if x.1 then (true, x.2.modCu n fun cu => { cu with used := cu.used + cost }) else (false, s.urgentDefer n (w.g, w.r, w.i))

/-- Order of the heads: level from 7 down, then order of entry. -/
def headBefore (x y : Work × Nat × Nat) : Bool := y.2.1 < x.2.1 || (x.2.1 == y.2.1 && x.2.2 ≤ y.2.2)

def insertHead (x : Work × Nat × Nat) : List (Work × Nat × Nat) → List (Work × Nat × Nat)
  | [] => [x]
  | y :: ys => if headBefore x y then x :: y :: ys else y :: insertHead x ys

def sortHeads (xs : List (Work × Nat × Nat)) : List (Work × Nat × Nat) := xs.foldr insertHead []

/-- Try items in turn until one uses the packet boundary. -/
def tryEach {α : Type} (f : State → α → Bool × State) : List α → State → Bool × State
  | [], s => (false, s)
  | x :: xs, s =>
    let y := f s x
    if y.1 then y else tryEach f xs y.2

/-- Whether port n's bulk engine issues transactions: in Open only, and in the step into Dimmed until it has none open (R411); in Dimmed urgent
bulk entries wait with the rest of their queue (R413). -/
def State.bulkRuns (s : State) (n : Nat) : Bool :=
  s.power == 0 && match s.cn.move with
    | .down _ _ _ => s.bulkOut n
    | _ => true

/-- The urgent set takes the packet boundary (R223): whether it was used, or is held back for an item that still waits in the set. -/
def State.urgentGo (s : State) (n : Nat) : Bool × State :=
  let cu := s.cuPort n
  let x := tryEach (fun s r => s.urgentReflex n r) (cu.reflexes.filter fun r => !cu.deferred.contains (reflexKey r)) s
  if x.1 then x
  else
    let hs := (sortHeads (x.2.bulkHeads n)).filter fun h => s.bulkRuns n && h.2.1 == 7 && x.2.bulkReady n h.1 && !cu.deferred.contains (h.1.g, h.1.r, h.1.i)
    let y := tryEach (fun s (h : Work × Nat × Nat) => s.urgentBulk n h.1) hs x.2
    if y.1 then y
    else
      let cu := y.2.cuPort n
      let waits : Bool := s.bulkRuns n && (y.2.bulkHeads n).any fun h =>
        h.2.1 == 7 && y.2.bulkElig n h.1 && y.2.pipeBusy n (y.2.workPlace h.1).2.1 (y.2.workPlace h.1).2.2 && !y.2.lastOut n h.1 &&
        !cu.deferred.contains (h.1.g, h.1.r, h.1.i)
      (waits || cu.reflexes.any fun r => !cu.deferred.contains (reflexKey r), y.2)

/-! ### Port service (R218) -/

/-- An item of port service is sent where it fits; the answer says whether it went. -/
def State.serviceGo (s : State) (n : Nat) (v : Svc) : Bool × State :=
  let drop (s : State) := s.modPort n fun g => { g with svc := g.svc.filter (· != v) }
  match v with
  | .ctl u a =>
    match (s.port n).ctls.find? (·.addr == a) with
    | none => (false, drop s)
    | some c =>
      if c.use ≠ u || s.pipeBusy n a 0 || c.nak = some s.frame then (false, s)
      else
        let k := s.ctlPacket n c
        let x := s.sendNow n k.1 k.2.1 (.ctl u) k.2.2 (if k.1.typ = 1 then packetNs false k.2.2 else 56)
        if x.1 then (true, (x.2.modCtl n u a fun c => { c with began := some (c.began.getD s.now) }).poolTag n) else (false, s)
  | .poll c =>
    if !(s.pxServed c s.frame && s.pxPort c == n && s.devSt n (s.pxAddr c) == 3) then (false, drop s)
    else if s.pipeBusy n (s.pxAddr c) (s.pxPipe c) then (false, s)
    else
      let h := { downHdr 1 (s.pxAddr c) (s.pxPipe c) with tsa := s.seqBit n (s.pxAddr c) (s.pxPipe c), tsc := s.pxMax c }
      let x := s.sendNow n h [] (.event c) (s.pxMax c) (packetNs (s.pxArm c) (s.pxMax c))
      if x.1 then (true, (drop x.2).poolTag n) else (false, s)
  | .probe a until_ =>
    if !s.isRanged n a then (false, drop s)
    else if newer s.frame until_ then (false, (drop s).bump (F.gpAccStatus_probe_skips n))
    else if s.pipeBusy n a 0 then (false, s)
    else
      let x := s.sendProbe n a (2 ^ 31 + s.get (F.gpRangeDev0_d_down n a))
      if x.1 then (true, (drop x.2).poolTag n) else (false, s)
  | .sweep a =>
    if s.pipeBusy n a 0 then (false, s)
    else
      let x := s.sendSweep n a
      if x.1 then (true, (drop x.2).poolTag n) else (false, x.2)

/-- The same for the packet boundary: the item is read from the Curator's queues first, for gallery 0 (R397). -/
def State.serviceTry (s : State) (n : Nat) (v : Svc) : Bool × State :=
  let q := s.itemReadHalt 0x280000 16 0
  if q.1 then (false, q.2) else q.2.serviceGo n v

/-! ### The packet boundary (R218) -/

/-- Whether the bulk window of the current frame is open to port n: the plan is sent and is not a repeat (R228). -/
def State.bulkOpen (s : State) (n : Nat) : Bool :=
  (s.cuPort n).todo.isEmpty && s.link n == 3 && s.ownsPort n && !(s.port n).resuming && (s.port n).suspend != 2 &&
  !((s.cuPort n).plan.any (·.late))

/-- The standby of a shared tree sends nothing but ranging probes to the first-tier hub (R371). -/
def State.standbyBoundary (s : State) (n : Nat) : State :=
  let hub a := s.devSt n a != 0 && (s.place n a).1 == 0
  (tryEach (fun s x => s.serviceTry n x) ((s.port n).svc.filter fun x => match x with
    | .probe a _ => hub a
    | .sweep a => hub a
    | _ => false) s).2

/-- BULK_PACKET_BOUNDARY (R218): the next transaction of the bulk window. -/
def State.bulkBoundary (s : State) (n : Nat) : State :=
  if s.tk.stepping then s
  else if s.link n = 3 && !s.ownsPort n then s.standbyBoundary n
  else if !s.bulkOpen n then s
  else
    let s0 := s.bulkSweep ((s.bulkQueue n).length + 1) n
    let u := s0.urgentGo n
    if u.1 then u.2
    else if !u.2.tagFree n then u.2
    else
      let v := tryEach (fun s x => s.serviceTry n x) (u.2.port n).svc u.2
      if v.1 || !s.bulkRuns n then v.2
      else (tryEach (fun s (h : Work × Nat × Nat) => s.bulkSend n h.1 true)
        ((sortHeads (v.2.bulkHeads n)).filter fun h => v.2.bulkReady n h.1) v.2).2

/-! ### Timers and observations -/

/-- RESPONSE_TIMEOUT (R119). -/
def State.tagTimeout (s : State) (n tag : Nat) : State :=
  match (s.port n).opens.find? (·.tag == tag) with
  | some x => s.respTimeout n x false
  | none => s

/-- CONTROL_TIMEOUT (R118): 5 ms have passed since the first setup of the device's transfer. -/
def State.ctlExpire (s : State) (n a : Nat) : State :=
  match (s.port n).ctls.find? (·.addr == a) with
  | some c => match c.began with
    | some t =>
      let s1 := (s.advanceTo (t + 5000000)).modPort n fun g =>
        { g with opens := g.opens.map fun x => if x.use = .ctl c.use && x.addr = a then { x with use := .gone } else x }
      s1.ctlFail n c 3 (c.stage + 1) (c.stage == 2)
    | none => s
  | none => s

/-- BABBLE_OBSERVATION (R122): address 0 says that the observation is unattributed. -/
def State.babbleSeen (s : State) (n a : Nat) : State := if n < s.nPorts && s.link n = 3 then s.babble n (if a = 0 then none else some a) else s

/-- AGEING_PROMOTION (R222). -/
def State.agePromote (s : State) (n g r i : Nat) : State :=
  match s.findWork g r i with
  | none => s
  | some w =>
    let th := if w.level < 4 then bitsOf (s.reg R.cuAgeCfg0).toNat (8 * w.level) 8 else bitsOf (s.reg R.cuAgeCfg1).toNat (8 * (w.level - 4)) 8
    if w.loc = .queued && (s.workPlace w).1 = n && w.level < 7 && th ≠ 0 && th ≤ (s.frame + 2 ^ 32 - w.since) % 2 ^ 32 then
      let s1 := s.modWork g r i fun w => { w with level := w.level + 1, since := s.frame, stamp := s.stamps }
      ({ s1 with stamps := s.stamps + 1 } : State).bump (F.cuPortBulk_promotions n)
    else s

/-- A ranging echo whose round trip and residences are given (R93). It is a response received like any other: the injections of points 0x03, 0x06
and 0x07 act on it, and not that of 0x04, since an echo is not armoured (R407). -/
def State.echoGiven (s : State) (n a rtt rd ru tt : Nat) : State :=
  match (s.port n).opens.find? fun x => x.addr == a && x.use == .probe with
  | none => s
  | some x =>
    let lost := s.inject 0x07 n fun _ => true
    if lost.1 then lost.2.respTimeout n x true
    else
      let base (s : State) : State := ((s.advanceTo ((x.eop + rtt) / 10)).closeXact n x.tag).keepTag n x
      let h := { downHdr 7 a 0 with dir := 1, tag := x.tag }
      let crc := s.inject 0x03 n fun v => v ≤ 1
      let runs := s.inject 0x06 n fun _ => true
      let s1 := if crc.1 then ((base crc.2).rxErr n (if s.get (F.fiInjCtrl_param 0x03) = 0 then .header none else .payload (some h)) true).echoLost n a
        else if runs.1 then ((base runs.2).slotOverrun n (some a) true).echoLost n a
        else (base s).rangingEcho n a rtt rd ru tt
      s1.heard n a true

/-- ECHO_LOST (R96): an echo did not come in time. -/
def State.echoMissed (s : State) (n a : Nat) : State :=
  match (s.port n).opens.find? fun x => x.addr == a && x.use == .probe with
  | some x => s.respTimeout n x false
  | none => s

/-! ### The commands -/

/-- RESPONSE_RECEIVE (R109). -/
def execResponseReceive (n : Fin 8) (x : RxPacket) (s : State) : Host.Outcome State Fault Refusal := act s fun s => s.receive n x

/-- RESPONSE_TIMEOUT (R119). -/
def execResponseTimeout (n : Fin 8) (tag : Fin 1024) (s : State) : Host.Outcome State Fault Refusal := act s fun s => s.tagTimeout n tag

/-- CONTROL_TIMEOUT (R118). -/
def execControlTimeout (n : Fin 8) (addr : Fin 64) (s : State) : Host.Outcome State Fault Refusal := act s fun s => s.ctlExpire n addr

/-- BABBLE_OBSERVATION (R122). -/
def execBabbleObservation (n : Fin 8) (addr : Fin 64) (s : State) : Host.Outcome State Fault Refusal := act s fun s => s.babbleSeen n addr

/-- BULK_PACKET_BOUNDARY (R218). -/
def execBulkPacketBoundary (n : Fin 8) (s : State) : Host.Outcome State Fault Refusal := act s fun s => s.bulkBoundary n

/-- AGEING_PROMOTION (R222). -/
def execAgeingPromotion (n : Fin 8) (g : Fin 16) (r : Fin 8) (i : BitVec 16) (s : State) : Host.Outcome State Fault Refusal :=
  act s fun s => s.agePromote n g r i.toNat

/-- RANGING_ECHO (R93). -/
def execRangingEcho (n : Fin 8) (addr : Fin 64) (rtt rd ru tt : Nat) (s : State) : Host.Outcome State Fault Refusal :=
  act s fun s => s.echoGiven n addr rtt rd ru tt

/-- ECHO_LOST (R96). -/
def execEchoLost (n : Fin 8) (addr : Fin 64) (s : State) : Host.Outcome State Fault Refusal := act s fun s => s.echoMissed n addr

end Sys2Proof.Machine
end

