-- ==== Sys2Proof/Machine/TimeKeeper.lean ====
section
/-! DEFINITION. The time keeper: references, sources, servo, step, holdover, alarms, PPS output (spec/02_time_keeper.md). -/

namespace Sys2Proof.Machine

/-! ### Sources and conditions (R40 to R47) -/

/-- What is known of source code c, 1 to 4. -/
def State.src (s : State) (c : Nat) : SrcTrack := s.tk.srcs.getD (c - 1) {}

def State.setSrc (s : State) (c : Nat) (t : SrcTrack) : State :=
  { s with tk := { s.tk with srcs := listSet s.tk.srcs (c - 1) t } }

/-- Whether source code c is enabled (R46). -/
def State.srcEnabled (s : State) (c : Nat) : Bool := bitOf (s.get F.tkRefSel_enable) (c - 1)

/-- Whether source code c is accepted (R44). -/
def State.srcAccepted (s : State) (c : Nat) : Bool := bitOf (s.get F.tkStatus_accepted) (c - 1)

/-- Whether this chip is the fabric time master (R362). -/
def State.isMaster (s : State) : Bool := s.get F.spFabStatus_master == s.chip && s.chip != 62

/-- The source the time keeper steers from: the lowest accepted and enabled code, or the forced one; source 4 only while not master (R46). -/
def State.chooseSource (s : State) : Nat :=
  let ok c := s.srcAccepted c && s.srcEnabled c && (c != 4 || !s.isMaster)
  let f := s.get F.tkRefSel_force
  if f = 0 then ([1, 2, 3, 4].find? ok).getD 0 else if f ≤ 4 && ok f then f else 0

def State.setCond (s : State) (c : TimeCond) : State := { s with tk := { s.tk with cond := c } }

/-- Enter holdover from the locked condition, with the bound of that moment (R47). -/
def State.enterHoldover (s : State) : State :=
  if s.tk.cond = .locked then
    ({ s with tk := { s.tk with cond := .holdover, holdStart := s.now, holdBound := s.lockedBound } } : State).raise F.tkEvents_holdover_entered
  else s

/-- Take the source that R46 chooses; a change starts the run of good seconds anew, and with none left holdover begins (R47). -/
def State.reselect (s : State) : State :=
  let c := s.chooseSource
  if c = s.get F.tkStatus_active_source then s
  else
    let s1 := if c = 0 then s.enterHoldover else s
    { (s1.put F.tkStatus_active_source c) with tk := { s1.tk with lockRun := 0 } }

/-- Enter free-run (R47). -/
def State.enterFreeRun (s : State) : State :=
  if s.tk.cond = .freeRun then s else (s.setCond .freeRun).raise F.tkEvents_free_run_entered

/-- An accepted source stops being one: holdover when it is the active one (R47), and the choice of R46. -/
def State.dropSource (s : State) (c : Nat) : State :=
  let s1 := if s.get F.tkStatus_active_source = c then s.enterHoldover else s
  ((s1.put F.tkStatus_accepted (Machine.clrBit (s1.get F.tkStatus_accepted) (c - 1))).setSrc c {}).reselect

/-- The loss of an accepted source (R45). -/
def State.loseSource (s : State) (c : Nat) (inj : Bool := false) : State :=
  if s.srcAccepted c then
    let s1 := ((s.dropSource c).raise F.tkEvents_ref_lost).detect 0x0D 1 0 0 inj
    if c = 4 then s1.parentLost else s1
  else s

/-- The rate correction after a servo update: a free value within ±100 ppm, since the loop's gains are not stated (R37, log entry 5). -/
def State.servoRate (s : State) : State :=
  let d := s.draw 32
  d.2.put F.tkRateAdj_rate (unsigned 32 (clampInt (-429497) 429497 (signed 32 d.1)))

/-- A second of source c without a phase error that counts: the active source's run of good seconds begins anew (R47). -/
def State.lockBreak (s : State) (c : Nat) : State :=
  if s.get F.tkStatus_active_source = c then { s with tk := { s.tk with lockRun := 0 } } else s

/-- The servo and the lock condition at a labelled edge of the active source with phase error e (R47). It rests while the counter runs on a
fallback clock (R39). The rate correction rests in holdover until a source is accepted again, and is steered from then on, before the lock
(DESIGN CHOICE, log entry 164). -/
def State.servo (s : State) (e : Int) : State :=
  let s1 := s.put F.tkOffset_offset (unsigned 32 e)
  if s1.get F.tkStatus_clock_source ≠ 0 then s1
  else
    let s2 := if s1.flag F.tkCtrl_servo_enable then s1.servoRate else s1
    let run := if e.natAbs ≤ s2.get F.tkServoCfg_lock_thresh then s2.tk.lockRun + 1 else 0
    let s3 : State := { s2 with tk := { s2.tk with lockRun := run } }
    if 4 ≤ run && s3.tk.cond != .locked then
      ((s3.setCond .locked).raise F.tkEvents_locked).raise F.tkStatus_first_lock_done
    else s3

/-- The acceptance of a source at an edge with phase error e; the first since the cold reset may step, of the sources that a forced choice
leaves in use (R44, R46, R49). -/
def State.acceptSource (s : State) (c : Nat) (e : Int) : State :=
  let s1 := (s.put F.tkStatus_accepted (withBit (s.get F.tkStatus_accepted) (c - 1))).raise F.tkEvents_ref_accepted
  let big := e.natAbs > s.get F.tkServoCfg_step_thresh
  let used := s.get F.tkRefSel_force == 0 || s.get F.tkRefSel_force == c
  let st := used && !s.tk.accepted1 && big && s.flag F.tkCtrl_first_step_enable
  ({ s1 with tk := { s1.tk with accepted1 := s.tk.accepted1 || used, step := if st then some e else s1.tk.step } } : State).reselect

/-- A phase edge of source c at counter value t (R44, R45). An edge out of step begins a new run of intervals; an edge without a label takes up
one label of the sequence of an accepted source. -/
def State.srcEdge (s : State) (c t : Nat) : State :=
  let tr := s.src c
  let late : Bool := match tr.edge with
    | some u => decide (u + 1500000000 < t)
    | none => false
  let s1 := if late then s.loseSource c else s
  let bad := if tr.waiting then tr.badLabel + 1 else tr.badLabel
  let s2 := if 2 ≤ bad then s1.loseSource c else s1
  let s2 := if tr.waiting then s2.lockBreak c else s2
  let iv := tr.edge.map fun u => t - u
  let near := match iv, tr.interval with
    | some d, some p => decide (((d : Int) - 1000000000).natAbs ≤ 200000) && decide (((d : Int) - p).natAbs ≤ 1000)
    | some d, none => decide (((d : Int) - 1000000000).natAbs ≤ 200000)
    | none, _ => false
  s2.setSrc c
    { edge := some t, interval := if near then iv else none, edgeOk := near, waiting := true
      label := if tr.waiting && s.srcAccepted c then tr.label.map (· + 1) else tr.label
      good := if tr.waiting || !near then 0 else tr.good, badLabel := bad }

/-- A label for the edge of source c that waits for one: TAI second `sec`, none when invalid (R44, R45). A label out of sequence says nothing of
the phase. -/
def State.srcLabel (s : State) (c : Nat) (sec : Option Nat) : State :=
  let tr := s.src c
  match tr.waiting, tr.edge with
  | true, some t =>
    let seqOk := match sec, tr.label with
      | some n, some p => n == p + 1
      | some _, none => true
      | none, _ => false
    let good := if seqOk && (tr.edgeOk || tr.good = 0) then tr.good + 1 else if sec.isSome then 1 else 0
    let bad := if seqOk then 0 else tr.badLabel + 1
    let lab := if !seqOk && s.srcAccepted c then tr.label.map (· + 1) else sec
    let s1 := s.setSrc c { tr with waiting := false, label := lab, good := good, badLabel := bad }
    let s1 := if seqOk then s1 else s1.lockBreak c
    if 2 ≤ bad then s1.loseSource c
    else match sec with
      | none => s1
      | some n =>
        let e : Int := n * secNs - t
        if s1.srcAccepted c then
          if !seqOk then s1
          else if s1.tk.accepted1 && s1.tk.step.isNone && e.natAbs > s1.get F.tkServoCfg_step_thresh then s1.loseSource c
          else if s1.get F.tkStatus_active_source = c && s1.tk.step.isNone then s1.servo e
          else s1
        else if 4 ≤ good && s1.srcEnabled c then
          let s2 := s1.acceptSource c e
          if s2.get F.tkStatus_active_source = c && s2.tk.step.isNone then s2.servo e else s2
        else s1
  | _, _ => s

/-! ### The time-of-day sentence (R41) -/

/-- A decimal number of at most n digits. -/
def decimal (n : Nat) (ds : List Byte) : Option Nat :=
  if ds.isEmpty || n < ds.length then none
  else ds.foldl (fun a d => match a with
    | some v => if 0x30 ≤ d.toNat && d.toNat ≤ 0x39 then some (v * 10 + (d.toNat - 0x30)) else none
    | none => none) (some 0)

/-- One upper-case hexadecimal digit. -/
def hexDigit (d : Byte) : Option Nat :=
  if 0x30 ≤ d.toNat && d.toNat ≤ 0x39 then some (d.toNat - 0x30)
  else if 0x41 ≤ d.toNat && d.toNat ≤ 0x46 then some (d.toNat - 0x37) else none

/-- The list cut at each comma. -/
def commaFields : List Byte → List (List Byte)
  | [] => [[]]
  | b :: bs =>
    if b = 0x2C then [] :: commaFields bs
    else match commaFields bs with
      | f :: fs => (b :: f) :: fs
      | [] => [[b]]

/-- The sentence's TAI second and TAI − UTC, when it is well formed, its checksum holds and st is not F (R41). -/
def parseTod (bs : List Byte) : Option (Nat × Nat) :=
  match bs with
  | [] => none
  | d :: rest =>
    let body := rest.takeWhile (· != 0x2A)
    let tail := rest.drop body.length
    let cs := body.foldl (fun a b => a ^^^ b) (0 : Byte)
    match tail with
    | [st, h, l, cr, lf] =>
      if d = 0x24 && st = 0x2A && cr = 0x0D && lf = 0x0A && ((hexDigit h).bind fun a => (hexDigit l).map (16 * a + ·)) == some cs.toNat then
        match commaFields body with
        | [name, sec, utc, acc, q] =>
          if name = [0x4B, 0x51, 0x54, 0x4F, 0x44] && (decimal 6 acc).isSome && (q = [0x4C] || q = [0x48]) then
            match decimal 12 sec, decimal 3 utc with
            | some a, some b => some (a, b)
            | _, _ => none
          else none
        | _ => none
      else none
    | _ => none

/-- A sentence received between t0 and t1: accepted or rejected (R41, R43). A utc field above 255 is cut to the
8 bits of tai_utc (DESIGN CHOICE, log entry 16). -/
def State.todSentence (s : State) (bs : List Byte) (t0 t1 : Nat) : State :=
  let s := s.advanceTo t1
  let inWindow := match (s.src 1).edge with
    | some e => e + 1000000 ≤ t0 && t1 ≤ e + 900000000
    | none => false
  match parseTod bs with
  | some (sec, utc) =>
    if inWindow then
      let s1 := if s.srcEnabled 1 then s.put F.tkTaiUtc_tai_utc utc else s
      s1.srcLabel 1 (some sec)
    else (s.raise F.tkEvents_tod_error).srcLabel 1 none
  | none => (s.raise F.tkEvents_tod_error).srcLabel 1 none

/-! ### IRIG-B (R42, R43) -/

/-- Whether a source that IRIG-B feeds is enabled: the leap-second bits are used only then (R46). -/
def State.irigUsed (s : State) : Bool := s.srcEnabled 2 || s.srcEnabled 3

/-- An announced leap second is over: TAI − UTC takes its new value, once (R42, R43). -/
def State.leapDone (s : State) (past : Nat → Nat → Bool) : State :=
  match s.tk.leap with
  | some (day, v) => if past day v then ({ s with tk := { s.tk with leap := none } } : State).put F.tkTaiUtc_tai_utc v else s
  | none => s

/-- The UTC midnight on which a leap announced by a frame falls: the next one, or the one that ends the second 60 of the frame (R42). -/
def leapDay (f : IrigFrame) : Nat := (f.utc / 86400 + if f.second60 then 0 else 1) * 86400

/-- The leap-second bits of a frame (R42). -/
def State.leapBits (s : State) (f : IrigFrame) : State :=
  let u := s.get F.tkTaiUtc_tai_utc
  if !s.irigUsed then s
  else { s with tk := { s.tk with
    leap := if f.leapSoon then some (leapDay f, if f.leapMinus then u - 1 else u + 1) else s.tk.leap.filter fun l => l.1 ≤ f.utc } }

/-- An IRIG-B frame: rejected, or its on-time edge is the phase edge of source 3 and its label that of sources 2 and 3 (R42): that of source 2 is
moved by the difference of the edges in whole seconds (DEDUCED, log entry 17). A leap announced
takes effect with the first frame of the new UTC day, or, when that frame is rejected, when the counter has passed it. -/
def State.irigFrame (s : State) (f : IrigFrame) : State :=
  if f.fmt < 4 || 7 < f.fmt || f.tq = 0xF || !f.valid then
    ((((s.leapDone fun day v => (day + v) * secNs ≤ f.edge).raise F.tkEvents_irig_error).srcEdge 3 f.edge).srcLabel 3 none).srcLabel 2 none
  else
    let s1 := (s.leapDone fun day _ => day ≤ f.utc && !f.second60).leapBits f
    let sec := f.utc + s1.get F.tkTaiUtc_tai_utc
    let s3 := (s1.srcEdge 3 f.edge).srcLabel 3 (some sec)
    let k : Int := match (s3.src 2).edge with
      | some e => roundDiv ((e : Int) - f.edge) secNs
      | none => 0
    s3.srcLabel 2 (some ((sec : Int) + k).toNat)

/-! ### Alarms (R60) -/

def State.alarmTime (s : State) (k : Nat) : Nat := s.tk.cmp.getD k 0

def State.setAlarm (s : State) (k t : Nat) : State :=
  { s with tk := { s.tk with cmp := listSet s.tk.cmp k t } }

/-- Alarm k fires: its interrupt, its TAKE, its re-arming (R60). -/
def State.alarmFire (s : State) (k : Nat) (late : Bool) : State :=
  let a := s.get (F.tkAlarmCtrl_action k)
  let p := s.get (F.tkAlarmCtrl_period_us k) * 1000
  let t := s.alarmTime k
  let s1 := if late then s.raise (F.tkAlarmCtrl_late k) else s
  let s2 := if a = 1 then s1 else s1.put F.tkEvents_alarm (withBit (s1.get F.tkEvents_alarm) k)
  let s3 := if p = 0 then s2.put (F.tkAlarmCtrl_armed k) 0
    else
      let u := t + p * ((s.now - t) / p + 1)
      (s2.setReg64 (R.tkAlarmLo k) u).setAlarm k (u % 2 ^ 64)
  if a = 1 || a = 2 then s3.take 4 s3.now else s3

/-- An alarm armed, or loaded, for a time already passed fires at once (R60). -/
def State.alarmCheck (s : State) (k : Nat) : State :=
  if s.flag (F.tkAlarmCtrl_armed k) && s.alarmTime k ≤ s.now then s.alarmFire k (s.alarmTime k < s.now) else s

/-! ### The step (R50, R51) -/

/-- The pending step applied at the next boundary B of the current grid: the counter jumps, and the next frame begins at the first boundary of
the new grid at or after B; until its FST the root ports send nothing. A rate change that is pending moves to the first second of the new time
at or after the moved instant (DESIGN CHOICE, log entry 15). -/
def State.applyStep (s : State) : State :=
  match s.tk.step with
  | none => s
  | some d =>
    let b := nextBoundary s.rate s.tk.boundary
    let s0 := s.advanceTo b
    let move (t : Nat) : Nat := ((t : Int) + d).toNat
    let t := move s0.now
    let srcs := s0.tk.srcs.map fun r => { r with edge := r.edge.map move }
    let tk := { s0.tk with
      time := t
      boundary := move b - 1
      step := none
      stepping := true
      steppedTo := secondAtOrAfter (move b + secNs)
      rateAt := s0.tk.rateAt.map fun u => secondAtOrAfter (move u)
      srcs := srcs }
    let s1 : State := { s0 with tk := tk }
    let s2 := (s1.raise F.tkEvents_step_applied).setReg64 R.tkLastStepLo (unsigned 64 d)
    let s3 := forEach (List.range 4) s2 fun s k =>
      if s.flag (F.tkAlarmCtrl_armed k) && s.alarmTime k < t then s.alarmFire k true else s
    if s.flag F.tkCtrl_take_on_step then s3.take 4 t else s3

/-! ### The 10 MHz reference (R39) -/

/-- The counter moves to a fallback clock: the 25 MHz reference if that oscillator runs, else the internal one. -/
def State.ref10Lost (s : State) (inj : Bool) : State :=
  if s.get F.tkStatus_clock_source ≠ 0 then s.put F.tkStatus_ref10_ok 0
  else
    let s1 := (s.put F.tkStatus_ref10_ok 0).raise F.tkEvents_clock_fallback
    let s2 := if s.cn.oscOn then (s1.put F.tkStatus_clock_source 1).enterHoldover
      else (s1.put F.tkStatus_clock_source 2).enterFreeRun
    ({ s2 with tk := { s2.tk with lockRun := 0 } } : State).detect 0x0D 1 0 1 inj

/-- The 25 MHz oscillator stops under a counter that runs on it: the internal oscillator is left, and free-run (R39). The detector and
TK_EVENTS.clock_fallback belong to the loss of the 10 MHz reference alone (DESIGN CHOICE, log entry 165). -/
def State.ref25Lost (s : State) : State :=
  if s.get F.tkStatus_clock_source = 1 then (s.put F.tkStatus_clock_source 2).enterFreeRun else s

/-- The counter moves back to the 10 MHz reference, without a step. -/
def State.ref10Back (s : State) : State :=
  (s.put F.tkStatus_ref10_ok 1).put F.tkStatus_clock_source 0

/-! ### PPS output (R61) -/

/-- The pulse width of PPS_OUT in ns. -/
def State.ppsWidth (s : State) : Nat :=
  let w := s.get F.tkPpsOut_width_ms
  (if 1 ≤ w && w ≤ 500 then w else 100) * 1000000

/-- The first instant at or after t that lies `adj` ns from a second boundary. -/
def nextPps (adj : Int) (t : Nat) : Nat :=
  ((secondAtOrAfter ((t : Int) - adj).toNat : Int) + adj).toNat

/-- PPS_OUT rises at its next instant, as the mode allows. -/
def State.ppsOut (s : State) : State :=
  let adj := signed 16 (s.get F.tkPpsOut_adjust)
  let t := nextPps adj s.now
  let t := if s.tk.ppsOutRise = some t then nextPps adj (t + 1) else t
  let m := s.get F.tkPpsOut_mode
  let s1 := s.advanceTo t
  if m = 1 || (m = 2 && s1.tk.cond != .freeRun) then
    ({ s1 with tk := { s1.tk with ppsOutHigh := true, ppsOutRise := some t } } : State).emit (.pin "PPS_OUT" true)
  else s1

def State.ppsOutEnd (s : State) : State :=
  if s.tk.ppsOutHigh then
    (({ s with tk := { s.tk with ppsOutHigh := false } } : State).advanceTo ((s.tk.ppsOutRise.getD 0) + s.ppsWidth)).emit (.pin "PPS_OUT" false)
  else s

/-! ### The counter's cycle (R37) -/

/-- One 1 GHz cycle: 1 ns plus the rate correction in 2^-32 ns. -/
def State.tick (s : State) : State :=
  let r := (s.tk.frac : Int) + 2 ^ 32 + clampInt (-429497) 429497 (signed 32 (s.get F.tkRateAdj_rate))
  { s with tk := { s.tk with time := (s.tk.time + (r / 2 ^ 32).toNat) % 2 ^ 64, frac := (r % 2 ^ 32).toNat } }

/-! ### The commands -/

/-- REF10_LOSS (R39): an injected absence that runs gives way to it. -/
def execRef10Loss (s : State) : Host.Outcome State Fault Refusal :=
  act s fun s => ({ s with tk := { s.tk with ref10Inj := none } } : State).ref10Lost false

/-- REF10_RETURN (R39). -/
def execRef10Return (s : State) : Host.Outcome State Fault Refusal :=
  act s fun s => ({ s with tk := { s.tk with ref10Inj := none } } : State).ref10Back

/-- PPS_EDGE (R38): the edge chosen by pps_falling, less the board delay, is a phase edge of sources 1 and 2. -/
def execPpsEdge (t : Nat) (rise : Bool) (s : State) : Host.Outcome State Fault Refusal :=
  act s fun s =>
    let s := s.advanceTo t
    if rise = s.flag F.tkRefSel_pps_falling then s
    else
      let c := ((t : Int) - signed 16 (s.get F.tkPpsCal_pps_in_delay)).toNat
      (s.srcEdge 1 c).srcEdge 2 c

/-- IRIGB_FRAME (R42). -/
def execIrigbFrame (f : IrigFrame) (s : State) : Host.Outcome State Fault Refusal := act s fun s => s.irigFrame f

/-- TOD_SENTENCE (R41). -/
def execTodSentence (b : List Byte) (t0 t1 : Nat) (s : State) : Host.Outcome State Fault Refusal :=
  act s fun s => s.todSentence b t0 t1

/-- SOURCE_LOSS_TIMEOUT (R45): no phase edge of source c + 1 within 1.5 s of the previous one. A time parent that is silent for as long is lost
also while source 4 is not accepted (R364, log 153). -/
def execSourceLossTimeout (c : Fin 4) (s : State) : Host.Outcome State Fault Refusal :=
  act s fun s => match (s.src (c.val + 1)).edge with
    | some e =>
      let s1 := (s.advanceTo (e + 1500000001)).loseSource (c.val + 1)
      if c.val = 3 then s1.parentLost else s1
    | none => s

/-- STEP_APPLY (R50). -/
def execStepApply (s : State) : Host.Outcome State Fault Refusal := act s fun s => s.applyStep

/-- STEPPED_END (R51). -/
def execSteppedEnd (s : State) : Host.Outcome State Fault Refusal :=
  act s fun s => let s1 := s.advanceTo s.tk.steppedTo; { s1 with tk := { s1.tk with steppedTo := 0 } }

/-- HOLDOVER_LIMIT (R47): the first whole second of the holdover at which the bound exceeds hold_limit. -/
def execHoldoverLimit (s : State) : Host.Outcome State Fault Refusal :=
  act s fun s =>
    let d := s.get F.tkHoldCfg_drift
    let lim := s.get F.tkHoldCfg_hold_limit * 1000
    let b := s.tk.holdBound * 1000
    if s.tk.cond != .holdover then s
    else if lim < b then s.enterFreeRun
    else if d = 0 then s
    else (s.advanceTo (s.tk.holdStart + ((lim - b) / d + 1) * secNs)).enterFreeRun

/-- ALARM_FIRE (R60): the counter reaches the time of alarm k. -/
def execAlarmFire (k : Fin 4) (s : State) : Host.Outcome State Fault Refusal :=
  act s fun s => if s.flag (F.tkAlarmCtrl_armed k) then (s.advanceTo (s.alarmTime k)).alarmFire k false else s

/-- PPS_OUT_PULSE (R61). -/
def execPpsOutPulse (s : State) : Host.Outcome State Fault Refusal := act s fun s => s.ppsOut

/-- PPS_OUT_PULSE_END (R61). -/
def execPpsOutPulseEnd (s : State) : Host.Outcome State Fault Refusal := act s fun s => s.ppsOutEnd

end Sys2Proof.Machine
end

