-- ==== Sys2Proof/Machine/Span.lean ====
section
/-! DEFINITION. Span links: their states, packets, delivery, ranging and sending order (spec/13_span_fabric_and_twin.md R340 to R354, R360,
R361, R365). -/

namespace Sys2Proof.Machine

/-- Change one Span port's engine. -/
def State.modSpan (s : State) (m : Nat) (f : SpanPort → SpanPort) : State := s.setSpanPort m (f (s.spanPort m))

/-! ### Packets (R343, R344, R350) -/

/-- Bytes 0 to 13 of a header (R344). -/
def SpanPkt.header (p : SpanPkt) (seq : Nat) : List Byte :=
  [BitVec.ofNat 8 (p.typ * 16 + p.vc * 4), BitVec.ofNat 8 seq, BitVec.ofNat 8 p.dst, BitVec.ofNat 8 p.src] ++
  leBytes 2 (p.hops * 2 ^ 12 + p.payload.length) ++ fit 8 p.tsd

/-- The bytes between the delimiters of a Span packet (R343). -/
def SpanPkt.bytes (p : SpanPkt) (seq : Nat) : List Byte :=
  p.header seq ++ leBytes 2 (crc16 (p.header seq)) ++ (if p.payload.isEmpty then [] else p.payload ++ leBytes 4 (crc32c p.payload))

/-- The duration of a Span packet with n payload bytes in ns (R343). -/
def spanNs (n : Nat) : Nat := if n = 0 then 36 else (22 + n) * 2

/-- Whether the header fields are defined (R344, R345). -/
def spanRule (h : List Byte) : Bool :=
  let typ := byteAt h 0 / 16
  let vc := byteAt h 0 / 4 % 4
  let len := leAt h 4 2 % 2 ^ 10
  1 ≤ typ && typ ≤ 8 && byteAt h 0 % 4 == 0 && vc == (if typ ≤ 3 then typ - 1 else 3) && (vc != 3 || byteAt h 1 == 0) &&
  byteAt h 2 < 64 && byteAt h 2 != 62 && byteAt h 3 < 63 && leAt h 4 2 / 2 ^ 12 ≤ 8 && leAt h 4 2 / 2 ^ 10 % 4 == 0 && len ≤ 512 &&
  (match typ with
   | 4 => len == 0
   | 5 => len == 32
   | 6 => len == 16
   | 7 => len == 16
   | _ => true)

/-- How the receive checks of a Span packet end (R350). -/
inductive SpanRes where
  | good (seq : Nat) (p : SpanPkt)
  | codeViolation
  | crc
  deriving DecidableEq, Repr

/-- Checks 1 to 4 and 6 of R83 on a Span packet's start delimiter and symbols; one that ends in EOB is a CRC error (R71). -/
def spanCheck (start : Sym) (xs : List Sym) : SpanRes :=
  let hs := xs.take 16
  if start != symSop || hs.any Sym.violation then .codeViolation
  else if hs.length < 16 || hs.any (fun x => (Sym.byte x).isNone) then .crc
  else
    let h := hs.map fun x => (Sym.byte x).getD 0
    if crc16 (h.take 14) != leAt h 14 2 || !spanRule h then .crc
    else
      let len := leAt h 4 2 % 2 ^ 10
      let n := if len = 0 then 0 else len + 4
      let body := xs.drop 16
      let pay := body.take n
      if body.length != n + 1 || body.getD n .bad != symEop || pay.any (fun x => (Sym.byte x).isNone) then .crc
      else
        let bs := pay.map fun x => (Sym.byte x).getD 0
        if len != 0 && crc32c (bs.take len) != leAt bs len 4 then .crc
        else .good (byteAt h 1)
          { typ := byteAt h 0 / 16, vc := byteAt h 0 / 4 % 4, dst := byteAt h 2, src := byteAt h 3, hops := leAt h 4 2 / 2 ^ 12
            tsd := (h.drop 6).take 8, payload := bs.take len }

/-! ### Ranging (R365) -/

/-- D_link from L in 100 ps (R365). -/
def State.linkDelay (s : State) (m : Nat) (l : Int) : Int := (l - signed 16 (s.get (F.spPAsym_asym m)) + 1) / 2

/-- Store L and show D_link. -/
def State.spanStore (s : State) (m : Nat) (l : Int) : State :=
  let s1 := (s.modSpan m fun p => { p with lrt := l, lost := 0, excur := 0 }).put (F.spPRange_valid m) 1
  (s1.put (F.spPRange_d_link m) (unsigned 24 (s.linkDelay m l))).put (F.spPStatus_ranged m) 1

/-- The sweep of a link is over, and its permit is returned. -/
def State.spanSweepEnd (s : State) (m : Nat) : State :=
  ((s.modSpan m fun p => { p with sweep := none, probe := none }).permitReturn (.spanSweep m)).permitDrop (.spanSweep m)

/-- A sweep of a link asks for its permit (R365). -/
def State.spanSweepAsk (s : State) (m : Nat) : State :=
  if s.spanState m = 3 && !s.asked (.spanSweep m) && !s.holds (.spanSweep m) then (s.permitAsk (.spanSweep m)).2 else s

/-- The permit is granted: the first attempt begins. -/
def State.spanSweepGranted (s : State) (m : Nat) : State :=
  if s.spanState m = 3 then s.modSpan m fun p => { p with sweep := some { addr := m } } else s.permitReturn (.spanSweep m)

/-- An attempt of a sweep has failed: repeated, or at the third the link stays unranged (R94). -/
def State.spanSweepFail (s : State) (m : Nat) (w : Sweep) : State :=
  if 3 ≤ w.tries + 1 then s.spanSweepEnd m
  else s.modSpan m fun p => { p with probe := none, sweep := some { addr := m, tries := w.tries + 1, next := s.now + 10000 } }

/-- An attempt goes on, or is judged (R94). -/
def State.spanSweepOn (s : State) (m : Nat) (w : Sweep) : State :=
  if w.vals.length < 8 && w.probes < 16 then
    s.modSpan m fun p => { p with probe := none, sweep := some { w with next := s.now + 10000 } }
  else if w.vals.length < 8 then s.spanSweepFail m w
  else match sweepMean w.vals with
    | none => s.spanSweepFail m w
    | some l => (s.spanSweepEnd m).spanStore m l

/-- The link is no longer ranged, and a new sweep begins (R365). -/
def State.spanUnrange (s : State) (m : Nat) : State :=
  let s1 := ((s.setReg (R.spPRange m) 0).put (F.spPStatus_ranged m) 0).raise (F.spPEvents_range_shift m)
  let s2 := if s.get F.spFabStatus_time_parent = m then s1.parentLost else s1
  (s2.modSpan m fun p => { p with lost := 0, excur := 0, probe := none }).spanSweepAsk m

/-- An echo with its round trip and turnaround (R93, R95, R365). -/
def State.spanEcho (s : State) (m rtt tt : Nat) : State :=
  let l : Int := (rtt : Int) - tt
  let p := s.spanPort m
  match p.sweep with
  | some w => s.spanSweepOn m { w with vals := w.vals ++ [l] }
  | none =>
    let s1 := s.modSpan m fun p => { p with probe := none }
    if !s.flag (F.spPStatus_ranged m) then s1
    else
      let d := l - p.lrt
      if d.natAbs ≤ 20 then s1.spanStore m (p.lrt + roundDiv d 8)
      else if 3 ≤ p.excur + 1 then s1.spanUnrange m
      else (s1.bump (F.spPTraffic_excursions m)).modSpan m fun p => { p with lost := 0, excur := p.excur + 1 }

/-- The probe in flight is lost (R96). -/
def State.spanProbeLost (s : State) (m : Nat) : State :=
  let p := s.spanPort m
  match p.probe, p.sweep with
  | none, _ => s
  | some _, some w => s.spanSweepOn m w
  | some _, none =>
    if 3 ≤ p.lost + 1 then s.spanUnrange m else s.modSpan m fun p => { p with probe := none, lost := p.lost + 1 }

/-! ### Link states (R342) -/

/-- Entering or leaving Active: the record of this chip is flooded under a permit (R357), and the time parent may be lost (R364). -/
def State.spanEnter (s : State) (m st : Nat) : State :=
  let s1 := s.put (F.spPStatus_state m) st
  let s2 := if s.spanState m = 3 && st ≠ 3 && s.get F.spFabStatus_time_parent = m then s1.parentLost else s1
  if (s.spanState m == 3) != (st == 3) then s2.discAsk else s2

def State.spanEndTraining (s : State) (m : Nat) : State :=
  ((s.permitReturn (.spanTraining m)).permitDrop (.spanTraining m)).put (F.spPStatus_permit_wait m) 0

/-- The mirror messages of reflex placements that a lost link to the partner leaves unacknowledged are noted (R373). -/
def State.placementsLost (s : State) (m : Nat) : State :=
  if m = 3 then
    let p := s.spanPort 3
    let ps := (s.tw.mirror ++ p.replay.map (·.2.2.2)).filter fun x => byteAt x.tsd 0 == 0x11 && byteAt x.payload 0 == 6
    { s with tw := { s.tw with
        mirror := []
        unacked := (s.tw.unacked.filter fun b => newer (leAt b 4 4) s.frame) ++ ps.map fun x => x.payload.take 4 ++ x.payload.drop 8 } }
  else s

/-- What a link that is down no longer holds: its packets, sequence numbers, credits and range (R351). -/
def State.spanLost (s : State) (m : Nat) : State :=
  let p := s.spanPort m
  let n := ((p.replay.map (·.2.2.2)) ++ p.ready ++ (if m = 3 then s.tw.mirror else [])).filter (·.typ == 3) |>.length
  let s1 := ((s.placementsLost m).add (F.spPTraffic_lost m) n).spanSweepEnd m
  let s2 := (((s1.setReg (R.spPRange m) 0).put (F.spPStatus_ranged m) 0).put (F.spPStatus_partner_chip m) 62)
  let s3 := if (s.spans.filter (· != m)).all fun k => (s.spanPort k).disc.isEmpty then s2.permitReturn .discovery else s2
  s3.modSpan m fun p =>
    { p with
      ready := [], replay := [], txSeq := 0, rxSeq := 0, ackDue := false, nakDue := false, owe := [0, 0, 0], credits := [16, 16, 32]
      timeDue := false, excur := 0, lost := 0, lrt := 0, time := none, heard := none, disc := [], maint := false, echoes := [] }

/-- Enter Detect: beacons are counted anew. -/
def State.spanDetect (s : State) (m : Nat) : State :=
  ((s.spanEnter m 1).spanEndTraining m).spanLost m |>.modSpan m fun p => { p with beacons := 0, fast := false, began := 0 }

/-- A write of SP_Pm_CTRL.enable. -/
def State.spanOn (s : State) (m : Nat) : State :=
  let s1 := (s.put (F.spPCtrl_enable m) 1).modSpan m fun p => { p with fails := 0 }
  if s.spanState m = 0 then s1.spanDetect m else s1

def State.spanOff (s : State) (m : Nat) : State :=
  (((s.put (F.spPCtrl_enable m) 0).spanEnter m 0).spanEndTraining m).spanLost m |>.modSpan m fun p =>
    { p with beacons := 0, fast := false, began := 0 }

/-- A write of SP_Pm_CTRL.retrain: a full training under a permit (R342, R488). -/
def State.spanRetrain (s : State) (m : Nat) : State :=
  if s.spanState m = 0 then s else (s.modSpan m fun p => { p with fails := 0 }).spanDetect m

def State.spanAsk (s : State) (m : Nat) : State := (s.permitAsk (.spanTraining m)).2.put (F.spPStatus_permit_wait m) 1

/-- A partner beacon burst in Detect (R84). -/
def State.spanBeacon (s : State) (m t : Nat) (commas : Bool) : State :=
  if s.spanState m = 1 && (s.spanPort m).beacons < 3 then
    let r := burstRun (s.spanPort m).beacons (s.spanPort m).beaconAt t commas
    let s1 := s.modSpan m fun p => { p with beacons := r.1, beaconAt := r.2 }
    if 3 ≤ (s1.spanPort m).beacons then s1.spanAsk m else s1
  else s

/-- The partner's beacons stop (R87). -/
def State.spanBeaconLoss (s : State) (m : Nat) : State :=
  if s.spanState m = 1 || s.spanState m = 2 then (s.spanEndTraining m).modSpan m fun p => { p with beacons := 0 } else s

/-- The training permit is granted. -/
def State.spanTrainGranted (s : State) (m : Nat) : State :=
  if s.spanState m = 1 then (s.spanEnter m 2).put (F.spPStatus_permit_wait m) 0 else s

/-- 10 ms after a refused training permit (R87). -/
def State.spanPermitRetry (s : State) (m : Nat) : State :=
  if s.spanState m = 1 && 3 ≤ (s.spanPort m).beacons && !s.holds (.spanTraining m) && !s.asked (.spanTraining m) then s.spanAsk m else s

/-- A training has failed (R84, R88). -/
def State.spanTrainFailed (s : State) (m : Nat) : State :=
  (s.raise (F.spPEvents_train_fail m)).spanDetect m |>.modSpan m fun p => { p with fails := (s.spanPort m).fails + 1 }

/-- A training ends with the TS2 exchange: the partner's role must be 6, or the training has failed, in Hit without leaving it (R342). -/
def State.spanTrained (s : State) (m role partner pport : Nat) : State :=
  let f (p : SpanPort) : SpanPort := { p with fast := false, began := 0, fails := 0, partner := partner, pport := pport }
  if s.spanState m = 4 then
    if role = 6 then
      let s1 := (s.modSpan m fun p =>
        { f p with replay := p.replay.map fun x => (x.1, 0, true, x.2.2.2), ackDue := true }).put (F.spPStatus_partner_port m) pport
      let s2 := (s1.raise (F.spPEvents_hit_recovered m)).spanEnter m 3
      if s2.flag (F.spPStatus_ranged m) then s2 else s2.spanSweepAsk m
    else (s.raise (F.spPEvents_train_fail m)).modSpan m fun p => { p with fails := p.fails + 1 }
  else if s.spanState m = 2 then
    if role = 6 then
      let s1 := ((s.modSpan m f).put (F.spPStatus_partner_port m) pport).spanEndTraining m
      ((s1.raise (F.spPEvents_attached m)).spanEnter m 3).spanSweepAsk m
    else s.spanTrainFailed m
  else s

/-- 2 ms of a full training pass (R84). -/
def State.spanTrainTimeout (s : State) (m : Nat) : State := if s.spanState m = 2 then s.spanTrainFailed m else s

/-- 50 µs of a fast training pass (R85). -/
def State.spanFastTimeout (s : State) (m : Nat) : State :=
  if s.spanState m = 4 then s.modSpan m fun p => { p with fast := false } else s

/-- Loss of signal or of commas, or an exhausted replay, in Active (R84, R351): a sweep is abandoned. -/
def State.spanHit (s : State) (m : Nat) : State :=
  if s.spanState m = 3 then
    let s1 := ((s.spanEnter m 4).raise (F.spPEvents_hit m)).modSpan m fun p => { p with fast := true, began := 4, probe := none, maint := false }
    if (s1.spanPort m).sweep.isSome then s1.spanSweepEnd m else s1
  else s

/-- A Hit has lasted 1 ms (R342). -/
def State.spanHitTimeout (s : State) (m : Nat) : State :=
  if s.spanState m = 4 then (s.spanDetect m).raise (F.spPEvents_detached m) else s

/-! ### Receiving (R350 to R352, R360, R361) -/

/-- A packet sent 4 times is not acknowledged (R351). -/
def State.replayExhausted (s : State) (m : Nat) (inj : Bool) : State :=
  ((s.raise (F.spPEvents_replay_exhausted m)).detect 0x0C 1 m 0 inj).spanHit m

/-- A LINK packet: its acknowledgement, credits, and a NAK (R351, R352). -/
def State.linkIn (s : State) (m : Nat) (x : SpanPkt) : State :=
  let ack := byteAt x.tsd 0
  let left := (s.spanPort m).replay.filter fun r => !((ack + 256 - r.1) % 256 < 128)
  let nak := byteAt x.tsd 1 % 2 == 1
  let cr := (s.spanPort m).credits.zipIdx.map fun c => min (if c.2 = 2 then 32 else 16) (c.1 + byteAt x.tsd (2 + c.2))
  let s1 := s.modSpan m fun p =>
    { p with replay := if nak then left.map fun r => (r.1, r.2.1, true, r.2.2.2) else left, credits := cr }
  if nak && left.any (fun r => 4 ≤ r.2.1) then s1.replayExhausted m false else s1

/-- A packet of vc 3 is acted on at arrival (R352); t is its start, fin its end, in 100 ps. A probe's EOP is dated at the start of the symbol
(R69). -/
def State.spanAt (s : State) (m t fin : Nat) (x : SpanPkt) : State :=
  let no := leAt x.tsd 0 4
  match x.typ with
  | 4 => s.linkIn m x
  | 5 => s.modSpan m fun p => { p with time := some (t, x.payload) }
  | 6 => s.modSpan m fun p => { p with echoes := p.echoes ++ [(no, fin - 20)] }
  | 7 => match (s.spanPort m).probe with
    | some (k, e) => if k = no && t ≤ e + 200000 then s.spanEcho m (t - e) (leAt x.payload 8 2) else s
    | none => s
  | _ => s

/-- A buffer of a channel is free again: its credit is owed to the sender (R352). -/
def State.oweCredit (s : State) (m vc : Nat) : State := s.modSpan m fun p => { p with owe := listSet p.owe vc (p.owe.getD vc 0 + 1) }

/-- A packet that goes no further is counted as lost (R360); a reflex message is also counted as a drop with cause 4 (R288). -/
def State.spanDrop (s : State) (m : Nat) (x : SpanPkt) : State :=
  let s1 := s.bump (F.spPTraffic_lost m)
  if isEvt 1 x then s1.reflexDrop 4 x.dst (byteAt x.payload 12 / 32) (byteAt x.payload 13 % 64) (byteAt x.payload 12 % 16) else s1

/-- A packet for another chip is forwarded, or dropped and counted (R360). -/
def State.spanForward (s : State) (m : Nat) (x : SpanPkt) : State :=
  let s1 := s.oweCredit m x.vc
  match s.routeTo x.dst with
  | some o => if s.chip = 62 || x.hops = 8 then s1.spanDrop m x else s1.spanReady o { x with hops := x.hops + 1 }
  | none => s1.spanDrop m x

/-- A packet for every chip: kept here, and forwarded on the other tree links (R361). -/
def State.spanBroadcast (s : State) (m : Nat) (x : SpanPkt) : State :=
  let s1 := s.modSpan m fun p => { p with inbox := p.inbox ++ [x] }
  let outs := s.spans.filter fun o => o != m && s.treeLink o
  if outs.isEmpty then s1
  else if s.chip = 62 || x.hops = 8 then s1.bump (F.spPTraffic_lost m)
  else forEach outs s1 fun s o => s.spanReady o { x with hops := x.hops + 1 }

/-- A good packet of vc 0 to 2, in order of its sequence number (R351). -/
def State.spanTakeIn (s : State) (m seq : Nat) (x : SpanPkt) : State :=
  let want := (s.spanPort m).rxSeq
  if seq = want then
    let s1 := s.modSpan m fun p => { p with rxSeq := (want + 1) % 256, ackDue := true }
    if x.dst = 63 then s1.spanBroadcast m x
    else if x.dst = s.chip then s1.modSpan m fun p => { p with inbox := p.inbox ++ [x] }
    else s1.spanForward m x
  else if (want + 256 - seq) % 256 ≤ 128 then s.modSpan m fun p => { p with ackDue := true }
  else s.modSpan m fun p => { p with nakDue := true }

/-- A Span packet arrives (R350). A failure that meets an armed injection is the injected one (R406). One of vc 0 to 2 goes through the Span buffers,
and is discarded as a CRC failure when a word of it cannot be read (R397). -/
def State.spanReceive (s : State) (m : Nat) (x : SpanRx) : State :=
  if !(m < s.nSpan) || s.spanState m ≠ 3 then s
  else
    let fin := x.t + x.groups.length * 20
    let s0 := s.advanceTo (ceilDiv fin 10)
    let bad (s : State) (inj : Bool) : State :=
      ((s.bump (F.spPErr_crc m)).detect 0x0B 0 m 0 inj).modSpan m fun p => { p with nakDue := true }
    match spanCheck x.start x.syms with
    | .codeViolation => s0.modSpan m fun p => { p with nakDue := true }
    | .crc =>
      let i := s0.inject 0x0B m fun _ => true
      bad i.2 i.1
    | .good seq p =>
      let i := s0.inject 0x0B m fun _ => true
      if i.1 then bad i.2 true
      else if p.vc = 3 then s0.spanAt m x.t fin p
      else
        let b := s0.itemRead 0x2C0000 0x40000 (22 + p.payload.length) 2
        if b.1 then bad b.2 false else b.2.spanTakeIn m seq p

/-! ### Sending (R351 to R353) -/

/-- The TIME payload of R363, launched now. -/
def State.timePayload (s : State) : List Byte :=
  let master := s.get F.spFabStatus_master
  let mq := if s.isMaster then s.localQuality else ((s.sp.records.find? (·.id == master)).map (·.quality)).getD 0xF5
  leBytes 8 s.now ++ leBytes 4 s.frame ++ leBytes 2 s.rate ++
  ([master, if s.isMaster then 0 else s.hopsFromMaster, mq, s.chipQuality s.now].map (BitVec.ofNat 8 ·)) ++ leBytes 6 0 ++ leBytes 8 s.serialNo

/-- Send a packet of vc 3. -/
def State.sendPlain (s : State) (m typ : Nat) (tsd pl : List Byte) : State :=
  s.emit (.span m (wireOf symSop (({ typ := typ, vc := 3, dst := 0, src := s.chip, tsd := tsd, payload := pl } : SpanPkt).bytes 0) true))

/-- LINK, when something is owed. -/
def State.sendLink (s : State) (m : Nat) : State :=
  let p := s.spanPort m
  let tsd := [BitVec.ofNat 8 ((p.rxSeq + 255) % 256), BitVec.ofNat 8 (b2n p.nakDue)] ++ p.owe.map (BitVec.ofNat 8 ·)
  (s.sendPlain m 4 tsd []).modSpan m fun p => { p with ackDue := false, nakDue := false, owe := [0, 0, 0] }

/-- An ECHO, with its turnaround from the probe's EOP to its own start. -/
def State.sendEcho (s : State) (m no eop : Nat) : State :=
  (s.sendPlain m 7 (leBytes 4 no) (leBytes 4 0 ++ leBytes 4 no ++ leBytes 4 ((s.now * 10 - eop) % 2 ^ 16) ++ leBytes 4 0)).modSpan m fun p =>
    { p with echoes := p.echoes.drop 1 }

/-- Whether a probe is due: of a sweep that holds its permit, or of maintenance. -/
def State.probeDue (s : State) (m : Nat) : Bool :=
  let p := s.spanPort m
  p.probe.isNone && (match p.sweep with
    | some w => s.holds (.spanSweep m) && w.next ≤ s.now
    | none => p.maint)

def State.sendSpanProbe (s : State) (m : Nat) : State :=
  let no := (s.spanPort m).probeNo
  (s.sendPlain m 6 (leBytes 4 no) (probeBytes no 0)).modSpan m fun p =>
    { p with
      probe := some (no, s.now * 10 + (spanNs 16 - 2) * 10), probeNo := (no + 1) % 2 ^ 32, maint := false
      sweep := p.sweep.map fun w => { w with probes := w.probes + 1 } }

/-- A packet of vc 0 to 2 leaves for the first time: it takes a sequence number and a credit, and is kept until acknowledged. -/
def State.sendFresh (s : State) (m : Nat) (x : SpanPkt) : State :=
  let p := s.spanPort m
  let s1 := s.emit (.span m (wireOf symSop (x.bytes p.txSeq) true))
  let s2 := s1.modSpan m fun p =>
    { p with
      ready := p.ready.filter (· != x), txSeq := (p.txSeq + 1) % 256, replay := p.replay ++ [(p.txSeq, 1, false, x)]
      credits := listSet p.credits x.vc (p.credits.getD x.vc 0 - 1) }
  let i := s2.inject 0x0C m fun v => v == 0
  if i.1 then
    ((forEach [1, 2, 3] i.2 fun s _ => s.emit (.span m (wireOf symSop (x.bytes p.txSeq) true))).add (F.spPErr_replays m) 3).replayExhausted m true
  else s2

/-- A packet that was NAKed leaves again. -/
def State.sendAgain (s : State) (m seq : Nat) (x : SpanPkt) : State :=
  ((s.emit (.span m (wireOf symSop (x.bytes seq) true))).bump (F.spPErr_replays m)).modSpan m fun p =>
    { p with replay := p.replay.map fun r => if r.1 = seq then (r.1, r.2.1 + 1, false, r.2.2.2) else r }

/-- The first packet that waits of those a test picks, when its channel has credit. -/
def State.readyOf (s : State) (m vc : Nat) (f : SpanPkt → Bool) : Option SpanPkt :=
  if 0 < (s.spanPort m).credits.getD vc 0 then (s.spanPort m).ready.find? fun x => x.vc == vc && f x else none

/-- The first of the event messages that wait in order: of port m's own, and of the mirror queue on port 3 (R22, R353). -/
def State.restOf (s : State) (m : Nat) : Option SpanPkt :=
  let own := s.readyOf m 2 fun _ => true
  let mir := if m = 3 && 0 < (s.spanPort m).credits.getD 2 0 then s.tw.mirror.head? else none
  match own, mir with
  | some x, some y => if y.stamp < x.stamp then some y else some x
  | some x, none => some x
  | none, y => y

/-- An event message leaves. One of the mirror queue is read from the mirror buffers: an uncorrectable error there costs the message, and the
partner gets a full snapshot (R397). -/
def State.sendRest (s : State) (m : Nat) (x : SpanPkt) : State :=
  if m = 3 && s.tw.mirror.contains x then
    let s1 : State := { s with tw := { s.tw with mirror := s.tw.mirror.filter (· != x) } }
    let y := s1.itemRead 0x300000 0x40000 (22 + x.payload.length) 2
    if y.1 then { y.2.put F.twStatus_snapshot 0 with tw := { y.2.tw with queued := false, sent := false } } else y.2.sendFresh m x
  else s.sendFresh m x

/-- A DISC packet leaves; after the last one the discovery permit is returned (R357). -/
def State.sendDisc (s : State) (m : Nat) (r : DiscRec) : State :=
  let s1 := (s.emit (.disc m r)).modSpan m fun p => { p with disc := p.disc.drop 1 }
  if s1.activeSpans.all fun k => (s1.spanPort k).disc.isEmpty then s1.permitReturn .discovery else s1

/-- The heartbeat of this chip (R369); a yield is carried from the frame after its write on (R377). -/
def State.heartbeat (s : State) : SpanPkt :=
  let y := s.tw.yield_.filter fun v => v.2.1 != (s.frame + 3) % 2 ^ 32
  let lost := sumOf ((List.range 8).map fun n => if s.sharedPort n && s.link n != 3 then 2 ^ n else 0)
  let fl := b2n (s.flag F.twStatus_role_pin) + b2n s.tw.accept.isSome * 2 + b2n s.tw.sent * 4
  { typ := 3, vc := 2, dst := s.partnerId, src := s.chip, tsd := leBytes 8 0x10
    payload := leBytes 4 s.frame ++
      ([s.get F.twStatus_own, lost, (y.map (·.1)).getD 0, fl].map (BitVec.ofNat 8 ·)) ++
      leBytes 4 ((y.map (·.2.1)).getD 0) ++ leBytes 4 0 ++ leBytes 8 s.serialNo ++ leBytes 8 0 }

/-- A heartbeat that is due takes its place among the packets of port 3 (R369), once the partner's ID is known: no packet names chip 62
(R344). -/
def State.heartbeatDue (s : State) (m : Nat) : State :=
  if m = 3 && s.tw.due && s.flag F.twCtrl_enable && s.partnerId != 62 then
    let s1 : State := { s with tw := { s.tw with due := false, sent := s.tw.sent || (s.tw.queued && s.tw.mirror.isEmpty) } }
    s1.spanReady 3 s1.heartbeat
  else s

/-- A packet boundary of Span port m: the first of R353 that is ready leaves. -/
def State.spanBoundary (s : State) (m : Nat) : State :=
  if !(m < s.nSpan) || s.spanState m ≠ 3 then s
  else
    let s := s.heartbeatDue m
    let s := match (s.spanPort m).probe with
      | some (_, e) => if e + 200000 < s.now * 10 then s.spanProbeLost m else s
      | none => s
    let p := s.spanPort m
    if p.ackDue || p.nakDue || p.owe.any (· != 0) then s.sendLink m
    else if p.timeDue then (s.sendPlain m 5 [] s.timePayload).modSpan m fun p => { p with timeDue := false }
    else match p.echoes with
    | e :: _ => s.sendEcho m e.1 e.2
    | [] =>
      if s.probeDue m then s.sendSpanProbe m
      else match p.replay.find? fun r => r.2.2.1 with
      | some r => s.sendAgain m r.1 r.2.2.2
      | none =>
        match s.readyOf m 2 (isEvt 0x10), s.readyOf m 2 (isEvt 1), s.restOf m with
        | some x, _, _ => s.sendFresh m x
        | none, some x, _ => s.sendFresh m x
        | none, none, some x => s.sendRest m x
        | none, none, none =>
          match p.disc, s.readyOf m 1 (fun _ => true), s.readyOf m 0 (fun _ => true) with
          | r :: _, _, _ => s.sendDisc m r
          | [], some x, _ => s.sendFresh m x
          | [], none, some x => s.sendFresh m x
          | [], none, none => s

/-- Whether a packet is a good one that is not LINK. -/
def notLink (r : SpanRes) : Bool :=
  match r with
  | .good _ p => p.typ != 4
  | _ => false

/-! ### The commands -/

/-- SPAN_PACKET_RECEIVE (R350). -/
def execSpanPacketReceive (m : Fin 4) (x : SpanRx) (s : State) : Host.Outcome State Fault Refusal := act s fun s => s.spanReceive m x

/-- LINK_PACKET (R351): a packet that arrives as a LINK packet, or fails the checks as one. -/
def execLinkPacket (m : Fin 4) (x : SpanRx) (s : State) : Host.Outcome State Fault Refusal :=
  act s fun s => if notLink (spanCheck x.start x.syms) then s else s.spanReceive m x

/-- SPAN_PACKET_BOUNDARY (R353). -/
def execSpanPacketBoundary (m : Fin 4) (s : State) : Host.Outcome State Fault Refusal := act s fun s => s.spanBoundary m

/-- SPAN_RANGING_ECHO (R365): the round trip and the turnaround are given. -/
def execSpanRangingEcho (m : Fin 4) (rtt tt : Nat) (s : State) : Host.Outcome State Fault Refusal :=
  act s fun s => if (s.spanPort m).probe.isSome then s.spanEcho m rtt tt else s

/-- SPAN_MAINTENANCE_PROBE (R365): once per second. A probe still in flight is lost, and an unranged link is swept again. -/
def execSpanMaintenanceProbe (m : Fin 4) (s : State) : Host.Outcome State Fault Refusal :=
  act s fun s =>
    if s.spanState m ≠ 3 || (s.spanPort m).sweep.isSome then s
    else
      let s1 := s.spanProbeLost m
      if s1.flag (F.spPStatus_ranged m) then s1.modSpan m fun p => { p with maint := true } else s1.spanSweepAsk m

/-- HEARTBEAT_SEND (R369): at the first packet boundary of port 3 after a frame boundary. -/
def execHeartbeatSend (s : State) : Host.Outcome State Fault Refusal := act s fun s => if s.tw.due then s.spanBoundary 3 else s

end Sys2Proof.Machine
end

