-- ==== Sys2Proof/Machine/Discovery.lean ====
section
/-! DEFINITION. The fabric: chip IDs, discovery, routes, fabric time and frame alignment, fabric-wide TAKE
(spec/13_span_fabric_and_twin.md R355 to R367). -/

namespace Sys2Proof.Machine

/-! ### The chain (R356) -/

/-- A low pulse on CHAIN_IN of a chip that is not the head. -/
def State.chainPulse (s : State) : State :=
  if s.sp.head then s else { s with sp := { s.sp with pulses := s.sp.pulses + 1 } }

/-- CHAIN_IN has stayed high for 10 µs after pulses: the first train gives the ID, a later one must agree. -/
def State.chainTake (s : State) : State :=
  let k := s.sp.pulses
  if k = 0 then s
  else
    let s1 := ({ s with sp := { s.sp with pulses := 0 } } : State).put F.spChipId_chain_wired 1
    match s.sp.chained with
    | some j => if j = k then s1 else s1.raise F.spFabEvents_id_conflict
    | none =>
      let s2 : State := { s1 with sp := { s1.sp with chained := some k } }
      if 61 < k then s2.raise F.spFabEvents_id_conflict else s2.setChipId k 1

/-- Low pulses on CHAIN_OUT, each followed by high. -/
def State.chainOut : Nat → State → State
  | 0, s => s
  | k + 1, s => State.chainOut k ((s.emit (.pin "CHAIN_OUT" false)).emit (.pin "CHAIN_OUT" true))

/-- The pulse train of a chip with an ID. -/
def State.chainTrain (s : State) : State := if s.chip = 62 then s else State.chainOut (s.chip + 1) s

/-- 50 ms without a pulse: the chip is not chained. -/
def State.chainTimeout (s : State) : State :=
  if s.sp.head || s.sp.chained.isSome || s.sp.pulses != 0 then s else s.put F.spChipId_chain_wired 0

/-- The Charter's ID, when no chain gives one and none has been taken by discovery (R355, R358). -/
def State.charterId (s : State) : State :=
  let c := s.get F.spFabCfg_charter_id
  let src := s.get F.spChipId_id_source
  if src = 1 || src = 3 then s else if c = 62 || c = 63 then s.setChipId 62 0 else s.setChipId c 2

/-! ### Discovery (R357, R358) -/

/-- Whether a record is newer than the one held of its chip, if any. -/
def State.newRec (s : State) (r : DiscRec) : Bool :=
  match s.sp.records.find? (·.serial == r.serial) with
  | some o => newerMod 16 r.version o.version
  | none => true

/-- A record arrives at port m: a newer one is stored and forwarded. -/
def State.discRecord (s : State) (m : Nat) (r : DiscRec) : State :=
  if !(m < s.nSpan) || s.spanState m ≠ 3 || r.serial = s.serialNo || !s.newRec r then s
  else
    let s1 := forEach (s.activeSpans.filter (· != m)) (s.storeRec r) fun s o => s.discSend o r
    s1.put F.spFabStatus_discovering 1

/-- Whether two records name each other on a link: port i of a. -/
def linked (rs : List DiscRec) (a : DiscRec) (i : Nat) : Option DiscRec :=
  match (a.partners.getD i none) with
  | none => none
  | some (ser, port) => rs.find? fun b => b.serial == ser && b.partners.getD port none == some (a.serial, i)

/-- The neighbours of a record. -/
def neighbours (rs : List DiscRec) (a : DiscRec) : List DiscRec := (List.range 4).filterMap (linked rs a)

/-- Records reached from a list in n steps. -/
def reach (rs : List DiscRec) : Nat → List DiscRec → List DiscRec
  | 0, xs => xs
  | n + 1, xs => reach rs n (xs ++ ((xs.flatMap (neighbours rs)).eraseDups.filter fun b => !xs.any (·.serial == b.serial)))

/-- The rank of an ID source by R355. -/
def idRank (r : DiscRec) : Nat := if r.src = 0 then 4 else r.src

/-- Whether record a keeps a claimed ID before record b (R358). -/
def idBefore (a b : DiscRec) : Bool := idRank a < idRank b || (idRank a == idRank b && a.serial ≤ b.serial)

/-- Insertion by an order. -/
def insertBy {α : Type} (before : α → α → Bool) (x : α) : List α → List α
  | [] => [x]
  | y :: ys => if before x y then x :: y :: ys else y :: insertBy before x ys

def sortBy {α : Type} (before : α → α → Bool) (xs : List α) : List α := xs.foldr (insertBy before) []

/-- IDs after conflicts: in the order of R358, the first to claim an ID keeps it, another has 62. -/
def keepIds (rs : List DiscRec) : List DiscRec :=
  (sortBy idBefore rs).foldl (fun (done : List DiscRec) r =>
    done ++ [if r.id < 62 && !done.any (·.id == r.id) then r else { r with id := 62, src := 0 }]) []

/-- Chips with ID 62 take the free IDs in ascending serial order (R358). -/
def giveIds (rs : List DiscRec) : List DiscRec :=
  let have_ := rs.filter (·.id < 62)
  let need := sortBy (fun a b : DiscRec => a.serial ≤ b.serial) (rs.filter fun r => !(r.id < 62))
  need.foldl (fun (done : List DiscRec) r =>
    match (List.range 62).find? fun i => !done.any (·.id == i) with
    | some i => done ++ [{ r with id := i, src := 3 }]
    | none => done ++ [r]) have_

/-- The chips of the fabric: those reachable over links that both ends report, with the IDs of R358. -/
def State.fabric (s : State) : List DiscRec :=
  let rs := s.ownRecord :: s.sp.records.filter (·.serial != s.serialNo)
  giveIds (keepIds (reach rs 62 [s.ownRecord]))

/-! ### The routing tree (R359) -/

/-- A chip placed in the tree: its record, depth, its parent's ID and the port it reaches it by. -/
structure TreeNode where
  chip   : DiscRec
  depth  : Nat
  parent : Nat
  port   : Nat
  deriving DecidableEq, Repr

/-- The parent a chip takes among the nodes of the deepest level so far: the lower ID, then its lower own port. -/
def pickParent (rs : List DiscRec) (level : List TreeNode) (r : DiscRec) : Option (Nat × Nat) :=
  ((List.range 4).filterMap fun i => match linked rs r i with
    | some b => if level.any (·.chip.serial == b.serial) then some (b.id, i) else none
    | none => none).foldl (fun (best : Option (Nat × Nat)) c => match best with
      | none => some c
      | some b => if c.1 < b.1 then some c else best) none

/-- The tree by breadth-first levels; n bounds their number. -/
def growTree (rs : List DiscRec) : Nat → List TreeNode → List TreeNode → List TreeNode
  | 0, done, _ => done
  | n + 1, done, level =>
    let next := (rs.filter fun r => !done.any (·.chip.serial == r.serial)).filterMap fun r =>
      (pickParent rs level r).map fun p => { chip := r, depth := (level.headD ⟨r, 0, 0, 0⟩).depth + 1, parent := p.1, port := p.2 : TreeNode }
    if next.isEmpty then done else growTree rs n (done ++ next) next

/-- The tree rooted at the lowest chip ID. -/
def treeOf (rs : List DiscRec) : List TreeNode :=
  match sortBy (fun a b : DiscRec => a.id ≤ b.id) rs with
  | [] => []
  | r :: _ => growTree rs 62 [⟨r, 0, 62, 0⟩] [⟨r, 0, 62, 0⟩]

/-- The chips from one up to the root, itself first. -/
def upTree (t : List TreeNode) : Nat → Nat → List Nat
  | 0, _ => []
  | n + 1, d =>
    match t.find? (·.chip.id == d) with
    | some x => d :: (if x.depth = 0 then [] else upTree t n x.parent)
    | none => []

/-- The route from chip `o` to chip d: the output port and the number of hops. -/
def treeRoute (t : List TreeNode) (o d : Nat) : Option (Nat × Nat) :=
  let mine := upTree t 63 o
  let its := upTree t 63 d
  match its.find? mine.contains with
  | none => none
  | some j =>
    let up := (mine.takeWhile (· != j)).length
    let down := its.takeWhile (· != j)
    let port : Nat :=
      if 0 < up then ((t.find? (·.chip.id == o)).map (·.port)).getD 0
      else match t.find? fun x => x.chip.id == down.getLastD 62 with
        | some c => ((c.chip.partners.getD c.port none).map (·.2)).getD 0
        | none => 0
    some (port, up + down.length)

/-- SP_ROUTEd and SP_SERIALd of every chip; static entries stay (R359). -/
def State.setRoutes (s : State) (t : List TreeNode) : State :=
  forEach (List.range 62) s fun s d =>
    let node := t.find? (·.chip.id == d)
    let s1 := s.setReg64 (R.spSerialLo d) ((node.map (·.chip.serial)).getD 0)
    if s1.flag (F.spRoute_static d) then s1
    else match (if node.isSome then treeRoute t s.chip d else none) with
      | none => s1.setReg (R.spRoute d) 0
      | some (p, h) =>
        if 8 < h then (s1.setReg (R.spRoute d) 0).raise F.spFabEvents_unreachable
        else s1.setReg (R.spRoute d) (BitVec.ofNat 32 (2 ^ 31 + h * 2 ^ 8 + p))

/-- Whether port m of chip o is a link of the tree to its parent, or to a child. -/
def treeLinks (t : List TreeNode) (o m : Nat) : Bool × Bool :=
  match t.find? (·.chip.id == o) with
  | none => (false, false)
  | some x =>
    (x.depth != 0 && x.port == m,
     t.any fun c => c.depth != 0 && c.parent == o && c.chip.partners.getD c.port none == some (x.chip.serial, m))

/-! ### The time master (R362) -/

/-- Whether record a is better than record b. -/
def betterRec (a b : DiscRec) : Bool :=
  let k (r : DiscRec) := (r.quality % 8) * 2 ^ 16 + (r.quality / 16) * 2 ^ 8 + r.id
  k a < k b

/-- The chip whose record is best. -/
def bestChip (rs : List DiscRec) : Nat :=
  match rs.foldl (fun (b : Option DiscRec) r => match b with
    | none => some r
    | some x => if betterRec r x then some r else b) none with
  | some r => r.id
  | none => 62

/-- A new time master. -/
def State.setMaster (s : State) (c : Nat) : State :=
  if s.get F.spFabStatus_master = c then s
  else
    let s1 := ((s.put F.spFabStatus_master c).raise F.spFabEvents_master_changed).reselect
    let s2 := if c = s.chip then (s1.put F.spFabStatus_hops 0).put F.spFabStatus_parent_valid 0 else s1
    { s2 with sp := { s2.sp with delta := (0, 0) } }

/-- Discovery settles (R358, R359). -/
def State.settleDisc (s : State) : State :=
  if !s.flag F.spFabStatus_discovering then s
  else
    let rs := s.fabric
    let own := (rs.find? (·.serial == s.serialNo)).getD s.ownRecord
    let s1 := ({ s with sp := { s.sp with records := s.sp.records.filter fun r => rs.any (·.serial == r.serial) } } : State).put
      F.spFabStatus_discovering 0
    let claim := s.chip < 62 && ((keepIds (reach (s.ownRecord :: s.sp.records.filter (·.serial != s.serialNo)) 62 [s.ownRecord])).any
      fun r => r.serial == s.serialNo && r.id == 62)
    let s2 := if claim then s1.raise F.spFabEvents_id_conflict else s1
    let s3 := s2.setChipId own.id own.src
    let t := treeOf rs
    let s4 := s3.setRoutes t
    let s5 := forEach s4.spans s4 fun s m =>
      let l := treeLinks t s.chip m
      let peer := match own.partners.getD m none with
        | some (ser, _) => ((rs.find? (·.serial == ser)).map (·.id)).getD 62
        | none => 62
      ((s.putB (F.spPStatus_tree_parent m) l.1).putB (F.spPStatus_tree_child m) l.2).put (F.spPStatus_partner_chip m) peer
    let s6 := ((s5.put F.spFabStatus_chips (rs.filter (·.id < 62)).length).raise F.spFabEvents_settled)
    if rs.any (·.id == s6.get F.spFabStatus_master) && s6.get F.spFabStatus_master != 62 then s6 else s6.setMaster (bestChip rs)

/-! ### Fabric time (R363, R364, R366) -/

/-- TIME_SEND (R363): at the next TAI second boundary TIME packets become due on every Active port. -/
def State.timeSend (s : State) : State :=
  let s1 := s.advanceTo (secondAtOrAfter s.now)
  if s1.isMaster || s1.srcAccepted 4 then forEach s1.activeSpans s1 fun s m => s.modSpan m fun p => { p with timeDue := true } else s1

/-- The port of the time parent: the ranged Active ports whose last TIME packet names the master, by fewest hops, then lower chip ID (R364). A
packet counts for 1.5 s (DEDUCED from R45, log 153). -/
def State.timeParent (s : State) : Option Nat :=
  let c m : Option (Nat × Nat) := match (s.spanPort m).heard with
    | some (t, w, h, f) =>
      if s.spanState m == 3 && s.flag (F.spPStatus_ranged m) && w == s.get F.spFabStatus_master && s.now ≤ t + 1500000000 then some (h, f)
      else none
    | none => none
  s.spans.foldl (fun (b : Option Nat) m => match c m, b with
    | none, _ => b
    | some _, none => some m
    | some x, some k => match c k with
      | some y => if x.1 < y.1 || (x.1 == y.1 && x.2 < y.2) then some m else b
      | none => some m) none

/-- A sample of the frame alignment (R366): the frame number Δ of the parent, and the instant on this counter. -/
def State.alignSample (s : State) (t frame rate : Nat) : State :=
  if rate ≠ s.rate then (s.put F.spFabStatus_rate_mismatch 1).raise F.spFabEvents_rate_mismatch
  else
    let s0 := s.put F.spFabStatus_rate_mismatch 0
    let own := if t < s.tk.boundary then s.frame + 2 ^ 32 - 1 else s.frame
    let d := (frame + 2 ^ 33 - own) % 2 ^ 32
    let run := if d ≠ 0 && s.sp.delta.1 = d then s.sp.delta.2 + 1 else if d ≠ 0 then 1 else 0
    if 4 ≤ run then { s0 with sp := { s0.sp with delta := (0, 0), renum := some d } }
    else { s0 with sp := { s0.sp with delta := (d, run) } }

/-- TIME_PACKET (R364): the TIME packet that port m holds is acted on when the port is, or becomes, that of the time parent. -/
def State.timePacket (s : State) (m : Nat) : State :=
  match (s.spanPort m).time with
  | none => s
  | some (a, b) =>
    let launch := leAt b 0 8
    let s0 := s.modSpan m fun p =>
      { p with time := none, heard := some (a / 10, byteAt b 14, byteAt b 15, s.get (F.spPStatus_partner_chip m)) }
    if s0.isMaster || s0.spanState m ≠ 3 then s0
    else if s0.timeParent ≠ some m then
      if s0.get F.spFabStatus_time_parent = m && byteAt b 14 ≠ s0.get F.spFabStatus_master then s0.parentLost else s0
    else
      let s1 := ((s0.put F.spFabStatus_time_parent m).put F.spFabStatus_parent_valid 1).put F.spFabStatus_hops (byteAt b 15 + 1)
      let at_ := (roundDiv ((a : Int) - signed 24 (s.get (F.spPRange_d_link m))) 10).toNat
      let s2 := (s1.srcEdge 4 (at_ - launch % secNs)).srcLabel 4 (some (launch / secNs))
      s2.alignSample at_ (leAt b 8 4) (leAt b 12 2)

/-! ### Fabric-wide TAKE (R367) -/

/-- TAKE_MESSAGE: a TAKE of code 6, with the origin chip. It is never forwarded by take_fwd. -/
def State.takeMessageIn (s : State) (m : Nat) : State :=
  match s.spanTake m (isEvt 3) with
  | none => s
  | some (x, s1) =>
    ((s1.bump F.spTakeCnt_received).raise F.spFabEvents_take_received).takeLocal 6 s1.now (byteAt x.payload 0) []

/-! ### The commands -/

/-- CHAIN_PULSE (R356). -/
def execChainPulse (s : State) : Host.Outcome State Fault Refusal := act s fun s => s.chainPulse

/-- CHAIN_ID_TAKE (R356). -/
def execChainIdTake (s : State) : Host.Outcome State Fault Refusal := act s fun s => s.chainTake

/-- CHAIN_TRAIN (R356). -/
def execChainTrain (s : State) : Host.Outcome State Fault Refusal := act s fun s => s.chainTrain

/-- CHAIN_TIMEOUT (R356). -/
def execChainTimeout (s : State) : Host.Outcome State Fault Refusal := act s fun s => s.chainTimeout

/-- DISC_RECORD (R357). -/
def execDiscRecord (m : Fin 4) (r : DiscRec) (s : State) : Host.Outcome State Fault Refusal := act s fun s => s.discRecord m r

/-- DISCOVERY_PERMIT_RETRY (R357): 10 ms after a refusal. -/
def execDiscoveryPermitRetry (s : State) : Host.Outcome State Fault Refusal :=
  act s fun s => if s.sp.flood && !s.holds .discovery then s.discAsk else s

/-- DISCOVERY_SETTLED (R358). -/
def execDiscoverySettled (s : State) : Host.Outcome State Fault Refusal := act s fun s => s.settleDisc

/-- TIME_SEND (R363). -/
def execTimeSend (s : State) : Host.Outcome State Fault Refusal := act s fun s => s.timeSend

/-- TIME_PACKET (R364). -/
def execTimePacket (m : Fin 4) (s : State) : Host.Outcome State Fault Refusal := act s fun s => s.timePacket m

/-- MASTER_CHANGE (R362): the best record has been better for 4 consecutive seconds. -/
def execMasterChange (s : State) : Host.Outcome State Fault Refusal := act s fun s => s.setMaster (bestChip s.fabric)

/-- TAKE_MESSAGE (R367). -/
def execTakeMessage (m : Fin 4) (s : State) : Host.Outcome State Fault Refusal := act s fun s => s.takeMessageIn m

end Sys2Proof.Machine
end

