-- ==== Sys2Proof/Machine/Twin.lean ====
section
/-! DEFINITION. Twin operation: pairing, heartbeats, ownership of shared trees, mirroring (spec/13_span_fabric_and_twin.md R368 to R377). -/

namespace Sys2Proof.Machine

def State.modTw (s : State) (f : Tw → Tw) : State := { s with tw := f s.tw }

/-- Whether this chip takes part in twin operation. -/
def State.twinOn (s : State) : Bool := s.hasTwin && s.flag F.twCtrl_enable

/-- The map of shared ports and the map of the trees owned. -/
def State.sharedMap (s : State) : Nat := s.get F.twCfg_shared
def State.ownMap (s : State) : Nat := s.get F.twStatus_own

/-- Ports of a map. -/
def mapPorts (m : Nat) : List Nat := (List.range 8).filter (bitOf m)

/-- The bits of a that are not in b. -/
def mapMinus (a b : Nat) : Nat := (mapPorts a).foldl (fun x n => if bitOf b n then x else x + 2 ^ n) 0

/-- The bits of a or b. -/
def mapOr (a b : Nat) : Nat := a + mapMinus b a

/-- Whether this chip sets the owner flag of the FST of frame f on port n (R371, R374, R377). -/
def State.ownerFlag (s : State) (n f : Nat) : Bool :=
  if !s.sharedPort n then true
  else
    let giving : Bool := match s.tw.yield_ with
      | some (m, g, ok) => ok && bitOf m n && !newer ((g + 2 ^ 32 - 1) % 2 ^ 32) f
      | none => false
    let taking : Bool := match s.tw.accept with
      | some (m, g) => bitOf m n && !newer g f
      | none => false
    (bitOf s.ownMap n && !giving) || taking

/-! ### Ownership (R371, R374 to R377) -/

/-- Trees are given up. -/
def State.ownLose (s : State) (m : Nat) : State :=
  let ns := (mapPorts m).filter (bitOf s.ownMap)
  if ns.isEmpty then s
  else
    let s1 := ((s.put F.twStatus_own (mapMinus s.ownMap m)).put F.twLastSwitch_frame s.frame).raise F.twEvents_yielded
    forEach ns s1 fun s n => s.treeDropped n

/-- The tree of port n is taken: its devices are Resynced on their derived ranges (R374), the plan already in
force is sent (R377), the next ones are placed with the guard that this asks (R374), and a tree without any device is attached. -/
def State.treeTaken (s : State) (n : Nat) : State :=
  let s1 := forEach (addrs.filter fun a => s.isRanged n a) s fun s a =>
    (s.setDevSt n a 5).modDev n a fun d => { d with derived := (s.place n a).1 != 0 }
  let s2 := (s1.plansAgain n).modCu n fun cu => { cu with todo := match cu.plan with
    | some p => if p.frame = s.frame then p.items.filter fun it => it.kind != 2 || it.val.isSome else cu.todo
    | none => cu.todo }
  if s.link n = 3 && addrs.all (fun a => s.devSt n a ≤ 1) then s2.attachQueue n 0 0 else s2

/-- Trees are taken. -/
def State.ownTake (s : State) (m : Nat) : State :=
  let ns := (mapPorts m).filter fun n => bitOf s.sharedMap n && !bitOf s.ownMap n
  if ns.isEmpty then s
  else
    let s1 := (s.put F.twStatus_own (mapOr s.ownMap m)).put F.twLastSwitch_frame s.frame
    (forEach ns s1 fun s n => s.treeTaken n).modTw fun t => { t with queued := false, sent := false }

/-- The takeover of R374 at the boundary after the third miss: the first-tier hubs are asked for their status (R375); without a complete
snapshot the trees are to be reset (R376). -/
def State.takeOver (s : State) : State :=
  let m := mapMinus s.sharedMap s.ownMap
  let whole := s.flag F.twStatus_snapshot
  let s1 := ((s.ownTake m).modTw fun t => { t with taking := false }).bump F.twCnt_takeovers
  if !whole then s1.modTw fun t => { t with raze := mapPorts m }
  else forEach (mapPorts m) s1 fun s n =>
    match s.deviceAt n 0 0 with
      | some h => (s.modTw fun t => { t with check := (n, h) :: t.check.filter (·.1 != n) }).startCtl n h .hubStatus (setupBytes true 1 1 0 0 8)
      | none => s

/-- The trees taken without a complete snapshot are reset, after the FSTs of the boundary (R376). -/
def State.razeTrees (s : State) : State := forEach s.tw.raze (s.modTw fun t => { t with raze := [] }) fun s n => s.busReset n 0

/-- What a frame boundary does to the twin (R369, R374, R377): a heartbeat is due, a miss is counted, and trees are taken. -/
def State.twinFrame (s : State) : State :=
  if !s.twinOn then s
  else
    let s1 := if s.tw.seen then s else s.bump F.twStatus_misses
    let s2 := s1.modTw fun t => { t with seen := false, due := true }
    let s3 := if s.tw.taking then s2.takeOver else s2
    if s3.tw.claim = 0 then s3 else (s3.ownTake s3.tw.claim).modTw fun t => { t with claim := 0 }

/-- TWIN_TAKEOVER (R374): the third consecutive miss. The chip is alone, and takes every shared tree at the next boundary. -/
def State.twinMissed (s : State) : State :=
  if s.twinOn && s.flag F.twStatus_paired && 3 ≤ s.get F.twStatus_misses then
    let stand := mapMinus s.sharedMap s.ownMap != 0
    let s1 := (s.put F.twStatus_paired 0).put F.twStatus_state 3
    let s2 := s1.raise F.twEvents_heartbeat_lost
    let s3 := if stand then s2.detect 0x12 1 0 s.frame s.tw.inj else s2
    s3.modTw fun t => { t with taking := stand, yield_ := none, accept := none, queued := false, sent := false, inj := false }
  else s

/-! ### Start and yield (R368, R377) -/

/-- Twin operation starts: a high-role chip claims every shared tree, a low-role one gives up what it did on them (R368). -/
def State.twinStart (s : State) : State :=
  let s1 := (s.put F.twCtrl_enable 1).put F.twStatus_state 1
  if s.flag F.twStatus_role_pin then s1.put F.twStatus_own s.sharedMap else forEach (mapPorts s.sharedMap) s1 fun s n => s.treeDropped n

/-- Twin operation ends. -/
def State.twinStop (s : State) : State :=
  let s1 := ((((s.put F.twCtrl_enable 0).put F.twStatus_state 0).put F.twStatus_own 0).put F.twStatus_paired 0).put F.twStatus_partner_chip 62
  let s2 := ((((s1.put F.twStatus_snapshot 0).put F.twStatus_split 0).put F.twStatus_misses 0).put F.twStatus_frame_offset 0).put F.twFrameDiff_diff 0
  { s2 with tw := {} }

/-- A write of TW_CTRL.enable. -/
def State.twinEnable (s : State) (on : Bool) : State :=
  if on == s.flag F.twCtrl_enable then s else if on then s.twinStart else s.twinStop

/-- A write of 1 to TW_CTRL.yield (R377). -/
def State.twinYield (s : State) : State :=
  if s.twinOn && s.flag F.twStatus_paired && s.ownMap != 0 && s.tw.yield_.isNone then
    s.modTw fun t => { t with yield_ := some (s.ownMap, (s.frame + 3) % 2 ^ 32, false) }
  else s

/-- SOLO_WAIT_EXPIRE (R368): a low-role chip that has not paired claims its shared trees and runs Alone. -/
def State.soloExpire (s : State) : State :=
  if s.twinOn && s.get F.twStatus_state = 1 && !s.flag F.twStatus_role_pin then (s.ownTake s.sharedMap).put F.twStatus_state 3 else s

/-- YIELD_EFFECT (R377): at boundary f − 1 a yield not accepted is cancelled, and at f the trees change hands. -/
def State.yieldEffect (s : State) : State :=
  let s1 := match s.tw.yield_ with
    | some (m, f, ok) =>
      if ok && s.reached f then
        (forEach (mapPorts m) (s.ownLose m) fun s n => s.modCu n fun cu => { cu with todo := [] }).modTw fun t => { t with yield_ := none }
      else if !ok && s.reached ((f + 2 ^ 32 - 1) % 2 ^ 32) then s.modTw fun t => { t with yield_ := none }
      else s
    | none => s
  match s1.tw.accept with
  | some (m, f) => if s1.reached f then (s1.ownTake m).modTw fun t => { t with accept := none } else s1
  | none => s1

/-! ### The snapshot (R372) -/

/-- The items of one context beside the context itself: hold value, event-in state, waiting reflex outputs and their placements. -/
def State.mirrorPipe (s : State) (c : Nat) : State :=
  let n := s.pxPort c
  let a := s.pxAddr c
  let p := s.pxPipe c
  if s.pxKind c = 5 then
    s.mirrorItem 5 n a p 0 (leBytes 8 (s.seqBit n a p) ++ leBytes 8 (s.reg64 (R.pxLastTimeLo c)))
  else if s.pxKind c = 2 then
    let h := s.ramBytes (s.holdSlot c) 16
    let s1 := s.mirrorItem 4 n a p c (leBytes 8 (s.reg (R.pxLastFrame c)).toNat ++ h ++ s.ramBytes (s.holdSlot c + 16) (min (leAt h 12 2) (s.pxMax c)))
    (forEach (s1.reflexHeld c) s1 fun s r => s.mirrorPlacement r).mirrorWaiting c
  else s

/-- A full snapshot of the trees owned. -/
def State.snapshot (s : State) : State :=
  forEach (s.ports.filter s.mirrors) s fun s n =>
    let s1 := forEach (addrs.filter fun a => s.devSt n a != 0) s fun s a => s.mirrorDev n a
    let cs := s.ctxs.filter fun c => s.pxPort c == n
    let s2 := forEach cs s1 fun s c => (s.mirrorCtx s c).mirrorPipe c
    forEach ((s.partition n).map (·.1)) s2 fun s i => s.mirrorCat i

/-- A snapshot that is owed to the partner is queued. -/
def State.snapshotDue (s : State) : State :=
  if s.flag F.twStatus_paired && !s.tw.queued then s.snapshot.modTw fun t => { t with queued := true } else s

/-! ### Receiving heartbeats (R368, R369, R377) -/

/-- The heartbeat that 32 bytes spell (R369). -/
def heartOf (b : List Byte) : Heart :=
  { frame := leAt b 0 4, own := byteAt b 4, lost := byteAt b 5, yield_ := byteAt b 6, flags := byteAt b 7, yframe := leAt b 8 4
    serial := leAt b 16 8 }

/-- The pairing conditions beside the frame numbers: equal maps, as the command says, and the serial (R368). -/
def State.partnerOk (s : State) (h : Heart) (maps : Bool) : Bool :=
  maps && (s.reg64 R.twPartnerLo == 0 || s.reg64 R.twPartnerLo == h.serial)

/-- The chips pair. When both own trees, the low-role chip yields (R368). -/
def State.pair (s : State) (h : Heart) (chip : Nat) : State :=
  let s1 := (((s.put F.twStatus_paired 1).put F.twStatus_state 2).put F.twStatus_split 0).put F.twStatus_partner_chip chip
  let s2 := (s1.raise F.twEvents_paired).modTw fun t => { t with queued := false, sent := false }
  if s2.ownMap != 0 && h.own != 0 && !s2.flag F.twStatus_role_pin then s2.twinYield else s2

/-- What a heartbeat of the Paired partner says of yields and lost trees (R377). One of a frame before f that carries no yield says that the
yield is cancelled. -/
def State.heartYield (s : State) (h : Heart) (diff : Nat) : State :=
  let f := (h.yframe + 2 ^ 32 - diff) % 2 ^ 32
  let acc : Option (Nat × Nat) := if h.yield_ != 0 then some (h.yield_, f) else s.tw.accept.filter fun a => s.reached a.2
  let y := match s.tw.yield_ with
    | some (m, g, ok) => some (m, g, ok || (bitOf h.flags 1 && !s.reached ((g + 2 ^ 32 - 1) % 2 ^ 32)))
    | none => none
  let lost := mapMinus ((mapPorts h.lost).foldl (fun x n => if bitOf s.sharedMap n then x + 2 ^ n else x) 0) (mapOr h.own s.ownMap)
  s.modTw fun t => { t with accept := acc, yield_ := y, claim := mapOr t.claim lost }

/-- A heartbeat that is not discarded. -/
def State.heartTake (s : State) (h : Heart) (chip : Nat) (maps : Bool) : State :=
  let diff := (h.frame + 2 ^ 32 - s.frame) % 2 ^ 32
  let s1 := ((s.put F.twStatus_misses 0).put F.twFrameDiff_diff diff).putB F.twStatus_frame_offset (diff != 0)
  let s2 := s1.modTw fun t => { t with seen := true, last := some h, inj := false }
  if !s.partnerOk h maps then
    let s3 := s2.raise F.twEvents_partner_mismatch
    if s3.flag F.twStatus_paired then (s3.put F.twStatus_paired 0).put F.twStatus_state 1 else s3
  else
    let s3 := if s2.flag F.twStatus_paired then (if chip < 62 then s2.put F.twStatus_partner_chip chip else s2)
      else if diff = 0 && chip < 62 then s2.pair h chip else s2
    if s3.flag F.twStatus_paired then
      let s4 := s3.putB F.twStatus_snapshot (if s3.ownMap = s3.sharedMap then s3.tw.sent else bitOf h.flags 2)
      (s4.heartYield h diff).snapshotDue
    else s3

/-- HEARTBEAT_RECEIVE (R369): `maps` says whether the partner's TW_CFG.shared equals this chip's. -/
def State.heartbeatIn (s : State) (maps : Bool) : State :=
  match s.spanTake 3 (isEvt 0x10) with
  | none => s
  | some (x, s1) =>
    if !s1.twinOn then s1
    else if 0 < s1.tw.drop then s1.modTw fun t => { t with drop := t.drop - 1, inj := true }
    else
      let v := s1.get (F.fiInjCtrl_param 0x12)
      let i := s1.inject 0x12 0 fun v => 1 ≤ v
      if i.1 then i.2.modTw fun t => { t with drop := v % 256 - 1, inj := true }
      else s1.heartTake (heartOf x.payload) x.src maps

/-! ### Receiving mirror messages (R349, R372) -/

/-- A frame number of the partner as this chip's (R369). -/
def State.frameHere (s : State) (f : Nat) : Nat := (f + 2 ^ 32 - s.get F.twFrameDiff_diff) % 2 ^ 32

/-- Words of a byte list. -/
def wordsOf : Nat → List Byte → List Nat
  | 0, _ => []
  | n + 1, b => leAt b 0 4 :: wordsOf n (b.drop 4)

/-- Item 1: a device. The standby keeps its own range of the first-tier hub, while that is attached, and derives the others' (R370, R371). -/
def State.mirDev (s : State) (n a : Nat) (b : List Byte) : State :=
  let ws := wordsOf 9 b
  let s1 := (s.setRegs (R.gpDevState n a) (ws.take 1)).setRegs (R.gpDevId0 n a) ((ws.drop 1).take 4)
  let r := ws.drop 5
  let s2 := s1.modTw fun t =>
    { t with rttA := tput (fun _ => (0, 0)) t.rttA (devKey n a) (if 2 ^ 31 ≤ r.getD 0 0 then (r.getD 3 0, bitsOf (r.getD 2 0) 0 16) else (0, 0)) }
  if (s2.place n a).1 = 0 then
    let s3 := if s2.devSt n a ≤ 1 then (s2.dropSweep n a).clearRange n a else s2.twinDeriveAll n
    if 3 ≤ s3.devSt n a && !s3.flag (F.twHop_valid n) then s3.sweepQueue n a else s3
  else (s2.setRegs (R.gpRangeDev0 n a) r).twinDerive n a

/-- Item 2: a pipe context. -/
def State.mirCtx (s : State) (c : Nat) (b : List Byte) : State :=
  let ws := wordsOf 23 b
  let w0 := ws.getD 0 0
  let st := bitsOf w0 28 3
  let s1 := (s.setRegs (R.pxCtrl c) (ws.take 14)).setRegs (R.pxLastTimeLo c) ((ws.drop 20).take 2 ++ [s.frameHere (ws.getD 22 0)])
  s1.modCtx c fun x =>
    { x with
      mode := if st = 3 then 2 else if st = 0 then 1 else st
      enAt := if st = 1 && bitOf w0 31 then some s.effect else none
      disAt := if st = 6 then some s.effect else none
      hub := s1.pxKind c == 5 && s1.pxPipe c == 1 && s1.isHub (s1.pxPort c) (s1.pxAddr c) && s1.get (F.pxRegion_size c) == 0 }

/-- Item 3: a catalogue entry (R186). -/
def State.mirCat (s : State) (i : Nat) (b : List Byte) : State :=
  let ws := wordsOf 4 b
  let w0 := ws.getD 0 0
  let since := s.frameHere (ws.getD 2 0)
  let olds := match s.catAt i with
    | some e => if e.since = since then e.olds else e.olds ++ [(since, some e.sched)]
    | none => [(since, none)]
  let s1 := if bitOf w0 31 then
      s.catPut i
        { ctx := bitsOf w0 0 11, sched := { exp := bitsOf w0 22 4, phase := bitsOf w0 12 10, reflex := bitOf w0 30 }
          cost := bitsOf (ws.getD 1 0) 16 16, reflexNs := bitsOf (ws.getD 1 0) 0 16, since := since, olds := olds
          until_ := if bitOf w0 29 then some (s.frameHere (ws.getD 3 0)) else none }
    else s.catDrop i
  s1.loadShow (i / 2048)

/-- An out-slot header of the partner: the target of one that has a target is a frame number (R196, R369). -/
def State.headerHere (s : State) (h : List Byte) : List Byte :=
  if bitOf (byteAt h 15) 0 then h.take 8 ++ leBytes 4 (s.frameHere (leAt h 8 4)) ++ h.drop 12 else h

/-- Item 4: the hold value and the last output frame of a periodic-out pipe. -/
def State.mirHold (s : State) (key c : Nat) (b : List Byte) : State :=
  let s1 := s.modTw fun t => { t with outs := tinsert (terase t.outs key) key (s.frameHere (leAt b 0 4)) }
  s1.setRamBytes (s1.holdSlot c) (s.headerHere ((b.drop 8).take 16) ++ (b.drop 24).take (s.pxMax c))

/-- Item 5: the sequence bit and last event time of an event-in pipe. -/
def State.mirEvt (s : State) (n a p : Nat) (b : List Byte) : State :=
  (s.setSeq n a p (byteAt b 0 % 2)).modTw fun t => { t with evts := tinsert (terase t.evts (pipeKey n a p)) (pipeKey n a p) (leAt b 8 8) }

/-- Item 6: a reflex placement. -/
def State.mirPlaced (s : State) (key : Nat) (b : List Byte) : State :=
  let f := s.frameHere (leAt b 0 4)
  let ts := leAt b 8 8
  s.modTw fun t => { t with placed := (key, f, ts) :: t.placed.filter fun x => !(x.1 == key && x.2.2 == ts) && !newer s.frame x.2.1 }

/-- Item 7: the waiting reflex outputs of a pipe, each for the frame of its placement. -/
def State.mirWaiting (s : State) (n key c : Nat) (b : List Byte) : State :=
  let rs := (List.range (min 4 (byteAt b 0))).filterMap fun k =>
    let o := b.drop (8 + 72 * k)
    match s.tw.placed.find? fun x => x.1 == key && x.2.2 == leAt o 0 8 with
    | some x => some ({ frame := x.2.1, ctx := c, payload := (o.drop 16).take (min 56 (leAt o 8 2)), ts := leAt o 0 8 } : ReflexOut)
    | none => none
  s.modCu n fun cu => { cu with later := cu.later.filter (·.ctx != c) ++ rs.filter fun r => newer r.frame s.frame }

/-- A whole mirror item, on the standby of its tree. -/
def State.mirItem (s : State) (h b : List Byte) : State :=
  let n := byteAt h 1
  let a := byteAt h 2 % 64
  let p := byteAt h 3 % 16
  let i := leAt h 4 2
  if s.ownsPort n then s
  else match byteAt h 0 % 128 with
    | 1 => if 1 ≤ a && a ≤ 62 then s.mirDev n a b else s
    | 2 => if i < 2048 then s.mirCtx i b else s
    | 3 => if i / 2048 = n then s.mirCat i b else s
    | 4 => if i < 2048 then s.mirHold (pipeKey n a p) i b else s
    | 5 => s.mirEvt n a p b
    | 6 => s.mirPlaced (pipeKey n a p) b
    | 7 => if i < 2048 then s.mirWaiting n (pipeKey n a p) i b else s
    | _ => s

/-- MIRROR_MESSAGE (R372): a mirror packet is consumed; the last part of an item completes it (R349). -/
def State.mirrorIn (s : State) : State :=
  match s.spanTake 3 (isEvt 0x11) with
  | none => s
  | some (x, s1) =>
    let all := s1.tw.part ++ x.payload.drop 8
    if bitOf (byteAt x.payload 0) 7 then s1.modTw fun t => { t with part := all }
    else (s1.modTw fun t => { t with part := [] }).mirItem (x.payload.take 8) all

/-! ### The commands -/

/-- YIELD_EFFECT (R377). -/
def execYieldEffect (s : State) : Host.Outcome State Fault Refusal := act s fun s => s.yieldEffect

/-- HEARTBEAT_RECEIVE (R369). -/
def execHeartbeatReceive (maps : Bool) (s : State) : Host.Outcome State Fault Refusal := act s fun s => s.heartbeatIn maps

/-- TWIN_TAKEOVER (R374). -/
def execTwinTakeover (s : State) : Host.Outcome State Fault Refusal := act s fun s => s.twinMissed

/-- SOLO_WAIT_EXPIRE (R368). -/
def execSoloWaitExpire (s : State) : Host.Outcome State Fault Refusal := act s fun s => s.soloExpire

/-- MIRROR_MESSAGE (R372). -/
def execMirrorMessage (s : State) : Host.Outcome State Fault Refusal := act s fun s => s.mirrorIn

end Sys2Proof.Machine
end

