-- ==== Sys2Proof/Machine/Frames.lean ====
section
/-! DEFINITION. The frame boundary and what happens at it: the frame number, frame-start tokens, plans, missed due frames, effect frames, errors
found by reads of SRAM (spec/02_time_keeper.md R55 to R58, spec/04_gliys_transactions_and_hubs.md R98 to R103, spec/07_curator.md R201,
spec/15_faults_and_injection.md R397, R403). -/

namespace Sys2Proof.Machine

/-! ### Errors of SRAM (R26, R397, R403) -/

/-- The class of an uncorrectable error that a block's own read meets, by region (R397). -/
def ueClass (region : Nat) : Nat := [2, 4, 4, 3, 2, 2, 0, 3].getD region 0

/-- The port stop of R403: the port enters Disabled, and its devices are detached with their bindings kept. -/
def State.portStop (s : State) (n : Nat) : State := if n < s.nPorts then s.portDisable n else s

/-- The galleries with items in the queues and lists of region 3, or in the ring caches and mover staging of region 7 (R397); port service is of
gallery 0. -/
def State.ownersOf (s : State) (region : Nat) : List Nat :=
  (List.range 16).filter fun g =>
    if region = 3 then s.work.any (fun w => w.g == g && (w.loc == .queued || w.loc == .delayed)) || (g == 0 && s.gp.any fun p => !p.svc.isEmpty)
    else (List.range 8).any (fun r => s.ringSt g r != 0) || s.work.any (fun w => w.g == g && w.stage != .none) || (g == 0 && s.gp.any fun p => !p.ctls.isEmpty)

/-- An uncorrectable word of the queues, lists, ring caches or staging that no item's own read has met: the gallery of the item that holds it halts,
and which item that is, is not stated, and free (R397). -/
def State.queueUe (s : State) (w : BadWord) : State :=
  let own := s.ownersOf (ramRegion w.off)
  let x := s.draw 4
  let g := own.getD (x.1 % own.length) 0
  let s1 := (x.2.detectAt 2 3 (ramRegion w.off) w.off g s.now w.inj).dropFlip w.off
  if own.isEmpty then s1 else s1.galleryHalt g

/-- An uncorrectable word that the plan builder or the scrubber finds (R397, R403, R430). A word of buffer memory stays as it is, and what next uses it
meets the error. Of Courier tables and Span buffers the manual gives no layout: whether the word is of a route entry, and of which, is free, and
a word of a buffer stays. A word of a Free context stops root port 0 (DESIGN CHOICE, log entries 13 and 178). -/
def State.ueFound (s : State) (w : BadWord) : State :=
  let r := ramRegion w.off
  if ueClass r = 3 then s.queueUe w
  else
    let s1 := s.detect 2 (ueClass r) r w.off w.inj
    match r with
    | 1 =>
      let c := (w.off - 0x200000) / 128
      (((s1.portStop (s1.pxPort c)).freeCtx c).setRegs (R.pxCtrl c) (List.replicate 32 0)).dropFlip w.off
    | 2 =>
      let i := (w.off - 0x240000) / 16
      (((s1.portStop (i / 2048)).catDrop i).loadShow (i / 2048)).dropFlip w.off
    | 4 =>
      let x := s1.draw 13
      if x.1 < 4096 then (x.2.routeClear x.1).dropFlip w.off else x.2.addFlips [{ off := w.off, two := true }]
    | 5 => ((s1.put F.twStatus_snapshot 0).modTw fun t => { t with queued := false, sent := false }).dropFlip w.off
    | 6 => { s1 with rg := { s1.rg with newest := none } }
    | _ => s1.addFlips [{ off := w.off, two := true }]

/-- The words given have been found flipped; with `fix` those with one flipped bit are written back (R430). -/
def State.wordsFound (s : State) (ws : List BadWord) (fix : Bool) : State :=
  forEach ws s fun s w =>
    if w.two then s.ueFound w
    else
      let s1 := s.ramCe w.off w.inj
      if fix then s1.dropFlip w.off else s1

/-- The plan builder reads the contexts and the catalogue in every frame (R26, R407). -/
def State.planReads (s : State) : State := (s.ramFire 0x200000 0x80000).wordsFound (s.badWords 0x200000 0x80000) false

/-! ### The frame number (R56, R366) -/

/-- The frame number at byte i of b moves by f. -/
def shiftAt (f : Nat → Nat) (i : Nat) (b : List Byte) : List Byte := b.take i ++ leBytes 4 (f (leAt b i 4)) ++ b.drop (i + 4)

/-- The frame numbers in a mirror packet that begins an item move by f (R349). -/
def shiftItem (f : Nat → Nat) (b : List Byte) : List Byte :=
  match byteAt b 0 % 128 with
  | 2 => shiftAt f 96 b
  | 3 => if bitOf (leAt b 8 4) 31 then shiftAt f 16 (if bitOf (leAt b 8 4) 29 then shiftAt f 20 b else b) else b
  | 4 => shiftAt f 8 (if bitOf (byteAt b 31) 0 then shiftAt f 24 b else b)
  | 6 => shiftAt f 8 b
  | _ => b

/-- The frame numbers in the mirror queue move by f: a packet begins its item when as many stand from it to the item's last as the item has. -/
def shiftMirror (f : Nat → Nat) : List SpanPkt → List SpanPkt
  | [] => []
  | x :: xs =>
    let more := ((x :: xs).takeWhile fun y => 128 ≤ byteAt y.payload 0).length
    (if ceilDiv (leAt x.payload 6 2) 504 = more + 1 then { x with payload := shiftItem f x.payload } else x) :: shiftMirror f xs

/-- Frame numbers that the device keeps move with its own by Δ (R366). -/
def State.shiftFrames (s : State) (d : Nat) : State :=
  let f x := (x + d) % 2 ^ 32
  let px := s.px.map fun p => (p.1, { p.2 with
    enAt := p.2.enAt.map f, disAt := p.2.disAt.map f, outRead := p.2.outRead.map f
    quals := p.2.quals.map fun q => (f q.1, q.2), applies := p.2.applies.map fun q => (f q.1, q.2) })
  let plan (p : Plan) : Plan := { p with frame := f p.frame }
  let rfx (r : ReflexOut) : ReflexOut := { r with frame := f r.frame }
  let cu := s.cu.map fun c => { c with
    begun := c.begun.map f, plans := c.plans.map plan, plan := c.plan.map plan, reflexes := c.reflexes.map rfx, later := c.later.map rfx
    deferred := c.deferred.map fun k => if k.1 = 16 then (16, k.2.1, f k.2.2) else k }
  let cat := s.cat.map fun e => (e.1, { e.2 with since := f e.2.since, until_ := e.2.until_.map f, olds := e.2.olds.map fun o => (f o.1, o.2), shedTo := e.2.shedTo.map f })
  let gp := s.gp.map fun g => { g with
    pwOld := g.pwOld.map fun p => (f p.1, p.2)
    babble := g.babble.map fun b => (f b.1, b.2)
    ctls := g.ctls.map fun c => { c with nak := c.nak.map f }
    svc := g.svc.map fun v => match v with
      | .probe a u => .probe a (f u)
      | v => v }
  let work := s.work.map fun w => { w with since := f w.since, nak := w.nak.map f }
  let tw := { s.tw with
    yield_ := s.tw.yield_.map fun y => (y.1, f y.2.1, y.2.2)
    accept := s.tw.accept.map fun y => (y.1, f y.2)
    outs := s.tw.outs.map fun o => (o.1, f o.2)
    placed := s.tw.placed.map fun p => (p.1, f p.2.1, p.2.2)
    mirror := shiftMirror f s.tw.mirror
    unacked := s.tw.unacked.map (shiftAt f 4) }
  { s with px := px, cu := cu, cat := cat, gp := gp, work := work, tw := tw, cutoff := f s.cutoff, built := s.built.map fun b => (f b.1, b.2) }

/-- A confirmed Δ is added to the frame number (R366). -/
def State.renumber (s : State) : State :=
  match s.sp.renum with
  | none => s
  | some d =>
    let f := (s.frame + d) % 2 ^ 32
    let s1 := ({ s with sp := { s.sp with renum := none } } : State).shiftFrames d
    (((s1.put F.tkFrameNum_frame f).put F.spRenumber_delta d).put F.spRenumberFrame_frame (nextFrame f)).raise F.spFabEvents_renumbered

/-! ### The frame rate (R57) -/

/-- The requested frame rate takes effect, and the catalogue is re-admitted (R57, R210). -/
def State.rateApply (s : State) : State :=
  let s1 := ((s.put F.tkFrameRate_active (s.get F.tkFrameRate_requested)).put F.tkStatus_rate_pending 0).raise F.tkEvents_rate_changed
  ({ s1 with tk := { s1.tk with rateAt := none } } : State).readmitAll

/-- FRAME_RATE_CHANGE: at its second boundary, which is the next frame boundary of the new grid. -/
def State.rateChange (s : State) : State :=
  match s.tk.rateAt with
  | none => s
  | some t =>
    let s1 := s.advanceTo t
    (if s1.tk.boundary < t then { s1 with tk := { s1.tk with boundary := t - 1 } } else s1).rateApply

/-! ### The start of a frame on a port -/

/-- Due frames that the plan of frame f of port n does not serve are counted as missed (R155, R190, R213, R215), but for the polls of event-in
pipes that were held back when it was built. -/
def State.countMissed (s : State) (n f : Nat) : State :=
  let items := ((s.cuPort n).plan.map (·.items)).getD []
  let fresh := (s.cuPort n).plan.any fun p => !p.late
  forEach (s.partition n) s fun s e =>
    let c := e.2.ctx
    let k := s.pxKind c
    let use_ := (2 ≤ s.pxState c && s.pxState c ≤ 5) || s.pxServed c f
    if (e.2.due f).isNone || !use_ || items.any (fun it => it.idx == e.1 && it.ctx == c) then s
    else if k = 5 && (s.devSt n (s.pxAddr c) == 3 || (if fresh then !s.shedIn n f e && s.plannable n f c else s.eventHeld c)) then s
    else s.slotMissed c

/-- Event-in contexts of unranged devices due in frame f wait for port service (R155, R218). -/
def State.pollUnranged (s : State) (n f : Nat) : State :=
  forEach (s.partition n) s fun s e =>
    let c := e.2.ctx
    if s.pxKind c = 5 && (e.2.due f).isSome && !s.shedIn n f e && s.pxServed c f && s.devSt n (s.pxAddr c) == 3 && !s.eventHeld c && !(s.port n).svc.contains (.poll c) then
      s.serve n (.poll c)
    else s

/-- Probes of Resynced devices: at most four in a frame, those that still wait among them, in ascending address order (R163). -/
def State.probeResynced (s : State) (n : Nat) : State :=
  let busy a := (s.port n).svc.any (fun v => match v with
    | .probe b _ => b == a
    | _ => false) || (s.port n).opens.any fun x => x.addr == a && x.use == .probe
  let waits := (s.port n).svc.countP fun v => match v with
    | .probe b _ => s.devSt n b == 5
    | _ => false
  forEach ((addrs.filter fun a => s.devSt n a == 5 && !busy a).take (4 - waits)) s fun s a => s.serve n (.probe a ((s.frame + s.rate / 64) % 2 ^ 32))

/-- The plan of the frame that begins comes into force on port n (R201, R214). A reflex insertion that the last frame has left over displaces its
pipe's scheduled output (R34, R217). -/
def State.planStart (s : State) (n : Nat) : State :=
  let f := s.frame
  let cu := s.cuPort n
  let live := s.link n == 3 || s.link n == 4
  let p := if live then cu.plans.find? (fun p => p.frame == f && p.closed) else none
  let all := if s.ownsPort n then ((p.map (·.items)).getD []).filter (fun it => it.kind != 2 || it.val.isSome) else []
  let out (it : PlanItem) : Bool := it.kind == 2 && !it.reflex && it.ts.isNone && live && cu.reflexes.any (·.ctx == it.ctx)
  let todo := all.filter (!out ·)
  let next := (f + 2) % 2 ^ 32
  let gone := if live then [] else
    ((cu.plans.filter fun p => p.frame == f && p.closed).flatMap fun p => (p.items.filter (·.ts.isSome)).map (·.ctx)) ++ cu.reflexes.map (·.ctx)
  let s0 := forEach (all.filter out) (forEach gone s fun s c => s.reflexLost n c) fun s it => match it.val with
    | some v => s.outDisplaced it.ctx v
    | none => s
  let s1 := s0.modCu n fun cu =>
    { cu with
      plan := p, todo := todo
      plans := if live then cu.plans.filter (fun p => newer p.frame f) else []
      begun := if s.link n == 3 then cu.begun.filter (fun b => newer b f) ++ [next] else []
      used := 0, deferred := [], reflexes := if s.ownsPort n && live then cu.reflexes else [] }
  let s2 := ((s1.put (F.cuPortPlan_items n) ((p.map (·.items.length)).getD 0)).putB (F.cuPortPlan_repeated n) (p.any (·.late))).put
    (F.cuPortPlan_periodic_end n) ((p.map (·.endNs)).getD 0)
  let s3 := s2.put (F.cuPortUrgent_used_ns n) (min 65535 cu.used)
  let t := s.frameAt
  let s4 := s3.modPort n fun g => { g with txEnd := t + s.pwOf n f * 10 - 80, upFree := t - 240 }
  if s.ownsPort n then s4.countMissed n f else s4

/-- The periodic-out rings with a slot due in the frame after the next are read (R197). -/
def State.ringsRead (s : State) (n : Nat) : State :=
  let f := (s.frame + 2) % 2 ^ 32
  forEach ((s.partition n).filter fun e => (e.2.due f).isSome && s.pxKind e.2.ctx == 2 && s.pxServed e.2.ctx f && s.ownsPort n) s fun s e =>
    s.outRingRead e.2.ctx f

/-! ### The frame-start token (R72, R103, R370) -/

/-- The FST payload (R103). -/
def State.fstBytes (s : State) (n : Nat) : List Byte :=
  leBytes 8 s.tk.boundary ++ leBytes 4 s.frame ++ leBytes 2 s.rate ++
  [BitVec.ofNat 8 (s.chipQuality s.tk.boundary), BitVec.ofNat 8 (b2n (s.ownerFlag n s.frame) + b2n s.twinOn * 2)] ++
  leBytes 4 0 ++ [BitVec.ofNat 8 s.chip] ++ leBytes 3 0

/-- The pad bits before an SFS at t in 100 ps, and the instant at which it starts, within ±0.2 ns (R72): one bit lasts 0.4 ns. The
first one of a link has no alignment before it, and takes 0 pad bits (DESIGN CHOICE, log entry 168). -/
def padBits (sfs : Option Nat) (t : Nat) : Nat × Nat :=
  match sfs with
  | none => (0, t)
  | some u =>
    let r := (t - u) % 40
    let q := (r + 2) / 4
    (q % 10, t - r + 4 * q)

/-- Port n sends its FST (R103); on a shared port D_hop before the boundary (R370). -/
def State.fstSend (s : State) (n : Nat) : State :=
  if s.link n != 3 || (s.port n).resuming || (s.port n).suspend != 0 then s
  else
    let t := if s.sharedPort n && s.flag (F.twHop_valid n) then s.frameAt - s.get (F.twHop_d_hop n) else s.frameAt
    let p := padBits (s.port n).sfs t
    let s1 := (s.modPort n fun g => { g with sfs := some p.2 }).put (F.gpLinkStatus_pad_bits n) p.1
    s1.emit (.gliys n t (padOf p.1) (wireOf symSfs (packetBytes (downHdr 5 63 0) (s.fstBytes n)) true))

/-- An injected absence of the 10 MHz reference ends at its second boundary (R407). -/
def State.ref10End (s : State) : State :=
  match s.tk.ref10Inj with
  | some t => if t ≤ s.now then ({ s with tk := { s.tk with ref10Inj := none } } : State).ref10Back else s
  | none => s

/-- A held acknowledge (R407, point 0x10): the rings of a powered block are in use in every frame, so an armed stall of the lowest block that the
instance selects is raised at the boundary (log 155). -/
def State.stallInject (s : State) : State :=
  match (List.range 24).find? fun b => s.blockWatched b && (s.armed 0x10 b).isSome with
  | some b => (s.injFire 0x10).detect 0x10 4 b ((s.armed 0x10 b).getD 0) true
  | none => s

/-- Injections whose opportunity is a frame boundary (R407): a held acknowledge, babble on an Active port, loss of the time reference. -/
def State.frameInject (s : State) : State :=
  let s1 := forEach s.ports s.ref10End.stallInject fun s n =>
    if s.link n != 3 then s
    else
      let a := s.get (F.fiInjCtrl_param 5) % 64
      let i := s.inject 5 n fun _ => true
      if i.1 then i.2.babble n (if a = 0 then none else some a) true else s
  let v := s1.get (F.fiInjCtrl_param 0x0D)
  let i := s1.inject 0x0D 0 fun v => (v == 0 && s1.get F.tkStatus_active_source != 0) || (v == 1 && s1.get F.tkStatus_clock_source == 0)
  if !i.1 then s1
  else if v = 0 then i.2.loseSource (i.2.get F.tkStatus_active_source) true
  else ({ i.2 with tk := { i.2.tk with ref10Inj := some (secondAtOrAfter (i.2.now + 1)) } } : State).ref10Lost true

/-! ### The boundary -/

/-- The frame number rises at the next boundary; a step, a new rate and a Δ that wait for it take effect (R50, R55 to R57, R366). -/
def State.frameNext (s : State) : State :=
  let s0 := s.applyStep
  let b := nextBoundary s0.rate s0.tk.boundary
  let s1 := s0.advanceTo b
  let s2 : State := { s1 with tk := { s1.tk with boundary := b, stepping := false } }
  let s3 := match s2.tk.rateAt with
    | some t => if t ≤ b then s2.rateApply else s2
    | none => s2
  let s4 := s3.renumber
  s4.put F.tkFrameNum_frame (nextFrame s4.frame)

/-- What follows the frame number in an awake device, some words of whose SRAM have flipped. On a tree that is taken over now the probes begin with
the next frame (R374). -/
def State.frameWork (s : State) (e : List SramFlip) : State :=
  let own := s.ownsPort
  let s1 := (((s.addFlips e).planReads).twinFrame).frameInject
  let s2 := (forEach s1.ports s1 fun s n => s.fstSend n).razeTrees
  let s3 := forEach s2.ports s2 fun s n => s.planStart n
  let s4 := forEach (s3.ports.filter fun n => s3.link n == 3) s3 fun s n =>
    if s.ownsPort n then ((if own n then (s.pollUnranged n s.frame).probeResynced n else s.pollUnranged n s.frame)).ringsRead n else s
  let s5 := s4.delaysRun
  let s6 := forEach (List.range 16) s5 fun s g => (if s.evFull g then s.evHeadRead g else s).evKick g
  s6.flushOwed

/-- FRAME_BOUNDARY (R55). A cut-off not yet made is made first; in Closed and Stowed the frame number alone counts. -/
def State.frameBegin (s : State) (e : List SramFlip) : State :=
  if s.asleep then s.frameNext.addFlips e
  else
    let s0 := s.planCutoff
    s0.frameNext.frameWork e

/-- PW_OPEN_EFFECT (R100): values of pw_open whose frame is reached, and their ports are re-admitted. -/
def State.pwEffect (s : State) : State :=
  forEach s.ports s fun s n =>
    if (s.port n).pwOld.any fun p => s.reached p.1 then
      (s.modPort n fun g => { g with pwOld := g.pwOld.filter fun p => !s.reached p.1 }).readmit n
    else s

/-- A maintenance probe falls due (R154); on a standby's port only the first-tier hub is probed (R371). -/
def State.probeDueAt (s : State) (n a : Nat) : State :=
  if s.link n = 3 && s.isRanged n a && (s.ownsPort n || (s.place n a).1 == 0) && s.flag (F.gpRangeDev0_valid n a) then
    s.serve n (.probe a ((s.frame + s.rate / 64) % 2 ^ 32))
  else s

/-! ### The commands -/

/-- FRAME_BOUNDARY (R55). -/
def execFrameBoundary (e : List SramFlip) (s : State) : Host.Outcome State Fault Refusal := act s fun s => s.frameBegin e

/-- EFFECT_FRAME (R176): changes of contexts and catalogue entries whose effect frame is reached. -/
def execEffectFrame (s : State) : Host.Outcome State Fault Refusal := act s fun s => s.pxEffects.catEffects

/-- PW_OPEN_EFFECT (R100). -/
def execPwOpenEffect (s : State) : Host.Outcome State Fault Refusal := act s fun s => s.pwEffect

/-- FRAME_RATE_CHANGE (R57). -/
def execFrameRateChange (s : State) : Host.Outcome State Fault Refusal := act s fun s => s.rateChange

/-- FRAME_RENUMBER (R366): Δ is added to the frame number. -/
def execFrameRenumber (s : State) : Host.Outcome State Fault Refusal := act s fun s => s.renumber

/-- MAINTENANCE_PROBE_DUE (R154). -/
def execMaintenanceProbeDue (n : Fin 8) (addr : Fin 64) (s : State) : Host.Outcome State Fault Refusal :=
  act s fun s => s.probeDueAt n addr

end Sys2Proof.Machine
end

