-- ==== Sys2Proof/Machine/Galleries.lean ====
section
/-! DEFINITION. Attach and detach, gallery states, PASIDs, mailboxes and the private interrupt bank (spec/11_galleries_and_pcie.md,
spec/12_interrupts.md). -/

namespace Sys2Proof.Machine

/-! ### dma_ready rises (R254, R314) -/

/-- dma_ready may have changed: what waited for it goes on, writes that are owed and the tail words of event rings; a ring without it counts as
full (R257, R314). -/
def State.dmaGo (s : State) : State :=
  forEach (List.range 16) s.flushOwed fun s g => if s.evRunning g then s else (s.evKick g).evShed g

/-! ### Attach and detach (R311, R323, R433) -/

/-- The mode of the device (CH_STATUS.mode): 1 standing without a host, 2 standing and hosted, 3 Bare, 4 Hosted. -/
def State.mode (s : State) : Nat := s.get F.chStatus_mode

/-- The phase of the start (R432). -/
def State.phase (s : State) : Nat := s.get F.chStatus_phase

/-- The host becomes the manager. -/
def State.attachNow (s : State) : State :=
  if s.hosted then s
  else
    let s1 := s.put (F.gaStatus_hosted 0) 1
    (if s.mode = 1 then s1.put F.chStatus_mode 2 else s1).dmaGo

/-- A write of GA_CTRL.attach: before step 7, and during a re-application, it is held (R433, R449). -/
def State.hostAttach (s : State) : State :=
  if s.phase ≠ 5 || s.ch.job = .reapply then { s with ch := { s.ch with attach := true } } else s.attachNow

/-- An attach that was held takes effect. -/
def State.attachHeld (s : State) : State :=
  if s.ch.attach then ({ s with ch := { s.ch with attach := false } } : State).attachNow else s

/-- Every Running ring of a gallery is stopped (R248). -/
def State.ringsStop (s : State) (g : Nat) : State := forEach (List.range 8) s fun s r => s.ringStop g r 1

/-- A write of 0 to open (R318): the event ring counts as full from here on (R257). -/
def State.galleryClose (s : State) (g : Nat) : State :=
  if g ≠ 0 && 1 ≤ s.gal g && s.gal g ≤ 3 then (((s.put (F.gaStatus_state g) 4).put (F.gaCtrl_open g) 0).ringsStop g).evShed g else s

/-- A write of 1 to open in Closed (R316). -/
def State.galleryOpen (s : State) (g : Nat) : State :=
  if g ≠ 0 && s.gal g = 0 then
    (((s.put (F.gaStatus_state g) 1).put (F.gaCtrl_open g) 1).put (F.gaStatus_host_err g) 0).dmaGo
  else s

/-- A write of 1 to reset (R318). -/
def State.galleryReset (s : State) (g : Nat) : State :=
  if s.gal g = 1 || s.gal g = 2 then (s.put (F.gaStatus_state g) 3).ringsStop g else s

/-- Every ring of a gallery whose started entries have completed is Disabled (R318 step 2). -/
def State.ringsEnd (s : State) (g : Nat) : State :=
  forEach (List.range 8) s fun s r => if s.ringSt g r ≠ 0 then s.ringDone g r else s

/-- Both mailboxes and doorbells of a page are 0 (R318 step 3). -/
def State.mailClear (s : State) (g : Nat) : State :=
  if g = 0 then s else (s.setRegs (R.gaMboxIn g 0) (List.replicate 32 0)).setRegs (R.gaDbIn g) [0, 0]

/-- GALLERY_RESET_DONE (R318): once every started entry has completed, the rings are Disabled and the gallery is Open or Closed. -/
def State.galleryDone (s : State) (g : Nat) : State :=
  let st := s.gal g
  if (st = 3 || st = 4) && (List.range 8).all (s.ringQuiet g) then
    let s1 := s.ringsEnd g
    if st = 4 then s1.put (F.gaStatus_state g) 0
    else ((s1.mailClear g).icGalleryReset g).put (F.gaStatus_state g) 1
  else s

/-- A write of GA_CTRL.detach (R323): galleries 1 to 15 close and gallery 0's rings stop, Halted ones included. -/
def State.hostDetach (s : State) : State :=
  if !s.hosted || s.pci.detaching then s
  else
    let s1 := forEach ((List.range 15).map (· + 1)) s fun s g => s.galleryClose g
    let s2 := forEach (List.range 8) (s1.ringsStop 0) fun s r => if s.ringSt 0 r = 3 then s.put (F.gaRingState_state 0 r) 2 else s
    { s2 with pci := { s2.pci with detaching := true } }

/-- Without a host the manager's channels stay Idle (R260): one that runs is left where it is. -/
def State.mvRest (s : State) : State :=
  forEach ((List.range 8).filter fun c => s.chManager c && (s.chSt c == 1 || s.chSt c == 2)) s fun s c =>
    (s.put (F.mvChState_state c) 0).modChan c fun m => { m with desc := none, phase := 0, reads := [], outs := [], stale := m.stale + m.outs.length }

/-- DETACH_DONE (R323). -/
def State.detachDone (s : State) : State :=
  if s.pci.detaching && ((List.range 15).map (· + 1)).all (fun g => s.gal g == 0) && (List.range 8).all (fun r => s.ringSt 0 r == 0) then
    let s1 : State := { s.put (F.gaStatus_hosted 0) 0 with pci := { s.pci with detaching := false } }
    if s.mode = 2 then (s1.put F.chStatus_mode 1).mvRest else s1
  else s

/-! ### Registers of a page (R313, R317, R320) -/

/-- A manager's write of GA_CTRL (R311, R318): before the attach only that acts; open is acted on only when the others are 0. -/
def State.writeGaCtrl (s : State) (g : Nat) (w : Word) : State :=
  let b i := bitOf w.toNat i
  if g = 0 then
    let s1 := if b 31 then s.hostAttach else s
    if !s.hosted then s1
    else
      let s2 := if b 30 then s1.hostDetach else s1
      if b 29 then s2.galleryReset 0 else s2
  else if b 29 then s.galleryReset g
  else if b 30 || b 31 then s
  else if b 28 then s.galleryOpen g else s.galleryClose g

/-- A manager's write of GA_PASID (R317). -/
def State.writePasid (s : State) (g : Nat) (w : Word) : State :=
  let p := w.toNat % 2 ^ 20
  let taken := (List.range 16).any fun h => h != g && s.flag (F.gaPasid_valid h) && s.get (F.gaPasid_pasid h) == p
  if (s.gal g = 0 || !s.flag (F.gaPasid_valid g)) && !taken then
    ((s.setReg (R.gaPasid g) (w &&& 0x800FFFFF)).put (F.gaStatus_pasid_refused g) 0).dmaGo
  else s.put (F.gaStatus_pasid_refused g) 1

/-- Bits of a doorbell are set: one event for each (R320). -/
def State.bellSet (s : State) (off : Nat) (w : Word) (g src : Nat) : State :=
  forEach ((List.range 16).filter (bitOf w.toNat)) s fun s b => (s.setBit off b).privEvent g src

/-- Bits of a doorbell are cleared. -/
def State.bellClear (s : State) (off : Nat) (w : Word) : State :=
  s.setReg off (s.reg off &&& ~~~ w)

/-- The violation log is emptied (GA_VIOL_CLEAR). -/
def State.violClear (s : State) : State :=
  ((s.setReg (R.gaViolStatus 0) 0).setRegs (R.gaViolCnt 0 0) (List.replicate 16 0)).setRegs (R.gaViolLog0 0 0) (List.replicate 64 0)

/-- The bits, from source `base` on, of the private sources that exist: the others are RZ in the enables (R324). -/
def privMask (g base : Nat) : Word := BitVec.ofNat 32 (sumOf ((List.range 32).map fun b => if privExists g (base + b) then 2 ^ b else 0))

/-- A write of a source enable word, given as the access codes leave it: an instance whose bit goes to 0 is Idle (R328). -/
def State.writeEnable (s : State) (off : Nat) (w : Word) (key : Nat → Nat) : State :=
  forEach ((List.range 32).filter fun b => s.srcExists (key b) && !bitOf w.toNat b) (s.setReg off w) fun s b => s.icDisable (key b)

/-- A write within page g by gallery `who` (0 the manager): the registers with effects of their own; `plain` is the word the access codes
alone leave. -/
def State.writeGa (s : State) (g off who : Nat) (w plain : Word) : State :=
  let o := off % 0x1000
  let no (s : State) : State := s.violation 2 (some g) 0 0 o
  if o = 0 then (if who = 0 then s.writeGaCtrl g w else no s)
  else if o = 8 then (if who = 0 then s.writePasid g w else no s)
  else if 0x400 ≤ o && o < 0x440 then (if who = 0 then s.setReg off w else no s)
  else if 0x440 ≤ o && o < 0x480 then (if who = 0 then s else s.setReg off w)
  else if o = 0x480 then (if who = 0 then s.bellSet off w g 12 else s.bellClear off w)
  else if o = 0x484 then (if who = 0 then s.bellClear off w else s.bellSet off w 0 (16 + g))
  else if o = 0x804 then s.icComplete g (w.toNat % 2 ^ 16)
  else if o = 0x810 then (if w.toNat % 256 < 64 then s.icSet (privKey g (w.toNat % 256)) else s)
  else if o = 0x814 then (if who = 0 then s.setReg off plain else no s)
  else if o = 0x820 then s.writeEnable off (plain &&& privMask g 0) fun b => privKey g b
  else if o = 0x824 then s.writeEnable off (plain &&& privMask g 32) fun b => privKey g (32 + b)
  else if o = 0xC04 then (if bitOf w.toNat 0 then s.violClear else s)
  else if 0x100 ≤ o && o < 0x300 then s.writeRing g ((o - 0x100) / 0x40) off w plain
  else if 0x300 ≤ o && o < 0x340 then s.writeEvt g off w plain
  else s.setReg off plain

/-! ### The shared bank (R333, R334, R336) -/

/-- A write of IC_SH_CFGs: with a new target a fallback timer that runs starts again (R334). -/
def State.writeTarget (s : State) (off : Nat) (plain : Word) : State :=
  let k := shKey (64 + (off - R.icShCfg 0) / 4)
  let s1 := s.setReg off plain
  if s1.icTarget k ≠ s.icTarget k && (s.inst k).phase = .pending && !(s.inst k).fallen then
    s1.setInst k { s.inst k with since := s.now }
  else s1

/-- A write in the shared bank. -/
def State.writeSh (s : State) (off : Nat) (w plain : Word) : State :=
  let o := off - 0xE000
  if o < 0x300 then s.writeTarget off plain
  else if o < 0x318 then s.writeEnable off plain fun b => shKey (64 + 32 * ((o - 0x300) / 4) + b)
  else if o = 0x380 then (if 64 ≤ w.toNat % 256 then s.icSet (shKey (w.toNat % 256)) else s)
  else s.setReg off plain

/-! ### Timers of the controller (R327, R333) -/

/-- COALESCE_TIMEOUT (R327): the coalescing time of a Gathering instance is over. -/
def State.coalesced (s : State) (k : Nat) : State :=
  match (s.inst k).phase with
  | .gathering _ t =>
    let us := bitsOf (s.reg (icCfg k)).toNat 16 16
    if us = 0 || s.asleep then s else (s.advanceTo (t + us * 1000)).icPend k
  | _ => s

/-- FALLBACK_TIMEOUT (R333): a shared instance that waits for its target is presented to the manager. The timer rests in Closed
and Stowed (R338). -/
def State.fallback (s : State) (n : Nat) : State :=
  let k := shKey n
  let g := s.icTarget k
  let ms := s.get (F.icGcfg_fallback_ms g)
  if !s.asleep && s.shExists n && (s.inst k).phase = .pending && !(s.inst k).fallen && g ≠ 0 && !s.served g && ms ≠ 0 then
    let s1 := (s.advanceTo ((s.inst k).since + ms * 1000000)).bump F.icShStatus_fallbacks
    s1.setInst k { s1.inst k with fallen := true }
  else s

/-! ### The commands -/

/-- DETACH_DONE (R323). -/
def execDetachDone (s : State) : Host.Outcome State Fault Refusal := act s fun s => s.detachDone

/-- GALLERY_RESET_DONE (R318). -/
def execGalleryResetDone (g : Fin 16) (s : State) : Host.Outcome State Fault Refusal := act s fun s => s.galleryDone g

/-- COALESCE_TIMEOUT (R327). -/
def execCoalesceTimeout (g : Option (Fin 16)) (k : Fin 256) (s : State) : Host.Outcome State Fault Refusal :=
  act s fun s => s.coalesced (srcKey g k)

/-- FALLBACK_TIMEOUT (R333). -/
def execFallbackTimeout (k : Fin 256) (s : State) : Host.Outcome State Fault Refusal := act s fun s => s.fallback k

end Sys2Proof.Machine
end

