-- ==== Sys2Proof/Machine/Conservator.lean ====
section
/-! DEFINITION. The Conservator: supply changes, power states, the entry handshake, wakes, permits, scrub (spec/16_conservator.md). -/

namespace Sys2Proof.Machine

def State.modCn (s : State) (f : Cn → Cn) : State := { s with cn := f s.cn }

/-! ### The loader's part in permits (R449, R450) -/

/-- The loader is idle again. -/
def State.chEnd (s : State) : State :=
  (({ s with ch := { s.ch with job := .idle, wait := .none, image := [], copyA := none, copyB := none, refusals := 0 } } : State).put
    F.chStatus_busy 0).put F.chStatus_reading 0

/-- A re-application that does not succeed (R449): galleries stay Closed; an attach that was held takes effect. -/
def State.reapplyFailed (s : State) : State := ((s.raise F.chEvents_reapply_failed).chEnd).attachHeld

/-- A kind-7 permit is refused: a command is abandoned; a re-application gives up at the tenth refusal (R449, R450). -/
def State.chRefused (s : State) : State :=
  match s.ch.job with
  | .reapply =>
    if 10 ≤ s.ch.refusals + 1 then s.reapplyFailed
    else { s with ch := { s.ch with refusals := s.ch.refusals + 1, wait := .none } }
  | .check => s.chEnd
  | .load => s.chEnd
  | _ => s

/-- The loader asks for a kind-7 permit. -/
def State.chAsk (s : State) : State :=
  let x := s.permitAsk .charter
  if x.1 then { x.2 with ch := { x.2.ch with wait := .permit } } else x.2.chRefused

/-! ### Permits (R426 to R428) -/

/-- What a refusal of a queued request does at its requester (R428). -/
def State.permitGone (s : State) (use : PermitFor) : State :=
  match use with
  | .sweep n a =>
    (s.modPort n fun g => { g with sweep := match g.sweep with
      | some w => if w.addr = a then none else some w
      | none => none }).sweepShow n
  | .scrub => s.bump F.cnScrubStatus_deferred
  | .charter => s.chRefused
  | _ => s

/-- Every queued request is refused with cause 3 (R411). -/
def State.permitsFlush (s : State) : State :=
  forEach s.cn.queue (s.modCn fun c => { c with queue := [] }) fun s p => s.permitRefused.permitGone p.use

/-- PERMIT_WAIT_TIMEOUT (R428): the head has waited for max_wait_ms. -/
def State.permitTimeout (s : State) : State :=
  match s.cn.queue with
  | [] => s
  | p :: rest =>
    let s0 := s.advanceTo (p.at_ + max 1 (s.get F.cnPermitCfg_max_wait_ms) * 1000000)
    let s1 := ((s0.modCn fun c => { c with queue := headAt s0.now rest }).permitRefused).permitGone p.use
    match p.use with
    | .sweep n _ => (s1.sweepKick n).sweepShow n
    | _ => s1

/-! ### Detections while the core is unpowered (R418) -/

/-- A detection of the Conservator: held for FI in Stowed until a wake succeeds. -/
def State.cnDetect (s : State) (d cls inst detail : Nat) (inj : Bool := false) : State :=
  if s.power = 3 then { s with fi := { s.fi with held := s.fi.held ++ [(d, inst, detail, s.now, inj)] } }
  else s.detect d cls inst detail inj

/-- FI receives what was held, with its original times. -/
def State.fiDeliver (s : State) : State :=
  forEach s.fi.held { s with fi := { s.fi with held := [] } } fun s e =>
    s.detectAt e.1 (if e.1 = 0x0F then 4 else 1) e.2.1 e.2.2.1 0 e.2.2.2.1 e.2.2.2.2

/-- SUPPLY_FAIL (R418): FAULT_N goes low at once. -/
def State.supplyFail (s : State) (inst : Nat) (inj : Bool := false) : State :=
  if s.power = 3 then
    let s1 := s.cnDetect 0x0F 4 inst 0 inj
    if s1.flag F.fiFault_active then s1 else (s1.raise F.fiFault_active).emit (.pin "FAULT_N" false)
  else s.detect 0x0F 4 inst 0 inj

/-! ### Moves between states (R409 to R416) -/

/-- A new state code. -/
def State.setPower (s : State) (st : Nat) : State :=
  if s.power = st then s else (s.put F.cnStatus_state st).raise F.cnEvents_state_changed

/-- A Span port is Disabled by the entry into Closed, with its enable bit kept (R411). -/
def State.spanPark (s : State) (m : Nat) : State :=
  ((s.spanEnter m 0).spanEndTraining m).spanLost m |>.modSpan m fun p => { p with beacons := 0, fast := false, began := 0 }

/-- Span ports whose replay buffers are empty enter Disabled (R411). -/
def State.spansPark (s : State) : State :=
  forEach (s.spans.filter fun m => s.spanState m != 0 && (s.spanPort m).replay.isEmpty) s fun s m => s.spanPark m

/-- Enabled Span ports that a Closed entry disabled train again (R410, R416). -/
def State.spansWake (s : State) : State :=
  forEach (s.spans.filter fun m => s.spanState m == 0 && s.flag (F.spPCtrl_enable m)) s fun s m => s.spanDetect m

/-- A pass of the scrubber is abandoned (R430). -/
def State.scrubStop (s : State) : State :=
  if s.cn.scrubbing then ((s.modCn fun c => { c with scrubbing := false }).permitReturn .scrub).bump F.cnScrubStatus_deferred else s

/-- What a step towards Closed asks of the blocks as it begins (R277, R411): trees are suspended at the next boundary, channels stop at the
end of their descriptor, queued permits are refused, a scrub is abandoned. -/
def State.closeBegin (s : State) : State :=
  let s1 := (s.permitsFlush).scrubStop
  let s2 := forEach s1.ports (s1.modCn fun c => { c with parked := [] }) fun s n => s.closeAsk n
  (forEach (List.range 8) s2 fun s c => if s.chManager c && s.chSt c = 1 then s.put (F.mvChState_state c) 2 else s).spansPark

/-- A step down begins. -/
def State.stepBegin (s : State) (origin st : Nat) : State :=
  let s1 := (s.modCn fun c => { c with move := .down origin st s.now }).put F.cnStatus_moving 1
  if st = 2 then s1.closeBegin else s1

/-- Trees that are Suspended are resumed; a suspend that has not been sent is withdrawn (R410, R416). -/
def State.treesWake (s : State) (ns : List Nat) : State :=
  forEach ns s fun s n =>
    let s1 := if (s.port n).suspend = 1 then s.modPort n fun g => { g with suspend := 0 } else s.suspended n
    s1.resume n 1

/-- What the always-on domain kept while asleep is handed on: missed TAKEs are added, and FI receives what was held (R393, R418). -/
def State.sleepEnd (s : State) : State :=
  let k := s.cn.asleep
  let s1 := s.modCn fun c => { c with asleep := 0 }
  (if k = 0 then s1 else (s1.takeMissed k).add F.rgMissed_asleep k).fiDeliver

/-- The interrupt controller's state is restored: fallback timers go on with the time they had left, and request lines that are high send their
messages (R338). -/
def State.icRestore (s : State) : State :=
  let s1 := (s.bump F.icShStatus_restores).modCn fun c => { c with awoke := true }
  { s1 with ic := s1.ic.map fun p =>
      (p.1, if p.2.phase = .pending then { p.2 with since := p.2.since + (s.now - max p.2.since s.cn.sleptAt) } else p.2) }

/-- The PCI Express link leaves L1 (R416 step 2). -/
def State.leaveL1 (s : State) : State := if s.pci.link = .l1 then { s with pci := { s.pci with link := .l0 } } else s

/-- The climb to a state. In Closed and Stowed the blocks rest on; above them they are brought back up: from Closed by the steps of R416, with
every suspended tree for a wake and with those that the move itself suspended after a refusal (R410, log entry 177). -/
def State.climb (s : State) (goal : Nat) (every : Bool) : State :=
  let s1 := ((s.modCn fun c => { c with move := .idle, wake := none }).put F.cnStatus_moving 0).setPower goal
  if 2 ≤ goal then s1
  else
    let s2 := if s.asleep then s1.icRestore.leaveL1 else s1
    let s3 := ((s2.spansWake).treesWake (if every then s.ports else s.cn.parked)).modCn fun c => { c with parked := [] }
    (if s.asleep then s3.sleepEnd else s3).mvKick 16

/-- The state that a wake by a source goes to (R415). -/
def State.wakeTo (s : State) (cause : Nat) : Nat := if cause = 1 then 0 else s.get F.cnWakeEn_wake_to

/-- A wake has reached its state: it is counted and shown (R415). -/
def State.woke (s : State) (cause detail : Nat) : State :=
  (((s.put F.cnWakeCause_cause cause).put F.cnWakeCause_detail detail).wrap F.cnWakeCause_wakes).raise F.cnEvents_woke

/-- The climb from Stowed begins (R417); cause 0 says that a target written by the manager asks for it. -/
def State.wakeBegin (s : State) (goal cause detail : Nat) : State :=
  ((s.modCn fun m => { m with move := .wake goal cause detail 0, wake := none }).put F.cnStatus_moving 1).supplyGo .wake 800

/-- The wake from Closed (R416), the end of a climb from Stowed, and the climb of a wake that ends a downward move (R412), which goes no lower
than the state in force. The resume of a tree whose beacon woke the chip was started by its own port's recognition of the beacon (R168). -/
def State.wakeUp (s : State) (goal cause detail : Nat) : State :=
  let s1 := s.climb (min s.power goal) s.asleep
  let s2 := if cause = 2 && s1.link detail = 2 && (s1.port detail).began = 5 then s1.modPort detail fun g => { g with ownWake := true } else s1
  if cause = 0 then s2 else s2.woke cause detail

/-- A new target, at a moment when no step runs (R409). -/
def State.moveTo (s : State) (origin t : Nat) : State :=
  if s.power < t then s.stepBegin origin (s.power + 1)
  else if t < s.power then (if s.power = 3 then s.wakeBegin t 0 0 else s.climb t true)
  else (s.modCn fun c => { c with move := .idle }).put F.cnStatus_moving 0

/-- A write of CN_CTRL.target (R409). -/
def State.powerTarget (s : State) (t : Nat) : State :=
  if 3 < t then s
  else match s.cn.move with
    | .idle => s.moveTo s.power t
    | _ => s.modCn fun c => { c with target := some t }

/-- The current step has ended at the present state: a wake goes first (R412), then a new target, then the rest of the move. -/
def State.stepNext (s : State) (origin : Nat) : State :=
  match s.cn.wake with
  | some (c, d) =>
    let s1 := s.modCn fun x => { x with target := none }
    if s.power = 3 then s1.wakeBegin (s.wakeTo c) c d else s1.wakeUp (s.wakeTo c) c d
  | none =>
    match s.cn.target with
    | some t => (s.modCn fun c => { c with target := none }).moveTo (s.power - 1) t
    | none => s.moveTo origin (s.get F.cnCtrl_target)

/-- A step is abandoned with a refusal code of a block (R409, R410). -/
def State.abandon (s : State) (origin code blk : Nat) : State :=
  match s.cn.wake with
  | some (c, d) => (s.modCn fun x => { x with target := none }).wakeUp (s.wakeTo c) c d
  | none =>
    let s1 := ((s.put F.cnStatus_refuse_code code).put F.cnStatus_refuse_block blk).raise F.cnEvents_entry_refused
    match s.cn.target with
    | some t => ((s1.climb origin false).modCn fun c => { c with target := none }).powerTarget t
    | none => (s1.put F.cnCtrl_target origin).climb origin false

/-! ### The answers of the blocks (R411) -/

/-- What a block answers to a step (R410). -/
inductive StepAnswer where
  | agree
  | delay
  | refuse (code : Nat)
  deriving DecidableEq, Repr

def delayIf (b : Bool) : StepAnswer := if b then .delay else .agree

/-- Root port n, towards Closed; a port whose link has no tree to suspend agrees. -/
def State.portAnswer (s : State) (n : Nat) : StepAnswer :=
  let guarded := s.flag F.cnCtrl_protect_guard && s.ctxs.any fun c =>
    s.pxPort c == n && s.pxKind c == 2 && s.flag (F.pxBind_reflex_target c) && s.pxState c == 2
  if guarded then .refuse 1
  else delayIf (s.link n == 2 || s.link n == 3 || s.link n == 4)

/-- The answers to a step, by block code (R399); the PCI Express controller answers as GA. -/
def State.answers (s : State) (st : Nat) : List (Nat × StepAnswer) :=
  if st = 1 then
    s.ports.map fun n => (16 + n, delayIf (s.bulkOut n))
  else if st = 2 then
    [(1, if s.flag F.chStatus_reading then .refuse 4 else .agree),
     (3, delayIf !s.cn.held.isEmpty),
     (5, delayIf (s.ports.any fun n => (s.cuPort n).begun.any fun f => !(s.cuPort n).plans.any (·.frame == f))),
     (7, delayIf ((List.range 8).any fun c => s.chSt c == 1 || s.chSt c == 2)),
     (8, delayIf (!s.co.rems.isEmpty || !s.co.tickets.isEmpty)),
     (9, delayIf ((List.range 16).any (fun g => (s.gaOf g).rings.any (fun x => x.reading || x.stale != 0) || (s.evr g).wantHead ||
       (s.evr g).wantTail == 2 || (s.evr g).staleTail != 0 || (s.evr g).staleHead != 0 ||
       (s.evr g).wait.any (fun e => !e.flushed)) || !s.owed.isEmpty)),
     (11, delayIf (s.spans.any fun m => s.spanState m != 0)),
     (12, if s.flag F.twCtrl_enable then .refuse 2 else .agree),
     (13, delayIf !s.rg.todo.isEmpty)] ++ s.ports.map fun n => (16 + n, s.portAnswer n)
  else [(9, if s.pci.link = .down || s.pci.link = .l2 || s.pci.l2Ready then .agree else .refuse 3)]

/-- The lowest block that refuses, and its code. -/
def State.refusal (s : State) (st : Nat) : Option (Nat × Nat) :=
  (s.answers st).findSome? fun a => match a.2 with
    | .refuse c => some (a.1, c)
    | _ => none

/-- The lowest block that delays. -/
def State.delayer (s : State) (st : Nat) : Option Nat := ((s.answers st).find? fun a => a.2 == .delay).map (·.1)

/-- Every Gathering instance becomes Pending (R338). -/
def State.icClose (s : State) : State :=
  forEach (s.ic.map (·.1)) s fun s k => match (s.inst k).phase with
    | .gathering _ _ => s.icPend k
    | _ => s

/-- What the entry into Closed ends with: the interrupt controller's gathering (R338), and ASPM L1 asked for if it is enabled (R411). -/
def State.closedEnd (s : State) : State :=
  let s1 := s.icClose.modCn fun c => { c with sleptAt := s.now }
  if s1.pci.aspmL1 && s1.pci.link = .l0 then s1.emit (.pcie "PM_Active_State_Request_L1") else s1

/-- ENTRY_STEP_DONE (R410): a refusal abandons the step; when every block agrees it completes. For Stowed the regulator's change begins. -/
def State.stepDone (s : State) : State :=
  match s.cn.move with
  | .down origin st _ =>
    if s.cn.supply.isSome && st = 3 then s
    else
      let s0 := if st = 2 then s.spansPark else s
      match s0.refusal st with
      | some (b, c) => s0.abandon origin c b
      | none =>
        if (s0.delayer st).isSome then s0
        else if st = 3 then s0.supplyGo .stow 600
        else ((if st = 2 then s0.closedEnd else s0).setPower st).stepNext origin
  | _ => s

/-- ENTRY_TIMEOUT (R410): entry_ms after the step's start some block still delays. -/
def State.stepTimeout (s : State) : State :=
  match s.cn.move with
  | .down origin st t0 =>
    let s1 := if st = 2 then s.spansPark else s
    match s1.delayer st with
    | some b => (s1.advanceTo (t0 + max 1 (s.get F.cnCtrl_entry_ms) * 1000000)).abandon origin 6 b
    | none => s
  | _ => s

/-! ### Supply changes (R414, R417, R418, R420, R421) -/

/-- The 25 MHz oscillator is enabled or stopped; a counter that runs on it then falls back further (R39). -/
def State.oscillator (s : State) (on : Bool) : State :=
  let s1 := (s.modCn fun c => { c with oscOn := on }).emit (.pin "REFOSC_EN" on)
  if on then s1 else s1.ref25Lost

/-- The pace-monitor samples restart (R414). -/
def State.samplesClear (s : State) : State :=
  ((s.put F.cnPace_samples 0).put F.cnStatus_avs_ready 0).modCn fun c => { c with pMin := none, mMin := none }

/-- A supply change has reached power-good. -/
def State.supplyDone (s : State) (u : Supply) : State :=
  let s1 := (s.modCn fun c => { c with supply := none }).put F.cnSupply_setpoint_mv u.mv
  match u.use with
  | .coldReset => s1.oscillator true
  | .stow =>
    match s1.cn.move with
    | .down origin _ _ => (((s1.samplesClear).oscillator false).setPower 3).stepNext origin
    | _ => s1
  | .wake =>
    match s1.cn.move with
    | .wake goal c d _ => (s1.modCn fun x => { x with move := .wake goal c d (u.retries + 1) }).oscillator true
    | _ => s1
  | _ => s1

/-- The wake-fault record (R418, R419). -/
def State.wakeFault (s : State) (cause attempts : Nat) : State :=
  let s1 := ((s.put F.cnWakeFault_cause cause).put F.cnWakeFault_attempts attempts).bump F.cnWakeFault_fails
  (s1.put F.cnWakeFault_status_lo (s.get F.cnPmbStatus_status_word % 256)).setReg64 R.cnWakeFaultTimeLo s.now

/-- A wake from Stowed has failed (R418). -/
def State.wakeFailed (s : State) (cause attempts : Nat) (inj : Bool := false) : State :=
  let s1 := ((s.supplyFail (cause - 1) inj).wakeFault cause attempts).oscillator false
  (s1.modCn fun c => { c with move := .idle, warmAfter := false }).put F.cnStatus_moving 0

/-- A supply change has failed after its third retry (R421, R414, R418, R432). -/
def State.supplyFailed (s : State) (u : Supply) : State :=
  let s1 := s.modCn fun c => { c with supply := none }
  match u.use with
  | .coldReset => ({ s1 with ch := { s1.ch with job := .idle } } : State).supplyFail 0
  | .stow =>
    match s1.cn.move with
    | .down origin _ _ => s1.abandon origin 5 3
    | _ => s1
  | .wake =>
    let i := s1.inject 0x0F 0 fun _ => true
    i.2.wakeFailed 1 (u.retries + 1) i.1
  | .unstow => s1
  | _ => (s1.put F.cnStatus_avs_halted 1).raise F.cnEvents_pmbus_fail

/-- An attempt has failed on a command (R420). -/
def State.attemptFailed (s : State) (cmd : Nat) (inj : Bool := false) : State :=
  match s.cn.supply with
  | some u =>
    if u.waiting then s
    else
      let s1 := (s.cnDetect 0x0E 1 0 cmd inj).bump F.cnPmbStatus_fails
      if 3 ≤ u.retries then s1.supplyFailed u
      else s1.modCn fun c => { c with supply := some { u with waiting := true, acked := none } }
  | none => s

/-- PMBUS_RETRY (R420): the next attempt starts. -/
def State.supplyRetry (s : State) : State :=
  match s.cn.supply with
  | some u =>
    if u.waiting then
      (s.modCn fun c => { c with supply := some { u with waiting := false, retries := u.retries + 1 } }).pmb 0x21 (voutData u.mv)
    else s
  | none => s

/-- Whether the regulator of an attempt is made to fail: every one of a wake (injection point 0x0F, R407). -/
def State.wakeInjected (s : State) (u : Supply) : Bool := u.use == .wake && (s.armed 0x0F 0).isSome

/-- PMBUS_ACK (R420): VOUT_COMMAND is acknowledged, unless an injection makes it fail (R407). -/
def State.supplyAcked (s : State) : State :=
  match s.cn.supply with
  | some u =>
    if u.waiting || u.acked.isSome then s
    else
      let i := s.inject 0x0E 0 fun _ => true
      let j := i.1 || s.wakeInjected u
      if j then i.2.attemptFailed 0x21 j
      else s.modCn fun c => { c with supply := some { u with acked := some s.now } }
  | none => s

/-- PMBUS_COMMAND_FAIL (R420). -/
def State.commandFailed (s : State) (cmd : Nat) : State :=
  match s.cn.supply with
  | some u =>
    if u.waiting then s
    else
      let i := s.inject 0x0E 0 fun _ => true
      i.2.attemptFailed cmd (i.1 || s.wakeInjected u)
  | none => s

/-- PMBUS_STATUS_POLL (R420): STATUS_WORD is read; with POWER_GOOD# 0 and CORE_PG high the change is done. -/
def State.supplyPoll (s : State) (sw : Nat) (pg : Bool) : State :=
  match s.cn.supply with
  | some u =>
    match u.acked with
    | some _ =>
      let s0 := s.pmb 0x79 []
      let i := s0.inject 0x0E 0 fun _ => true
      if i.1 then i.2.attemptFailed 0x79 true
      else
        let s1 := s0.put F.cnPmbStatus_status_word sw
        if !bitOf sw 11 && pg then s1.supplyDone u else s1
    | none => s
  | none => s

/-- POWER_GOOD_TIMEOUT (R420). -/
def State.goodTimeout (s : State) : State :=
  match s.cn.supply with
  | some u =>
    match u.acked with
    | some t => (s.advanceTo (t + 2000000)).attemptFailed 0x21
    | none => s
  | none => s

/-! ### Wakes (R412, R415 to R418) -/

/-- The code and detail of a wake source, and whether it is enabled (R415). -/
def State.wakeCode (s : State) (x : WakeSrc) : Nat × Nat × Bool :=
  match x with
  | .host => (1, 0, true)
  | .beacon n => (2, n, s.flag F.cnWakeEn_beacon)
  | .span m => (3, m, s.flag F.cnWakeEn_span)
  | .takeIn => (4, 0, s.flag F.cnWakeEn_take_in)
  | .tkEvent b => (5, b, bitOf (s.get F.cnWakeEn_tk_mask) b)

/-- A wake source: it wakes the chip from Closed, begins the wake from Stowed, or ends a downward move (R412, R416, R417). The host's source in
Stowed is the assertion of PERST_N, whose warm reset follows the wake (R415). -/
def State.wakeSource (s : State) (x : WakeSrc) : State :=
  let (c, d, en) := s.wakeCode x
  if !en then s
  else match s.cn.move with
    | .down _ _ _ => if s.cn.wake.isSome then s else s.modCn fun m => { m with wake := some (c, d) }
    | .wake _ _ _ _ => if c = 1 then s.modCn fun m => { m with warmAfter := true } else s
    | .idle =>
      if s.power = 2 then s.wakeUp (s.wakeTo c) c d
      else if s.power = 3 then
        (if c = 1 then s.modCn fun m => { m with warmAfter := true } else s).wakeBegin (s.wakeTo c) c d
      else s

/-- A write of CN registers (R409, R419, R421, R425). -/
def State.writeCn (s : State) (off : Nat) (w plain : Word) : State :=
  let x := w.toNat
  if off = R.cnCtrl then
    if x % 8 < 4 then (s.setReg off plain).powerTarget (x % 8) else s.setReg off ((plain &&& ~~~ 7) ||| (s.reg off &&& 7))
  else if off = R.cnBudget then (if 1000 ≤ x % 65536 && x % 65536 ≤ 4000 then s.setReg off plain else s)
  else if off = R.cnAvsCfg then
    let v := x / 2 ^ 22
    let s1 := s.setReg off (if 620 ≤ v && v ≤ 800 then plain else (plain &&& 0x003FFFFF) ||| (s.reg off &&& 0xFFC00000))
    s1.put F.cnStatus_avs_halted 0
  else if off = R.cnWakeFault then
    if bitOf x 31 then (s.setReg off 0).setReg64 R.cnWakeFaultTimeLo 0 else s
  else if off = R.cnCntClear then
    if bitOf x 0 then (((s.setReg R.cnPermitCnt 0).put F.cnSupply_forced 0).put F.cnPmbStatus_fails 0).setReg R.cnScrubStatus 0 else s
  else s.setReg off plain

/-! ### Pace and the adaptive loop (R422 to R424) -/

/-- PACE_SAMPLE (R422, R424): a sample below P_wc forces a step up. There is none while the core is isolated (R467). -/
def State.paceSample (s : State) (p : Nat) : State :=
  if s.gated then s
  else
    let s1 := (s.bump F.cnPace_samples).modCn fun c => { c with pMin := some (min p (c.pMin.getD p)) }
    let s2 := if !s.flag F.cnStatus_avs_ready && 1000 ≤ s1.get F.cnPace_samples then
        ((s1.put F.cnStatus_avs_ready 1).raise F.cnEvents_avs_ready).modCn fun c => { c with pMin := none, mMin := none }
      else s1
    if p < s.get F.cnPaceCal_p_wc then s2.forceUp else s2

/-- 100 × P_lo (R423). -/
def State.pLo (s : State) : Nat := s.get F.cnPaceCal_p_wc * (100 + min 20 (s.get F.cnAvsCfg_guard_pct))

/-- AVS_PERIOD (R423): one step up under a permit, one down, or none, by the smallest sample and margin of the period. -/
def State.avsPeriod (s : State) : State :=
  if s.gated || !s.flag F.cnStatus_avs_ready then s
  else
    let thin := s.cn.mMin.any fun m => m * 100 < frameLen s.rate - 1000
    let v := s.get F.cnSupply_setpoint_mv
    let s0 := match s.cn.pMin with
      | some p => s.put F.cnPace_p_min p
      | none => s
    let s1 := s0.modCn fun c => { c with pMin := none, mMin := none }
    if s.flag F.cnStatus_avs_halted || s.cn.supply.isSome then s1
    else if s.cn.pMin.any (fun p => p * 100 < s.pLo) || thin then
      if v + 5 ≤ 880 && !s.asked .stepUp then (s1.permitAsk .stepUp).2 else s1
    else if s.cn.pMin.any (fun p => 104 * s.pLo ≤ p * 10000) && s.get F.cnAvsCfg_v_min + 5 ≤ v && s.cn.noDown ≤ s.now then
      s1.supplyGo .stepDown (v - 5)
    else s1

/-! ### Scrub (R430) -/

/-- SCRUB_INTERVAL. -/
def State.scrubAsk (s : State) : State :=
  if s.gated || s.get F.cnScrubCfg_interval_s = 0 || s.cn.scrubbing || s.asked .scrub then s
  else
    let x := s.permitAsk .scrub
    if x.1 then x.2 else x.2.bump F.cnScrubStatus_deferred

/-- SCRUB_PASS_DONE (R430): some words have flipped, and the pass has met every word of SRAM that stands flipped. -/
def State.scrubDone (s : State) (e : List SramFlip) : State :=
  if s.cn.scrubbing then
    let s0 := s.addFlips e
    let s1 := (s0.ramFire 0 0x400000).wordsFound (s0.badWords 0 0x400000) true
    ((s1.modCn fun c => { c with scrubbing := false }).permitReturn .scrub).bump F.cnScrubStatus_passes
  else s

/-! ### The commands -/

/-- PERMIT_WAIT_TIMEOUT (R428). -/
def execPermitWaitTimeout (s : State) : Host.Outcome State Fault Refusal := act s fun s => s.permitTimeout

/-- ENTRY_STEP_DONE (R410). -/
def execEntryStepDone (s : State) : Host.Outcome State Fault Refusal := act s fun s => s.stepDone

/-- ENTRY_TIMEOUT (R410). -/
def execEntryTimeout (s : State) : Host.Outcome State Fault Refusal := act s fun s => s.stepTimeout

/-- WAKE_SOURCE (R415). -/
def execWakeSource (x : WakeSrc) (s : State) : Host.Outcome State Fault Refusal := act s fun s => s.wakeSource x

/-- PMBUS_ACK (R420). -/
def execPmbusAck (s : State) : Host.Outcome State Fault Refusal := act s fun s => s.supplyAcked

/-- PMBUS_COMMAND_FAIL (R420). -/
def execPmbusCommandFail (cmd : BitVec 8) (s : State) : Host.Outcome State Fault Refusal := act s fun s => s.commandFailed cmd.toNat

/-- PMBUS_RETRY (R420). -/
def execPmbusRetry (s : State) : Host.Outcome State Fault Refusal := act s fun s => s.supplyRetry

/-- PMBUS_STATUS_POLL (R420). -/
def execPmbusStatusPoll (sw : BitVec 16) (pg : Bool) (s : State) : Host.Outcome State Fault Refusal :=
  act s fun s => s.supplyPoll sw.toNat pg

/-- POWER_GOOD_TIMEOUT (R420). -/
def execPowerGoodTimeout (s : State) : Host.Outcome State Fault Refusal := act s fun s => s.goodTimeout

/-- AON_STATUS_READ (R420): once per second in Open and Dimmed. -/
def execAonStatusRead (ok : Bool) (s : State) : Host.Outcome State Fault Refusal :=
  act s fun s =>
    if s.asleep then s
    else
      let s1 := s.pmbTo (s.get F.cnPmbCfg_aon_addr) 0x79 []
      let i := s1.inject 0x0E 1 fun _ => true
      if ok && !i.1 then s1 else i.2.detect 0x0E 1 1 0x79 i.1

/-- PACE_SAMPLE (R422). -/
def execPaceSample (p : BitVec 16) (s : State) : Host.Outcome State Fault Refusal := act s fun s => s.paceSample p.toNat

/-- AVS_PERIOD (R423). -/
def execAvsPeriod (s : State) : Host.Outcome State Fault Refusal := act s fun s => s.avsPeriod

/-- SCRUB_INTERVAL (R430). -/
def execScrubInterval (s : State) : Host.Outcome State Fault Refusal := act s fun s => s.scrubAsk

/-- SCRUB_PASS_DONE (R430). -/
def execScrubPassDone (e : List SramFlip) (s : State) : Host.Outcome State Fault Refusal := act s fun s => s.scrubDone e

/-- A beacon at root port n (R165, R412): in Open and Dimmed a Suspended tree is resumed at once, otherwise the beacon is a wake source; so it is,
too, while the step into Closed suspends the tree. -/
def State.remoteWake (s : State) (n : Fin 8) : State :=
  if s.link n = 5 then
    let s1 := s.raise (F.gpAccEvents_remote_wake n)
    if s.asleep then s1.wakeSource (.beacon n)
    else
      let s2 := s1.resume n 3
      if s.closing then s2.wakeSource (.beacon n) else s2
  else if s.link n = 3 && (s.port n).suspend = 2 && s.closing then s.wakeSource (.beacon n)
  else s

/-- REMOTE_WAKE_BEACON (R165). -/
def execRemoteWakeBeacon (n : Fin 8) (s : State) : Host.Outcome State Fault Refusal :=
  act s fun s => if n < s.nPorts then s.remoteWake n else s

end Sys2Proof.Machine
end

