-- ==== Sys2Proof/Machine/Links.lean ====
section
/-! DEFINITION. The commands of root ports' and Span ports' links and of accession's timers (spec/03_gliys_link.md, spec/05_accession.md,
spec/13_span_fabric_and_twin.md R342). -/

namespace Sys2Proof.Machine

/-- An event of a link: for a root port or a Span port, when the part has it (R3). -/
def State.onPort (s : State) (p : PortRef) (f g : State → Nat → State) : State :=
  match p with
  | .gliys n => if n < s.nPorts then f s n else s
  | .span m => if m < s.nSpan then g s m else s

/-- An event of a root port that the part has. -/
def State.onGliys (s : State) (n : Nat) (f : State → Nat → State) : State := if n < s.nPorts then f s n else s

/-- Loss of signal on a root port: the link is in Hit, and a tree shared with the twin partner is given up (R84, R377). -/
def State.gliysHit (s : State) (n : Nat) : State :=
  let own := s.mirrors n && s.link n == 3
  let s1 := s.gpHit n
  if own then s1.ownLose (2 ^ n) else s1

/-- What a fibre module's balls say (R89): loss of signal in Active is a Hit. -/
def State.sfpShow (s : State) (n : Nat) : State :=
  match (s.port n).sfp with
  | some (los, abs) =>
    let s1 := (((s.putB (F.gpLinkStatus_sfp_present n) (!abs)).putB (F.gpLinkStatus_sfp_los n) los).putB
      (F.gpLinkStatus_signal_present n) (!los))
    if los then s1.gliysHit n else s1
  | none => s

/-- A change on the balls of a port's SFP module; it counts while the media is fibre (R89). -/
def State.sfpChange (s : State) (n : Nat) (los abs : Bool) : State :=
  let s1 := s.modPort n fun g => { g with sfp := some (los, abs) }
  if s.flag (F.gpLinkCtrl_media n) then s1.sfpShow n else s1

/-- A sweep is queued again (R94, R153): for an Unranged device, in a Suspended tree to wait for its resume, or for the hub that a standby
ranges for itself (R371). -/
def State.sweepAgain (s : State) (n a : Nat) : State :=
  let mine := s.ownsPort n && (s.devSt n a == 3 || (s.devSt n a == 6 && !(s.dev n a).hadRange))
  let hub := !s.ownsPort n && s.attached n a && (s.place n a).1 == 0 && !s.flag (F.gpRangeDev0_valid n a)
  if 1 ≤ a && a ≤ 62 && (mine || hub) then s.sweepQueue n a else s

/-- RESUME_FST (R163): the first boundary at least 500 µs after Active. -/
def State.resumeFst (s : State) (n : Nat) : State :=
  if (s.port n).resuming && s.link n = 3 && (s.port n).fstFrom ≤ s.tk.boundary then
    ((s.modPort n fun g => { g with resuming := false }).fstSend n).resumed n
  else s

/-! ### The commands -/

/-- PARTNER_BEACON (R84, R342): a burst that starts at t, with or without valid commas. -/
def execPartnerBeacon (p : PortRef) (t : Nat) (commas : Bool) (s : State) : Host.Outcome State Fault Refusal :=
  act s fun s => (s.advanceTo t).onPort p (fun s n => s.gpBeacon n t commas) fun s m => s.spanBeacon m t commas

/-- PARTNER_BEACON_LOSS (R87). -/
def execPartnerBeaconLoss (p : PortRef) (s : State) : Host.Outcome State Fault Refusal :=
  act s fun s => s.onPort p State.gpBeaconLoss State.spanBeaconLoss

/-- TRAINING_PERMIT_RETRY (R87). -/
def execTrainingPermitRetry (p : PortRef) (s : State) : Host.Outcome State Fault Refusal :=
  act s fun s => s.onPort p State.gpPermitRetry State.spanPermitRetry

/-- TRAINING_COMPLETE (R84, R86, R342). -/
def execTrainingComplete (p : PortRef) (role : Fin 8) (partner : Nat) (pport : Fin 4) (s : State) : Host.Outcome State Fault Refusal :=
  act s fun s => s.onPort p (fun s n => s.gpTrained n role) fun s m => s.spanTrained m role partner pport

/-- TRAINING_TIMEOUT (R84). -/
def execTrainingTimeout (p : PortRef) (s : State) : Host.Outcome State Fault Refusal :=
  act s fun s => s.onPort p State.gpTrainTimeout State.spanTrainTimeout

/-- FAST_TRAINING_TIMEOUT (R85). -/
def execFastTrainingTimeout (p : PortRef) (s : State) : Host.Outcome State Fault Refusal :=
  act s fun s => s.onPort p State.gpFastTimeout State.spanFastTimeout

/-- LINK_HIT (R84). -/
def execLinkHit (p : PortRef) (s : State) : Host.Outcome State Fault Refusal :=
  act s fun s => s.onPort p State.gliysHit State.spanHit

/-- HIT_TIMEOUT (R84). -/
def execHitTimeout (p : PortRef) (s : State) : Host.Outcome State Fault Refusal :=
  act s fun s => s.onPort p State.gpHitTimeout State.spanHitTimeout

/-- RANGING_PERMIT_RETRY (R428). -/
def execRangingPermitRetry (p : PortRef) (addr : Fin 64) (s : State) : Host.Outcome State Fault Refusal :=
  act s fun s => s.onPort p (fun s n => s.sweepAgain n addr) fun s m => if s.flag (F.spPStatus_ranged m) then s else s.spanSweepAsk m

/-- SFP_LOS_CHANGE (R89). -/
def execSfpLosChange (n : Fin 8) (los abs : Bool) (s : State) : Host.Outcome State Fault Refusal :=
  act s fun s => s.onGliys n fun s n => s.sfpChange n los abs

/-- SWEEP_RETRY (R153). -/
def execSweepRetry (n : Fin 8) (addr : Fin 64) (s : State) : Host.Outcome State Fault Refusal :=
  act s fun s => s.onGliys n fun s n => s.sweepAgain n addr

/-- ATTACH_WAIT_DONE (R149). -/
def execAttachWaitDone (n : Fin 8) (s : State) : Host.Outcome State Fault Refusal := act s fun s => s.onGliys n State.attachWaited

/-- ATTACH_RETRY (R151). -/
def execAttachRetry (n : Fin 8) (s : State) : Host.Outcome State Fault Refusal := act s fun s => s.onGliys n State.attachAgain

/-- PORT_DISABLE_END (R156). -/
def execPortDisableEnd (n : Fin 8) (s : State) : Host.Outcome State Fault Refusal := act s fun s => s.onGliys n State.pulseEnd

/-- SUSPEND_AT_BOUNDARY (R162). -/
def execSuspendAtBoundary (n : Fin 8) (s : State) : Host.Outcome State Fault Refusal := act s fun s => s.onGliys n State.suspendSend

/-- SUS_RECEIVED (R162). -/
def execSusReceived (n : Fin 8) (s : State) : Host.Outcome State Fault Refusal := act s fun s => s.onGliys n State.suspended

/-- SUS_TIMEOUT (R162). -/
def execSusTimeout (n : Fin 8) (s : State) : Host.Outcome State Fault Refusal := act s fun s => s.onGliys n State.suspended

/-- RESUME_FST (R163). -/
def execResumeFst (n : Fin 8) (s : State) : Host.Outcome State Fault Refusal := act s fun s => s.onGliys n State.resumeFst

/-- BUS_RESET_RETRAIN (R160). -/
def execBusResetRetrain (n : Fin 8) (s : State) : Host.Outcome State Fault Refusal := act s fun s => s.onGliys n State.resetRetrain

/-- BUS_RESET_TIMEOUT (R160). -/
def execBusResetTimeout (n : Fin 8) (s : State) : Host.Outcome State Fault Refusal := act s fun s => s.onGliys n State.resetTimeout

end Sys2Proof.Machine
end

