-- ==== Sys2Proof/Machine/Reset.lean ====
section
/-! DEFINITION. Cold and warm resets, loss of the always-on supply, and the oscillator's readiness (spec/17_charter_and_startup.md R432 to R435,
spec/16_conservator.md R414 to R419, spec/01_architecture.md R12, R13). -/

namespace Sys2Proof.Machine

/-! ### Warm reset (R13, R434, R435) -/

/-- The event registers of every block, whose W1C bits a warm reset clears. -/
def isEventReg (off : Nat) : Bool :=
  off == R.tkEvents || off == R.cuEvents || off == R.coEvents || off == R.spFabEvents || off == R.twEvents || off == R.rgEvents ||
  off == R.cnEvents || off == R.chEvents || (List.range 4).any (fun m => off == R.spPEvents m) ||
  (0x20000 ≤ off && off < 0x40000 &&
    (off % 0x4000 == R.gpLinkEvents 0 % 0x4000 || off % 0x4000 == R.gpXactEvents 0 % 0x4000 || off % 0x4000 == R.gpAccEvents 0 % 0x4000))

/-- The bits of a register that a warm reset leaves, beside its RWS bits (R13, R434): the fields of the blocks that run on, and those that the
manual counts since the cold reset. Of the fields that R434 lists neither way, those of CH stay
and so does CN_STATUS.avs_halted, while the others of CN and those of FI do not (DESIGN CHOICE, log entry 12). -/
def runsOn (off : Nat) : Word :=
  if isEventReg off then 0
  else if off < 0x800 then 0xFFFFFFFF
  else if off < 0x1000 then 0
  else if off < 0x2000 then (if 0x1050 ≤ off && off < 0x1060 then 0xBFFFFFFF else 0xFFFFFFFF)
  else if off = R.cnWakeCause || off = R.cnPace || off = R.cnPaceCal || off = R.cnWakeFault || off = R.cnWakeFaultTimeLo ||
    off = R.cnWakeFaultTimeHi then 0xFFFFFFFF
  else if off = R.cnSupply then 0x3FF
  else if off = R.cnStatus then 0xC0
  else if off < 0x3000 then 0
  else if off < 0x4000 then 0xFFFFFFFF
  else if off = R.fiFault || (R.fiFirst0 ≤ off && off ≤ R.fiFirst3) then 0xFFFFFFFF
  else if off < 0x5000 then 0
  else if off = R.rgCursor then 0
  else if off = R.rgStatus then 0xA
  else if off < 0x9000 then 0xFFFFFFFF
  else if off < 0xA000 then 0
  else if off < 0xE000 then 0xFFFFFFFF
  else if off < 0x20000 then 0
  else 0xFFFFFFFF

/-- The value of a register after a warm reset (R13). -/
def warmWord (off : Nat) (w : Word) : Word :=
  let m := keepMask off ||| runsOn off
  (w &&& m) ||| (resetWord off &&& ~~~ m)

/-- The registers after a warm reset. -/
def warmRegs (t : Tab Word) : Tab Word :=
  t.filterMap fun p => if warmWord p.1 p.2 = resetWord p.1 then none else some (p.1, warmWord p.1 p.2)

/-- Configuration space and the link after a reset: PERST_N resets all of it; otherwise what a Function Level Reset requires (R434). The sticky
and link-wide settings that it keeps are those of the PCI Express Base Specification. -/
def pciReset (p : Pcie) (perst : Bool) : Pcie :=
  if perst then { perst := p.perst, aer := p.aer, aerHeader := p.aerHeader }
  else
    { p with
      busMaster := false, pasidEn := false, msixEn := false, msixMask := false, mrrs := 512, tag10 := false
      timeout := 0, reads := [], d3hot := false, detaching := false }

/-- Work entries that galleries had fetched are abandoned; what the movers were serving is owed at the next enable (R277, R434). What runs for
other chips goes on. -/
def State.workAbandon (s : State) : State :=
  let owed := s.work.filter fun w => w.r < 8 && s.mv.any fun m => m.work == some (w.g, w.r, w.i)
  let keep (a : Ga) : Ga := { rings := a.rings.map fun x => { owed := x.owed } }
  let s1 : State := { s with ga := s.ga.map keep, owed := [], mv := List.replicate 8 {}, mvLast := 7 }
  let s2 := forEach owed s1 fun s w => s.modRing w.g w.r fun x => { x with owed := x.owed ++ [(w.i, w.ent)] }
  let s3 := forEach (List.range 16) s2 fun s' g => s'.modEv g fun e => { e with wait := keepFwds (s.evr g).wait }
  let mine (u : CtlFor) : Bool := match u with
    | .work _ r _ => r < 8
    | _ => false
  let gp := s3.gp.map fun p =>
    { p with
      ctls := p.ctls.filter fun c => !mine c.use
      svc := p.svc.filter fun x => match x with
        | .ctl u _ => !mine u
        | _ => true
      opens := p.opens.map fun x => match x.use with
        | .bulk _ r _ => if r < 8 then { x with use := .gone } else x
        | .ctl u => if mine u then { x with use := .gone } else x
        | _ => x }
  { s3 with
    work := s.work.filter fun w => 8 ≤ w.r
    gp := gp
    co := { s3.co with rems := s3.co.rems.filter fun x => 8 ≤ x.r } }

/-- Permits are returned and the queue is emptied (R429). -/
def State.permitsReset (s : State) : State :=
  forEach s.cn.queue (s.modCn fun c => { c with queue := [], held := [], scrubbing := false }) fun s p => match p.use with
    | .sweep _ _ => s.permitGone p.use
    | _ => s

/-- A clear of the record store that waits for a record completes, since the record is abandoned (R392, R393). -/
def State.clearWaiting (s : State) : State := if s.flag F.rgStatus_clearing then s.storeClear else s

/-- The part of a warm reset that is the same before and after step 7. -/
def State.warmCore (s : State) (perst : Bool) : State :=
  let s1 := s.permitsReset.workAbandon.clearWaiting
  { s1 with
    regs := warmRegs s1.regs
    caps := []
    ic := []
    rg := { s1.rg with todo := [], released := false }
    fi := { s1.fi with step1 := false, last := [] }
    pci := pciReset s1.pci perst
    ch := { s1.ch with job := .idle, wait := .none, image := [], copyA := none, copyB := none, refusals := 0, attach := false } }

/-- The cause and the count of warm resets (ID_RESET_CAUSE): bit 2 PERST_N, 3 soft_reset, 4 Function Level Reset. -/
def State.resetCause (s : State) (bit : Nat) : State := (s.put F.idResetCause_cause (2 ^ bit)).wrap F.idResetCause_warm_count

/-- A warm reset after step 7 (R434): the state is Open; in a standing mode a re-application follows (R449). -/
def State.warmLate (s : State) (bit : Nat) : State :=
  let moved := s.power != 0 || s.flag F.cnStatus_moving
  let s0 := s.warmCore (bit == 2)
  let s1 := (((s0.modCn fun c => { c with move := .idle, target := none, wake := none, warmAfter := false, rose := [] }).put F.chStatus_busy 0).put
    F.chStatus_reading 0).resetCause bit
  let s2 := if moved then ((s1.raise F.cnEvents_state_changed).climb 0 s.asleep).sleepEnd else s1
  if s.mode = 1 || s.mode = 2 then
    ({ s2.put F.chStatus_mode 1 with ch := { s2.ch with job := .reapply } } : State).put F.chStatus_busy 1
  else s2

/-- Whether a SETTINGS record may name the register (R441). -/
def settingsReg (off : Nat) : Bool :=
  let any (n : Nat) (f : Nat → Nat) : Bool := (List.range n).any fun i => off == f i
  if off % 4 != 0 then false
  else if off < 0x1000 then false
  else if off < 0x2000 then
    [R.tkCtrl, R.tkFrameRate, R.tkRefSel, R.tkTaiUtc, R.tkServoCfg, R.tkHoldCfg, R.tkPpsCal, R.tkPpsOut].contains off ||
    (0x1050 ≤ off && off < 0x1080)
  else if off < 0x3000 then
    [R.cnCtrl, R.cnEventEn, R.cnWakeEn, R.cnBudget, R.cnPermitCfg, R.cnAvsCfg, R.cnPmbCfg, R.cnScrubCfg].contains off
  else if off < 0x4000 then false
  else if off < 0x5000 then off == R.fiSummaryEn || off == R.fiWdogCfg || any 18 (fun d => R.fiCfg (d + 1))
  else if off < 0x6000 then off == R.rgCtrl || off == R.rgEventEn || off == R.rgTakeCfg || (0x5200 ≤ off && off < 0x5400)
  else if off < 0x8000 then false
  else if off < 0x9000 then [R.cuAdmitCfg, R.cuEventEn, R.cuAgeCfg0, R.cuAgeCfg1].contains off || any 8 R.cuPortCfg
  else if off < 0xA000 then false
  else if off < 0xC000 then [R.coCtrl, R.coEventEn, R.coRetryCfg, R.coDiscardCfg].contains off || any 16 R.coRemoteMap
  else if off < 0xD000 then
    [R.spFabCtrl, R.spFabCfg, R.spFabEventEn].contains off || any 4 R.spPCtrl || any 4 R.spPEventEn || any 4 R.spPAsym || any 62 R.spRoute
  else if off < 0xE000 then [R.twCtrl, R.twCfg, R.twEventEn, R.twPartnerLo, R.twPartnerHi].contains off
  else if off < 0xF000 then off - 0xE000 < 0x318
  else if off < 0x10000 then false
  else if off < 0x20000 then
    let o := off % 0x1000
    o == 0x808 || (o == 0x814 && 0x11000 ≤ off) || o == 0x820 || o == 0x824 || (0x900 ≤ o && o < 0xA00)
  else if off < 0x40000 then
    let at0 (f : Nat → Nat) : Bool := off % 0x4000 == f 0 % 0x4000
    at0 R.gpLinkCtrl || at0 R.gpLinkEventEn || at0 R.gpRangeCfg || at0 R.gpFrameCfg || at0 R.gpXactEventEn || at0 R.gpAccCtrl ||
    at0 R.gpAccEventEn
  else false

/-- Whether step 6 of R432 writes fields of the register, by a SETTINGS record or by another section (R441, R442). -/
def charterWrites (off : Nat) : Bool :=
  settingsReg off || 0x40000 ≤ off || (List.range 8).any (fun n => off == R.cuPortLoad n) ||
  (0x20000 ≤ off && off < 0x40000 && 0x1400 ≤ off % 0x4000)

/-- The SRAM is written to 0: all of it, or all but the Registrar store. -/
def State.sramClear (s : State) (store : Bool) : State :=
  { s with
    sram := if store then [] else s.sram.filter fun c => 0x340000 ≤ c.1 && c.1 < 0x3C0000
    flips := if store then [] else s.flips.filter fun e => 0x340000 ≤ e.off && e.off < 0x3C0000 }

/-- Flash discovery begins (R436): the SFDP header and its first parameter header. -/
def State.sfdpBegin (s : State) : State :=
  let s1 := ((s.put F.chStatus_phase 2).put F.chStatus_reading 1).emit (.flash 0x5A 0 16 8 20)
  { s1 with ch := { s1.ch with job := .startup, wait := .sfdp } }

/-- A gallery from 1 on goes back to Closed: at once when nothing of it runs, and otherwise as a close does (log entry 184). -/
def State.galleryBack (s : State) (g : Nat) : State := (s.galleryClose g).galleryDone g

/-- The registers and tables that an application writes, back at reset (R450). -/
def State.unapplyData (s : State) : State :=
  { s with
    regs := s.regs.filter fun p => !charterWrites p.1 && !(R.cuShedMap 0 ≤ p.1 && p.1 < R.cuShedMap 512)
    px := [], cat := [], cu := List.replicate 8 {}, devs := [], seqs := []
    gp := s.gp.map fun g => { g with pwOld := [] }
    co := { s.co with routes := [] }
    tk := { s.tk with cmp := [0, 0, 0, 0], rateAt := none }
    rg := { s.rg with resBits := 0 }
    ch := { s.ch with required := [] } }

/-- What step 6 may write returns to its reset value, and the SRAM outside the Registrar store is cleared (R435, R450). A frame rate that differs
from the reset rate goes back at the next boundary. -/
def State.unapply (s : State) : State :=
  let s0 := forEach ((List.range 15).map (· + 1)) (s.twinEnable false) fun s g => s.galleryBack g
  let rate := s0.get F.tkFrameRate_active
  let s1 := s0.unapplyData
  let s2 := forEach (s1.ic.map (·.1)) (s1.sramClear false) fun s k => s.icDisable k
  let s3 := forEach s2.ports ((s2.put F.tkFrameRate_active rate).charterId.put F.tkStatus_rate_pending 0) fun s n => s.loadShow n
  if rate = s3.get F.tkFrameRate_requested then s3
  else (({ s3 with tk := { s3.tk with rateAt := some s3.now } } : State).put F.tkStatus_rate_pending 1)

/-- A warm reset before step 7 (R435): the sequence starts again at step 4, once the core is up. -/
def State.warmEarly (s : State) (bit : Nat) : State :=
  let s1 := ((s.warmCore (bit == 2)).unapply).resetCause bit
  let s2 : State := { s1 with ch := { s1.ch with job := s.ch.job } }
  if 2 ≤ s.phase then s2.sfdpBegin else s2

/-- A warm reset, with its cause bit. -/
def State.warmReset (s : State) (bit : Nat) : State := if s.phase = 5 then s.warmLate bit else s.warmEarly bit

/-! ### Cold reset (R13, R432) -/

/-- Step 1: every field takes its reset value; the fuses are read; TWIN_ROLE and CHAIN_IN are sampled. RESET_N keeps the wake-fault record and
the test access port; what a power-up or RESET_N does not touch, the fuses and what has been sent, stays. -/
def State.coldReset (s : State) (power chainLow twinHigh : Bool) : State :=
  let s0 : State :=
    { State.reset with
      part := s.part
      pending := s.pending
      out := s.out ++ State.reset.out.filter fun o => power || !(s.jtag.holds && o.scanned)
      free := s.free
      fuses := s.fuses
      pci := { perst := s.pci.perst }
      jtag := if power then {} else s.jtag
      sp := { State.reset.sp with head := chainLow } }
  let s1 := ((s0.setReg64 R.idSerialLo s.fuses.serial).put F.cnPaceCal_p_wc s.fuses.pWc).put F.idResetCause_cause (if power then 1 else 2)
  let s2 := (s1.putB F.idFuse_key_programmed (s.fuses.keyHash != 0)).putB F.idFuse_key_lock s.fuses.keyLock
  let s3 := if s.hasTwin then s2.putB F.twStatus_role_pin twinHigh else s2
  let s4 := if chainLow then ((s3.put F.spChipId_chip_id 0).put F.spChipId_id_source 1).put F.spChipId_chain_wired 1 else s3
  if power then s4
  else ((s4.setReg R.cnWakeFault (s.reg R.cnWakeFault)).setReg R.cnWakeFaultTimeLo (s.reg R.cnWakeFaultTimeLo)).setReg
    R.cnWakeFaultTimeHi (s.reg R.cnWakeFaultTimeHi)

/-- Loss of the always-on supply (R408, R419): Off. Nothing is left but the part and its fuses; FAULT_N is not driven (R477) and PPS_OUT is low
(R62). -/
def State.powerOff (s : State) : State :=
  { State.reset with
    regs := [], cn := {}, ch := {}
    part := s.part, pending := s.pending, out := s.out ++ (if s.off then [] else [.pin "FAULT_N" true, .pin "PPS_OUT" false]), free := s.free, fuses := s.fuses, off := true, pci := { perst := s.pci.perst } }

/-! ### The oscillator (R39, R417, R418, R432) -/

/-- The function drives WAKE_N low for a wake by another source than the host, with PME enabled and the link in L2 (R417). -/
def State.wakePin (s : State) (cause : Nat) : State :=
  if cause ≠ 1 && s.pci.pmeEn && s.pci.link = .l2 then (s.modCn fun c => { c with wakeN := true }).emit (.pin "WAKE_N" false) else s

/-- The PCI Express controller runs: a link that is down trains, unless PERST_N is low (R417, R432). -/
def State.pcieUp (s : State) : State := if s.pci.perst || s.pci.link ≠ .down then s else s.emit (.pcie "train")

/-- OSCILLATOR_READY: the cold reset goes on to step 3, or the wake from Stowed is completed; a PERST_N that caused it acts now. -/
def State.oscReady (s : State) : State :=
  match s.cn.move with
  | .wake goal c d (_ + 1) =>
    let s1 := (s.wakePin c).wakeUp goal c d
    (if s.cn.warmAfter then (s1.modCn fun x => { x with warmAfter := false }).warmReset 2 else s1).pcieUp
  | _ => if s.ch.job = .startup && s.phase = 0 && s.cn.oscOn then (s.put F.chStatus_phase 1).pcieUp else s

/-- OSCILLATOR_TIMEOUT: the wake fails, and 600 mV is commanded again (R418); a cold reset goes no further (R432). -/
def State.oscTimeout (s : State) : State :=
  match s.cn.move with
  | .wake _ _ _ (k + 1) => (s.wakeFailed 2 (k + 1)).supplyGo .unstow 600
  | _ =>
    if s.ch.job = .startup && s.phase = 0 && s.cn.oscOn then
      (({ s with ch := { s.ch with job := .idle } } : State).oscillator false).supplyFail 1
    else s

/-- PERST_N is asserted: a warm reset, or in Stowed the wake that it follows (R13, R415, R434). -/
def State.perstLow (s : State) : State :=
  let s1 : State := { s with pci := { s.pci with perst := true } }
  if s.power = 3 then ({ s1 with pci := pciReset s1.pci true } : State).wakeSource .host else s1.warmReset 2

/-! ### The commands -/

/-- COLD_RESET (R432): power-up, or an assertion of RESET_N, which does nothing in Off. -/
def execColdReset (power chainLow twinHigh : Bool) (s : State) : Host.Outcome State Fault Refusal :=
  .next (if s.off && !power then s else s.coldReset power chainLow twinHigh)

/-- PERST_N_ASSERT (R434). -/
def execPerstNAssert (s : State) : Host.Outcome State Fault Refusal := act s fun s => s.perstLow

/-- FUNCTION_LEVEL_RESET (R309). -/
def execFunctionLevelReset (s : State) : Host.Outcome State Fault Refusal := act s fun s => if s.power = 3 then s else s.warmReset 4

/-- ALWAYS_ON_SUPPLY_LOSS (R419). -/
def execAlwaysOnSupplyLoss (s : State) : Host.Outcome State Fault Refusal := .next s.powerOff

/-- OSCILLATOR_READY (R417, R432). -/
def execOscillatorReady (s : State) : Host.Outcome State Fault Refusal := act s fun s => s.oscReady

/-- OSCILLATOR_TIMEOUT (R418). -/
def execOscillatorTimeout (s : State) : Host.Outcome State Fault Refusal := act s fun s => s.oscTimeout

end Sys2Proof.Machine
end

