-- ==== Sys2Proof/Machine/Writes.lean ====
section
/-! DEFINITION. What a write of each register does (R12, R487): the word that the access codes leave, and the effects of their own that the
chapters give to registers of the TK, CU, GP, PX, SP, TW, ID and CH blocks. -/

namespace Sys2Proof.Machine

/-- The word that the access codes alone leave after a write of `w` (R12). -/
def plainWord (off : Nat) (old w : Word) : Word :=
  match regRow off with
  | none => old
  | some r =>
    let x := (old &&& ~~~ r.rw) ||| (w &&& r.rw)
    (x &&& ~~~ (w &&& r.w1c)) ||| (w &&& r.w1s)

/-- Whether the injection point at an offset of FI_INJ would select a port that the part lacks, by an instance number (R3, R396, R399). -/
def State.injAbsent (s : State) (off inst : Nat) : Bool :=
  let d := (off - 0x4200) / 8
  if [3, 4, 5, 6, 7, 0x11].contains d then s.nPorts ≤ inst && inst != 0xFF
  else if d = 0x0B || d = 0x0C then s.nSpan ≤ inst && inst != 0xFF
  else d == 0x10 && ((16 + s.nPorts ≤ inst && inst != 0xFF) || (inst == 12 && !s.hasTwin))

/-- Whether a shared source is of a port, or of the twin, that the part lacks (R3, R325). -/
def State.sourceAbsent (s : State) (n : Nat) : Bool :=
  (80 ≤ n && n < 104 && s.nPorts ≤ (n - 80) % 8) || (112 + s.nSpan ≤ n && n < 116) || (n == 116 && !s.hasTwin)

/-- The same where the part lacks ports: a write of an absent port's number, or of the twin's, to a field that selects one leaves the field as it
was (R3). -/
def State.partWord (s : State) (off : Nat) (old x : Word) : Word :=
  let keep (m : Word) (b : Bool) : Word := if b then (x &&& ~~~ m) ||| (old &&& m) else x
  if s.part != .vx4840 then x
  else if 0x40000 ≤ off && off < 0x80000 && off % 0x80 = 4 then keep (F.pxBind_port 0).mask (s.nPorts ≤ (F.pxBind_port 0).of x)
  else if 0xC400 ≤ off && off < 0xC500 then keep (F.spRoute_port 0).mask (s.nSpan ≤ (F.spRoute_port 0).of x)
  else if 0x4208 ≤ off && off < 0x4298 && off % 8 = 0 then keep (F.fiInjCtrl_instance 0).mask (s.injAbsent off ((F.fiInjCtrl_instance 0).of x))
  else if off = R.fiSummaryEn then keep 0x40000 true
  else if 0x5200 ≤ off && off < 0x5400 && off % 16 = 0 then keep (F.rgTrigCfg_source_num 0).mask (s.sourceAbsent ((F.rgTrigCfg_source_num 0).of x))
  else if 0xE300 ≤ off && off < 0xE318 then
    keep (BitVec.ofNat 32 (sumOf ((List.range 32).map fun b => if s.sourceAbsent (64 + 32 * ((off - 0xE300) / 4) + b) then 2 ^ b else 0))) true
  else x

/-! ### TK (R46, R57, R60, R61) -/

/-- A write of TK_FRAME_RATE.requested: the first second boundary at least three frames ahead (R57). A second write before it
replaces the first and starts the wait again (DESIGN CHOICE, log entry 14). -/
def State.writeRate (s : State) (v : Nat) : State :=
  if 2000 ≤ v && v ≤ 32000 then
    let s1 := (s.put F.tkFrameRate_requested v).put F.tkStatus_rate_pending 1
    { s1 with tk := { s1.tk with rateAt := some (secondAtOrAfter (s.now + ceilDiv (3 * secNs) s.rate)) } }
  else s

/-- A write of TK_REF_SEL: a source no longer enabled is dropped, and the choice of R46 is made again. Leaving the active source so is no
loss of it (DESIGN CHOICE, log entry 19). -/
def State.writeRefSel (s : State) (plain : Word) : State :=
  let s1 := s.setReg R.tkRefSel plain
  let off := [1, 2, 3, 4].filter fun c => !s1.srcEnabled c && s1.srcAccepted c
  (forEach off s1 fun s c => s.dropSource c).reselect

/-- A write in the TK block. -/
def State.writeTk (s : State) (off : Nat) (w plain : Word) : State :=
  if off = R.tkFrameRate then s.writeRate (w.toNat % 65536)
  else if off = R.tkRefSel then s.writeRefSel plain
  else if off = R.tkPpsOut then
    let s1 := s.setReg off plain
    let m := s1.get F.tkPpsOut_mode
    if s.tk.ppsOutHigh && (m = 0 || m = 3) then
      ({ s1 with tk := { s1.tk with ppsOutHigh := false } } : State).emit (.pin "PPS_OUT" false)
    else s1
  else if 0x1050 ≤ off && off < 0x1060 then
    let s1 := s.setReg off plain
    if bitOf w.toNat 31 then s1.alarmCheck ((off - 0x1050) / 4) else s1
  else if 0x1060 ≤ off && off < 0x1080 && off % 8 = 0 then
    let k := (off - 0x1060) / 8
    let s1 := s.setReg off plain
    (s1.setAlarm k (s1.reg64 off)).alarmCheck k
  else s.setReg off plain

/-! ### CU (R170, R206, R210, R211) -/

/-- The counters of the Curator are cleared (CU_CLEAR). -/
def State.cuClearAll (s : State) : State :=
  let s1 := (s.put F.cuDelayStatus_held 0).put F.cuPlanMargin_min_margin 0xFFFF
  forEach (List.range 8) s1 fun s n =>
    (((s.put (F.cuPortLate_late_frames n) 0).put (F.cuPortUrgent_deferred n) 0).put (F.cuPortReach_count n) 0).setReg (R.cuPortBulk n) 0

/-- A write of CU_RATE_CHECK.rate: the check begins; a rate that no frame grid can have is answered at once (R211). -/
def State.writeRateCheck (s : State) (v : Nat) : State :=
  let s1 := s.setReg R.cuRateCheck (BitVec.ofNat 32 v)
  if 2000 ≤ v && v ≤ 32000 then s1 else s1.rateCheck

/-- A write in the CU block. -/
def State.writeCu (s : State) (off : Nat) (w plain : Word) : State :=
  let x := w.toNat
  if off = R.cuAdmitCfg then (if 10 ≤ x % 256 && x % 256 ≤ 90 then (s.setReg off plain).readmitAll else s)
  else if off = R.cuRateCheck then s.writeRateCheck (x % 65536)
  else if off = R.cuClear then (if bitOf x 0 then s.cuClearAll else s)
  else if off = R.cuAccPop then (if bitOf x 0 then s.accPop else s)
  else if 0x8200 ≤ off && off < 0x8300 && off % 0x20 = 0 then
    let v := x % 2 ^ 14
    if 1000 ≤ v && v ≤ 9000 then (s.setReg off plain).readmit ((off - 0x8200) / 0x20) else s
  else s.setReg off plain

/-! ### GP (R84, R88, R100, R125, R151, R158 to R163, R371, R450) -/

/-- The first enable of a port in Bare makes the mode Hosted (R450). -/
def State.hostedMode (s : State) : State := if s.mode = 3 then s.put F.chStatus_mode 4 else s

/-- A write of GP_LINK_CTRL. -/
def State.writeLink (s : State) (n : Nat) (w plain : Word) : State :=
  let b i := bitOf w.toNat i
  let was := s.flag (F.gpLinkCtrl_enable n)
  let s1 := s.setReg (R.gpLinkCtrl n) plain
  let s1 := if b 1 == s.flag (F.gpLinkCtrl_media n) then s1
    else if b 1 then s1.sfpShow n else (s1.put (F.gpLinkStatus_sfp_present n) 0).put (F.gpLinkStatus_sfp_los n) 0
  let s2 := if b 0 then (if was && s.link n ≠ 0 then s1.modPort n fun g => { g with fails := 0 } else s1.hostedMode.portEnable n)
    else if was || s.link n ≠ 0 then s1.portDisable n else s1
  let s3 := if b 2 then s2.portRetrain n else s2
  if b 3 then s3.portCutRelease n else s3

/-- A write of GP_FRAME_CFG: pw_open changes what the plans built from now on see at the third boundary (R100). -/
def State.writeFrameCfg (s : State) (n : Nat) (w plain : Word) : State :=
  let v := w.toNat % 65536
  let old := s.get (F.gpFrameCfg_pw_open n)
  let s1 := s.setReg (R.gpFrameCfg n) plain
  if v < 2500 || 8000 < v then s1.put (F.gpFrameCfg_pw_open n) old
  else if v = old then s1
  else s1.modPort n fun g => { g with pwOld := g.pwOld ++ [(s.effect, old)] }

/-- A write in the page of root port n. A standby shared port ignores what accession's registers would do (R371). -/
def State.writeGp (s : State) (n off : Nat) (w plain : Word) : State :=
  let x := w.toNat
  let b i := bitOf x i
  if off = R.gpLinkCtrl n then s.writeLink n w plain
  else if off = R.gpFrameCfg n then s.writeFrameCfg n w plain
  else if off = R.gpCntClear n then
    if b 0 then
      (s.put (F.gpRangeCfg_excursions n) 0).setRegs (R.gpSymErr n) [0, 0, 0, 0, 0]
    else s
  else if off = R.gpXactClear n then (if b 0 then s.setRegs (R.gpXactCnt n) [0, 0] else s)
  else if off = R.gpCutRelease n then s.cutRelease n (x % 64)
  else if off = R.gpAccCtrl n then
    if s.ownsPort n then
      let s1 := s.setReg off plain
      let s2 := if b 1 then s1.suspendAsk n else s1
      if b 2 then s2.resume n 2 else s2
    else s
  else if off = R.gpAccReset n then (if s.ownsPort n then s.busReset n (x % 64) else s)
  else if off = R.gpAccUnbind n then
    if s.ownsPort n && 1 ≤ x % 64 && x % 64 ≤ 62 && s.devSt n (x % 64) = 1 then s.unbind n (x % 64) else s
  else if off = R.gpAccRetry n then (if s.ownsPort n then s.accRetry n (x % 64) (x / 2 ^ 8 % 16) else s)
  else s.setReg off plain

/-! ### PX (R175 to R181) -/

/-- A write of PX_CTRL: gallery where R179 allows it; enable only in a write without another command. -/
def State.writePxCtrl (s : State) (c : Nat) (w : Word) : State :=
  let b i := bitOf w.toNat i
  let st := s.pxState c
  let s1 := if st = 0 || st = 1 || st = 4 then s.put (F.pxCtrl_gallery c) (w.toNat % 16) else s
  if b 17 || b 18 || b 19 then
    let s2 := if b 17 then s1.pxCntClear c else s1
    let s3 := if b 18 then s2.pxRelease c else s2
    if b 19 then s3.pxClearHalt c else s3
  else if b 31 then s1.pxEnable c
  else s1.pxDisable c

/-- A write of PX_BIND: with kind 0 the context is Free; a kind given to a Free one makes it Disabled. -/
def State.writePxBind (s : State) (c : Nat) (plain : Word) : State :=
  let s1 := s.setReg (R.pxBind c) plain
  if s.pxKind c = 0 || s1.pxKind c = 0 then s1.modCtx c fun x => { x with mode := 1, enAt := none, disAt := none } else s1

/-- A write in the window of context c. -/
def State.writePx (s : State) (c off : Nat) (w plain : Word) : State :=
  let st := s.pxState c
  let o := off % 0x80
  if o = 0 then s.writePxCtrl c w
  else if o = 0x30 then (s.setReg off plain).modCtx c fun x => { x with quals := x.quals ++ [(s.effect, s.reg off)] }
  else if o = 0x34 then (s.setReg off plain).modCtx c fun x => { x with applies := x.applies ++ [(s.effect, s.reg off)] }
  else if st = 0 || st = 1 || st = 4 then (if o = 4 then s.writePxBind c plain else s.setReg off plain)
  else s

/-! ### SP and TW (R342, R355, R357, R359, R368, R377) -/

/-- A write of SP_Pm_CTRL. -/
def State.writeSpan (s : State) (m : Nat) (w plain : Word) : State :=
  let b i := bitOf w.toNat i
  let was := s.flag (F.spPCtrl_enable m)
  let s1 := s.setReg (R.spPCtrl m) plain
  let s2 := if b 0 then (if was && s.spanState m ≠ 0 then s1 else s1.hostedMode.spanOn m)
    else if was || s.spanState m ≠ 0 then s1.spanOff m else s1
  if b 2 then s2.spanRetrain m else s2

/-- A write in the SP block: valid of a route is written only together with static at 1 (R359). -/
def State.writeSp (s : State) (off : Nat) (w plain : Word) : State :=
  let b i := bitOf w.toNat i
  if off = R.spFabCtrl then
    let s1 := s.setReg off plain
    if b 0 then s1.discAsk else s1
  else if off = R.spFabCfg then (s.setReg off plain).charterId
  else if off = R.spCntClear then (if b 0 then s.setReg R.spTakeCnt 0 else s)
  else if 0xC100 ≤ off && off < 0xC200 && off % 0x40 = 0 then s.writeSpan ((off - 0xC100) / 0x40) w plain
  else if 0xC100 ≤ off && off < 0xC200 && off % 0x40 = 0x20 then
    let m := (off - 0xC100) / 0x40
    if b 0 then (s.setReg (R.spPErr m) 0).setReg (R.spPTraffic m) 0 else s
  else if 0xC400 ≤ off && off < 0xC500 then
    s.setReg off (if b 30 then plain else (plain &&& 0x7FFFFFFF) ||| (s.reg off &&& 0x80000000))
  else s.setReg off plain

/-- A write in the TW block. -/
def State.writeTw (s : State) (off : Nat) (w plain : Word) : State :=
  let b i := bitOf w.toNat i
  if off = R.twCtrl then
    let s1 := s.twinEnable (b 0)
    if b 1 then s1.twinYield else s1
  else if off = R.twClear then (if b 0 then (s.setReg R.twCnt 0).put F.twMirror_late 0 else s)
  else if off = R.twCfg then
    let s1 := s.setReg off plain
    if !s1.twinOn then s1
    else if s1.flag F.twStatus_role_pin && s1.get F.twStatus_state = 1 then s1.put F.twStatus_own s1.sharedMap
    else s1.put F.twStatus_own (mapMinus s1.ownMap (mapMinus 255 s1.sharedMap))
  else s.setReg off plain

/-! ### CH and ID (R434, R450) -/

/-- A command of the loader begins: it asks for its permit. -/
def State.loaderGo (s : State) (job : ChJob) : State :=
  (({ s with ch := { s.ch with job := job, wait := .none, refusals := 0 } } : State).put F.chStatus_busy 1).chAsk

/-- A write of CH_CTRL (R450): check from step 7 on; load in Bare with a host attached; neither while one is running. -/
def State.writeChCtrl (s : State) (w : Word) : State :=
  let b i := bitOf w.toNat i
  if s.flag F.chStatus_busy || s.phase ≠ 5 then s
  else if b 31 then s.loaderGo .check
  else if b 30 && s.mode = 3 && s.hosted then s.loaderGo .load
  else s

/-! ### Every register -/

/-- A write of the register at `off`, which the part has, by gallery `who` (0 the manager). -/
def State.regWrite (s : State) (who off : Nat) (w : Word) : State :=
  let plain := s.partWord off (s.reg off) (plainWord off (s.reg off) w)
  if off = R.idCtrl then (if bitOf w.toNat 0 then s.warmReset 3 else s)
  else if off < 0x1000 then s.setReg off plain
  else if off < 0x2000 then s.writeTk off w plain
  else if off < 0x3000 then s.writeCn off w plain
  else if off < 0x4000 then (if off = R.chCtrl then s.writeChCtrl w else s.setReg off plain)
  else if off < 0x5000 then s.writeFi off w plain
  else if off < 0x6000 then s.writeRg off w plain
  else if off < 0x8000 then s
  else if off < 0x9000 then s.writeCu off w plain
  else if off < 0xA000 then s.writeMv off w plain
  else if off < 0xC000 then s.writeCo off w plain
  else if off < 0xD000 then s.writeSp off w plain
  else if off < 0xE000 then s.writeTw off w plain
  else if off < 0xF000 then s.writeSh off w plain
  else if off < 0x10000 then s
  else if off < 0x20000 then s.writeGa (off / 0x1000 - 0x10) off who w plain
  else if off < 0x40000 then s.writeGp ((off - 0x20000) / 0x4000) off w plain
  else if off < 0x80000 then s.writePx ((off - 0x40000) / 0x80) off w plain
  else s

end Sys2Proof.Machine
end

