-- ==== Sys2Proof/Machine/Bar.lean ====
section
/-! DEFINITION. Requests to BAR0 and BAR2: who makes them, what is ignored, reads with their effects, writes (spec/00_scope.md R3, R14 to R16,
spec/01_architecture.md R24, R25, spec/11_galleries_and_pcie.md R308, R311 to R313, R322, spec/16_conservator.md R415). -/

namespace Sys2Proof.Machine

/-! ### Who is speaking (R312) -/

/-- The gallery whose valid PASID a request carries. -/
def State.pasidGal (s : State) (p : BitVec 20) : Option Nat :=
  (List.range 16).find? fun g => s.flag (F.gaPasid_valid g) && s.get (F.gaPasid_pasid g) == p.toNat

/-- Whether an offset lies in gallery page g. -/
def inPage (g off : Nat) : Bool := 0x10000 + 0x1000 * g ≤ off && off < 0x11000 + 0x1000 * g

/-- Who makes a BAR0 request: the manager is 0; none is a violation of kind 6. -/
def State.speaker (s : State) (q : Req) (off : Nat) : Option Nat :=
  match q with
  | none => some 0
  | some p => match s.pasidGal p with
    | some 0 => some 0
    | some g => if inPage g off then some g else none
    | none => none

/-- A violation of kind 6 or 7 (R322). -/
def State.strange (s : State) (kind : Nat) (q : Req) (off : Nat) : State :=
  match q with
  | some p => s.violation kind (s.pasidGal p) 0 p.toNat off
  | none => s

/-- A request from the host: in Closed it wakes the chip first (R415). -/
def State.touched (s : State) : State := if s.power = 2 then s.wakeSource .host else s

/-! ### Writes (R14, R16, R311, R433) -/

/-- A 32-bit write of BAR0. While no host is attached only GA_CTRL.attach acts. -/
def State.barWord (s : State) (q : Req) (off : Nat) (w : Word) : State :=
  match s.speaker q off with
  | none => s.strange 6 q off
  | some who =>
    if s.absent off || (regRow off).isNone then s
    else if s.hosted then s.regWrite who off w
    else if off = R.gaCtrl 0 && who = 0 && bitOf w.toNat 31 then s.hostAttach
    else s

/-- A BAR0 write of some bytes: only an aligned 32-bit one acts, and a 64-bit one as two of these (R14, `execRegisterWrite`), after the check
of who makes it (R312). In Stowed nothing reaches the core. -/
def State.bar0Write (s : State) (q : Req) (off : Nat) (d : List Byte) : State :=
  if s.power = 3 then s
  else
    let s1 := s.touched
    if d.length = 4 && off % 4 = 0 then s1.barWord q off (BitVec.ofNat 32 (leVal d))
    else if (s1.speaker q off).isNone then s1.strange 6 q off
    else s1

/-- The write of one register word: what every row named for a register write is. -/
def State.hostWrite (s : State) (q : Req) (off : Nat) (w : Word) : State := s.bar0Write q off (leBytes 4 w.toNat)

/-! ### Reads (R14 to R16, R313, R330, R392) -/

/-- The _LO registers of the 64-bit values whose upper half a read captures (R15). -/
def capturesAt (off : Nat) : Bool :=
  off == R.idSerialLo || off == R.tkTimeLo || off == R.tkLastStepLo || off == R.rgLastTakeLo || off == R.cnWakeFaultTimeLo || off == R.twPartnerLo ||
  (0xC600 ≤ off && off < 0xC7F0 && off % 8 == 0) || (0x20000 ≤ off && off < 0x40000 && off % 0x4000 == 0x54) ||
  (0x40000 ≤ off && off < 0x80000 && [0x10, 0x18, 0x20, 0x50].contains (off % 0x80)) || (0x1060 ≤ off && off < 0x1080 && off % 8 == 0) ||
  (0x10000 ≤ off && off < 0x20000 && pageLo (off % 0x1000))
where
  /-- Those of a gallery page: ring bases and status addresses, the event ring's, the interrupt words. -/
  pageLo (o : Nat) : Bool :=
    (0x100 ≤ o && o < 0x300 && (o % 0x40 == 0x04 || o % 0x40 == 0x0C)) || [0x304, 0x30C, 0x314, 0x820, 0x828, 0x830].contains o

/-- An inspection read of SRAM bytes (R25, R397), the first word of which may just have flipped (one bit, or two): the answer says whether the data
is poisoned. An error that it meets has no other effect, and the word stays flipped. -/
def State.inspect (s : State) (a len : Nat) (flip : Option Bool) : Bool × State :=
  let s0 := match flip with
    | some two => s.addFlips [{ off := a / 8 * 8, two := two }]
    | none => s
  let x := s0.ramRead a len 1
  (x.1.isSome, x.2)

/-- A read of the record store's window: the word at offset x (R392). -/
def State.windowRead (s : State) (x : Nat) (flip : Option Bool) : List Byte × Bool × State :=
  let o := s.get F.rgCursor_offset * 8 + x
  if s.get F.rgWritePtr_ptr ≤ o || rgSize ≤ o then (leBytes 4 0, false, s)
  else
    let y := s.inspect (rgStore + o) 4 flip
    if y.1 then
      let z := y.2.drawBytes 4
      (z.1, true, z.2)
    else
      ((List.range 4).map fun i => if o + i < s.get F.rgWritePtr_ptr && o + i < rgSize then s.ram (rgStore + o + i) else 0, false, y.2)

/-- A read of a word that has no effect but the capture of a _HI half by its _LO word, which the _HI word then shows (R15). A _HI word of
which nothing is captured yet shows the live half (log entry 9). -/
def State.capRead (s : State) (off : Nat) : List Byte × Bool × State :=
  if capturesAt off then
    (leBytes 4 (s.peek off).toNat, false, { s with caps := tinsert (terase s.caps (off + 4)) (off + 4) (s.peek (off + 4)) })
  else if off % 4 = 0 && 4 ≤ off && capturesAt (off - 4) then (leBytes 4 (tget (fun k => s.peek k) s.caps off).toNat, false, s)
  else (leBytes 4 (s.peek off).toNat, false, s)

/-- A read of one 32-bit word of BAR0: its bytes, whether they are poisoned, and the state after. -/
def State.barRead (s : State) (q : Req) (off : Nat) (flip : Option Bool) : List Byte × Bool × State :=
  match s.speaker q off with
  | none => (leBytes 4 0, false, s.strange 6 q off)
  | some who =>
    if 0x6000 ≤ off && off < 0x7000 then s.windowRead (off - 0x6000) flip
    else if s.absent off || (regRow off).isNone then (leBytes 4 0, false, s)
    else if 0x10000 ≤ off && off < 0x20000 then
      let g := off / 0x1000 - 0x10
      if off = R.icClaim g then
        let x := s.icClaim g
        (leBytes 4 x.1, false, x.2)
      else if off = R.icGcfg g && who ≠ 0 then (leBytes 4 0, false, s.violation 1 (some g) 0 0 (off % 0x1000))
      else s.capRead off
    else s.capRead off

/-- A BAR0 read of some bytes and its completion (R14, R308). -/
def State.bar0Read (s : State) (q : Req) (off len : Nat) (flip : Option Bool) : State :=
  if s.power = 3 then s
  else
    let s1 := s.touched
    let zero := s1.emit (.readData (List.replicate len 0) false)
    if len = 1 || len = 2 then
      if 4 < off % 4 + len then
        (if (s1.speaker q off).isNone then s1.strange 6 q off else s1).emit (.readData (List.replicate len 0) false)
      else
        let x := s1.barRead q (off / 4 * 4) flip
        x.2.2.emit (.readData ((x.1.drop (off % 4)).take len) x.2.1)
    else if len = 4 && off % 4 = 0 then
      let x := s1.barRead q off flip
      x.2.2.emit (.readData x.1 x.2.1)
    else if len = 8 && off % 8 = 0 then
      let x := s1.barRead q off flip
      let y := x.2.2.barRead q (off + 4) none
      y.2.2.emit (.readData (x.1 ++ y.1) (x.2.1 || y.2.1))
    else if (s1.speaker q off).isNone then (s1.strange 6 q off).emit (.readData (List.replicate len 0) false)
    else zero

/-! ### BAR2 (R24, R25) -/

/-- Whether the manager makes a BAR2 request. -/
def State.managerReq (s : State) (q : Req) : Bool :=
  match q with
  | none => true
  | some p => s.pasidGal p == some 0

/-- A BAR2 write: only into buffer memory, by the manager, while a host is attached. -/
def State.bar2Write (s : State) (q : Req) (off : Nat) (d : List Byte) : State :=
  if s.power = 3 then s
  else
    let s1 := s.touched
    if !s1.managerReq q then s1.strange 7 q off
    else if !s1.hosted then s1
    else s1.setRamBytes off (d.take (0x200000 - off))

/-- One byte of BAR2 as the SRAM holds it, none where the manual lays nothing out (R24, R171, R172): buffer memory and the record store are
bytes, the contexts are the PX registers, the catalogue its entries; of the staging region it is the descriptors that the device keeps (R260). -/
def State.bar2Byte (s : State) (off : Nat) : Option Byte :=
  if off < 0x200000 || (0x340000 ≤ off && off < 0x3C0000) then some (s.ram off)
  else if off < 0x240000 then
    let r := off - 0x200000 + 0x40000
    if (regRow (r / 4 * 4)).isNone then none else some (BitVec.ofNat 8 ((s.peek (r / 4 * 4)).toNat / 256 ^ (r % 4)))
  else if off < 0x280000 then some ((s.catBody ((off - 0x240000) / 16)).getD (off % 16) 0)
  else s.descByte off

/-- The bytes of a BAR2 read; a byte that the manual does not lay out is a free value, and past the end of the aperture there is none. -/
def State.bar2Bytes (s : State) (off : Nat) : Nat → List Byte × State
  | 0 => ([], s)
  | n + 1 =>
    if 0x400000 ≤ off then (List.replicate (n + 1) 0, s)
    else match s.bar2Byte off with
      | some b =>
        let x := s.bar2Bytes (off + 1) n
        (b :: x.1, x.2)
      | none =>
        let v := s.draw 8
        let x := v.2.bar2Bytes (off + 1) n
        (BitVec.ofNat 8 v.1 :: x.1, x.2)

/-- A BAR2 read and its completion (R25, R308). -/
def State.bar2Read (s : State) (q : Req) (off len : Nat) (flip : Option Bool) : State :=
  if s.power = 3 then s
  else
    let s1 := s.touched
    if !s1.managerReq q then (s1.strange 7 q off).emit (.readData (List.replicate len 0) false)
    else
      let x := s1.inspect off len flip
      let y := if x.1 then x.2.drawBytes len else State.bar2Bytes x.2 off len
      y.2.emit (.readData y.1 x.1)

/-! ### The commands -/

/-- REGISTER_WRITE (R12, R14): an aligned 64-bit write is two 32-bit writes, the low half first. -/
def execRegisterWrite (q : Req) (off : Nat) (d : List Byte) (s : State) : Host.Outcome State Fault Refusal :=
  if d.length = 8 && off % 8 = 0 then act2 s (fun s => s.bar0Write q off (d.take 4)) fun s => s.bar0Write q (off + 4) (d.drop 4)
  else act s fun s => s.bar0Write q off d

/-- BAR0_READ (R14). -/
def execBar0Read (q : Req) (off len : Nat) (flip : Option Bool) (s : State) : Host.Outcome State Fault Refusal :=
  act s fun s => s.bar0Read q off len flip

/-- BAR2_WRITE (R25). -/
def execBar2Write (q : Req) (off : Nat) (d : List Byte) (s : State) : Host.Outcome State Fault Refusal :=
  act s fun s => s.bar2Write q off d

/-- BAR2_READ (R25). -/
def execBar2Read (q : Req) (off len : Nat) (flip : Option Bool) (s : State) : Host.Outcome State Fault Refusal :=
  act s fun s => s.bar2Read q off len flip

/-- RATE_CHECK_DONE (R211): the check that the last write of CU_RATE_CHECK began. -/
def execRateCheckDone (s : State) : Host.Outcome State Fault Refusal :=
  act s fun s => if !s.flag F.cuRateCheck_done && 2000 ≤ s.get F.cuRateCheck_rate then s.rateCheck else s

end Sys2Proof.Machine
end

