-- ==== Sys2Proof/Machine/Crypto.lean ====
section
/-! DEFINITION. SHA-256 and the verification of an ECDSA signature over P-256, which the Charter's signature needs (R439). The constants and
formulas are those of FIPS 180-4 and FIPS 186-4, which R439 names. -/

namespace Sys2Proof.Machine

/-! ### SHA-256 (FIPS 180-4) -/

/-- The largest number of at most n bits above x whose k-th power does not exceed v: the k-th root of v, bit by bit. -/
def rootFrom (k v : Nat) : Nat → Nat → Nat
  | 0, x => x
  | n + 1, x => rootFrom k v n (if (x + 2 ^ n) ^ k ≤ v then x + 2 ^ n else x)

/-- The first 32 bits of the fractional part of the k-th root of p. -/
def rootFraction (k p : Nat) : BitVec 32 := BitVec.ofNat 32 (rootFrom k (p * 2 ^ (32 * k)) 40 0)

/-- The primes below 312, which are the first 64. -/
def smallPrimes : List Nat := (List.range 312).filter fun p => 2 ≤ p && (List.range 18).all fun d => d < 2 || p ≤ d || p % d != 0

/-- The round constants: from the cube roots of the first 64 primes. -/
def shaK : List (BitVec 32) := smallPrimes.map (rootFraction 3)

/-- The initial hash value: from the square roots of the first 8 primes. -/
def shaH : List (BitVec 32) := (smallPrimes.take 8).map (rootFraction 2)

/-- The number that bytes spell, most significant first. -/
def beVal (bs : List Byte) : Nat := bs.foldl (fun a b => a * 256 + b.toNat) 0

/-- The `n` lowest bytes of a number, most significant first. -/
def beBytes (n x : Nat) : List Byte := (leBytes n x).reverse

/-- The next word of the message schedule, given the words so far, newest first. -/
def shaNext (ws : List (BitVec 32)) : BitVec 32 :=
  let w i := ws.getD (i - 1) 0
  let s0 := (w 15).rotateRight 7 ^^^ (w 15).rotateRight 18 ^^^ (w 15) >>> 3
  let s1 := (w 2).rotateRight 17 ^^^ (w 2).rotateRight 19 ^^^ (w 2) >>> 10
  w 16 + s0 + w 7 + s1

/-- The message schedule, newest first: `n` more words. -/
def shaSched : Nat → List (BitVec 32) → List (BitVec 32)
  | 0, ws => ws
  | n + 1, ws => shaSched n (shaNext ws :: ws)

/-- One round on the working variables a to h. -/
def shaRound (v : List (BitVec 32)) (kw : BitVec 32) : List (BitVec 32) :=
  match v with
  | [a, b, c, d, e, f, g, h] =>
    let s1 := e.rotateRight 6 ^^^ e.rotateRight 11 ^^^ e.rotateRight 25
    let t1 := h + s1 + ((e &&& f) ^^^ (~~~ e &&& g)) + kw
    let s0 := a.rotateRight 2 ^^^ a.rotateRight 13 ^^^ a.rotateRight 22
    [t1 + s0 + ((a &&& b) ^^^ (a &&& c) ^^^ (b &&& c)), a, b, c, d + t1, e, f, g]
  | _ => v

/-- The compression of one 64-byte block. -/
def shaBlock (h : List (BitVec 32)) (b : List Byte) : List (BitVec 32) :=
  let ws := (shaSched 48 ((List.range 16).map fun i => BitVec.ofNat 32 (beVal ((b.drop (4 * i)).take 4))).reverse).reverse
  let v := (shaK.zip ws).foldl (fun v p => shaRound v (p.1 + p.2)) h
  (h.zip v).map fun p => p.1 + p.2

/-- The padding of a message of n bytes. -/
def shaPad (n : Nat) : List Byte := 0x80 :: List.replicate ((119 - n % 64) % 64) 0 ++ beBytes 8 (8 * n)

/-- The blocks of a padded message, at most n. -/
def shaBlocks : Nat → List Byte → List (BitVec 32) → List (BitVec 32)
  | 0, _, h => h
  | n + 1, bs, h => if bs.isEmpty then h else shaBlocks n (bs.drop 64) (shaBlock h (bs.take 64))

/-- SHA-256 of bytes, as a 256-bit number whose top byte is digest byte 0. -/
def sha256 (bs : List Byte) : Nat :=
  (shaBlocks (bs.length / 64 + 2) (bs ++ shaPad bs.length) shaH).foldl (fun a w => a * 2 ^ 32 + w.toNat) 0

/-! ### P-256 (FIPS 186-4) -/

def p256 : Nat := 0xffffffff00000001000000000000000000000000ffffffffffffffffffffffff
def p256N : Nat := 0xffffffff00000000ffffffffffffffffbce6faada7179e84f3b9cac2fc632551
def p256B : Nat := 0x5ac635d8aa3a93e7b3ebbd55769886bc651d06b0cc53b0f63bce3c3e27d2604b
def p256G : Nat × Nat :=
  (0x6b17d1f2e12c4247f8bce6e563a440f277037d812deb33a0f4a13945d898c296,
   0x4fe342e2fe1a7f9b8ee7eb4a7c0f9e162bce33576b315ececbb6406837bf51f5)

/-- A difference modulo p. -/
def subP (a b : Nat) : Nat := (a + p256 - b % p256) % p256

/-- A power modulo m: `n` bits of the exponent. -/
def powMod (m : Nat) : Nat → Nat → Nat → Nat
  | 0, _, _ => 1 % m
  | n + 1, b, e => (if e % 2 = 1 then b else 1) * powMod m n (b * b % m) (e / 2) % m

/-- The inverse modulo a prime m. -/
def invMod (m a : Nat) : Nat := powMod m 256 (a % m) (m - 2)

/-- A point in Jacobian coordinates; z = 0 is the point at infinity. -/
structure JPoint where
  x : Nat
  y : Nat
  z : Nat
  deriving DecidableEq, Repr

/-- Twice a point. -/
def JPoint.dbl (a : JPoint) : JPoint :=
  let y2 := a.y * a.y % p256
  let s := 4 * a.x * y2 % p256
  let z2 := a.z * a.z % p256
  let m := 3 * (subP a.x z2) * (a.x + z2) % p256
  let x := subP (m * m) (2 * s)
  { x := x, y := subP (m * subP s x) (8 * y2 * y2), z := 2 * a.y * a.z % p256 }

/-- The sum of two points. -/
def JPoint.add (a b : JPoint) : JPoint :=
  if a.z = 0 then b
  else if b.z = 0 then a
  else
    let z1 := a.z * a.z % p256
    let z2 := b.z * b.z % p256
    let u1 := a.x * z2 % p256
    let u2 := b.x * z1 % p256
    let s1 := a.y * z2 * b.z % p256
    let s2 := b.y * z1 * a.z % p256
    if u1 = u2 then (if s1 = s2 then a.dbl else { x := 1, y := 1, z := 0 })
    else
      let h := subP u2 u1
      let r := subP s2 s1
      let h2 := h * h % p256
      let h3 := h2 * h % p256
      let v := u1 * h2 % p256
      let x := subP (r * r) (h3 + 2 * v)
      { x := x, y := subP (r * subP v x) (s1 * h3), z := h * a.z * b.z % p256 }

/-- A multiple of a point: `n` bits of the factor. -/
def JPoint.mul : Nat → JPoint → Nat → JPoint
  | 0, _, _ => { x := 1, y := 1, z := 0 }
  | n + 1, a, k =>
    let rest := JPoint.mul n a.dbl (k / 2)
    if k % 2 = 1 then a.add rest else rest

/-- Whether (x, y) is a point of the curve. -/
def onCurve (x y : Nat) : Bool :=
  x < p256 && y < p256 && y * y % p256 == (x * x % p256 * x + p256B + 3 * (p256 - x)) % p256

/-- ECDSA over P-256 with SHA-256: the public key, the signature, the message. -/
def ecdsaVerify (qx qy r s : Nat) (msg : List Byte) : Bool :=
  if !onCurve qx qy || r = 0 || s = 0 || p256N ≤ r || p256N ≤ s then false
  else
    let w := invMod p256N s
    let u1 := sha256 msg * w % p256N
    let u2 := r * w % p256N
    let a := (JPoint.mul 256 { x := p256G.1, y := p256G.2, z := 1 } u1).add (JPoint.mul 256 { x := qx, y := qy, z := 1 } u2)
    if a.z = 0 then false
    else
      let zi := invMod p256 a.z
      a.x * (zi * zi % p256) % p256 % p256N == r

end Sys2Proof.Machine
end

