-- ==== Sys2Proof/Machine/Pcie.lean ====
section
/-! DEFINITION. The PCI Express link, configuration space and read time-outs (spec/11_galleries_and_pcie.md R304 to R310,
spec/16_conservator.md R411, R417). -/

namespace Sys2Proof.Machine

/-! ### Configuration space: identity and capabilities (R2, R304 to R306) -/

/-- The PCI device ID, equal to ID_PART (R2, R304). -/
def State.pciDevice (s : State) : Nat := match s.part with
  | .vx4880 => 0x4880
  | .vx4840 => 0x4840

/-- The words of the configuration header that the manual gives (R304, R306), in the layout of a type 0 header (PRESUMED, log entry 145): vendor
and device, class code and revision, header type, the attributes of BAR0 (64-bit, not prefetchable) and BAR2 (64-bit, prefetchable); BAR4 and
the expansion ROM read as zero. -/
def State.pciHeader (s : State) : List Nat :=
  [s.pciDevice * 2 ^ 16 + 0x1F6A, b2n s.pci.busMaster * 4, 0x088000 * 2 ^ 8 + 1, 0, 0x4, 0, 0xC, 0, 0, 0, 0, 0, 0, 0, 0, 0]

/-- The sizes of the apertures: BAR0, BAR2, BAR4, ROM (R306). -/
def barSizes : List Nat := [0x100000, 0x400000, 0, 0]

/-- What the capabilities support (R304, R305, R310): link generations and widths, the largest payload, 10-bit tags, the completion time-out
ranges in µs, MSI-X vectors, PASID width, virtual channels, D3hot with PME, Function Level Reset, ASPM L1, ECRC, the header log. -/
structure PciCaps where
  linkGens     : List Nat := [1, 2, 3]
  linkWidths   : List Nat := [1, 2, 4]
  maxPayload   : Nat := 512
  tag10        : Bool := true
  timeoutsUs   : Nat × Nat := (50, 10000)
  vectors      : Nat := 17
  pasidWidth   : Nat := 20
  pasidExec    : Bool := false
  pasidPriv    : Bool := false
  channels     : List Nat := [0, 1]
  d3hotPme     : Bool := true
  flr          : Bool := true
  aspmL0s      : Bool := false
  aspmL1       : Bool := true
  ecrc         : Bool := true
  headerLog    : Bool := true
  multiHeader  : Bool := false
  deriving DecidableEq, Repr

/-- The capabilities of both parts. -/
def pciCaps : PciCaps := {}

/-- The settings and the error state that configuration space shows, in the words of the PCI Express Base Specification (R305, R307; PRESUMED, log
entry 181): the control word of Power Management with the power state and PME_En, Device Control, Device Control 2, AER Capabilities and Control,
and the header log. -/
def State.pciPmcsr (s : State) : Nat := b2n s.pci.pmeEn * 256 + b2n s.pci.d3hot * 3

def State.pciDevCtl (s : State) : Nat := Nat.log2 (s.pci.mrrs / 128) * 2 ^ 12 + Nat.log2 (s.pci.mps / 128) * 2 ^ 5

def State.pciDevCtl2 (s : State) : Nat := b2n s.pci.tag10 * 2 ^ 12 + s.pci.timeout

def State.aerControl (s : State) : Nat := b2n s.pci.ecrcChk * 2 ^ 8 + 2 ^ 7 + b2n s.pci.ecrcGen * 2 ^ 6 + 2 ^ 5

def State.aerHeaderLog (s : State) : List Byte := fit 16 s.pci.aerHeader

/-- The uncorrectable errors logged through AER, by their bits: poisoned 12, time-out 14, Completer Abort 15, ECRC 19, Unsupported Request 20. -/
def State.aerUncorrectable (s : State) : Nat :=
  let has (k : Nat) : Nat := b2n (s.pci.aer.any (·.1 == k))
  has 2 * 2 ^ 12 + has 3 * 2 ^ 14 + has 1 * 2 ^ 15 + has 4 * 2 ^ 19 + has 0 * 2 ^ 20

/-- The completion time-out values that ranges A and B allow, beside the default (R305). -/
def timeoutValues : List Nat := [0, 1, 2, 5, 6]

/-! ### The link and configuration writes -/

/-- Change what is held of PCI Express. -/
def State.modPci (s : State) (f : Pcie → Pcie) : State := { s with pci := f s.pci }

/-- PERST_N is released: the link trains once the core runs (R433). -/
def State.perstHigh (s : State) : State :=
  let s1 := s.modPci fun p => { p with perst := false }
  if s.pci.perst && 1 ≤ s.phase && !s.asleep then s1.emit (.pcie "train") else s1

/-- A change of the link (R411, R415, R417): the host's exit from L1 wakes a Closed chip; WAKE_N is released once the link is up again. -/
def State.linkChange (s : State) (l : PcieLink) : State :=
  let s1 := s.modPci fun p => { p with link := l, l2Ready := p.l2Ready && l != .l0 && l != .down }
  let s2 := if l = .l0 && s1.cn.wakeN then (s1.modCn fun c => { c with wakeN := false }).emit (.pin "WAKE_N" true) else s1
  if s.power = 2 && s.pci.link = .l1 && l = .l0 then s2.wakeSource .host else s2

/-- PME_Turn_Off is answered, and the link may go to L2 (R411). -/
def State.turnOff (s : State) : State := (s.modPci fun p => { p with l2Ready := true }).emit (.pcie "PME_TO_Ack")

/-- A write of a setting of configuration space (R305, R307, R310, R314). A payload or read size that is no size of PCI Express, or above what
the function supports, is ignored. -/
def State.cfgWrite (s : State) (x : CfgWrite) : State :=
  match x with
  | .busMaster v => (s.modPci fun p => { p with busMaster := v }).dmaGo
  | .pasidEnable v => (s.modPci fun p => { p with pasidEn := v }).dmaGo
  | .msixEnable v => s.modPci fun p => { p with msixEn := v }
  | .msixMask v => s.modPci fun p => { p with msixMask := v }
  | .maxPayload v => if [128, 256, 512].contains v && v ≤ pciCaps.maxPayload then s.modPci fun p => { p with mps := v } else s
  | .maxRead v => if [128, 256, 512, 1024, 2048, 4096].contains v then s.modPci fun p => { p with mrrs := v } else s
  | .tag10 v => (s.modPci fun p => { p with tag10 := v }).flushOwed
  | .vc1 v => s.modPci fun p => { p with vc1 := v }
  | .tc1OnVc1 v => s.modPci fun p => { p with tc1OnVc1 := v }
  | .pmeEnable v => s.modPci fun p => { p with pmeEn := v }
  | .aspmL1 v => s.modPci fun p => { p with aspmL1 := v }
  | .powerD3 v => s.modPci fun p => { p with d3hot := v }
  | .ecrcGen v => s.modPci fun p => { p with ecrcGen := v }
  | .ecrcCheck v => s.modPci fun p => { p with ecrcChk := v }
  | .timeoutRange v => if timeoutValues.contains v then s.modPci fun p => { p with timeout := v } else s
  | .aerClear => s.modPci fun p => { p with aer := [], aerHeader := [] }

/-- HOST_READ_TIMEOUT: what the time-out of a read does at the block that issued it (R308). -/
def State.readTimeout (s : State) (x : ReadRef) : State :=
  match x with
  | .workEntry g r => s.workEntry g r .timeout
  | .fragTable g r i => s.fragTable g r i.toNat .timeout
  | .eventTail g => s.evTail g .timeout
  | .eventHead g => s.evHead g .timeout
  | .swIndex c => s.indexDone c .timeout
  | .outRing c => s.outRingDone c .timeout
  | .flush c => s.flushDone c .timeout
  | .mover c => s.mvHostRead c .timeout
  | .moverBack c => s.mvReadback c .timeout

/-! ### The commands -/

/-- PERST_N_RELEASE (R433). -/
def execPerstNRelease (s : State) : Host.Outcome State Fault Refusal := act s fun s => s.perstHigh

/-- PCIE_LINK_STATE_CHANGE (R411). -/
def execPcieLinkStateChange (l : PcieLink) (s : State) : Host.Outcome State Fault Refusal := act s fun s => s.linkChange l

/-- PME_TURN_OFF (R411). -/
def execPmeTurnOff (s : State) : Host.Outcome State Fault Refusal := act s fun s => s.turnOff

/-- PCIE_CONFIG_WRITE (R305). -/
def execPcieConfigWrite (x : CfgWrite) (s : State) : Host.Outcome State Fault Refusal := act s fun s => s.cfgWrite x

/-- HOST_READ_TIMEOUT (R308). -/
def execHostReadTimeout (x : ReadRef) (s : State) : Host.Outcome State Fault Refusal := act s fun s => s.readTimeout x

end Sys2Proof.Machine
end

