-- ==== Sys2Proof/Machine/HostRows.lean ====
section
/-! DEFINITION. The commands that are a write of one register: each is that BAR0 write with the bit its row names, whose effect is the register's
own (Writes.lean), and IC_CLAIM, a read (R330). The word `w` gives the register's other bits; another command bit of the same register is left
out, which REGISTER_WRITE does not do. -/

namespace Sys2Proof.Machine

/-- A BAR0 write of a word with some bits set and some cleared. -/
def State.command (s : State) (q : Req) (off : Nat) (w set clr : Word) : State := s.hostWrite q off ((w &&& ~~~ clr) ||| set)

/-! ### Registers of the time keeper and the Registrar -/

/-- ALARM_LOAD (R60). -/
def execAlarmLoad (k : Fin 4) (q : Req) (w : Word) (s : State) : Host.Outcome State Fault Refusal :=
  act s fun s => s.command q (R.tkAlarmLo k) w 0x0 0x0

/-- FRAME_RATE_REQUEST (R57). -/
def execFrameRateRequest (q : Req) (w : Word) (s : State) : Host.Outcome State Fault Refusal :=
  act s fun s => s.command q R.tkFrameRate w 0x0 0x0

/-- SOFTWARE_TAKE (R380). -/
def execSoftwareTake (q : Req) (w : Word) (s : State) : Host.Outcome State Fault Refusal :=
  act s fun s => s.command q R.rgCtrl w 0x80000000 0x70000000

/-- VITRINE_RELEASE (R385). -/
def execVitrineRelease (q : Req) (w : Word) (s : State) : Host.Outcome State Fault Refusal :=
  act s fun s => s.command q R.rgCtrl w 0x40000000 0xB0000000

/-- STORE_CLEAR (R392). -/
def execStoreClear (q : Req) (w : Word) (s : State) : Host.Outcome State Fault Refusal :=
  act s fun s => s.command q R.rgCtrl w 0x20000000 0xD0000000

/-- RG_CNT_CLEAR (R392). -/
def execRgCntClear (q : Req) (w : Word) (s : State) : Host.Outcome State Fault Refusal :=
  act s fun s => s.command q R.rgCtrl w 0x10000000 0xE0000000

/-! ### Registers of the root ports and accession -/

/-- LINK_ENABLE (R84). -/
def execLinkEnable (n : Fin 8) (q : Req) (w : Word) (s : State) : Host.Outcome State Fault Refusal :=
  act s fun s => s.command q (R.gpLinkCtrl n) w 0x1 0xC

/-- LINK_DISABLE (R84). -/
def execLinkDisable (n : Fin 8) (q : Req) (w : Word) (s : State) : Host.Outcome State Fault Refusal :=
  act s fun s => s.command q (R.gpLinkCtrl n) w 0x0 0xD

/-- RETRAIN (R488). -/
def execRetrain (n : Fin 8) (q : Req) (w : Word) (s : State) : Host.Outcome State Fault Refusal :=
  act s fun s => s.command q (R.gpLinkCtrl n) w 0x4 0x8

/-- CUT_RELEASE (R84). -/
def execCutRelease (n : Fin 8) (q : Req) (w : Word) (s : State) : Host.Outcome State Fault Refusal :=
  act s fun s => s.command q (R.gpLinkCtrl n) w 0x8 0x4

/-- GP_CUT_RELEASE (R125). -/
def execGpCutRelease (n : Fin 8) (q : Req) (w : Word) (s : State) : Host.Outcome State Fault Refusal :=
  act s fun s => s.command q (R.gpCutRelease n) w 0x0 0x0

/-- TREE_SUSPEND (R162). -/
def execTreeSuspend (n : Fin 8) (q : Req) (w : Word) (s : State) : Host.Outcome State Fault Refusal :=
  act s fun s => s.command q (R.gpAccCtrl n) w 0x2 0x4

/-- TREE_RESUME (R163). -/
def execTreeResume (n : Fin 8) (q : Req) (w : Word) (s : State) : Host.Outcome State Fault Refusal :=
  act s fun s => s.command q (R.gpAccCtrl n) w 0x4 0x2

/-- BUS_RESET (R160). -/
def execBusReset (n : Fin 8) (q : Req) (w : Word) (s : State) : Host.Outcome State Fault Refusal :=
  act s fun s => s.command q (R.gpAccReset n) w 0x0 0x0

/-- GP_ACC_UNBIND (R158). -/
def execGpAccUnbind (n : Fin 8) (q : Req) (w : Word) (s : State) : Host.Outcome State Fault Refusal :=
  act s fun s => s.command q (R.gpAccUnbind n) w 0x0 0x0

/-- GP_ACC_RETRY (R151). -/
def execGpAccRetry (n : Fin 8) (q : Req) (w : Word) (s : State) : Host.Outcome State Fault Refusal :=
  act s fun s => s.command q (R.gpAccRetry n) w 0x0 0x0

/-- CU_ACC_POP (R170). -/
def execCuAccPop (q : Req) (w : Word) (s : State) : Host.Outcome State Fault Refusal := act s fun s => s.command q R.cuAccPop w 0x1 0x0

/-- GP_CNT_CLEAR (R83). -/
def execGpCntClear (n : Fin 8) (q : Req) (w : Word) (s : State) : Host.Outcome State Fault Refusal :=
  act s fun s => s.command q (R.gpCntClear n) w 0x1 0x0

/-- GP_XACT_CLEAR (R119). -/
def execGpXactClear (n : Fin 8) (q : Req) (w : Word) (s : State) : Host.Outcome State Fault Refusal :=
  act s fun s => s.command q (R.gpXactClear n) w 0x1 0x0

/-! ### Registers of the pipe contexts and the Curator -/

/-- CONTEXT_ENABLE (R177). -/
def execContextEnable (c : Fin 2048) (q : Req) (w : Word) (s : State) : Host.Outcome State Fault Refusal :=
  act s fun s => s.command q (R.pxCtrl c) w 0x80000000 0xE0000

/-- CONTEXT_DISABLE (R178). -/
def execContextDisable (c : Fin 2048) (q : Req) (w : Word) (s : State) : Host.Outcome State Fault Refusal :=
  act s fun s => s.command q (R.pxCtrl c) w 0x0 0x800E0000

/-- CLEAR_HALT (R181). -/
def execClearHalt (c : Fin 2048) (q : Req) (w : Word) (s : State) : Host.Outcome State Fault Refusal :=
  act s fun s => s.command q (R.pxCtrl c) w 0x80000 0x60000

/-- CONTEXT_RELEASE (R180). -/
def execContextRelease (c : Fin 2048) (q : Req) (w : Word) (s : State) : Host.Outcome State Fault Refusal :=
  act s fun s => s.command q (R.pxCtrl c) w 0x40000 0xA0000

/-- PX_CNT_CLEAR (R178). -/
def execPxCntClear (c : Fin 2048) (q : Req) (w : Word) (s : State) : Host.Outcome State Fault Refusal :=
  act s fun s => s.command q (R.pxCtrl c) w 0x20000 0xC0000

/-- RATE_CHECK (R211). -/
def execRateCheck (q : Req) (w : Word) (s : State) : Host.Outcome State Fault Refusal := act s fun s => s.command q R.cuRateCheck w 0x0 0x0

/-- ADMISSION_CONFIG_WRITE (R210). -/
def execAdmissionConfigWrite (n : Option (Fin 8)) (q : Req) (w : Word) (s : State) : Host.Outcome State Fault Refusal :=
  act s fun s => s.command q (admissionReg n) w 0x0 0x0

/-- CU_CLEAR (R229). -/
def execCuClear (q : Req) (w : Word) (s : State) : Host.Outcome State Fault Refusal := act s fun s => s.command q R.cuClear w 0x1 0x0

/-! ### Registers of the rings, movers, the Courier, galleries and the interrupt controller -/

/-- RING_ENABLE (R233). -/
def execRingEnable (g : Fin 16) (r : Fin 8) (q : Req) (w : Word) (s : State) : Host.Outcome State Fault Refusal :=
  act s fun s => s.command q (R.gaRingCtrl g r) w 0x80000000 0x0

/-- RING_DISABLE (R248). -/
def execRingDisable (g : Fin 16) (r : Fin 8) (q : Req) (w : Word) (s : State) : Host.Outcome State Fault Refusal :=
  act s fun s => s.command q (R.gaRingCtrl g r) w 0x0 0x80000000

/-- EVENT_RING_ENABLE (R254). -/
def execEventRingEnable (g : Fin 16) (q : Req) (w : Word) (s : State) : Host.Outcome State Fault Refusal :=
  act s fun s => s.command q (R.gaEvtCtrl g) w 0x80000000 0x0

/-- EVENT_RING_DISABLE (R257). -/
def execEventRingDisable (g : Fin 16) (q : Req) (w : Word) (s : State) : Host.Outcome State Fault Refusal :=
  act s fun s => s.command q (R.gaEvtCtrl g) w 0x0 0x80000000

/-- MOVER_GO (R274). -/
def execMoverGo (c : Fin 8) (q : Req) (w : Word) (s : State) : Host.Outcome State Fault Refusal :=
  act s fun s => s.command q (R.mvChCtrl c) w 0x80000000 0x40000000

/-- MOVER_STOP (R275). -/
def execMoverStop (c : Fin 8) (q : Req) (w : Word) (s : State) : Host.Outcome State Fault Refusal :=
  act s fun s => s.command q (R.mvChCtrl c) w 0x40000000 0x80000000

/-- MOVER_OWNER (R259). -/
def execMoverOwner (c : Fin 8) (q : Req) (w : Word) (s : State) : Host.Outcome State Fault Refusal :=
  act s fun s => s.command q (R.mvChCtrl c) w 0x0 0xC0000000

/-- MV_CNT_CLEAR (R269). -/
def execMvCntClear (q : Req) (w : Word) (s : State) : Host.Outcome State Fault Refusal := act s fun s => s.command q R.mvCntClear w 0x1 0x0

/-- ROUTE_WRITE (R281). -/
def execRouteWrite (q : Req) (w : Word) (s : State) : Host.Outcome State Fault Refusal :=
  act s fun s => s.command q R.coRouteCmd w 0x80000000 0x60000000

/-- ROUTE_READ (R280). -/
def execRouteRead (q : Req) (w : Word) (s : State) : Host.Outcome State Fault Refusal :=
  act s fun s => s.command q R.coRouteCmd w 0x40000000 0xA0000000

/-- ROUTE_CLEAR (R282). -/
def execRouteClear (q : Req) (w : Word) (s : State) : Host.Outcome State Fault Refusal :=
  act s fun s => s.command q R.coRouteCmd w 0x20000000 0xC0000000

/-- CO_CNT_CLEAR (R283). -/
def execCoCntClear (q : Req) (w : Word) (s : State) : Host.Outcome State Fault Refusal := act s fun s => s.command q R.coCntClear w 0x1 0x0

/-- CO_PWERR_CLEAR (R302). -/
def execCoPwerrClear (q : Req) (w : Word) (s : State) : Host.Outcome State Fault Refusal :=
  act s fun s => s.command q R.coPwerrClear w 0x1 0x0

/-- HOST_ATTACH (R311). -/
def execHostAttach (q : Req) (w : Word) (s : State) : Host.Outcome State Fault Refusal :=
  act s fun s => s.command q (R.gaCtrl 0) w 0x80000000 0x60000000

/-- HOST_DETACH (R323). -/
def execHostDetach (q : Req) (w : Word) (s : State) : Host.Outcome State Fault Refusal :=
  act s fun s => s.command q (R.gaCtrl 0) w 0x40000000 0xA0000000

/-- GALLERY_RESET (R318). -/
def execGalleryReset (g : Fin 16) (q : Req) (w : Word) (s : State) : Host.Outcome State Fault Refusal :=
  act s fun s => s.command q (R.gaCtrl g) w 0x20000000 0xC0000000

/-- GALLERY_OPEN (R316). -/
def execGalleryOpen (g : Fin 16) (q : Req) (w : Word) (s : State) : Host.Outcome State Fault Refusal :=
  act s fun s => s.command q (R.gaCtrl g) w 0x10000000 0xE0000000

/-- GALLERY_CLOSE (R318). -/
def execGalleryClose (g : Fin 16) (q : Req) (w : Word) (s : State) : Host.Outcome State Fault Refusal :=
  act s fun s => s.command q (R.gaCtrl g) w 0x0 0xF0000000

/-- PASID_WRITE (R317). -/
def execPasidWrite (g : Fin 16) (q : Req) (w : Word) (s : State) : Host.Outcome State Fault Refusal :=
  act s fun s => s.command q (R.gaPasid g) w 0x0 0x0

/-- GA_DB_IN (R320). -/
def execGaDbIn (g : Fin 16) (q : Req) (w : Word) (s : State) : Host.Outcome State Fault Refusal :=
  act s fun s => s.command q (R.gaDbIn g) w 0x0 0x0

/-- GA_DB_OUT (R320). -/
def execGaDbOut (g : Fin 16) (q : Req) (w : Word) (s : State) : Host.Outcome State Fault Refusal :=
  act s fun s => s.command q (R.gaDbOut g) w 0x0 0x0

/-- GA_VIOL_CLEAR (R322). -/
def execGaViolClear (q : Req) (w : Word) (s : State) : Host.Outcome State Fault Refusal :=
  act s fun s => s.command q (R.gaViolClear 0) w 0x1 0x0

/-- MSIX_UNMASK (R310). -/
def execMsixUnmask (v : Fin 17) (q : Req) (w : Word) (s : State) : Host.Outcome State Fault Refusal :=
  act s fun s => s.command q (msixWord v 3) w 0x0 0x1

/-- IC_COMPLETE (R330). -/
def execIcComplete (g : Fin 16) (q : Req) (w : Word) (s : State) : Host.Outcome State Fault Refusal :=
  act s fun s => s.command q (R.icComplete g) w 0x0 0x0

/-- IC_SET (R336). -/
def execIcSet (g : Fin 16) (q : Req) (w : Word) (s : State) : Host.Outcome State Fault Refusal :=
  act s fun s => s.command q (R.icSet g) w 0x0 0x0

/-- IC_SH_SET (R336). -/
def execIcShSet (q : Req) (w : Word) (s : State) : Host.Outcome State Fault Refusal := act s fun s => s.command q R.icShSet w 0x0 0x0

/-- IC_ENABLE_WRITE (R328). -/
def execIcEnableWrite (g : Option (Fin 16)) (k : Fin 6) (q : Req) (w : Word) (s : State) : Host.Outcome State Fault Refusal :=
  act s fun s => s.command q (enableReg g k) w 0x0 0x0

/-- IC_SH_TARGET_WRITE (R334). -/
def execIcShTargetWrite (k : Fin 192) (q : Req) (w : Word) (s : State) : Host.Outcome State Fault Refusal :=
  act s fun s => s.command q (R.icShCfg k) w 0x0 0x0

/-! ### Registers of the Span, the twin, faults, the Conservator, the loader -/

/-- SPAN_ENABLE (R342). -/
def execSpanEnable (m : Fin 4) (q : Req) (w : Word) (s : State) : Host.Outcome State Fault Refusal :=
  act s fun s => s.command q (R.spPCtrl m) w 0x1 0x4

/-- SPAN_RETRAIN (R342). -/
def execSpanRetrain (m : Fin 4) (q : Req) (w : Word) (s : State) : Host.Outcome State Fault Refusal :=
  act s fun s => s.command q (R.spPCtrl m) w 0x4 0x0

/-- SP_CNT_CLEAR (R367). -/
def execSpCntClear (q : Req) (w : Word) (s : State) : Host.Outcome State Fault Refusal := act s fun s => s.command q R.spCntClear w 0x1 0x0

/-- SP_PM_CNT_CLEAR (R350). -/
def execSpPmCntClear (m : Fin 4) (q : Req) (w : Word) (s : State) : Host.Outcome State Fault Refusal :=
  act s fun s => s.command q (R.spPCntClear m) w 0x1 0x0

/-- DISCOVER (R357). -/
def execDiscover (q : Req) (w : Word) (s : State) : Host.Outcome State Fault Refusal := act s fun s => s.command q R.spFabCtrl w 0x1 0x0

/-- TWIN_ENABLE (R368). -/
def execTwinEnable (q : Req) (w : Word) (s : State) : Host.Outcome State Fault Refusal := act s fun s => s.command q R.twCtrl w 0x1 0x2

/-- TWIN_YIELD (R377). -/
def execTwinYield (q : Req) (w : Word) (s : State) : Host.Outcome State Fault Refusal := act s fun s => s.command q R.twCtrl w 0x2 0x0

/-- TW_CLEAR (R374). -/
def execTwClear (q : Req) (w : Word) (s : State) : Host.Outcome State Fault Refusal := act s fun s => s.command q R.twClear w 0x1 0x0

/-- FI_UNLOCK (R404). -/
def execFiUnlock (q : Req) (w : Word) (s : State) : Host.Outcome State Fault Refusal := act s fun s => s.command q R.fiUnlock w 0x0 0x0

/-- INJECTION_ARM (R405). -/
def execInjectionArm (k : Fin 18) (q : Req) (w : Word) (s : State) : Host.Outcome State Fault Refusal :=
  act s fun s => s.command q (R.fiInjCtrl (k + 1)) w 0x0 0x0

/-- FI_FAULT_CLEAR (R402). -/
def execFiFaultClear (q : Req) (w : Word) (s : State) : Host.Outcome State Fault Refusal :=
  act s fun s => s.command q R.fiFault w 0x80000000 0x0

/-- FI_CLEAR (R400). -/
def execFiClear (q : Req) (w : Word) (s : State) : Host.Outcome State Fault Refusal := act s fun s => s.command q R.fiClear w 0x1 0x2

/-- FI_CLEAR_FIRST (R400). -/
def execFiClearFirst (q : Req) (w : Word) (s : State) : Host.Outcome State Fault Refusal := act s fun s => s.command q R.fiClear w 0x2 0x1

/-- FI_SUMMARY_CLEAR (R401). -/
def execFiSummaryClear (q : Req) (w : Word) (s : State) : Host.Outcome State Fault Refusal :=
  act s fun s => s.command q R.fiSummary w 0x0 0x0

/-- POWER_TARGET (R409). -/
def execPowerTarget (q : Req) (w : Word) (s : State) : Host.Outcome State Fault Refusal := act s fun s => s.command q R.cnCtrl w 0x0 0x0

/-- AVS_CONFIG_WRITE (R421). -/
def execAvsConfigWrite (q : Req) (w : Word) (s : State) : Host.Outcome State Fault Refusal :=
  act s fun s => s.command q R.cnAvsCfg w 0x0 0x0

/-- CN_WAKE_FAULT_CLEAR (R419). -/
def execCnWakeFaultClear (q : Req) (w : Word) (s : State) : Host.Outcome State Fault Refusal :=
  act s fun s => s.command q R.cnWakeFault w 0x80000000 0x0

/-- CN_CNT_CLEAR (R428). -/
def execCnCntClear (q : Req) (w : Word) (s : State) : Host.Outcome State Fault Refusal := act s fun s => s.command q R.cnCntClear w 0x1 0x0

/-- SOFT_RESET (R13). -/
def execSoftReset (q : Req) (w : Word) (s : State) : Host.Outcome State Fault Refusal := act s fun s => s.command q R.idCtrl w 0x1 0x0

/-- CHARTER_CHECK (R450). -/
def execCharterCheck (q : Req) (w : Word) (s : State) : Host.Outcome State Fault Refusal :=
  act s fun s => s.command q R.chCtrl w 0x80000000 0x40000000

/-- CHARTER_LOAD (R450). -/
def execCharterLoad (q : Req) (w : Word) (s : State) : Host.Outcome State Fault Refusal :=
  act s fun s => s.command q R.chCtrl w 0x40000000 0x80000000

/-- IC_CLAIM (R330): a read of the claim register of gallery g. -/
def execIcClaim (g : Fin 16) (q : Req) (s : State) : Host.Outcome State Fault Refusal := act s fun s => s.bar0Read q (R.icClaim g) 4 none

end Sys2Proof.Machine
end

