-- ==== Sys2Proof/Machine/Image.lean ====
section
/-! DEFINITION. The Charter image: its parts, and the checks of a copy (spec/17_charter_and_startup.md R438 to R443, spec/00_scope.md R4). A
check answers its code of R443 with the section and the record it names; code 0 passes. -/

namespace Sys2Proof.Machine

/-! ### The parts of an image (R438, R440) -/

/-- L, the image size. -/
def imgLen (img : List Byte) : Nat := leAt img 8 4

def imgSeq (img : List Byte) : Nat := leAt img 12 4

/-- A directory entry. -/
structure Sect where
  typ : Nat
  pad : Nat
  off : Nat
  len : Nat
  cnt : Nat
  deriving DecidableEq, Repr

/-- The directory. -/
def imgDir (img : List Byte) : List Sect :=
  (List.range (leAt img 18 2)).map fun i =>
    let e := (img.drop (64 + 16 * i)).take 16
    { typ := leAt e 0 2, pad := leAt e 2 2, off := leAt e 4 4, len := leAt e 8 4, cnt := leAt e 12 4 }

/-- Bytes cut into n pieces of one size. -/
def pieces (size : Nat) : Nat → List Byte → List (List Byte)
  | 0, _ => []
  | n + 1, bs => bs.take size :: pieces size n (bs.drop size)

/-- The record size of a section type; 0 for HOLDS, whose records differ. -/
def recBytes (typ : Nat) : Nat := [0, 8, 24, 64, 8, 40, 8].getD typ 0

/-- The most records of a section type. -/
def recMost (typ : Nat) : Nat := [0, 1024, 496, 2048, 16384, 4096, 15, 2048].getD typ 0

/-- The size of a HOLDS record by its header: 8 bytes and the payload padded to a multiple of 8. -/
def holdSize (h : List Byte) : Nat := 8 + (leAt h 2 2 + 7) / 8 * 8

/-- The records of HOLDS, each with its header. -/
def holdRecs : Nat → List Byte → List (List Byte)
  | 0, _ => []
  | n + 1, bs => bs.take (holdSize bs) :: holdRecs n (bs.drop (holdSize bs))

/-- The sum of the sizes of n HOLDS records. -/
def holdSum : Nat → List Byte → Nat
  | 0, _ => 0
  | n + 1, bs => holdSize bs + holdSum n (bs.drop (holdSize bs))

/-- The records of the section of a type, none when the image has no such section. -/
def imgRecs (img : List Byte) (typ : Nat) : List (List Byte) :=
  match (imgDir img).find? (·.typ == typ) with
  | some d =>
    let body := (img.drop d.off).take d.len
    if typ = 7 then holdRecs d.cnt body else pieces (recBytes typ) d.cnt body
  | none => []

/-- The offset and the value of a SETTINGS record (R441). -/
def setOff (r : List Byte) : Nat := leAt r 0 4
def setVal (r : List Byte) : Word := BitVec.ofNat 32 (leAt r 4 4)

/-! ### Codes 1 and 2: the header -/

/-- The code of a header, and 1 for one that could not be read (R438). -/
def headerCode (h : List Byte) (space : Nat) : Nat :=
  let l := imgLen h
  if h.length < 64 || leAt h 0 4 ≠ 0x4843514B then 1
  else if leAt h 4 2 ≠ 1 || leAt h 6 2 ≠ 64 || l % 8 ≠ 0 || l < 192 || space < l || 7 < leAt h 18 2 then 2 else 0

/-! ### Code 3: the part (R4, R438) -/

/-- Whether a SETTINGS record names a port or a role that a VX-4840 lacks. -/
def State.setNames (s : State) (r : List Byte) : Bool :=
  s.absent (setOff r) || s.partWord (setOff r) 0 (setVal r) != setVal r || (0xC400 ≤ setOff r && setOff r < 0xC500 && s.nSpan ≤ (F.spRoute_port 0).of (setVal r))

/-- Whether a chip ID names this chip once the image is applied: its ID now, or the one that the image's own SP_FAB_CFG gives it (R355, R446). -/
def State.imgHere (s : State) (img : List Byte) (d : Nat) : Bool :=
  s.isHere d || (imgRecs img 1).any fun r => setOff r == R.spFabCfg && (F.spFabCfg_charter_id).of (setVal r) == d && d < 62

/-- Whether an image names root ports, Span ports or a twin role that the part lacks (R4). -/
def State.imgNames (s : State) (img : List Byte) : Bool :=
  (imgRecs img 1).any s.setNames || (imgRecs img 2).any (fun r => s.nPorts ≤ byteAt r 0 && byteAt r 0 < 8) ||
  (imgRecs img 3).any (fun r => s.nPorts ≤ (F.pxBind_port 0).of (BitVec.ofNat 32 (leAt r 12 4))) ||
  (imgRecs img 5).any fun r =>
    let ws := (List.range 8).map fun i => leAt r (8 + 4 * i) 4
    (s.imgHere img (rf ws 0 20 6) && s.nPorts ≤ rf ws 0 17 3) || (routeKind ws == 1 && s.imgHere img (rf ws 2 26 6) && s.nPorts ≤ rf ws 2 23 3)

/-- Code 3. -/
def State.partCode (s : State) (img : List Byte) : Nat :=
  if leAt img 16 2 ≠ (s.peek R.idPart).toNat || s.imgNames img then 3 else 0

/-! ### Codes 4 and 5: key and signature (R439) -/

/-- Code 4. -/
def State.keyCode (s : State) (img : List Byte) : Nat :=
  if s.flag F.idFuse_key_lock && sha256 ((img.drop (imgLen img - 128)).take 64) ≠ s.fuses.keyHash then 4 else 0

/-- Code 5. -/
def signCode (img : List Byte) : Nat :=
  let l := imgLen img
  let w i := beVal ((img.drop (l - 128 + 32 * i)).take 32)
  if ecdsaVerify (w 0) (w 1) (w 2) (w 3) (img.take (l - 64)) then 0 else 5

/-! ### Code 6: the directory (R440) -/

/-- Whether a directory entry is as R440 says by itself. -/
def sectOk (img : List Byte) (n : Nat) (d : Sect) : Bool :=
  1 ≤ d.typ && d.typ ≤ 7 && d.pad == 0 && d.off % 8 == 0 && 64 + 16 * n ≤ d.off && d.off + d.len + 128 ≤ imgLen img && d.cnt ≤ recMost d.typ &&
  d.len == (if d.typ = 7 then holdSum d.cnt ((img.drop d.off).take d.len) else d.cnt * recBytes d.typ)

/-- Whether the entries differ in type and do not overlap. -/
def sectsApart : List Sect → Bool
  | [] => true
  | d :: ds => ds.all (fun e => e.typ != d.typ && !overlap d.off d.len e.off e.len) && sectsApart ds

/-- Code 6. -/
def dirCode (img : List Byte) : Nat :=
  let ds := imgDir img
  if ds.all (sectOk img ds.length) && sectsApart ds then 0 else 6

/-! ### The dry run's device (R443) -/

/-- The image of PX offset o in a CONTEXTS record. -/
def ctxWord (r : List Byte) (o : Nat) : Word := BitVec.ofNat 32 (leAt r (8 + o) 4)

/-- A CONTEXTS record written with the context Disabled (R446 step 3). -/
def State.ctxWrite (s : State) (r : List Byte) : State :=
  let c := leAt r 0 2
  let s1 := forEach (List.range 14) s fun s i =>
    let off := 0x40000 + 0x80 * c + 4 * i
    s.setReg off (plainWord off (s.reg off) (ctxWord r (4 * i)))
  (s1.put (F.pxCtrl_enable c) 0).modCtx c fun _ => {}

/-- The frame rate that a SETTINGS section asks for is in force: admission runs at it (R446, R447). -/
def State.rateNow (s : State) : State := s.put F.tkFrameRate_active (s.get F.tkFrameRate_requested)

/-- A cleared device with the settings and the contexts of an image; contexts to be enabled are Enabled. -/
def State.dryRun (s : State) (img : List Byte) : State :=
  let s0 : State := { State.reset with part := s.part, fuses := s.fuses, regs := s.regs.filter fun p => p.1 == R.spChipId }
  let s1 := forEach (imgRecs img 1) s0 fun s r => s.setReg (setOff r) (plainWord (setOff r) (s.reg (setOff r)) (setVal r))
  forEach (imgRecs img 3) s1.charterId.rateNow fun s r =>
    let s1 := s.ctxWrite r
    if (F.pxCtrl_enable 0).of (ctxWord r 0) = 1 then s1.modCtx (leAt r 0 2) fun x => { x with mode := 2 } else s1

/-! ### Code 7: the records (R441, R442) -/

/-- Whether a register ignores a value of one of its fields (R441). -/
def ignores (off : Nat) (w : Word) : Bool :=
  let x := w.toNat
  let out (v lo hi : Nat) : Bool := v < lo || hi < v
  if off = R.tkFrameRate then out (x % 65536) 2000 32000
  else if off = R.cnCtrl then 4 ≤ x % 8
  else if off = R.cnBudget then out (x % 65536) 1000 4000
  else if off = R.cnAvsCfg then out (x / 2 ^ 22) 620 800
  else if off = R.fiWdogCfg then out (x % 65536) 1 1000
  else if off = R.cuAdmitCfg then out (x % 256) 10 90
  else if 0x8200 ≤ off && off < 0x8300 then out (x % 2 ^ 14) 1000 9000
  else if 0x20000 ≤ off && off < 0x40000 && off % 0x4000 = R.gpFrameCfg 0 % 0x4000 then out (x % 65536) 2500 8000
  else false

/-- Whether an enable word sets the bit of a private source that does not exist, which is RZ (R324); those of reserved shared sources are RW. -/
def enablesNone (off : Nat) (w : Word) : Bool :=
  let no (g base : Nat) : Bool := (List.range 32).any fun b => bitOf w.toNat b && !privExists g (base + b)
  if 0x10000 ≤ off && off < 0x20000 && off % 0x1000 = 0x820 then no (off / 0x1000 - 0x10) 0
  else if 0x10000 ≤ off && off < 0x20000 && off % 0x1000 = 0x824 then no (off / 0x1000 - 0x10) 32
  else false

/-- Whether a SETTINGS record breaks R441: of RZ, RO and WO bits none may be 1, while a W1C bit may (R12). -/
def settingBad (r : List Byte) : Bool :=
  match regRow (setOff r) with
  | none => true
  | some row =>
    !settingsReg (setOff r) || (setVal r &&& ~~~ (row.rw ||| row.w1c)) != 0 || ignores (setOff r) (setVal r) || enablesNone (setOff r) (setVal r) ||
    (0xC400 ≤ setOff r && setOff r < 0xC500 && (F.spRoute_static 0).of (setVal r) == 0)

/-- The hubs above a device of the TOPOLOGY section, by its port and parent; `n` bounds the walk. -/
def hubsAbove (rs : List (List Byte)) (port : Nat) : Nat → Nat → Nat
  | 0, _ => 0
  | n + 1, parent =>
    if parent = 0 then 0
    else match rs.find? fun r => byteAt r 0 == port && byteAt r 1 == parent with
      | some r => hubsAbove rs port n (byteAt r 2) + 1
      | none => 1

/-- Whether record i of TOPOLOGY breaks its rules (R442). -/
def State.topologyBad (s : State) (rs : List (List Byte)) (i : Nat) (r : List Byte) : Bool :=
  let p := byteAt r 0
  let a := byteAt r 1
  let cls := byteAt r 4
  !(p < s.nPorts && 1 ≤ a && a ≤ 62) || (rs.take i).any (fun x => byteAt x 0 == p && byteAt x 1 == a) ||
  !(byteAt r 2 == 0 || rs.any fun x => byteAt x 0 == p && byteAt x 1 == byteAt r 2 && byteAt x 4 == 1) ||
  (cls == 1 && 4 ≤ hubsAbove rs p 5 (byteAt r 2)) || !((1 ≤ cls && cls ≤ 9) || cls == 0xFF) || leAt r 6 2 == 0 || leAt r 10 6 != 0 ||
  (leAt r 16 8 == 0 && !bitOf (byteAt r 5) 1)

/-- Whether a CONTEXTS record breaks its rules; `d` is the dry run's device (R442). -/
def contextBad (d : State) (r : List Byte) : Bool :=
  let c := leAt r 0 2
  let ctl := ctxWord r 0
  let code := d.enableCode c
  2048 ≤ c || leAt r 2 6 != 0 || (ctl &&& ~~~ ((F.pxCtrl_enable 0).mask ||| (F.pxCtrl_gallery 0).mask)) != 0 ||
  (F.pxStreamCfg_ring_enable 0).of (ctxWord r 0x0C) == 1 || ((r.drop 24).take 24).any (· != 0) ||
  (1 ≤ code && code ≤ 3) || (code == 4 && (F.pxCtrl_enable 0).of ctl == 1)

/-- The schedule of a CATALOGUE record. -/
def catRec (r : List Byte) : CatSched := { exp := byteAt r 2, phase := leAt r 4 2, reflex := bitOf (byteAt r 3) 0 }

/-- The codes by which the catalogue refuses the records of CATALOGUE, in order, 7 for one with a byte that must be 0 (R442, R188). -/
def catCodes : List (List Byte) → State → List Nat
  | [], _ => []
  | r :: rs, s =>
    if leAt r 6 2 ≠ 0 then 7 :: catCodes rs s
    else
      let x := s.catInsert (leAt r 0 2) (catRec r)
      x.1 :: catCodes rs x.2.2

/-- Whether a ROUTES record breaks its rules. -/
def routeBad (d : State) (r : List Byte) : Bool :=
  4096 ≤ leAt r 0 2 || leAt r 2 6 != 0 || d.routeCode ((List.range 8).map fun i => leAt r (8 + 4 * i) 4) != 0

/-- Whether record i of GALLERIES breaks its rules. -/
def galleryBad (rs : List (List Byte)) (i : Nat) (r : List Byte) : Bool :=
  !(1 ≤ byteAt r 0 && byteAt r 0 ≤ 15) || leAt r 2 6 != 0 || (rs.take i).any fun x => byteAt x 0 == byteAt r 0

/-- Whether a HOLDS record breaks its rules. -/
def holdBad (d : State) (ctxs : List (List Byte)) (r : List Byte) : Bool :=
  let c := leAt r 0 2
  !(ctxs.any (fun x => leAt x 0 2 == c) && d.pxKind c == 2) || d.pxMax c < leAt r 2 2 || leAt r 4 4 != 0

/-- The first record of a section for which a test holds. -/
def firstBadRec (typ : Nat) (rs : List (List Byte)) (bad : Nat → List Byte → Bool) : Option (Nat × Nat) :=
  (rs.zipIdx.find? fun x => bad x.2 x.1).map fun x => (typ, x.2)

/-- The section and the record of the first record that breaks R441 or R442, the sections in the order of their types. -/
def State.badRecord (s : State) (d : State) (img : List Byte) (cats : List Nat) : Option (Nat × Nat) :=
  let rs := imgRecs img
  ((firstBadRec 1 (rs 1) fun _ r => settingBad r) <|> (firstBadRec 2 (rs 2) (s.topologyBad (rs 2)))) <|>
  ((firstBadRec 3 (rs 3) fun _ r => contextBad d r) <|>
    ((cats.findIdx? fun c => c != 0 && c != 8 && c != 9).map fun i => (4, i))) <|>
  ((firstBadRec 5 (rs 5) fun _ r => routeBad d r) <|>
    ((firstBadRec 6 (rs 6) (galleryBad (rs 6))) <|> (firstBadRec 7 (rs 7) fun _ r => holdBad d (rs 3) r)))

/-- Codes 7 and 8 with section and record. -/
def State.recordCode (s : State) (img : List Byte) : Nat × Nat × Nat :=
  let d := s.dryRun img
  let cats := catCodes (imgRecs img 4) d
  match s.badRecord d img cats with
  | some x => (7, x)
  | none => match cats.findIdx? (· != 0) with
    | some i => (8, 4, i)
    | none => (0, 0, 0)

/-- Codes 3 to 5 of a copy that was read. -/
def State.signedCode (s : State) (img : List Byte) : Nat :=
  if s.partCode img ≠ 0 then 3 else if s.keyCode img ≠ 0 then 4 else signCode img

/-- Codes 3 to 8. -/
def State.imageCode (s : State) (img : List Byte) : Nat × Nat × Nat :=
  if s.signedCode img ≠ 0 then (s.signedCode img, 0, 0) else if dirCode img ≠ 0 then (6, 0, 0) else s.recordCode img

end Sys2Proof.Machine
end

