-- ==== Sys2Proof/Machine/Charter.lean ====
section
/-! DEFINITION. The Charter loader: flash discovery, reading and choosing a copy, applying it, re-application, and the grant of permits
(spec/17_charter_and_startup.md R432 to R450, spec/16_conservator.md R426, R427). -/

namespace Sys2Proof.Machine

/-! ### Reading the flash (R436, R437) -/

/-- The SPI command of a read mode (CH_FLASH.read_mode). -/
def readCmd (mode : Nat) : Nat := [0x03, 0x0B, 0x3B, 0xBB, 0x6B, 0xEB].getD mode 0x03

def State.chWait (s : State) (w : ChWait) : State := { s with ch := { s.ch with wait := w } }

/-- A read of the flash begins: command, address, bytes, dummy clocks, SPI clock; what its end is for. -/
def State.spiRead (s : State) (cmd addr len dummy mhz : Nat) (w : ChWait) : State :=
  ((s.put F.chStatus_reading 1).emit (.flash cmd addr len dummy mhz)).chWait w

/-- The clocks between the address and the data of a read mode, by the Basic Flash Parameter Table: its wait states and mode clocks (R436). -/
def readDummy (t : List Byte) (mode : Nat) : Nat :=
  let of (b : Nat) : Nat := byteAt t b % 32 + byteAt t b / 32
  match mode with
  | 1 => 8
  | 2 => of 12
  | 3 => of 14
  | 4 => of 10
  | 5 => of 8
  | _ => 0

/-- The space of a copy, which is where copy B starts. -/
def State.copySpace (s : State) : Nat := s.get F.chFlash_b_offset * 4096

/-- Where a copy starts. -/
def State.copyAt (s : State) (b : Bool) : Nat := if b then s.copySpace else 0

/-- A read of a copy in the mode discovered. -/
def State.copyRead (s : State) (b : Bool) (off len : Nat) (w : ChWait) : State :=
  let mode := s.get F.chFlash_read_mode
  s.spiRead (readCmd mode) (s.copyAt b + off) len (readDummy s.ch.table mode) (if mode = 0 then 20 else 50) w

/-- The reading of a copy begins with its header. -/
def State.copyBegin (s : State) (b : Bool) : State := s.copyRead b 0 64 (.header b)

/-- Whether the loader reads no copy after this one. -/
def State.lastCopy (s : State) (b : Bool) : Bool := b || s.ch.job == .reapply

/-- The reading of a copy has ended; after the last one the permit is returned (R427). -/
def State.copyRead1 (s : State) (b : Bool) : State :=
  let s1 := s.put F.chStatus_reading 0
  if s1.lastCopy b then s1.permitReturn .charter else s1

/-! ### Flash discovery (R436) -/

/-- What discovery has found: SFDP valid, read mode, density in bytes. The reading of copy A follows (R432 step 5). -/
def State.flashFound (s : State) (ok : Bool) (mode dens : Nat) : State :=
  let s1 := (((s.putB F.chFlash_sfdp_ok ok).put F.chFlash_read_mode mode).put F.chFlash_density_log2 (Nat.log2 dens)).put F.chFlash_b_offset
    (min (dens / 2) (8 * 2 ^ 20) / 4096)
  (s1.put F.chStatus_phase 3).copyBegin false

/-- Without valid SFDP: 0x03 and 16 MiB. -/
def State.flashPlain (s : State) : State := s.flashFound false 0 (16 * 2 ^ 20)

/-- The density in bytes by the Basic Flash Parameter Table. -/
def tableDensity (t : List Byte) : Nat := (if 2 ^ 31 ≤ leAt t 4 4 then 2 ^ (leAt t 4 4 % 2 ^ 31 % 64) else leAt t 4 4 + 1) / 8

/-- Bit i of DWORD 1 of the table: the fast-read modes. -/
def tableMode (t : List Byte) (i : Nat) : Bool := bitOf (leAt t 0 4) i

/-- The best read mode when a quad mode may be used, and when not. -/
def bestMode (t : List Byte) (quad : Bool) : Nat :=
  if quad && tableMode t 21 then 5 else if quad && tableMode t 22 then 4
  else if tableMode t 20 then 3 else if tableMode t 16 then 2 else 1

/-- How the Quad Enable Requirements of the table are met: 0 no QE bit, 1 bit 6 of the status register read by 0x05, 2 bit 1 of the one read by
0x35, 3 in no way the device uses. -/
def quadNeed (t : List Byte) : Nat :=
  if t.length < 60 then 3
  else match bitsOf (leAt t 56 4) 20 3 with
    | 0 => 0
    | 2 => 1
    | 1 => 2
    | 4 => 2
    | 5 => 2
    | 6 => 2
    | _ => 3

/-- The SFDP header and its first parameter header have been read. -/
def State.sfdpHeader (s : State) (d : List Byte) : State :=
  if leAt d 0 4 = 0x50444653 && byteAt d 10 = 1 && 9 ≤ byteAt d 11 then s.spiRead 0x5A (leAt d 12 3) (4 * byteAt d 11) 8 20 .table
  else s.flashPlain

/-- The parameter table has been read: the mode is chosen, after a look at the QE bit where the table asks for one. -/
def State.sfdpTable (s : State) (t : List Byte) : State :=
  let s1 : State := { s with ch := { s.ch with table := t } }
  if !(tableMode t 21 || tableMode t 22) then s1.flashFound true (bestMode t false) (tableDensity t)
  else match quadNeed t with
    | 0 => s1.flashFound true (bestMode t true) (tableDensity t)
    | 1 => s1.spiRead 0x05 0 1 0 20 (.quad false)
    | 2 => s1.spiRead 0x35 0 1 0 20 (.quad true)
    | _ => s1.flashFound true (bestMode t false) (tableDensity t)

/-- A status register has been read. -/
def State.quadSeen (s : State) (sr2 : Bool) (v : Nat) : State :=
  s.flashFound true (bestMode s.ch.table (bitOf v (if sr2 then 1 else 6))) (tableDensity s.ch.table)

/-! ### Applying a copy (R446, R447) -/

/-- The registers whose enable, bit 0, is held for step 8 (R447). -/
def heldEnable (off : Nat) : Bool :=
  (0x20000 ≤ off && off < 0x40000 && off % 0x4000 == R.gpLinkCtrl 0 % 0x4000) || (List.range 4).any (fun m => off == R.spPCtrl m) ||
  off == R.twCtrl

/-- Step 1: one SETTINGS record, as a write by the manager with the exceptions of R447. -/
def State.settingApply (s : State) (r : List Byte) : State :=
  let off := setOff r
  let w := setVal r
  if heldEnable off then s.regWrite 0 off (w &&& 0xFFFFFFFE)
  else if off = R.cnCtrl then s.setReg off (F.cnCtrl_target.ins (plainWord off (s.reg off) w) (s.get F.cnCtrl_target))
  else if off = R.tkFrameRate then
    let s1 := s.regWrite 0 off w
    { s1 with tk := { s1.tk with rateAt := some s1.now } }
  else s.regWrite 0 off w

/-- Step 2: one TOPOLOGY record: its address is Absent and bound (R139, R150). -/
def State.topologyApply (s : State) (rs : List (List Byte)) (r : List Byte) : State :=
  let n := byteAt r 0
  let a := byteAt r 1
  let any := bitOf (byteAt r 5) 1
  let s1 := s.setRegs (R.gpDevId0 n a) [leAt r 6 4, leAt r 16 4, leAt r 20 4, byteAt r 4 * 2 ^ 24]
  let s2 := s1.setRegs (R.gpDevState n a) [hubsAbove rs n 5 (byteAt r 2) * 2 ^ 24 + byteAt r 3 % 16 * 2 ^ 20 + byteAt r 2 * 2 ^ 8 + 1]
  let s3 := s2.modDev n a fun _ => { place := some (byteAt r 2, byteAt r 3), absentAt := s.now, anySerial := any }
  if bitOf (byteAt r 5) 0 then { s3 with ch := { s3.ch with required := s3.ch.required ++ [(n, a)] } } else s3

/-- Step 3: one HOLDS record: the hold slot gets a plain header and the payload. -/
def State.holdApply (s : State) (r : List Byte) : State :=
  let len := leAt r 2 2
  s.setRamBytes (s.holdSlot (leAt r 0 2)) (plainHdr len ++ fit len (r.drop 8))

/-- Step 4: one ROUTES record. -/
def State.routeApply (s : State) (r : List Byte) : State :=
  s.setRoute (leAt r 0 2) ((List.range 8).map fun i => leAt r (8 + 4 * i) 4)

/-- Step 5: the CATALOGUE records, admitted at the rate and with the pw_open that the settings ask for: both are in effect by since. -/
def State.catalogueApply (s : State) (rs : List (List Byte)) : State :=
  let rate := s.rate
  let s1 : State := { s.rateNow with gp := s.gp.map fun g => { g with pwOld := [] } }
  ({ forEach rs s1 fun s r => (s.catInsert (leAt r 0 2) (catRec r)).2.2 with gp := s.gp } : State).put F.tkFrameRate_active rate

/-- Step 6: one GALLERIES record. -/
def State.galleryApply (s : State) (r : List Byte) : State := if bitOf (byteAt r 1) 0 then s.galleryOpen (byteAt r 0) else s

/-- Step 8: the records whose enables were held, with the last of each register: Span ports, root ports ascending, the twin, the power target. -/
def State.heldApply (s : State) (rs : List (List Byte)) : State :=
  let last (off : Nat) : Option (List Byte) := rs.reverse.find? fun r => setOff r == off
  let offs := (List.range 4).map R.spPCtrl ++ (List.range 8).map R.gpLinkCtrl ++ [R.twCtrl, R.cnCtrl]
  forEach offs s fun s off => match last off with
    | some r => s.regWrite 0 off (setVal r)
    | none => s

/-- R446: the steps in their order, as writes by the manager; a change of pw_open acts at the third boundary (R100). -/
def State.imageApply (s : State) (img : List Byte) : State :=
  let rs := imgRecs img
  let s1 := forEach (rs 1) s State.settingApply
  let s3 := forEach (rs 2) s1 fun s r => s.topologyApply (rs 2) r
  let s4 := forEach (rs 7) (forEach (rs 3) s3 State.ctxWrite) State.holdApply
  let s5 := (forEach (rs 5) s4 State.routeApply).catalogueApply (rs 4)
  let s6 := forEach (rs 6) s5 State.galleryApply
  let s7 := forEach (rs 3) s6 fun s r => if (F.pxCtrl_enable 0).of (ctxWord r 0) = 1 then s.pxEnable (leAt r 0 2) else s
  s7.heldApply (rs 1)

/-- The loader has done its work in a mode: step 7 of R432. -/
def State.startDone (s : State) (mode : Nat) : State := (((s.put F.chStatus_mode mode).put F.chStatus_phase 5).chEnd).attachHeld

/-- A copy is applied (R446). -/
def State.copyApply (s : State) (b : Bool) (img : List Byte) : State :=
  let start := s.ch.job == .startup
  let s1 := (if start then s.put F.chStatus_phase 4 else s).imageApply img
  let s2 := ((s1.setReg R.chApplied (BitVec.ofNat 32 (imgSeq img))).put F.chStatus_copy (if b then 2 else 1)).raise F.chEvents_loaded
  s2.startDone (if start then 1 else 2)

/-- No copy is valid (R445, R450). -/
def State.comeBare (s : State) : State := (s.raise F.chEvents_bare).startDone 3

/-- The choice between the copies (R444). -/
def State.copyChoose (s : State) : State :=
  match s.ch.copyA, s.ch.copyB with
  | none, none => s.comeBare
  | some a, none => s.copyApply false a
  | none, some b => s.copyApply true b
  | some a, some b => if newer (imgSeq b) (imgSeq a) then s.copyApply true b else s.copyApply false a

/-! ### The end of a check (R443, R449, R450) -/

/-- CH_COPY_A or CH_COPY_B shows the result of a check: code, section, record. -/
def State.copyShow (s : State) (b : Bool) (r : Nat × Nat × Nat) : State :=
  s.setReg (if b then R.chCopyB else R.chCopyA)
    (BitVec.ofNat 32 (if r.1 = 0 then 2 ^ 31 else r.1 * 2 ^ 24 + r.2.1 % 256 * 2 ^ 16 + r.2.2 % 2 ^ 16))

/-- The re-application of the copy in force (R449). -/
def State.reapply (s : State) (img : List Byte) : State :=
  let ic (off : Nat) : Bool := settingsReg off && ((0xE000 ≤ off && off < 0xF000) || (0x10000 ≤ off && off < 0x20000))
  let s1 := forEach (imgRecs img 6) s State.galleryApply
  let s2 := forEach ((imgRecs img 1).filter fun r => ic (setOff r)) s1 State.settingApply
  ((s2.raise F.chEvents_reapply_done).chEnd).attachHeld

/-- The check of a copy has ended: the next copy is read, or the loader goes on. -/
def State.copyChecked (s : State) (b : Bool) (r : Nat × Nat × Nat) : State :=
  let img := s.ch.image
  if s.ch.job = .reapply then
    (if r.1 = 0 && imgSeq img = (s.reg R.chApplied).toNat then s.reapply img else s.reapplyFailed)
  else
    let s1 := s.copyShow b r
    let ok := if r.1 = 0 then some img else none
    if b then
      let s2 : State := { s1 with ch := { s1.ch with copyB := ok } }
      if s.ch.job = .check then (s2.raise F.chEvents_check_done).chEnd else s2.copyChoose
    else ({ s1 with ch := { s1.ch with copyA := ok } } : State).copyBegin true

/-- CH_SEQ_A or CH_SEQ_B. -/
def State.seqShow (s : State) (b : Bool) (v : Nat) : State :=
  if s.ch.job = .reapply then s else s.setReg (if b then R.chSeqB else R.chSeqA) (BitVec.ofNat 32 v)

/-- The header of a copy has been read (R443 codes 1 and 2). -/
def State.headerRead (s : State) (b : Bool) (h : List Byte) : State :=
  let code := headerCode h s.copySpace
  if code ≠ 0 then ((s.copyRead1 b).seqShow b 0).copyChecked b (code, 0, 0)
  else
    let s1 := s.seqShow b (imgSeq h)
    ({ s1 with ch := { s1.ch with image := h.take 64 } } : State).copyRead b 64 (imgLen h - 64) (.body b)

/-- The rest of a copy has been read; its checks begin. -/
def State.bodyRead (s : State) (b : Bool) (d : List Byte) : State :=
  let img := s.ch.image ++ fit (imgLen s.ch.image - 64) d
  (({ s with ch := { s.ch with image := img } } : State).copyRead1 b).chWait (.verify b)

/-- A read of the flash has ended (R436, R443). -/
def State.flashDone (s : State) (r : FlashRes) : State :=
  match s.ch.wait, r with
  | .sfdp, .data d => s.sfdpHeader (fit 16 d)
  | .sfdp, .none => s.flashPlain
  | .table, .data d => s.sfdpTable d
  | .table, .none => s.flashPlain
  | .quad sr2, .data d => s.quadSeen sr2 (byteAt d 0)
  | .quad sr2, .none => s.quadSeen sr2 0
  | .header b, .data d => s.headerRead b d
  | .header b, .none => s.headerRead b []
  | .body b, .data d => s.bodyRead b d
  | .body b, .none => (s.copyRead1 b).copyChecked b (1, 0, 0)
  | _, _ => s

/-- SIGNATURE_CHECK_DONE (R443): codes 3 to 5, and 6 to 8 but in a re-application. -/
def State.verified (s : State) : State :=
  match s.ch.wait with
  | .verify b =>
    let img := s.ch.image
    s.copyChecked b (if s.ch.job = .reapply then (s.signedCode img, 0, 0) else s.imageCode img)
  | _ => s

/-! ### Grants (R426, R427) -/

/-- The loader's permit is granted: a command or a re-application begins to read. -/
def State.charterGranted (s : State) : State :=
  match s.ch.job with
  | .check => s.copyBegin false
  | .load => if s.mode = 3 then s.unapply.copyBegin false else (s.permitReturn .charter).chEnd
  | .reapply => s.copyBegin (s.get F.chStatus_copy == 2)
  | _ => s.permitReturn .charter

/-- A step-up is granted: the change begins, and its charge is a standing one from then on (R425, R427). -/
def State.stepUpGranted (s : State) : State :=
  let s1 := s.permitReturn .stepUp
  if s1.flag F.cnStatus_avs_halted then s1 else s1.supplyGo .stepUp (min 880 (s1.chargedMv + 5))

/-- What the holder of a permit does with it. -/
def State.permitUse (s : State) (u : PermitFor) : State :=
  match u with
  | .training n => if s.link n = 1 then s.trainingGranted n else s.permitReturn u
  | .spanTraining m => if s.spanState m = 1 then s.spanTrainGranted m else s.permitReturn u
  | .sweep n a => s.sweepGranted n a
  | .spanSweep m => s.spanSweepGranted m
  | .scrub => s.modCn fun c => { c with scrubbing := true }
  | .discovery => s.discGranted
  | .charter => s.charterGranted
  | .stepUp => s.stepUpGranted

/-- Whether a request fits the account. -/
def State.permitFits (s : State) (p : Permit) : Bool := s.standing + s.permitsHeld + p.cost ≤ s.allottable

/-- The request at the head is granted when it fits (R426). -/
def State.permitGrant (s : State) : State :=
  match s.cn.queue with
  | [] => s
  | p :: rest =>
    if !s.asleep && s.permitFits p then
      ((s.modCn fun c => { c with queue := headAt s.now rest, held := c.held ++ [p] }).bump F.cnPermitCnt_granted).permitUse p.use
    else s

/-! ### The commands -/

/-- PERMIT_GRANT (R426). -/
def execPermitGrant (s : State) : Host.Outcome State Fault Refusal := act s fun s => s.permitGrant

/-- SRAM_CLEAR_DONE (R432 step 3). -/
def execSramClearDone (s : State) : Host.Outcome State Fault Refusal :=
  act s fun s => if s.phase = 1 && s.ch.job = .startup then (s.sramClear true).sfdpBegin else s

/-- FLASH_READ_DONE (R436, R443). -/
def execFlashReadDone (r : FlashRes) (s : State) : Host.Outcome State Fault Refusal := act s fun s => s.flashDone r

/-- SIGNATURE_CHECK_DONE (R443). -/
def execSignatureCheckDone (s : State) : Host.Outcome State Fault Refusal := act s fun s => s.verified

/-- CHARTER_REAPPLY (R449): the loader asks for its permit. -/
def execCharterReapply (s : State) : Host.Outcome State Fault Refusal :=
  act s fun s => if s.ch.job = .reapply && s.ch.wait = .none && s.ch.refusals = 0 then s.chAsk else s

/-- REAPPLY_RETRY (R449): 100 ms after a refusal. -/
def execReapplyRetry (s : State) : Host.Outcome State Fault Refusal :=
  act s fun s => if s.ch.job = .reapply && s.ch.wait = .none && 1 ≤ s.ch.refusals then s.chAsk else s

end Sys2Proof.Machine
end

