-- ==== Sys2Proof/Machine/Jtag.lean ====
section
/-! DEFINITION. The test access port and the one-time fuses (spec/19_electrical_and_package.md R478 to R480). Each command is one instruction
loaded and its data register shifted once. -/

namespace Sys2Proof.Machine

/-- The bits of a number, least significant first. -/
def lsbBits (n x : Nat) : List Bool := (List.range n).map (bitOf x)

/-- The levels that the device drives on its output balls (R61, R89, R356, R381, R402, R414, R417). -/
def State.pinLevels (s : State) : List (String × Bool) :=
  [("FAULT_N", !s.flag F.fiFault_active), ("PPS_OUT", s.tk.ppsOutHigh), ("TAKE_OUT", s.rg.takeOut), ("CHAIN_OUT", true), ("REFOSC_EN", s.cn.oscOn),
    ("WAKE_N", !s.cn.wakeN)] ++ s.ports.filterMap fun n => (s.txDis n).map fun l => (sfpTxDis n, l)

/-- An instruction of the port is selected. When it gives the balls back, they take the device's own levels again. -/
def State.tapSelect (s : State) (code : Nat) : State :=
  let s1 : State := { s with jtag := { s.jtag with ir := code } }
  if s.jtag.holds && !s1.jtag.holds then forEach s1.pinLevels s1 fun s p => s.emit (.pin p.1 p.2) else s1

/-- The levels that the cells give the balls that the device can drive. -/
def State.cellLevels (s : State) : List (String × Bool) :=
  (scanBalls.zip s.jtag.cells).filterMap fun p => if p.1.2 then some (p.1.1, p.2) else none

/-- The chain is shifted once: what was captured goes out, what comes in is in the cells (R478). -/
def State.scan (s : State) (sample pre : List Bool) : State :=
  let s1 := s.emit (.tdo sample)
  { s1 with jtag := { s1.jtag with cells := (List.range scanBalls.length).map fun i => pre.getD i false } }

/-- The one bit of the bypass register stands between TDI and TDO: a 0 goes out first, then what comes in, one place later. -/
def bypassBits (tdi : List Bool) : List Bool := (false :: tdi).take tdi.length

/-- The codes that R478 defines. -/
def tapCodes : List Nat := [0x00, 0x01, 0x02, 0x03, 0x04, 0x20, 0x21, 0x22]

/-- The IDCODE register: revision, part, manufacturer code, 1. -/
def State.idcode (s : State) : Nat :=
  (s.peek R.idRev).toNat % 16 * 2 ^ 28 + (s.peek R.idPart).toNat * 2 ^ 12 + Config.manufacturer.toNat * 2 + 1

/-- The 259 bits that FUSE_READ returns (R479). -/
def fuseBits (f : Fuses) : List Bool :=
  lsbBits 256 f.keyHash ++ [f.keyLock, f.keyHash != 0, f.burnFailed]

/-- A burn (R480): of the 257 bits loaded, the hash only into empty fuses, key_lock only with a hash; out of range it burns nothing. -/
def fuseBurn (f : Fuses) (loaded : Nat) (inRange : Bool) : Fuses :=
  if !inRange then { f with burnFailed := true }
  else
    let h := if f.keyHash = 0 then loaded % 2 ^ 256 else f.keyHash
    { f with keyHash := h, keyLock := f.keyLock || (bitOf loaded 256 && h != 0) }

/-! ### The commands -/

/-- EXTEST: the cells drive the balls; the levels at the balls are captured and shifted out while new cells are shifted in, which drive them then. -/
def execExtest (sample pre : List Bool) (s : State) : Host.Outcome State Fault Refusal :=
  act s fun s =>
    let s0 := s.tapSelect 0x00
    let s1 := (s0.emit (.cells s0.cellLevels)).scan sample pre
    s1.emit (.cells s1.cellLevels)

/-- IDCODE. -/
def execIdcode (s : State) : Host.Outcome State Fault Refusal := act s fun s => (s.tapSelect 0x01).emit (.tdo (lsbBits 32 s.idcode))

/-- SAMPLE/PRELOAD: the levels sampled are shifted out while the cells are loaded. -/
def execSamplePreload (sample pre : List Bool) (s : State) : Host.Outcome State Fault Refusal :=
  act s fun s => (s.tapSelect 0x02).scan sample pre

/-- HIGHZ: no output is driven; the bypass register is shifted. -/
def execHighz (tdi : List Bool) (s : State) : Host.Outcome State Fault Refusal :=
  act s fun s => ((s.tapSelect 0x03).emit .highz).emit (.tdo (bypassBits tdi))

/-- CLAMP: the outputs hold what the chain gives them; the bypass register is shifted. -/
def execClamp (tdi : List Bool) (s : State) : Host.Outcome State Fault Refusal :=
  act s fun s =>
    let s1 := s.tapSelect 0x04
    (s1.emit (.cells s1.cellLevels)).emit (.tdo (bypassBits tdi))

/-- BYPASS, by 0xFF or any code that R478 does not define. -/
def execBypass (code : BitVec 8) (tdi : List Bool) (s : State) : Host.Outcome State Fault Refusal :=
  act s fun s => if tapCodes.contains code.toNat then s else (s.tapSelect 0xFF).emit (.tdo (bypassBits tdi))

/-- TAP_RESET: IDCODE is selected. -/
def execTapReset (s : State) : Host.Outcome State Fault Refusal := act s fun s => s.tapSelect 0x01

/-- FUSE_LOAD: 257 bits are shifted in. -/
def execFuseLoad (bits : BitVec 257) (s : State) : Host.Outcome State Fault Refusal :=
  act s fun s =>
    let s1 := s.tapSelect 0x20
    { s1 with jtag := { s1.jtag with fuse := bits.toNat } }

/-- FUSE_BURN: with VFUSE in range or not. ID_FUSE shows the new values after the next cold reset. -/
def execFuseBurn (vfuse : Bool) (s : State) : Host.Outcome State Fault Refusal :=
  act s fun s => { s.tapSelect 0x21 with fuses := fuseBurn s.fuses s.jtag.fuse vfuse }

/-- FUSE_READ. -/
def execFuseRead (s : State) : Host.Outcome State Fault Refusal := act s fun s => (s.tapSelect 0x22).emit (.tdo (fuseBits s.fuses))

end Sys2Proof.Machine
end

