-- ==== Sys2Proof/Machine/Dispatch.lean ====
section
/-! DEFINITION. The dispatch: one arm for each command, each a direct call of its meaning. -/

namespace Sys2Proof.Machine

/-- What a command does to everything but the queue. -/
def exec (i : Instr) (s : State) : Host.Outcome State Fault Refusal :=
  match i with
  | .coldReset power chainLow twinHigh => Sys2Proof.Machine.execColdReset power chainLow twinHigh s
  | .perstNAssert => Sys2Proof.Machine.execPerstNAssert s
  | .softReset q w => Sys2Proof.Machine.execSoftReset q w s
  | .functionLevelReset => Sys2Proof.Machine.execFunctionLevelReset s
  | .alwaysOnSupplyLoss => Sys2Proof.Machine.execAlwaysOnSupplyLoss s
  | .sramClearDone => Sys2Proof.Machine.execSramClearDone s
  | .flashReadDone r => Sys2Proof.Machine.execFlashReadDone r s
  | .signatureCheckDone => Sys2Proof.Machine.execSignatureCheckDone s
  | .charterCheck q w => Sys2Proof.Machine.execCharterCheck q w s
  | .charterLoad q w => Sys2Proof.Machine.execCharterLoad q w s
  | .charterReapply => Sys2Proof.Machine.execCharterReapply s
  | .reapplyRetry => Sys2Proof.Machine.execReapplyRetry s
  | .frameBoundary e => Sys2Proof.Machine.execFrameBoundary e s
  | .planBuildDone n => Sys2Proof.Machine.execPlanBuildDone n s
  | .planCutoff => Sys2Proof.Machine.execPlanCutoff s
  | .effectFrame => Sys2Proof.Machine.execEffectFrame s
  | .periodicIssue n => Sys2Proof.Machine.execPeriodicIssue n s
  | .bulkPacketBoundary n => Sys2Proof.Machine.execBulkPacketBoundary n s
  | .ref10Loss => Sys2Proof.Machine.execRef10Loss s
  | .ref10Return => Sys2Proof.Machine.execRef10Return s
  | .ppsEdge t rise => Sys2Proof.Machine.execPpsEdge t rise s
  | .irigbFrame f => Sys2Proof.Machine.execIrigbFrame f s
  | .todSentence b t0 t1 => Sys2Proof.Machine.execTodSentence b t0 t1 s
  | .sourceLossTimeout c => Sys2Proof.Machine.execSourceLossTimeout c s
  | .stepApply => Sys2Proof.Machine.execStepApply s
  | .steppedEnd => Sys2Proof.Machine.execSteppedEnd s
  | .holdoverLimit => Sys2Proof.Machine.execHoldoverLimit s
  | .alarmFire k => Sys2Proof.Machine.execAlarmFire k s
  | .alarmLoad k q w => Sys2Proof.Machine.execAlarmLoad k q w s
  | .ppsOutPulse => Sys2Proof.Machine.execPpsOutPulse s
  | .frameRateRequest q w => Sys2Proof.Machine.execFrameRateRequest q w s
  | .frameRateChange => Sys2Proof.Machine.execFrameRateChange s
  | .takeInEdge t rise => Sys2Proof.Machine.execTakeInEdge t rise s
  | .recordWriteDone => Sys2Proof.Machine.execRecordWriteDone s
  | .softwareTake q w => Sys2Proof.Machine.execSoftwareTake q w s
  | .vitrineRelease q w => Sys2Proof.Machine.execVitrineRelease q w s
  | .storeClear q w => Sys2Proof.Machine.execStoreClear q w s
  | .rgCntClear q w => Sys2Proof.Machine.execRgCntClear q w s
  | .linkEnable n q w => Sys2Proof.Machine.execLinkEnable n q w s
  | .linkDisable n q w => Sys2Proof.Machine.execLinkDisable n q w s
  | .retrain n q w => Sys2Proof.Machine.execRetrain n q w s
  | .cutRelease n q w => Sys2Proof.Machine.execCutRelease n q w s
  | .partnerBeacon p t commas => Sys2Proof.Machine.execPartnerBeacon p t commas s
  | .permitGrant => Sys2Proof.Machine.execPermitGrant s
  | .permitWaitTimeout => Sys2Proof.Machine.execPermitWaitTimeout s
  | .trainingPermitRetry p => Sys2Proof.Machine.execTrainingPermitRetry p s
  | .trainingComplete p role partner pport => Sys2Proof.Machine.execTrainingComplete p role partner pport s
  | .trainingTimeout p => Sys2Proof.Machine.execTrainingTimeout p s
  | .fastTrainingTimeout p => Sys2Proof.Machine.execFastTrainingTimeout p s
  | .linkHit p => Sys2Proof.Machine.execLinkHit p s
  | .hitTimeout p => Sys2Proof.Machine.execHitTimeout p s
  | .sfpLosChange n los abs => Sys2Proof.Machine.execSfpLosChange n los abs s
  | .responseReceive n x => Sys2Proof.Machine.execResponseReceive n x s
  | .flushReadDone c r => Sys2Proof.Machine.execFlushReadDone c r s
  | .responseTimeout n tag => Sys2Proof.Machine.execResponseTimeout n tag s
  | .controlTimeout n addr => Sys2Proof.Machine.execControlTimeout n addr s
  | .babbleObservation n addr => Sys2Proof.Machine.execBabbleObservation n addr s
  | .gpCutRelease n q w => Sys2Proof.Machine.execGpCutRelease n q w s
  | .rangingEcho n addr rtt rd ru tt => Sys2Proof.Machine.execRangingEcho n addr rtt rd ru tt s
  | .echoLost n addr => Sys2Proof.Machine.execEchoLost n addr s
  | .maintenanceProbeDue n addr => Sys2Proof.Machine.execMaintenanceProbeDue n addr s
  | .sweepRetry n addr => Sys2Proof.Machine.execSweepRetry n addr s
  | .attachWaitDone n => Sys2Proof.Machine.execAttachWaitDone n s
  | .attachRetry n => Sys2Proof.Machine.execAttachRetry n s
  | .portDisableEnd n => Sys2Proof.Machine.execPortDisableEnd n s
  | .treeSuspend n q w => Sys2Proof.Machine.execTreeSuspend n q w s
  | .suspendAtBoundary n => Sys2Proof.Machine.execSuspendAtBoundary n s
  | .susReceived n => Sys2Proof.Machine.execSusReceived n s
  | .susTimeout n => Sys2Proof.Machine.execSusTimeout n s
  | .treeResume n q w => Sys2Proof.Machine.execTreeResume n q w s
  | .resumeFst n => Sys2Proof.Machine.execResumeFst n s
  | .remoteWakeBeacon n => Sys2Proof.Machine.execRemoteWakeBeacon n s
  | .busReset n q w => Sys2Proof.Machine.execBusReset n q w s
  | .busResetRetrain n => Sys2Proof.Machine.execBusResetRetrain n s
  | .busResetTimeout n => Sys2Proof.Machine.execBusResetTimeout n s
  | .gpAccUnbind n q w => Sys2Proof.Machine.execGpAccUnbind n q w s
  | .gpAccRetry n q w => Sys2Proof.Machine.execGpAccRetry n q w s
  | .cuAccPop q w => Sys2Proof.Machine.execCuAccPop q w s
  | .gpCntClear n q w => Sys2Proof.Machine.execGpCntClear n q w s
  | .gpXactClear n q w => Sys2Proof.Machine.execGpXactClear n q w s
  | .contextEnable c q w => Sys2Proof.Machine.execContextEnable c q w s
  | .contextDisable c q w => Sys2Proof.Machine.execContextDisable c q w s
  | .clearHalt c q w => Sys2Proof.Machine.execClearHalt c q w s
  | .contextRelease c q w => Sys2Proof.Machine.execContextRelease c q w s
  | .pxCntClear c q w => Sys2Proof.Machine.execPxCntClear c q w s
  | .outRingReadDone c r => Sys2Proof.Machine.execOutRingReadDone c r s
  | .swIndexReadDone c r => Sys2Proof.Machine.execSwIndexReadDone c r s
  | .rateCheck q w => Sys2Proof.Machine.execRateCheck q w s
  | .rateCheckDone => Sys2Proof.Machine.execRateCheckDone s
  | .pwOpenEffect => Sys2Proof.Machine.execPwOpenEffect s
  | .admissionConfigWrite n q w => Sys2Proof.Machine.execAdmissionConfigWrite n q w s
  | .ageingPromotion n g r idx => Sys2Proof.Machine.execAgeingPromotion n g r idx s
  | .cuClear q w => Sys2Proof.Machine.execCuClear q w s
  | .ringPoll g r => Sys2Proof.Machine.execRingPoll g r s
  | .workEntryRead g r d => Sys2Proof.Machine.execWorkEntryRead g r d s
  | .bulkIn g r idx => Sys2Proof.Machine.execBulkIn g r idx s
  | .bulkOut g r idx => Sys2Proof.Machine.execBulkOut g r idx s
  | .control g r idx => Sys2Proof.Machine.execControl g r idx s
  | .catInsert g r idx => Sys2Proof.Machine.execCatInsert g r idx s
  | .catRemove g r idx => Sys2Proof.Machine.execCatRemove g r idx s
  | .catModify g r idx => Sys2Proof.Machine.execCatModify g r idx s
  | .mark g r idx => Sys2Proof.Machine.execMark g r idx s
  | .ringEnable g r q w => Sys2Proof.Machine.execRingEnable g r q w s
  | .ringDisable g r q w => Sys2Proof.Machine.execRingDisable g r q w s
  | .ringStopDone g r => Sys2Proof.Machine.execRingStopDone g r s
  | .eventRingEnable g q w => Sys2Proof.Machine.execEventRingEnable g q w s
  | .eventRingDisable g q w => Sys2Proof.Machine.execEventRingDisable g q w s
  | .eventTailReadDone g d => Sys2Proof.Machine.execEventTailReadDone g d s
  | .eventHeadReadDone g d => Sys2Proof.Machine.execEventHeadReadDone g d s
  | .moverGo c q w => Sys2Proof.Machine.execMoverGo c q w s
  | .moverStop c q w => Sys2Proof.Machine.execMoverStop c q w s
  | .moverOwner c q w => Sys2Proof.Machine.execMoverOwner c q w s
  | .mvCntClear q w => Sys2Proof.Machine.execMvCntClear q w s
  | .descriptorReadDone c => Sys2Proof.Machine.execDescriptorReadDone c s
  | .moverHostReadDone c d => Sys2Proof.Machine.execMoverHostReadDone c d s
  | .moverReadbackDone c d => Sys2Proof.Machine.execMoverReadbackDone c d s
  | .routeWrite q w => Sys2Proof.Machine.execRouteWrite q w s
  | .routeRead q w => Sys2Proof.Machine.execRouteRead q w s
  | .routeClear q w => Sys2Proof.Machine.execRouteClear q w s
  | .coCntClear q w => Sys2Proof.Machine.execCoCntClear q w s
  | .coPwerrClear q w => Sys2Proof.Machine.execCoPwerrClear q w s
  | .reflexMessage m => Sys2Proof.Machine.execReflexMessage m s
  | .forwardMessage m => Sys2Proof.Machine.execForwardMessage m s
  | .takeMessage m => Sys2Proof.Machine.execTakeMessage m s
  | .writeErrorMessage m => Sys2Proof.Machine.execWriteErrorMessage m s
  | .remoteSend g r idx => Sys2Proof.Machine.execRemoteSend g r idx s
  | .remoteRequest m => Sys2Proof.Machine.execRemoteRequest m s
  | .remoteResponse m => Sys2Proof.Machine.execRemoteResponse m s
  | .retryBackoffExpire tag => Sys2Proof.Machine.execRetryBackoffExpire tag s
  | .remoteTimeout tag => Sys2Proof.Machine.execRemoteTimeout tag s
  | .ticketDiscard k => Sys2Proof.Machine.execTicketDiscard k s
  | .hostAttach q w => Sys2Proof.Machine.execHostAttach q w s
  | .hostDetach q w => Sys2Proof.Machine.execHostDetach q w s
  | .detachDone => Sys2Proof.Machine.execDetachDone s
  | .galleryReset g q w => Sys2Proof.Machine.execGalleryReset g q w s
  | .galleryOpen g q w => Sys2Proof.Machine.execGalleryOpen g q w s
  | .galleryClose g q w => Sys2Proof.Machine.execGalleryClose g q w s
  | .galleryResetDone g => Sys2Proof.Machine.execGalleryResetDone g s
  | .pasidWrite g q w => Sys2Proof.Machine.execPasidWrite g q w s
  | .gaDbIn g q w => Sys2Proof.Machine.execGaDbIn g q w s
  | .gaDbOut g q w => Sys2Proof.Machine.execGaDbOut g q w s
  | .gaViolClear q w => Sys2Proof.Machine.execGaViolClear q w s
  | .bar2Write q off d => Sys2Proof.Machine.execBar2Write q off d s
  | .bar2Read q off len flip => Sys2Proof.Machine.execBar2Read q off len flip s
  | .pcieConfigWrite x => Sys2Proof.Machine.execPcieConfigWrite x s
  | .msixUnmask v q w => Sys2Proof.Machine.execMsixUnmask v q w s
  | .icClaim g q => Sys2Proof.Machine.execIcClaim g q s
  | .icComplete g q w => Sys2Proof.Machine.execIcComplete g q w s
  | .icSet g q w => Sys2Proof.Machine.execIcSet g q w s
  | .icShSet q w => Sys2Proof.Machine.execIcShSet q w s
  | .icEnableWrite g k q w => Sys2Proof.Machine.execIcEnableWrite g k q w s
  | .icShTargetWrite k q w => Sys2Proof.Machine.execIcShTargetWrite k q w s
  | .coalesceTimeout g k => Sys2Proof.Machine.execCoalesceTimeout g k s
  | .fallbackTimeout k => Sys2Proof.Machine.execFallbackTimeout k s
  | .spanEnable m q w => Sys2Proof.Machine.execSpanEnable m q w s
  | .spanRetrain m q w => Sys2Proof.Machine.execSpanRetrain m q w s
  | .spanPacketReceive m x => Sys2Proof.Machine.execSpanPacketReceive m x s
  | .linkPacket m x => Sys2Proof.Machine.execLinkPacket m x s
  | .spCntClear q w => Sys2Proof.Machine.execSpCntClear q w s
  | .spPmCntClear m q w => Sys2Proof.Machine.execSpPmCntClear m q w s
  | .discover q w => Sys2Proof.Machine.execDiscover q w s
  | .discRecord m r => Sys2Proof.Machine.execDiscRecord m r s
  | .discoveryPermitRetry => Sys2Proof.Machine.execDiscoveryPermitRetry s
  | .discoverySettled => Sys2Proof.Machine.execDiscoverySettled s
  | .chainPulse => Sys2Proof.Machine.execChainPulse s
  | .chainIdTake => Sys2Proof.Machine.execChainIdTake s
  | .chainTrain => Sys2Proof.Machine.execChainTrain s
  | .chainTimeout => Sys2Proof.Machine.execChainTimeout s
  | .timeSend => Sys2Proof.Machine.execTimeSend s
  | .timePacket m => Sys2Proof.Machine.execTimePacket m s
  | .masterChange => Sys2Proof.Machine.execMasterChange s
  | .frameRenumber => Sys2Proof.Machine.execFrameRenumber s
  | .spanRangingEcho m rtt tt => Sys2Proof.Machine.execSpanRangingEcho m rtt tt s
  | .twinEnable q w => Sys2Proof.Machine.execTwinEnable q w s
  | .twinYield q w => Sys2Proof.Machine.execTwinYield q w s
  | .yieldEffect => Sys2Proof.Machine.execYieldEffect s
  | .heartbeatSend => Sys2Proof.Machine.execHeartbeatSend s
  | .heartbeatReceive maps => Sys2Proof.Machine.execHeartbeatReceive maps s
  | .twinTakeover => Sys2Proof.Machine.execTwinTakeover s
  | .soloWaitExpire => Sys2Proof.Machine.execSoloWaitExpire s
  | .mirrorMessage => Sys2Proof.Machine.execMirrorMessage s
  | .twClear q w => Sys2Proof.Machine.execTwClear q w s
  | .fiUnlock q w => Sys2Proof.Machine.execFiUnlock q w s
  | .injectionArm k q w => Sys2Proof.Machine.execInjectionArm k q w s
  | .handshakeStall blk ring => Sys2Proof.Machine.execHandshakeStall blk ring s
  | .fiFaultClear q w => Sys2Proof.Machine.execFiFaultClear q w s
  | .fiClear q w => Sys2Proof.Machine.execFiClear q w s
  | .fiClearFirst q w => Sys2Proof.Machine.execFiClearFirst q w s
  | .fiSummaryClear q w => Sys2Proof.Machine.execFiSummaryClear q w s
  | .scrubInterval => Sys2Proof.Machine.execScrubInterval s
  | .scrubPassDone e => Sys2Proof.Machine.execScrubPassDone e s
  | .powerTarget q w => Sys2Proof.Machine.execPowerTarget q w s
  | .entryStepDone => Sys2Proof.Machine.execEntryStepDone s
  | .entryTimeout => Sys2Proof.Machine.execEntryTimeout s
  | .wakeSource x => Sys2Proof.Machine.execWakeSource x s
  | .oscillatorReady => Sys2Proof.Machine.execOscillatorReady s
  | .oscillatorTimeout => Sys2Proof.Machine.execOscillatorTimeout s
  | .pmbusAck => Sys2Proof.Machine.execPmbusAck s
  | .pmbusCommandFail cmd => Sys2Proof.Machine.execPmbusCommandFail cmd s
  | .pmbusRetry => Sys2Proof.Machine.execPmbusRetry s
  | .pmbusStatusPoll sw pg => Sys2Proof.Machine.execPmbusStatusPoll sw pg s
  | .powerGoodTimeout => Sys2Proof.Machine.execPowerGoodTimeout s
  | .aonStatusRead ok => Sys2Proof.Machine.execAonStatusRead ok s
  | .paceSample p => Sys2Proof.Machine.execPaceSample p s
  | .avsPeriod => Sys2Proof.Machine.execAvsPeriod s
  | .avsConfigWrite q w => Sys2Proof.Machine.execAvsConfigWrite q w s
  | .cnWakeFaultClear q w => Sys2Proof.Machine.execCnWakeFaultClear q w s
  | .cnCntClear q w => Sys2Proof.Machine.execCnCntClear q w s
  | .extest sample pre => Sys2Proof.Machine.execExtest sample pre s
  | .idcode => Sys2Proof.Machine.execIdcode s
  | .samplePreload sample pre => Sys2Proof.Machine.execSamplePreload sample pre s
  | .highz tdi => Sys2Proof.Machine.execHighz tdi s
  | .clamp tdi => Sys2Proof.Machine.execClamp tdi s
  | .bypass code tdi => Sys2Proof.Machine.execBypass code tdi s
  | .tapReset => Sys2Proof.Machine.execTapReset s
  | .fuseLoad bits => Sys2Proof.Machine.execFuseLoad bits s
  | .fuseBurn vfuse => Sys2Proof.Machine.execFuseBurn vfuse s
  | .fuseRead => Sys2Proof.Machine.execFuseRead s
  | .registerWrite q off d => Sys2Proof.Machine.execRegisterWrite q off d s
  | .bar0Read q off len flip => Sys2Proof.Machine.execBar0Read q off len flip s
  | .fragmentTableReadDone g r idx d => Sys2Proof.Machine.execFragmentTableReadDone g r idx d s
  | .hostReadTimeout x => Sys2Proof.Machine.execHostReadTimeout x s
  | .rangingPermitRetry p addr => Sys2Proof.Machine.execRangingPermitRetry p addr s
  | .spanMaintenanceProbe m => Sys2Proof.Machine.execSpanMaintenanceProbe m s
  | .partnerBeaconLoss p => Sys2Proof.Machine.execPartnerBeaconLoss p s
  | .pmeTurnOff => Sys2Proof.Machine.execPmeTurnOff s
  | .pcieLinkStateChange l => Sys2Proof.Machine.execPcieLinkStateChange l s
  | .perstNRelease => Sys2Proof.Machine.execPerstNRelease s
  | .spanPacketBoundary m => Sys2Proof.Machine.execSpanPacketBoundary m s
  | .takeOutPulseEnd => Sys2Proof.Machine.execTakeOutPulseEnd s
  | .ppsOutPulseEnd => Sys2Proof.Machine.execPpsOutPulseEnd s

end Sys2Proof.Machine
end

