-- ==== Sys2Proof/Safety.lean ====
section
/-! DEFINITION. What counts as a sound state, what a step must keep, and what each command may change. -/

namespace Sys2Proof.Machine

/-- The sparse tables of the registers and of the SRAM are in their canonical form: keys strictly rising, no entry that an unlisted key
stands for. -/
def State.memOk (s : State) : Bool := Tab.wf resetWord s.regs && Tab.wf (fun _ => (0 : Byte)) s.sram

/-- The numbers of the units: eight root ports, eight Curator ports, sixteen galleries, eight channels, four Span ports, four sources, four
alarms. -/
def sizesOf (gp cu ga mv sp src cmp : Nat) : Bool :=
  gp == 8 && cu == 8 && ga == 16 && mv == 8 && sp == 4 && src == 4 && cmp == 4

/-- Every list that holds the units of one kind has as many entries as the VX-4880 has units. -/
@[reducible] def State.sizesOk (s : State) : Bool :=
  sizesOf s.gp.length s.cu.length s.ga.length s.mv.length s.sp.ports.length s.tk.srcs.length s.tk.cmp.length

/-- The device is powered and its core runs: it is in Open or Dimmed (R408). -/
@[reducible] def State.Awake (s : State) : Prop := s.off = false ∧ s.power < 2

/-- A request that acts as the manager's (R311, R312): the core runs, a host is attached, and the request carries no PASID or gallery 0's. -/
@[reducible] def State.Manages (s : State) (q : Req) : Prop := s.Awake ∧ s.hosted = true ∧ s.managerReq q = true

/-- A run is safe as long as every step answers a next state. -/
def Safe (s : State) : Prop := ∃ t, step s = .next t

/-! ### What a command may change

The kinds of state that a frame speaks of. What settling after any command may touch stands apart: what was sent, the counter of the free values, the
request lines and instances of the interrupt controller, the latch, the Span engines, the Conservator's notes of its budget and of a sleep, the events
and status that show
them (CN_EVENTS, CH_EVENTS, SP_FAB_STATUS, the event and latch registers of the Registrar), and the MSI-X pending bits. -/

/-- A kind of state. -/
inductive Kind where
  /-- The part and the Off state. -/
  | part
  /-- Captured upper halves (R15). -/
  | captures
  /-- Buffer memory (R24). -/
  | sram
  /-- The time keeper and its registers, the frame number. -/
  | time
  /-- The fault block and its registers. -/
  | faults
  /-- The registers of the Conservator but its events. -/
  | power
  /-- Configuration space and the PCI Express link. -/
  | pcie
  /-- The engines of the root ports. -/
  | ports
  /-- The devices and their sequence bits. -/
  | devices
  /-- The accession queue. -/
  | accession
  /-- The pipe contexts beside their registers. -/
  | contexts
  /-- The catalogue. -/
  | catalogue
  /-- The plans of the Curator. -/
  | plans
  /-- The rings and event rings. -/
  | galleries
  /-- The work entries. -/
  | work
  /-- The channels of the movers. -/
  | movers
  /-- The twin. -/
  | twin
  /-- The Courier's routes, tickets and tags. -/
  | courier
  /-- The Charter loader and its registers but its events. -/
  | loader
  /-- The fuses. -/
  | fuses
  /-- The test access port. -/
  | testAccess
  /-- The identity block and the MSI-X table. -/
  | ident
  /-- The registers of the Registrar but its events and its latch. -/
  | registrar
  deriving DecidableEq, Repr

/-- Two states agree in a kind of state. -/
def Kind.same (s t : State) : Kind → Prop
  | .part => t.part = s.part ∧ t.off = s.off
  | .captures => t.caps = s.caps
  | .sram => ∀ a, t.ram a = s.ram a
  | .time => t.tk = s.tk ∧ ∀ off, 0x1000 ≤ off → off < 0x2000 → t.reg off = s.reg off
  | .faults => t.fi = s.fi ∧ ∀ off, 0x4000 ≤ off → off < 0x5000 → t.reg off = s.reg off
  | .power => ∀ off, 0x2000 ≤ off → off < 0x3000 → off ≠ R.cnEvents → t.reg off = s.reg off
  | .pcie => t.pci = s.pci
  | .ports => t.gp = s.gp
  | .devices => t.devs = s.devs ∧ t.seqs = s.seqs
  | .accession => t.acc = s.acc
  | .contexts => t.px = s.px
  | .catalogue => t.cat = s.cat
  | .plans => t.cu = s.cu ∧ t.cutoff = s.cutoff ∧ t.built = s.built
  | .galleries => t.ga = s.ga ∧ t.owed = s.owed
  | .work => t.work = s.work
  | .movers => t.mv = s.mv ∧ t.mvLast = s.mvLast
  | .twin => t.tw = s.tw
  | .courier => t.co = s.co
  | .loader => t.ch = s.ch ∧ ∀ off, 0x3000 ≤ off → off < 0x4000 → off ≠ R.chEvents → t.reg off = s.reg off
  | .fuses => t.fuses = s.fuses
  | .testAccess => t.jtag = s.jtag
  | .ident => ∀ off, off < 0x1000 → off ≠ 0xC00 → t.reg off = s.reg off
  | .registrar => ∀ off, 0x5000 ≤ off → off < 0x6000 →
    [R.rgEvents, R.rgStatus, R.rgMissed, R.rgLastTake, R.rgLastTakeLo, R.rgLastTakeHi].contains off = false → t.reg off = s.reg off

/-- Every kind but those given. -/
def Kind.allBut (l : List Kind) : List Kind :=
  [.part, .captures, .sram, .time, .faults, .power, .pcie, .ports, .devices,
    .accession, .contexts, .catalogue, .plans, .galleries, .work, .movers, .twin, .courier, .loader,
    .fuses, .testAccess, .ident, .registrar].filter fun k => !l.contains k

/-- The kinds of state that a command may change. -/
def mayChange : Instr → List Kind
  | .rateCheckDone | .takeMessage _ | .writeErrorMessage _ | .discRecord _ _ | .chainPulse | .chainIdTake | .chainTrain
  | .chainTimeout =>
    []
  | .ageingPromotion _ _ _ _ =>
    [.work]
  | .extest _ _ | .idcode | .samplePreload _ _ | .highz _ | .clamp _ | .bypass _ _ | .tapReset | .fuseLoad _ | .fuseRead =>
    [.testAccess]
  | .fastTrainingTimeout _ | .maintenanceProbeDue _ _ | .attachWaitDone _ | .portDisableEnd _ | .suspendAtBoundary _
  | .partnerBeaconLoss _ =>
    [.ports]
  | .handshakeStall _ _ =>
    [.faults]
  | .planBuildDone _ =>
    [.plans]
  | .pmeTurnOff | .perstNRelease =>
    [.pcie]
  | .ref10Return | .steppedEnd | .holdoverLimit | .ppsOutPulse | .takeInEdge _ _ | .coalesceTimeout _ _ | .fallbackTimeout _
  | .discoverySettled | .timeSend | .masterChange | .takeOutPulseEnd | .ppsOutPulseEnd =>
    [.time]
  | .ringPoll _ _ | .ringStopDone _ _ | .galleryResetDone _ =>
    [.galleries]
  | .ticketDiscard _ =>
    [.courier]
  | .trainingPermitRetry _ | .discoveryPermitRetry | .spanRangingEcho _ _ _ | .scrubInterval | .pmbusRetry | .paceSample _
  | .avsPeriod | .spanMaintenanceProbe _ =>
    [.power]
  | .aonStatusRead _ =>
    [.faults, .power]
  | .busResetRetrain _ =>
    [.ports, .accession]
  | .frameRateChange =>
    [.time, .plans]
  | .fuseBurn _ =>
    [.fuses, .testAccess]
  | .heartbeatReceive _ | .twinTakeover =>
    [.faults, .twin]
  | .partnerBeacon _ _ _ | .sweepRetry _ _ | .rangingPermitRetry _ _ =>
    [.power, .ports]
  | .pcieConfigWrite _ =>
    [.pcie, .galleries]
  | .pwOpenEffect =>
    [.ports, .plans]
  | .ref10Loss | .ppsEdge _ _ | .irigbFrame _ | .todSentence _ _ _ | .sourceLossTimeout _ | .timePacket _ =>
    [.time, .faults]
  | .reflexMessage _ =>
    [.sram, .plans]
  | .remoteRequest _ =>
    [.work, .courier]
  | .sramClearDone =>
    [.sram, .loader]
  | .busResetTimeout _ =>
    [.time, .ports, .accession]
  | .charterReapply | .reapplyRetry =>
    [.power, .galleries, .loader]
  | .detachDone =>
    [.pcie, .movers, .loader]
  | .effectFrame =>
    [.contexts, .catalogue, .galleries]
  | .flushReadDone _ _ | .eventTailReadDone _ _ | .eventHeadReadDone _ _ =>
    [.faults, .pcie, .galleries]
  | .forwardMessage _ =>
    [.sram, .plans, .galleries]
  | .heartbeatSend | .spanPacketBoundary _ =>
    [.faults, .power, .twin]
  | .recordWriteDone =>
    [.sram, .faults, .registrar]
  | .remoteTimeout _ =>
    [.galleries, .work, .courier]
  | .spanPacketReceive _ _ | .linkPacket _ _ =>
    [.time, .faults, .power]
  | .oscillatorTimeout =>
    [.time, .faults, .power, .loader]
  | .soloWaitExpire =>
    [.ports, .devices, .plans, .twin]
  | .swIndexReadDone _ _ =>
    [.faults, .pcie, .contexts, .galleries]
  | .bulkIn _ _ _ | .bulkOut _ _ _ | .control _ _ _ | .catInsert _ _ _ | .catRemove _ _ _ | .catModify _ _ _ | .mark _ _ _ =>
    [.catalogue, .galleries, .work, .movers, .courier]
  | .outRingReadDone _ _ =>
    [.sram, .faults, .pcie, .contexts, .galleries]
  | .permitWaitTimeout =>
    [.time, .power, .ports, .galleries, .loader]
  | .remoteSend _ _ _ | .remoteResponse _ | .retryBackoffExpire _ =>
    [.faults, .galleries, .work, .movers, .courier]
  | .sfpLosChange _ _ _ =>
    [.ports, .galleries, .work, .movers, .courier]
  | .stepApply | .alarmFire _ =>
    [.time, .faults, .power, .loader, .registrar]
  | .descriptorReadDone _ =>
    [.sram, .faults, .galleries, .work, .movers, .courier]
  | .linkHit _ =>
    [.power, .ports, .galleries, .work, .movers, .courier]
  | .periodicIssue _ =>
    [.sram, .time, .ports, .contexts, .plans, .galleries]
  | .planCutoff =>
    [.sram, .time, .faults, .power, .contexts, .plans]
  | .workEntryRead _ _ _ | .fragmentTableReadDone _ _ _ _ =>
    [.faults, .pcie, .galleries, .work, .movers, .courier]
  | .attachRetry _ =>
    [.ports, .devices, .accession, .galleries, .work, .movers, .courier]
  | .frameRenumber =>
    [.time, .ports, .contexts, .catalogue, .plans, .work, .twin]
  | .moverHostReadDone _ _ | .moverReadbackDone _ _ =>
    [.sram, .faults, .pcie, .galleries, .work, .movers, .courier]
  | .babbleObservation _ _ =>
    [.faults, .ports, .devices, .accession, .galleries, .work, .movers, .courier]
  | .bulkPacketBoundary _ =>
    [.sram, .faults, .ports, .plans, .galleries, .work, .movers, .courier]
  | .hostReadTimeout _ =>
    [.sram, .faults, .pcie, .contexts, .galleries, .work, .movers, .courier]
  | .mirrorMessage =>
    [.sram, .power, .ports, .devices, .contexts, .catalogue, .plans, .twin]
  | .resumeFst _ =>
    [.power, .ports, .devices, .accession, .galleries, .work, .movers, .courier]
  | .yieldEffect =>
    [.ports, .devices, .plans, .galleries, .work, .movers, .twin, .courier]
  | .rangingEcho _ _ _ _ _ _ =>
    [.time, .power, .ports, .devices, .accession, .galleries, .work, .movers, .courier]
  | .susReceived _ | .susTimeout _ =>
    [.ports, .devices, .accession, .contexts, .catalogue, .galleries, .work, .movers, .courier]
  | .trainingComplete _ _ _ _ | .trainingTimeout _ | .hitTimeout _ =>
    [.power, .ports, .devices, .accession, .galleries, .work, .movers, .twin, .courier]
  | .controlTimeout _ _ =>
    [.time, .ports, .devices, .accession, .contexts, .catalogue, .galleries, .work, .movers, .twin, .courier]
  | .scrubPassDone _ =>
    Kind.allBut [.part, .captures, .sram, .time, .pcie, .loader, .fuses, .testAccess, .ident, .registrar]
  | .remoteWakeBeacon _ | .bar2Read _ _ _ _ | .wakeSource _ | .pcieLinkStateChange _ =>
    Kind.allBut [.part, .captures, .sram, .time, .plans, .loader, .fuses, .testAccess, .ident]
  | .bar2Write _ _ _ =>
    Kind.allBut [.part, .captures, .time, .plans, .loader, .fuses, .testAccess, .ident]
  | .entryStepDone =>
    Kind.allBut [.part, .captures, .sram, .time, .plans, .fuses, .testAccess, .ident]
  | .icClaim _ _ | .bar0Read _ _ _ _ =>
    Kind.allBut [.part, .sram, .time, .plans, .loader, .fuses, .testAccess, .ident]
  | .responseReceive _ _ | .responseTimeout _ _ | .echoLost _ _ =>
    Kind.allBut [.part, .captures, .pcie, .loader, .fuses, .testAccess, .ident, .registrar]
  | .entryTimeout | .pmbusAck | .pmbusCommandFail _ | .pmbusStatusPoll _ _ | .powerGoodTimeout =>
    Kind.allBut [.part, .captures, .sram, .plans, .fuses, .testAccess, .ident]
  | .frameBoundary _ =>
    Kind.allBut [.part, .captures, .pcie, .fuses, .testAccess, .ident]
  | .permitGrant =>
    Kind.allBut [.part, .captures, .pcie, .accession, .fuses, .testAccess]
  | .perstNAssert | .softReset _ _ | .functionLevelReset | .flashReadDone _ | .signatureCheckDone | .charterCheck _ _
  | .charterLoad _ _ | .alarmLoad _ _ _ | .frameRateRequest _ _ | .softwareTake _ _ | .vitrineRelease _ _ | .storeClear _ _
  | .rgCntClear _ _ | .linkEnable _ _ _ | .linkDisable _ _ _ | .retrain _ _ _ | .cutRelease _ _ _ | .gpCutRelease _ _ _
  | .treeSuspend _ _ _ | .treeResume _ _ _ | .busReset _ _ _ | .gpAccUnbind _ _ _ | .gpAccRetry _ _ _ | .cuAccPop _ _
  | .gpCntClear _ _ _ | .gpXactClear _ _ _ | .contextEnable _ _ _ | .contextDisable _ _ _ | .clearHalt _ _ _
  | .contextRelease _ _ _ | .pxCntClear _ _ _ | .rateCheck _ _ | .admissionConfigWrite _ _ _ | .cuClear _ _ | .ringEnable _ _ _ _
  | .ringDisable _ _ _ _ | .eventRingEnable _ _ _ | .eventRingDisable _ _ _ | .moverGo _ _ _ | .moverStop _ _ _
  | .moverOwner _ _ _ | .mvCntClear _ _ | .routeWrite _ _ | .routeRead _ _ | .routeClear _ _ | .coCntClear _ _
  | .coPwerrClear _ _ | .hostAttach _ _ | .hostDetach _ _ | .galleryReset _ _ _ | .galleryOpen _ _ _ | .galleryClose _ _ _
  | .pasidWrite _ _ _ | .gaDbIn _ _ _ | .gaDbOut _ _ _ | .gaViolClear _ _ | .msixUnmask _ _ _ | .icComplete _ _ _ | .icSet _ _ _
  | .icShSet _ _ | .icEnableWrite _ _ _ _ | .icShTargetWrite _ _ _ | .spanEnable _ _ _ | .spanRetrain _ _ _ | .spCntClear _ _
  | .spPmCntClear _ _ _ | .discover _ _ | .twinEnable _ _ | .twinYield _ _ | .twClear _ _ | .fiUnlock _ _ | .injectionArm _ _ _
  | .fiFaultClear _ _ | .fiClear _ _ | .fiClearFirst _ _ | .fiSummaryClear _ _ | .powerTarget _ _ | .oscillatorReady
  | .avsConfigWrite _ _ | .cnWakeFaultClear _ _ | .cnCntClear _ _ | .registerWrite _ _ _ =>
    Kind.allBut [.part, .fuses, .testAccess]
  | .coldReset _ _ _ | .alwaysOnSupplyLoss =>
    Kind.allBut []

/-- The register commands of the manager, beside a soft reset: the request, and the kinds of state that the command may change when it is the
manager's (`State.Manages`). -/
def managerMayChange : Instr → Option (Req × List Kind)
  | .alarmLoad _ q _ | .frameRateRequest q _ =>
    some (q, [.time])
  | .fiUnlock q _ | .injectionArm _ q _ | .fiFaultClear q _ | .fiClear q _ | .fiClearFirst q _ | .fiSummaryClear q _ =>
    some (q, [.faults])
  | .msixUnmask _ q _ =>
    some (q, [.ident])
  | .routeWrite q _ | .routeRead q _ | .routeClear q _ | .coCntClear q _ | .coPwerrClear q _ =>
    some (q, [.courier])
  | .softwareTake q _ | .vitrineRelease q _ | .storeClear q _ | .rgCntClear q _ =>
    some (q, [.registrar])
  | .contextEnable _ q _ | .contextDisable _ q _ | .clearHalt _ q _ | .contextRelease _ q _ | .pxCntClear _ q _ =>
    some (q, [.ports, .contexts])
  | .cuAccPop q _ | .rateCheck q _ | .admissionConfigWrite _ q _ | .cuClear q _ =>
    some (q, [.accession, .plans])
  | .charterCheck q _ | .charterLoad q _ =>
    some (q, [.power, .galleries, .loader])
  | .spanEnable _ q _ | .spanRetrain _ q _ | .spCntClear q _ | .spPmCntClear _ q _ | .discover q _ =>
    some (q, [.power, .twin, .loader])
  | .moverGo _ q _ | .moverStop _ q _ | .moverOwner _ q _ | .mvCntClear q _ =>
    some (q, [.galleries, .work, .movers, .courier])
  | .ringEnable _ _ q _ | .ringDisable _ _ q _ | .eventRingEnable _ q _ | .eventRingDisable _ q _ | .hostAttach q _
  | .hostDetach q _ | .galleryReset _ q _ | .galleryOpen _ q _ | .galleryClose _ q _ | .pasidWrite _ q _ | .gaDbIn _ q _
  | .gaDbOut _ q _ | .gaViolClear q _ | .icComplete _ q _ | .icSet _ q _ | .icShSet q _ | .icEnableWrite _ _ q _
  | .icShTargetWrite _ q _ =>
    some (q, [.pcie, .galleries, .work, .movers, .courier, .loader])
  | .twinEnable q _ | .twinYield q _ | .twClear q _ =>
    some (q, [.ports, .galleries, .work, .movers, .twin, .courier])
  | .linkEnable _ q _ | .linkDisable _ q _ | .retrain _ q _ | .cutRelease _ q _ | .gpCutRelease _ q _ | .treeSuspend _ q _
  | .treeResume _ q _ | .busReset _ q _ | .gpAccUnbind _ q _ | .gpAccRetry _ q _ | .gpCntClear _ q _ | .gpXactClear _ q _ =>
    some (q, [.power, .ports, .devices, .accession, .contexts, .catalogue, .galleries, .work, .movers, .courier, .loader])
  | .powerTarget q _ | .avsConfigWrite q _ | .cnWakeFaultClear q _ | .cnCntClear q _ =>
    some (q, Kind.allBut [.part, .captures, .sram, .time, .pcie, .plans, .fuses, .testAccess, .ident, .registrar])
  | _ => none

end Sys2Proof.Machine
end

