-- ==== Sys2Proof/Certificates/Slice0/Obligations.lean ====
section
/-! DEFINITION. The statements for the provers. A clause of the form "exec c s = .next t" with what t holds is the completion of the command c under
the conditions on the state and the operands that stand before it; the numbers of log entries are those of notes/assumptions. -/

open Sys2Proof Sys2Proof.Machine

/-- For every command c, every rest of a queue and every state s: the step of s with c followed by the rest waiting answers what exec of c
answers on s with the rest waiting. -/
def Obligations.StepRunsFront : Prop :=
  ∀ (c : Instr) (rest : List Instr) (s : State), step { s with pending := c :: rest } = exec c { s with pending := rest }

/-- With no command waiting a step answers a next state. In Off it is the state itself. Otherwise only the counter changes: it goes on by
one nanosecond plus the rate correction, which is at most 429,497 units of 2^-32 ns either way, so by 0 to 2 whole nanoseconds. That a
step on an empty queue is one cycle of the counter is the model's choice (log entry 6); that the counter counts nanoseconds and is
corrected in units of 2^-32 ns is the text at the head of the counter's section, and the limit of the correction is that of R37. -/
def Obligations.IdleStep : Prop :=
  (∀ s : State, s.pending = [] → s.off = true → step s = .next s) ∧
  (∀ s : State, s.pending = [] → s.off = false → s.tk.frac < 2 ^ 32 →
    ∃ (n f : Nat) (r : Int), step s = .next { s with tk := { s.tk with time := (s.tk.time + n) % 2 ^ 64, frac := f } } ∧
      f < 2 ^ 32 ∧ -429497 ≤ r ∧ r ≤ 429497 ∧ (n : Int) * 2 ^ 32 + f = s.tk.frac + 2 ^ 32 + r)

/-- In State.reset the power state is Open, the startup is in phase 0, no host is attached, the counter and the frame number are 0, the chip
ID is 62, every register holds its reset value but CN_PMB_STATUS, which shows the command VOUT_COMMAND that step 2 has begun, SRAM reads
0 everywhere, no command waits, the tables are canonical and every kind of unit has its number. The model's choices among these: the
part is a VX-4880 (log entry 10), a register that the spec gives no reset value holds 0 or its family's value (log entries 4 and 117),
an engine is at rest (log entry 29), and SRAM reads 0 before the clear of step 3 (log entry 119). -/
def Obligations.ResetState : Prop :=
  State.reset.power = 0 ∧ State.reset.phase = 0 ∧ State.reset.hosted = false ∧ State.reset.off = false ∧ State.reset.tk.time = 0 ∧
    State.reset.frame = 0 ∧ State.reset.chip = 62 ∧ State.reset.pending = [] ∧ (∀ off, off ≠ R.cnPmbStatus → State.reset.reg off = resetWord off) ∧
    State.reset.get F.cnPmbStatus_last_cmd = 0x21 ∧
    (∀ a, State.reset.ram a = 0) ∧ State.reset.memOk = true ∧ State.reset.sizesOk = true

/-- For every state whose sparse tables of registers and of buffer memory are canonical (keys strictly rising, no entry equal to what an
unlisted key stands for), with any command in front of the queue or none, the state that the step answers has canonical tables too. -/
def Obligations.MemoryStaysCanonical : Prop :=
  ∀ s t : State, s.memOk = true → step s = .next t → t.memOk = true

/-- For every state whose lists hold eight root port engines, eight Curator ports, sixteen galleries, eight channels, four Span ports, four
time sources and four alarm comparators, the state that a step answers, whatever command was in front, has the same numbers. -/
def Obligations.UnitNumbersKept : Prop :=
  ∀ s t : State, s.sizesOk = true → step s = .next t → t.sizesOk = true

/-- For every step of every state: the part, the serial and the pace calibration in the fuses stay; a burnt hash stays as it is; key_lock
stays 1 once it is 1; burn_failed stays 1 once it is 1 (the model's choice: the spec does not say when it clears, log entry 52); and if
key_lock at 1 implied a hash before the step, it does so after it. Only FUSE_BURN changes the fuses at all. -/
def Obligations.FusesArePermanent : Prop :=
  (∀ s t : State, step s = .next t →
    t.part = s.part ∧ t.fuses.serial = s.fuses.serial ∧ t.fuses.pWc = s.fuses.pWc ∧ (s.fuses.keyHash ≠ 0 → t.fuses.keyHash = s.fuses.keyHash) ∧
      (s.fuses.keyLock = true → t.fuses.keyLock = true) ∧ (s.fuses.burnFailed = true → t.fuses.burnFailed = true) ∧
      ((s.fuses.keyLock = true → s.fuses.keyHash ≠ 0) → t.fuses.keyLock = true → t.fuses.keyHash ≠ 0)) ∧
  (∀ (c : Instr) (s t : State), (∀ v, c ≠ .fuseBurn v) → exec c s = .next t → t.fuses = s.fuses)

/-- In Off every command but COLD_RESET by power-up and ALWAYS_ON_SUPPLY_LOSS answers the same state. That nothing of the chip acts without
the always-on supply is read from R408 (log entry 53, DEDUCED). -/
def Obligations.OffIgnoresCommands : Prop :=
  ∀ (c : Instr) (s : State), s.off = true → (∀ x y, c ≠ .coldReset true x y) → c ≠ .alwaysOnSupplyLoss → exec c s = .next s

/-- For every state the step answers a next state, whatever command waits in front: the spec gives every command an effect or says that it
is ignored, and a row whose cause cannot occur in the state leaves the state as it is (the model's choice, log entry 115). -/
def Obligations.EveryStepAnswers : Prop :=
  ∀ s : State, Safe s

/-- For each of the 231 commands the function mayChange of Safety.lean lists the kinds of state it may change (buffer memory, the time
keeper, the fault block, the Conservator, PCI Express, port engines, devices, accession queue, contexts, catalogue, plans, galleries,
work entries, movers, twin, Courier, loader, fuses, test access, identity and MSI-X table, Registrar). Every kind not listed is the same
after the command; for buffer memory: every byte reads as before. -/
def Obligations.CommandFrames : Prop :=
  ∀ (c : Instr) (s t : State) (k : Kind), exec c s = .next t → k ∉ mayChange c → k.same s t

/-- For each register command of the manager (a request that acts as the manager's, with the core running) managerMayChange of Safety.lean
lists the kinds of state that it may change: a time keeper's register only the time keeper, a fault register only the fault block, a
Courier register only the Courier, and so on. Every kind not listed is the same after the command; none of these commands changes a byte
of buffer memory. -/
def Obligations.ManagerFrames : Prop :=
  ∀ (c : Instr) (s t : State) (q : Req) (l : List Kind) (k : Kind), managerMayChange c = some (q, l) → s.Manages q → exec c s = .next t → k ∉ l →
    k.same s t

/-- For all 32-bit frame numbers a and b, a counts as newer than b exactly when (a − b) mod 2^32 lies in 1 to 2^31 − 1; an effect frame is
reached when it is not newer than the current one; at a frame boundary with no renumbering pending the frame number 0xFFFFFFFF is
followed by 0. -/
def Obligations.NewerFrames : Prop :=
  (∀ a b : Nat, a < 2 ^ 32 → b < 2 ^ 32 → (newer a b = true ↔ 1 ≤ (a + (2 ^ 32 - b)) % 2 ^ 32 ∧ (a + (2 ^ 32 - b)) % 2 ^ 32 ≤ 2 ^ 31 - 1)) ∧
  (∀ (s : State) (f : Nat), s.reached f = true ↔ newer f s.frame = false) ∧
  (∀ (s : State) (e : List SramFlip), s.off = false → s.sp.renum = none → s.frame = 0xFFFFFFFF →
    ∃ t, exec (.frameBoundary e) s = .next t ∧ t.frame = 0)

/-- On a VX-4840 a 32-bit read by the manager in the register spaces that R3 names gives four zero bytes, and a 32-bit write there has no
effect: the state answered is the state as it was, settled as after any command. A write of the number of an absent port to the port
field of a context's binding or of a Span route leaves that field as it was and writes the rest of the word (that the rest is written is
deduced: log entry 11). -/
def Obligations.AbsentRegisters : Prop :=
  (∀ (s : State) (q : Req) (off : Nat),
    s.Manages q → s.part = .vx4840 → off % 4 = 0 →
    ((0x30000 ≤ off ∧ off < 0x40000) ∨ (0xC180 ≤ off ∧ off < 0xC200) ∨ (0xD000 ≤ off ∧ off < 0xE000)) →
    ∃ t, exec (.bar0Read q off 4 none) s = .next t ∧ .readData [0, 0, 0, 0] false ∈ t.out ∧ t.sram = s.sram) ∧
  (∀ (s : State) (q : Req) (off : Nat) (d : List Byte), s.Manages q → s.part = .vx4840 → off % 4 = 0 → d.length = 4 →
    ((0x30000 ≤ off ∧ off < 0x40000) ∨ (0xC180 ≤ off ∧ off < 0xC200) ∨ (0xD000 ≤ off ∧ off < 0xE000)) →
    exec (.registerWrite q off d) s = .next (settle s s)) ∧
  (∀ (s : State) (q : Req) (c : Fin 2048) (d : List Byte),
    s.Manages q → s.part = .vx4840 → d.length = 4 → (s.pxState c = 0 ∨ s.pxState c = 1) →
    4 ≤ (F.pxBind_port c).of (BitVec.ofNat 32 (leVal d)) →
    ∃ t, exec (.registerWrite q (R.pxBind c) d) s = .next t ∧ t.get (F.pxBind_port c) = s.get (F.pxBind_port c) ∧
    t.get (F.pxBind_addr c) = (F.pxBind_addr c).of (BitVec.ofNat 32 (leVal d)) ∧
    t.get (F.pxBind_pipe c) = (F.pxBind_pipe c).of (BitVec.ofNat 32 (leVal d)) ∧
    t.get (F.pxBind_kind c) = (F.pxBind_kind c).of (BitVec.ofNat 32 (leVal d))) ∧
  (∀ (s : State) (q : Req) (c : Fin 62) (d : List Byte),
    s.Manages q → s.part = .vx4840 → d.length = 4 → 2 ≤ (F.spRoute_port c).of (BitVec.ofNat 32 (leVal d)) →
    ∃ t, exec (.registerWrite q (R.spRoute c) d) s = .next t ∧ t.get (F.spRoute_port c) = s.get (F.spRoute_port c) ∧
    t.get (F.spRoute_static c) = (F.spRoute_static c).of (BitVec.ofNat 32 (leVal d)))

/-- An event at a source whose enable bit is 0 changes nothing. A manager's write that clears an enable bit leaves the instance Idle, with a
claim as it was, and a completion of that claim ends it. An event at an enabled source of priority 0 pends or gathers as any other, and
no source of priority 0 is ever the one a claim returns. The pending registers show which sources are Pending. -/
def Obligations.DisabledSources : Prop :=
  (∀ (s : State) (k : Nat), s.icEnabled k = false → s.icEvent k = s) ∧
  (∀ (s : State) (g : Fin 16) (k : Fin 2) (q : Req) (w : Word) (b : Fin 32),
    s.Manages q → w.getLsbD b = false → privExists g (32 * k + b) = true → s.icEnabled (privKey g (32 * k + b)) = true →
    ∃ t, exec (.icEnableWrite (some g) (k.castLE (by decide)) q w) s = .next t ∧ t.icEnabled (privKey g (32 * k + b)) = false ∧
    (t.inst (privKey g (32 * k + b))).phase = .idle ∧ (t.inst (privKey g (32 * k + b))).claim = (s.inst (privKey g (32 * k + b))).claim) ∧
  (∀ (s : State) (k : Fin 6) (q : Req) (w : Word) (b : Fin 32),
    s.Manages q → w.getLsbD b = false → s.shExists (64 + 32 * k + b) = true → s.icEnabled (shKey (64 + 32 * k + b)) = true →
    ∃ t, exec (.icEnableWrite none k q w) s = .next t ∧ t.icEnabled (shKey (64 + 32 * k + b)) = false ∧
    (t.inst (shKey (64 + 32 * k + b))).phase = .idle ∧ (t.inst (shKey (64 + 32 * k + b))).claim = (s.inst (shKey (64 + 32 * k + b))).claim) ∧
  (∀ (s : State) (g : Fin 16) (k : Fin 2) (p : BitVec 20) (w : Word) (b : Fin 32),
    s.Awake → s.hosted = true → g ≠ 0 → s.pasidGal p = some g → w.getLsbD b = false → privExists g (32 * k + b) = true →
    s.icEnabled (privKey g (32 * k + b)) = true →
    ∃ t, exec (.icEnableWrite (some g) (k.castLE (by decide)) (some p) w) s = .next t ∧ t.icEnabled (privKey g (32 * k + b)) = false ∧
    (t.inst (privKey g (32 * k + b))).phase = .idle ∧ (t.inst (privKey g (32 * k + b))).claim = (s.inst (privKey g (32 * k + b))).claim) ∧
  (∀ (s : State) (k : Nat), s.icEnabled k = false → s.icSet k = s) ∧
  (∀ (s : State) (g : Fin 16) (q : Req) (w : Word) (k p : Nat),
    s.Manages q → w.toNat % 2 ^ 16 < 256 → k = (if w.toNat % 2 ^ 16 < 64 then privKey g (w.toNat % 2 ^ 16) else shKey (w.toNat % 2 ^ 16)) →
    s.icEnabled k = false → (s.inst k).claim = some (g.val, p) →
    ∃ t, exec (.icComplete g q w) s = .next t ∧ (t.inst k).claim = none) ∧
  (∀ (s : State) (k : Nat), s.icEnabled k = true → s.srcExists k = true → s.icPrio k = 0 → (s.inst k).phase = .idle →
    ((s.icEvent k).inst k).phase = (if s.icCount k ≤ 1 then .pending else .gathering 1 s.now)) ∧
  (∀ (s : State) (g k : Nat), s.icBest g = some k → s.icPrio k ≠ 0) ∧
  (∀ (s : State) (g : Fin 16) (b : Fin 32), (s.peek (R.icPendLo g)).getLsbD b = true ↔ (s.inst (privKey g b)).phase = .pending) ∧
  (∀ (s : State) (i : Fin 6) (b : Fin 32), (s.peek (R.icShPend i)).getLsbD b = true ↔ (s.inst (shKey (64 + 32 * i + b))).phase = .pending)

/-- The end of the check of copy A, passed or failed, begins the reading of copy B's header. When the check of copy B ends: with both valid,
B is applied exactly when its sequence number is newer than A's modulo 2^32, else A; with one valid copy that one is applied; with none,
none is. CH_APPLIED shows the sequence number applied and CH_STATUS.copy the copy. -/
def Obligations.CopyChoice : Prop :=
  (∀ (s : State),
    s.off = false → (s.ch.job = .startup ∨ s.ch.job = .load) → s.ch.wait = .verify false →
    ∃ t, exec .signatureCheckDone s = .next t ∧ t.ch.wait = .header true ∧
    t.ch.copyA = (if (s.imageCode s.ch.image).1 = 0 then some s.ch.image else none)) ∧
  (∀ (s : State) (a : List Byte),
    s.off = false → (s.ch.job = .startup ∨ s.ch.job = .load) → s.ch.wait = .verify true → s.ch.copyA = some a →
    (s.imageCode s.ch.image).1 = 0 →
    ∃ t, exec .signatureCheckDone s = .next t ∧
    t.get F.chStatus_copy = (if 1 ≤ (imgSeq s.ch.image + (2 ^ 32 - imgSeq a)) % 2 ^ 32 ∧ (imgSeq s.ch.image + (2 ^ 32 - imgSeq a)) % 2 ^ 32 < 2 ^ 31 then 2 else 1) ∧
    t.reg R.chApplied = BitVec.ofNat 32 (if 1 ≤ (imgSeq s.ch.image + (2 ^ 32 - imgSeq a)) % 2 ^ 32 ∧ (imgSeq s.ch.image + (2 ^ 32 - imgSeq a)) % 2 ^ 32 < 2 ^ 31 then imgSeq s.ch.image else imgSeq a) ∧
    t.phase = 5 ∧ t.flag F.chEvents_loaded = true) ∧
  (∀ (s : State),
    s.off = false → (s.ch.job = .startup ∨ s.ch.job = .load) → s.ch.wait = .verify true → s.ch.copyA = none → (s.imageCode s.ch.image).1 = 0 →
    ∃ t, exec .signatureCheckDone s = .next t ∧ t.get F.chStatus_copy = 2 ∧ t.reg R.chApplied = BitVec.ofNat 32 (imgSeq s.ch.image)) ∧
  (∀ (s : State) (a : List Byte),
    s.off = false → (s.ch.job = .startup ∨ s.ch.job = .load) → s.ch.wait = .verify true → s.ch.copyA = some a →
    (s.imageCode s.ch.image).1 ≠ 0 →
    ∃ t, exec .signatureCheckDone s = .next t ∧ t.get F.chStatus_copy = 1 ∧ t.reg R.chApplied = BitVec.ofNat 32 (imgSeq a)) ∧
  (∀ (s : State),
    s.off = false → (s.ch.job = .startup ∨ s.ch.job = .load) → s.ch.wait = .verify true → s.ch.copyA = none → (s.imageCode s.ch.image).1 ≠ 0 →
    ∃ t, exec .signatureCheckDone s = .next t ∧ t.mode = 3 ∧ t.reg R.chApplied = s.reg R.chApplied ∧
    t.get F.chStatus_copy = s.get F.chStatus_copy)

/-- REF10_LOSS on the 10 MHz reference clears ref10_ok, sets clock_fallback, moves the counter to the 25 MHz reference when the oscillator
runs (a locked base enters holdover) and else to the internal clock in free-run; REF10_RETURN sets ref10_ok and moves back to the 10 MHz
reference without touching the counter; HOLDOVER_LIMIT at the first whole second whose bound exceeds hold_limit makes the condition
free-run and sets free_run_entered. Each answers a next state. -/
def Obligations.ClockReferenceChanges : Prop :=
  (∀ (s : State),
    s.off = false → s.get F.tkStatus_clock_source = 0 →
    ∃ t, exec .ref10Loss s = .next t ∧ t.get F.tkStatus_ref10_ok = 0 ∧ t.flag F.tkEvents_clock_fallback = true ∧
    t.get F.tkStatus_clock_source = (if s.cn.oscOn then 1 else 2) ∧
    t.tk.cond = (if s.cn.oscOn then (if s.tk.cond = .locked then .holdover else s.tk.cond) else .freeRun) ∧ t.tk.time = s.tk.time) ∧
  (∀ (s : State),
    s.off = false →
    ∃ t, exec .ref10Return s = .next t ∧ t.get F.tkStatus_ref10_ok = 1 ∧ t.get F.tkStatus_clock_source = 0 ∧
    t.tk = { s.tk with ref10Inj := none }) ∧
  (∀ (s : State),
    s.off = false → s.tk.cond = .holdover → 0 < s.get F.tkHoldCfg_drift → s.tk.holdBound * 1000 ≤ s.get F.tkHoldCfg_hold_limit * 1000 →
    ∃ t, exec .holdoverLimit s = .next t ∧ t.tk.cond = .freeRun ∧ t.flag F.tkEvents_free_run_entered = true ∧
    t.tk.time = max s.tk.time (s.tk.holdStart + ((s.get F.tkHoldCfg_hold_limit * 1000 - s.tk.holdBound * 1000) / s.get F.tkHoldCfg_drift + 1) * secNs))

/-- The PPS edge that pps_falling selects is, less the board delay, the phase edge of sources 1 and 2; the other edge changes no source. An
IRIG-B frame of format 4 to 7 with a time quality below 15 gives source 3 its on-time edge and, as label, its UTC second plus TAI − UTC;
any other frame sets irig_error. A well-formed time-of-day sentence within its window labels the waiting edge of source 1 and stores TAI
− UTC; a malformed one sets tod_error and leaves TAI − UTC. An announcement of a leap second in a frame is kept for the end of its UTC
day and leaves TAI − UTC; the first frame of the new day gives TAI − UTC its new value, by which that frame is labelled. The labels are
those of a source not yet accepted, and of source 3 while accepted with its labels in sequence. A TAI − UTC field above 255 is cut to 8
bits (the model's choice, log entry 16). The command of an IRIG-B frame carries the decoded frame (log entry 49). -/
def Obligations.PhaseEdgesAndLabels : Prop :=
  (∀ (s : State) (e : Nat) (rise : Bool),
    s.off = false → s.sizesOk = true → rise ≠ s.flag F.tkRefSel_pps_falling →
    ∃ t, exec (.ppsEdge e rise) s = .next t ∧ (t.src 1).edge = some ((e : Int) - signed 16 (s.get F.tkPpsCal_pps_in_delay)).toNat ∧
    (t.src 2).edge = some ((e : Int) - signed 16 (s.get F.tkPpsCal_pps_in_delay)).toNat ∧ t.tk.time = max s.tk.time e) ∧
  (∀ (s : State) (e : Nat) (rise : Bool),
    s.off = false → rise = s.flag F.tkRefSel_pps_falling →
    ∃ t, exec (.ppsEdge e rise) s = .next t ∧ t.tk.srcs = s.tk.srcs ∧ t.tk.time = max s.tk.time e) ∧
  (∀ (s : State) (f : IrigFrame),
    s.off = false → s.sizesOk = true → 4 ≤ f.fmt → f.fmt ≤ 7 → f.tq ≠ 0xF → f.valid = true → s.tk.leap = none → s.srcAccepted 3 = false →
    ∃ t, exec (.irigbFrame f) s = .next t ∧ (t.src 3).edge = some f.edge ∧ (t.src 3).label = some (f.utc + s.get F.tkTaiUtc_tai_utc) ∧
    (t.src 3).waiting = false ∧ t.get F.tkTaiUtc_tai_utc = s.get F.tkTaiUtc_tai_utc) ∧
  (∀ (s : State) (f : IrigFrame),
    s.off = false → (f.fmt < 4 ∨ 7 < f.fmt ∨ f.tq = 0xF ∨ f.valid = false) → s.tk.leap = none →
    ∃ t, exec (.irigbFrame f) s = .next t ∧ t.flag F.tkEvents_irig_error = true ∧ t.get F.tkTaiUtc_tai_utc = s.get F.tkTaiUtc_tai_utc) ∧
  (∀ (s : State) (f : IrigFrame),
    s.off = false → s.sizesOk = true → 4 ≤ f.fmt → f.fmt ≤ 7 → f.tq ≠ 0xF → f.valid = true → s.irigUsed = true → s.tk.leap = none →
    f.leapSoon = true → f.second60 = false → s.srcAccepted 3 = false →
    ∃ t, exec (.irigbFrame f) s = .next t ∧
    t.tk.leap = some ((f.utc / 86400 + 1) * 86400, if f.leapMinus then s.get F.tkTaiUtc_tai_utc - 1 else s.get F.tkTaiUtc_tai_utc + 1) ∧
    t.get F.tkTaiUtc_tai_utc = s.get F.tkTaiUtc_tai_utc ∧ (t.src 3).label = some (f.utc + s.get F.tkTaiUtc_tai_utc)) ∧
  (∀ (s : State) (f : IrigFrame) (day v : Nat),
    s.off = false → s.sizesOk = true → 4 ≤ f.fmt → f.fmt ≤ 7 → f.tq ≠ 0xF → f.valid = true → s.tk.leap = some (day, v) → v < 256 →
    day ≤ f.utc → f.second60 = false → f.leapSoon = false → s.srcAccepted 3 = false →
    ∃ t, exec (.irigbFrame f) s = .next t ∧ t.get F.tkTaiUtc_tai_utc = v ∧ t.tk.leap = none ∧ (t.src 3).label = some (f.utc + v) ∧
    (t.src 3).edge = some f.edge) ∧
  (∀ (s : State) (f : IrigFrame) (u p : Nat),
    s.off = false → s.sizesOk = true → 4 ≤ f.fmt → f.fmt ≤ 7 → f.tq ≠ 0xF → f.valid = true → s.tk.leap = none → s.srcAccepted 3 = true →
    (s.src 3).edge = some u → (s.src 3).label = some p → (s.src 3).waiting = false → (s.src 3).badLabel = 0 → f.edge ≤ u + 1500000000 →
    p + 1 = f.utc + s.get F.tkTaiUtc_tai_utc → (((p + 1) * 1000000000 : Nat) - f.edge : Int).natAbs ≤ s.get F.tkServoCfg_step_thresh →
    ∃ t, exec (.irigbFrame f) s = .next t ∧ (t.src 3).label = some (p + 1) ∧ (t.src 3).edge = some f.edge ∧ t.srcAccepted 3 = true ∧
    (t.src 3).badLabel = 0) ∧
  (∀ (s : State) (b : List Byte) (t0 t1 sec utc e : Nat),
    s.off = false → s.sizesOk = true → parseTod b = some (sec, utc) → (s.src 1).edge = some e → (s.src 1).waiting = true →
    e + 1000000 ≤ t0 → t1 ≤ e + 900000000 → s.srcEnabled 1 = true → s.srcAccepted 1 = false →
    ∃ t, exec (.todSentence b t0 t1) s = .next t ∧ (t.src 1).label = some sec ∧ (t.src 1).waiting = false ∧
    t.get F.tkTaiUtc_tai_utc = utc % 256 ∧ t.tk.time = max s.tk.time t1) ∧
  (∀ (s : State) (b : List Byte) (t0 t1 : Nat),
    s.off = false → parseTod b = none →
    ∃ t, exec (.todSentence b t0 t1) s = .next t ∧ t.flag F.tkEvents_tod_error = true ∧ t.get F.tkTaiUtc_tai_utc = s.get F.tkTaiUtc_tai_utc)

/-- For source 1: an edge 1 s ± 200 µs after the last, its interval within 1 µs of the one before, keeps the run of good seconds, another
ends it; a label one greater than the last makes the run longer, and the fourth such second accepts the source: ref_accepted is set and
it becomes the active source, with a step kept when it is the first acceptance, the phase error is beyond step_thresh and
first_step_enable is 1. Two labels in a row out of sequence lose it. At an edge of the active source on the 10 MHz reference TK_OFFSET
shows the phase error; the fourth in a row within lock_thresh makes the condition locked and sets locked and first_lock_done; one beyond
it begins the run anew; the rate correction stays within ± 100 ppm (its value is free: log entry 5) and, with the servo off, stays. -/
def Obligations.AcceptanceAndLock : Prop :=
  (∀ (s : State) (e : Nat) (rise : Bool) (d u p : Nat),
    s.off = false → s.sizesOk = true → rise ≠ s.flag F.tkRefSel_pps_falling →
    d = ((e : Int) - signed 16 (s.get F.tkPpsCal_pps_in_delay)).toNat → (s.src 1).waiting = false → (s.src 1).edge = some u →
    d ≤ u + 1500000000 → (s.src 1).interval = some p → (((d - u : Nat) : Int) - 1000000000).natAbs ≤ 200000 →
    (((d - u : Nat) : Int) - p).natAbs ≤ 1000 →
    ∃ t, exec (.ppsEdge e rise) s = .next t ∧ (t.src 1).edge = some d ∧ (t.src 1).interval = some (d - u) ∧ (t.src 1).edgeOk = true ∧
    (t.src 1).good = (s.src 1).good ∧ (t.src 1).waiting = true) ∧
  (∀ (s : State) (e : Nat) (rise : Bool) (d u p : Nat),
    s.off = false → s.sizesOk = true → rise ≠ s.flag F.tkRefSel_pps_falling →
    d = ((e : Int) - signed 16 (s.get F.tkPpsCal_pps_in_delay)).toNat → (s.src 1).waiting = false → (s.src 1).edge = some u →
    d ≤ u + 1500000000 → (s.src 1).interval = some p →
    (200000 < (((d - u : Nat) : Int) - 1000000000).natAbs ∨ 1000 < (((d - u : Nat) : Int) - p).natAbs) →
    ∃ t, exec (.ppsEdge e rise) s = .next t ∧ (t.src 1).edge = some d ∧ (t.src 1).edgeOk = false ∧ (t.src 1).good = 0) ∧
  (∀ (s : State) (b : List Byte) (t0 t1 sec utc e p : Nat) (x : Int),
    s.off = false → s.sizesOk = true → parseTod b = some (sec, utc) → (s.src 1).edge = some e → (s.src 1).waiting = true →
    (s.src 1).label = some p → e + 1000000 ≤ t0 → t1 ≤ e + 900000000 → s.srcEnabled 1 = true → x = ((sec * 1000000000 : Nat) : Int) - e →
    sec = p + 1 → s.srcAccepted 1 = false → (s.src 1).edgeOk = true → (s.src 1).good = 3 → s.get F.tkRefSel_force = 0 →
    ∃ t, exec (.todSentence b t0 t1) s = .next t ∧ t.srcAccepted 1 = true ∧ t.flag F.tkEvents_ref_accepted = true ∧
    t.get F.tkStatus_active_source = 1 ∧ t.tk.accepted1 = true ∧
    (t.tk.step = (if s.tk.accepted1 = false ∧ s.get F.tkServoCfg_step_thresh < x.natAbs ∧ s.flag F.tkCtrl_first_step_enable = true then some x else s.tk.step))) ∧
  (∀ (s : State) (b : List Byte) (t0 t1 sec utc e p : Nat) (x : Int),
    s.off = false → s.sizesOk = true → parseTod b = some (sec, utc) → (s.src 1).edge = some e → (s.src 1).waiting = true →
    (s.src 1).label = some p → e + 1000000 ≤ t0 → t1 ≤ e + 900000000 → s.srcEnabled 1 = true → x = ((sec * 1000000000 : Nat) : Int) - e →
    sec = p + 1 → s.srcAccepted 1 = false → (s.src 1).edgeOk = true → (s.src 1).good < 3 →
    ∃ t, exec (.todSentence b t0 t1) s = .next t ∧ t.srcAccepted 1 = false ∧ (t.src 1).good = (s.src 1).good + 1 ∧
    (t.src 1).label = some sec) ∧
  (∀ (s : State) (b : List Byte) (t0 t1 sec utc e p : Nat) (x : Int),
    s.off = false → s.sizesOk = true → parseTod b = some (sec, utc) → (s.src 1).edge = some e → (s.src 1).waiting = true →
    (s.src 1).label = some p → e + 1000000 ≤ t0 → t1 ≤ e + 900000000 → s.srcEnabled 1 = true → x = ((sec * 1000000000 : Nat) : Int) - e →
    sec ≠ p + 1 → s.srcAccepted 1 = false →
    ∃ t, exec (.todSentence b t0 t1) s = .next t ∧ t.srcAccepted 1 = false ∧ (t.src 1).good = 1 ∧ (t.src 1).label = some sec) ∧
  (∀ (s : State) (b : List Byte) (t0 t1 sec utc e p : Nat) (x : Int),
    s.off = false → s.sizesOk = true → parseTod b = some (sec, utc) → (s.src 1).edge = some e → (s.src 1).waiting = true →
    (s.src 1).label = some p → e + 1000000 ≤ t0 → t1 ≤ e + 900000000 → s.srcEnabled 1 = true → x = ((sec * 1000000000 : Nat) : Int) - e →
    s.srcAccepted 1 = true → sec ≠ p + 1 → (s.src 1).badLabel = 0 →
    ∃ t, exec (.todSentence b t0 t1) s = .next t ∧ t.srcAccepted 1 = true ∧ (t.src 1).badLabel = 1 ∧ (t.src 1).label = some (p + 1) ∧
    (s.get F.tkStatus_active_source = 1 → t.tk.lockRun = 0) ∧ t.tk.cond = s.tk.cond) ∧
  (∀ (s : State) (b : List Byte) (t0 t1 sec utc e p : Nat) (x : Int),
    s.off = false → s.sizesOk = true → parseTod b = some (sec, utc) → (s.src 1).edge = some e → (s.src 1).waiting = true →
    (s.src 1).label = some p → e + 1000000 ≤ t0 → t1 ≤ e + 900000000 → s.srcEnabled 1 = true → x = ((sec * 1000000000 : Nat) : Int) - e →
    s.srcAccepted 1 = true → sec ≠ p + 1 → 1 ≤ (s.src 1).badLabel →
    ∃ t, exec (.todSentence b t0 t1) s = .next t ∧ t.srcAccepted 1 = false ∧ t.flag F.tkEvents_ref_lost = true) ∧
  (∀ (s : State) (b : List Byte) (t0 t1 sec utc e p : Nat) (x : Int),
    s.off = false → s.sizesOk = true → parseTod b = some (sec, utc) → (s.src 1).edge = some e → (s.src 1).waiting = true →
    (s.src 1).label = some p → e + 1000000 ≤ t0 → t1 ≤ e + 900000000 → s.srcEnabled 1 = true → x = ((sec * 1000000000 : Nat) : Int) - e →
    sec = p + 1 → s.srcAccepted 1 = true → s.get F.tkStatus_active_source = 1 → s.tk.step = none → s.get F.tkStatus_clock_source = 0 →
    (x.natAbs ≤ s.get F.tkServoCfg_step_thresh ∨ s.tk.accepted1 = false) → x.natAbs ≤ s.get F.tkServoCfg_lock_thresh → 3 ≤ s.tk.lockRun →
    s.tk.cond ≠ .locked →
    ∃ t, exec (.todSentence b t0 t1) s = .next t ∧ t.tk.cond = .locked ∧ t.flag F.tkEvents_locked = true ∧
    t.flag F.tkStatus_first_lock_done = true ∧ (t.src 1).label = some sec ∧ t.get F.tkOffset_offset = unsigned 32 x ∧
    ((signed 32 (t.get F.tkRateAdj_rate)).natAbs ≤ 429497 ∨ t.get F.tkRateAdj_rate = s.get F.tkRateAdj_rate) ∧
    (s.flag F.tkCtrl_servo_enable = false → t.get F.tkRateAdj_rate = s.get F.tkRateAdj_rate)) ∧
  (∀ (s : State) (b : List Byte) (t0 t1 sec utc e p : Nat) (x : Int),
    s.off = false → s.sizesOk = true → parseTod b = some (sec, utc) → (s.src 1).edge = some e → (s.src 1).waiting = true →
    (s.src 1).label = some p → e + 1000000 ≤ t0 → t1 ≤ e + 900000000 → s.srcEnabled 1 = true → x = ((sec * 1000000000 : Nat) : Int) - e →
    sec = p + 1 → s.srcAccepted 1 = true → s.get F.tkStatus_active_source = 1 → s.tk.step = none → s.get F.tkStatus_clock_source = 0 →
    (x.natAbs ≤ s.get F.tkServoCfg_step_thresh ∨ s.tk.accepted1 = false) → x.natAbs ≤ s.get F.tkServoCfg_lock_thresh → s.tk.lockRun < 3 →
    ∃ t, exec (.todSentence b t0 t1) s = .next t ∧ t.tk.cond = s.tk.cond ∧ t.tk.lockRun = s.tk.lockRun + 1 ∧ (t.src 1).label = some sec ∧
    t.get F.tkOffset_offset = unsigned 32 x ∧
    ((signed 32 (t.get F.tkRateAdj_rate)).natAbs ≤ 429497 ∨ t.get F.tkRateAdj_rate = s.get F.tkRateAdj_rate) ∧
    (s.flag F.tkCtrl_servo_enable = false → t.get F.tkRateAdj_rate = s.get F.tkRateAdj_rate)) ∧
  (∀ (s : State) (b : List Byte) (t0 t1 sec utc e p : Nat) (x : Int),
    s.off = false → s.sizesOk = true → parseTod b = some (sec, utc) → (s.src 1).edge = some e → (s.src 1).waiting = true →
    (s.src 1).label = some p → e + 1000000 ≤ t0 → t1 ≤ e + 900000000 → s.srcEnabled 1 = true → x = ((sec * 1000000000 : Nat) : Int) - e →
    sec = p + 1 → s.srcAccepted 1 = true → s.get F.tkStatus_active_source = 1 → s.tk.step = none → s.get F.tkStatus_clock_source = 0 →
    (x.natAbs ≤ s.get F.tkServoCfg_step_thresh ∨ s.tk.accepted1 = false) → s.get F.tkServoCfg_lock_thresh < x.natAbs →
    ∃ t, exec (.todSentence b t0 t1) s = .next t ∧ t.tk.cond = s.tk.cond ∧ t.tk.lockRun = 0 ∧ (t.src 1).label = some sec ∧
    t.get F.tkOffset_offset = unsigned 32 x ∧
    ((signed 32 (t.get F.tkRateAdj_rate)).natAbs ≤ 429497 ∨ t.get F.tkRateAdj_rate = s.get F.tkRateAdj_rate) ∧
    (s.flag F.tkCtrl_servo_enable = false → t.get F.tkRateAdj_rate = s.get F.tkRateAdj_rate))

/-- No edge within 1.5 s of the last one: an accepted source is no longer accepted and ref_lost is set (of any accepted source, not of the
active one alone: deduced, log entry 43). A waiting step is added to the counter at the next frame boundary, is put into TK_LAST_STEP,
sets step_applied, and timestamps carry stepped until the first second boundary at least 1 s after it; then the stepped condition ends. -/
def Obligations.SourceLossAndStep : Prop :=
  (∀ (s : State) (c : Fin 4) (e : Nat),
    s.off = false → (s.src (c.val + 1)).edge = some e → s.srcAccepted (c.val + 1) = true →
    ∃ t, exec (.sourceLossTimeout c) s = .next t ∧ t.srcAccepted (c.val + 1) = false ∧ t.flag F.tkEvents_ref_lost = true ∧
    t.tk.time = max s.tk.time (e + 1500000001)) ∧
  (∀ (s : State) (d : Int),
    s.off = false → s.tk.step = some d →
    ∃ t, exec .stepApply s = .next t ∧ t.tk.step = none ∧
    t.tk.time = (((max s.tk.time (nextBoundary s.rate s.tk.boundary) : Nat) : Int) + d).toNat ∧ t.flag F.tkEvents_step_applied = true ∧
    t.reg64 R.tkLastStepLo = unsigned 64 d ∧
    t.tk.steppedTo = secondAtOrAfter ((((nextBoundary s.rate s.tk.boundary : Nat) : Int) + d).toNat + secNs)) ∧
  (∀ (s : State),
    s.off = false →
    ∃ t, exec .steppedEnd s = .next t ∧ t.tk.steppedTo = 0 ∧ t.tk.time = max s.tk.time s.tk.steppedTo ∧ t.tk.cond = s.tk.cond)

/-- An armed alarm fires at its time, shows in TK_EVENTS unless its action is TAKE alone, which latches the vitrines with source 4; without
a period it is disarmed, and with one it stays armed for its programmed time plus the smallest whole number of periods that lies after
the counter. The manager's write of TK_ALARMn_LO loads the comparator with the 64-bit time; an armed alarm whose time has passed fires
at once with late set. In mode always, and in mode qualified while the condition is locked or holdover, PPS_OUT rises at an instant that
lies adjust ns from a second boundary, and falls again; in mode qualified in free-run, and in mode off, it does not rise. -/
def Obligations.AlarmsAndPpsOutput : Prop :=
  (∀ (s : State) (k : Fin 4),
    s.off = false → s.flag (F.tkAlarmCtrl_armed k) = true → s.get (F.tkAlarmCtrl_period_us k) = 0 → s.get (F.tkAlarmCtrl_action k) ≠ 1 →
    ∃ t, exec (.alarmFire k) s = .next t ∧ t.flag (F.tkAlarmCtrl_armed k) = false ∧ bitOf (t.get F.tkEvents_alarm) k = true ∧
    t.tk.time = max s.tk.time (s.alarmTime k)) ∧
  (∀ (s : State) (k : Fin 4) (p u : Nat),
    s.off = false → s.sizesOk = true → s.flag (F.tkAlarmCtrl_armed k) = true → p = s.get (F.tkAlarmCtrl_period_us k) * 1000 → p ≠ 0 →
    u = s.alarmTime k + p * ((max s.tk.time (s.alarmTime k) - s.alarmTime k) / p + 1) →
    ∃ t, exec (.alarmFire k) s = .next t ∧ t.flag (F.tkAlarmCtrl_armed k) = true ∧ t.alarmTime k = u % 2 ^ 64 ∧
    t.reg64 (R.tkAlarmLo k) = u % 2 ^ 64 ∧ t.tk.time = max s.tk.time (s.alarmTime k) ∧
    (s.get (F.tkAlarmCtrl_action k) ≠ 1 → bitOf (t.get F.tkEvents_alarm) k = true)) ∧
  (∀ (s : State) (k : Fin 4),
    s.Awake → s.phase ≠ 0 → s.flag (F.tkAlarmCtrl_armed k) = true → s.get (F.tkAlarmCtrl_action k) = 1 →
    (s.rg.latched = false ∨ (max s.tk.time (s.alarmTime k)) < s.rg.time ∨ s.rg.time + 5 < (max s.tk.time (s.alarmTime k))) →
    s.flag F.rgStatus_held = false → s.flag F.rgCtrl_keep = true →
    ∃ t, exec (.alarmFire k) s = .next t ∧ t.get F.tkEvents_alarm = s.get F.tkEvents_alarm ∧ t.rg.latched = true ∧
    t.rg.time = max s.tk.time (s.alarmTime k) ∧ bitOf t.rg.sources 4 = true ∧ t.flag F.rgStatus_held = true ∧
    (s.get (F.tkAlarmCtrl_period_us k) = 0 → t.flag (F.tkAlarmCtrl_armed k) = false)) ∧
  (∀ (s : State) (k : Fin 4) (q : Req) (w : Word),
    s.Manages q → s.sizesOk = true → s.flag (F.tkAlarmCtrl_armed k) = false →
    ∃ t, exec (.alarmLoad k q w) s = .next t ∧ t.alarmTime k = w.toNat + (s.reg (R.tkAlarmHi k)).toNat * 2 ^ 32 ∧
    t.reg (R.tkAlarmLo k) = w ∧ t.get F.tkEvents_alarm = s.get F.tkEvents_alarm) ∧
  (∀ (s : State) (k : Fin 4) (q : Req) (w : Word),
    s.Manages q → s.sizesOk = true → s.flag (F.tkAlarmCtrl_armed k) = true → s.get (F.tkAlarmCtrl_period_us k) = 0 →
    s.get (F.tkAlarmCtrl_action k) ≠ 1 → w.toNat + (s.reg (R.tkAlarmHi k)).toNat * 2 ^ 32 < s.tk.time →
    ∃ t, exec (.alarmLoad k q w) s = .next t ∧ t.flag (F.tkAlarmCtrl_late k) = true ∧ t.flag (F.tkAlarmCtrl_armed k) = false ∧
    bitOf (t.get F.tkEvents_alarm) k = true) ∧
  (∀ (s : State),
    s.off = false → (s.get F.tkPpsOut_mode = 1 ∨ (s.get F.tkPpsOut_mode = 2 ∧ s.tk.cond ≠ .freeRun)) →
    ∃ t, exec .ppsOutPulse s = .next t ∧ t.tk.ppsOutHigh = true ∧ t.tk.ppsOutRise = some t.tk.time ∧ s.tk.time ≤ t.tk.time ∧
    ((t.tk.time : Int) - signed 16 (s.get F.tkPpsOut_adjust)) % 1000000000 = 0) ∧
  (∀ (s : State),
    s.off = false → (s.get F.tkPpsOut_mode = 0 ∨ (s.get F.tkPpsOut_mode = 2 ∧ s.tk.cond = .freeRun)) →
    ∃ t, exec .ppsOutPulse s = .next t ∧ t.tk.ppsOutHigh = s.tk.ppsOutHigh ∧ t.tk.ppsOutRise = s.tk.ppsOutRise ∧ s.tk.time ≤ t.tk.time) ∧
  (∀ (s : State),
    s.off = false →
    ∃ t, exec .ppsOutPulseEnd s = .next t ∧ t.tk.ppsOutHigh = false)

/-- A manager's write of TK_FRAME_RATE.requested in 2,000 to 32,000 sets rate_pending and the instant of effect: the first second boundary
at least three frames ahead. A write out of range leaves requested, rate_pending and the instant as they were. At the instant
(FRAME_RATE_CHANGE) active is requested, rate_pending is 0, rate_changed is set. -/
def Obligations.FrameRateRule : Prop :=
  (∀ (s : State) (q : Req) (w : Word),
    s.Manages q → 2000 ≤ w.toNat % 65536 → w.toNat % 65536 ≤ 32000 →
    ∃ t, exec (.frameRateRequest q w) s = .next t ∧ t.get F.tkFrameRate_requested = w.toNat % 65536 ∧ t.get F.tkStatus_rate_pending = 1 ∧
    t.tk.rateAt = some (secondAtOrAfter (s.tk.time + ceilDiv (3 * secNs) s.rate)) ∧ t.rate = s.rate) ∧
  (∀ (s : State) (q : Req) (w : Word),
    s.Manages q → (w.toNat % 65536 < 2000 ∨ 32000 < w.toNat % 65536) →
    ∃ t, exec (.frameRateRequest q w) s = .next t ∧ t.get F.tkFrameRate_requested = s.get F.tkFrameRate_requested ∧
    t.get F.tkStatus_rate_pending = s.get F.tkStatus_rate_pending ∧ t.tk = s.tk) ∧
  (∀ (s : State) (r : Nat),
    s.off = false → s.tk.rateAt = some r →
    ∃ t, exec .frameRateChange s = .next t ∧ t.rate = s.get F.tkFrameRate_requested ∧ t.get F.tkStatus_rate_pending = 0 ∧
    t.flag F.tkEvents_rate_changed = true ∧ t.tk.rateAt = none ∧ t.tk.time = max s.tk.time r)

/-- With no vitrines held, no latch within the last 5 ns (5 ns included: deduced, log entry 46) and keep set, the TAKE_IN edge that
in_falling selects latches the vitrines with source 1 at the edge, or, where the edge is given late, at the time of the counter then
(R379), and RG_CTRL.take latches them at once with source 2: held is set and the origin is this chip; with take_out_en the TAKE_OUT ball
rises, to end out_width_us (0 acting as 1) after the latch, or a pulse that runs is extended to that instant, never shortened. The other
edge latches nothing. A release while records of the latch are left to write is kept until they are done, and held stays; with none left
it frees the vitrines. At the end of its pulse TAKE_OUT falls. -/
def Obligations.TakeAndVitrines : Prop :=
  (∀ (s : State) (e : Nat) (rise : Bool),
    s.Awake → rise ≠ s.flag F.rgTakeCfg_in_falling →
    (s.rg.latched = false ∨ max s.tk.time e < s.rg.time ∨ s.rg.time + 5 < max s.tk.time e) → s.flag F.rgStatus_held = false →
    s.flag F.rgCtrl_keep = true → s.jtag.holds = false → s.phase ≠ 0 →
    ∃ t, exec (.takeInEdge e rise) s = .next t ∧ t.rg.latched = true ∧ t.rg.time = max s.tk.time e ∧ bitOf t.rg.sources 1 = true ∧
    t.rg.origin = s.chip ∧ t.rg.words = (s.advanceTo e).vitrines ∧ t.flag F.rgStatus_held = true ∧
    (s.flag F.rgCtrl_take_out_en = true → t.rg.takeOut = true ∧ t.rg.takeEnd = (if s.rg.takeOut then max s.rg.takeEnd (t.tk.time + max 1 (s.get F.rgTakeCfg_out_width_us) * 1000) else t.tk.time + max 1 (s.get F.rgTakeCfg_out_width_us) * 1000) ∧ (s.rg.takeOut = false → .pin "TAKE_OUT" true ∈ t.out))) ∧
  (∀ (s : State) (e : Nat) (rise : Bool),
    s.off = false → rise = s.flag F.rgTakeCfg_in_falling → s.cn.rose = [] →
    ∃ t, exec (.takeInEdge e rise) s = .next t ∧ t.rg = s.rg ∧ t.tk.time = max s.tk.time e) ∧
  (∀ (s : State) (q : Req) (w : Word),
    s.Manages q → (s.rg.latched = false ∨ s.tk.time < s.rg.time ∨ s.rg.time + 5 < s.tk.time) → s.flag F.rgStatus_held = false →
    w.getLsbD 2 = true → s.phase ≠ 0 →
    ∃ t, exec (.softwareTake q w) s = .next t ∧ t.rg.latched = true ∧ t.rg.time = s.tk.time ∧ bitOf t.rg.sources 2 = true ∧
    t.rg.origin = s.chip ∧ t.flag F.rgStatus_held = true ∧ t.reg R.rgCtrl = w &&& 7 ∧
    (w.getLsbD 1 = true → t.rg.takeOut = true ∧ t.rg.takeEnd = (if s.rg.takeOut then max s.rg.takeEnd (s.tk.time + max 1 (s.get F.rgTakeCfg_out_width_us) * 1000) else s.tk.time + max 1 (s.get F.rgTakeCfg_out_width_us) * 1000))) ∧
  (∀ (s : State) (q : Req) (w : Word),
    s.Manages q → s.flag F.rgStatus_held = true → s.rg.todo ≠ [] →
    ∃ t, exec (.vitrineRelease q w) s = .next t ∧ t.rg.released = true ∧ t.flag F.rgStatus_held = true ∧ t.reg R.rgCtrl = w &&& 7) ∧
  (∀ (s : State) (q : Req) (w : Word),
    s.Manages q → s.flag F.rgStatus_held = true → s.rg.todo = [] → w.getLsbD 31 = false → s.cn.rose = [] →
    ∃ t, exec (.vitrineRelease q w) s = .next t ∧ t.rg.released = false ∧ t.flag F.rgStatus_held = false ∧ t.reg R.rgCtrl = w &&& 7) ∧
  (∀ (s : State),
    s.off = false → s.rg.takeOut = true → s.cn.rose = [] → s.jtag.holds = false →
    ∃ t, exec .takeOutPulseEnd s = .next t ∧ t.rg.takeOut = false ∧ .pin "TAKE_OUT" false ∈ t.out ∧
    t.tk.time = max s.tk.time s.rg.takeEnd ∧ t.flag F.rgStatus_held = s.flag F.rgStatus_held)

/-- A manager's LINK_ENABLE of a Disabled port enters Detect with the beacons counted anew, and in Bare makes the mode Hosted. LINK_DISABLE
and RETRAIN of an Active port with no device, attach or sweep on it reach Disabled and Detect, with the detached event. CUT_RELEASE
takes a Cut port to Detect and a cut device at the root port itself to Absent (that it is Absent and not Free is deduced: log entry 58).
Loss of signal takes an Active port whose tree this chip does not mirror into Hit, counts it and starts a fast training; a Hit of 1 ms
ends in Detect with the detached event. The SFP balls set sfp_present, sfp_los and signal_present, and loss of signal in Active is a
Hit. A refused or failed sweep of an Unranged device is asked for again. -/
def Obligations.LinkEnableAndHits : Prop :=
  (∀ (s : State) (n : Fin 8) (q : Req) (w : Word),
    s.Manages q → n.val < s.nPorts → s.sizesOk = true → s.link n = 0 → (s.port n).pulse = false →
    ∃ t, exec (.linkEnable n q w) s = .next t ∧ t.link n = 1 ∧ t.flag (F.gpLinkCtrl_enable n) = true ∧ (t.port n).beacons = 0 ∧
    (t.port n).fails = 0 ∧ t.mode = (if s.mode = 3 then 4 else s.mode)) ∧
  (∀ (s : State) (n : Fin 8) (q : Req) (w : Word),
    s.Manages q → n.val < s.nPorts → s.sizesOk = true → s.link n = 3 → s.subtree n 0 = [] → (s.port n).attach = none →
    (s.port n).sweep = none →
    ∃ t, exec (.linkDisable n q w) s = .next t ∧ t.link n = 0 ∧ t.flag (F.gpLinkCtrl_enable n) = false ∧
    t.flag (F.gpLinkEvents_detached n) = true ∧ (t.port n).ctls = [] ∧ (t.port n).svc = []) ∧
  (∀ (s : State) (n : Fin 8) (q : Req) (w : Word),
    s.Manages q → n.val < s.nPorts → s.sizesOk = true → w.getLsbD 0 = true → s.flag (F.gpLinkCtrl_enable n) = true → s.link n = 3 →
    s.subtree n 0 = [] → (s.port n).attach = none → (s.port n).sweep = none →
    ∃ t, exec (.retrain n q w) s = .next t ∧ t.link n = 1 ∧ t.flag (F.gpLinkCtrl_enable n) = true ∧
    t.flag (F.gpLinkEvents_detached n) = true ∧ (t.port n).fails = 0 ∧ (t.port n).beacons = 0) ∧
  (∀ (s : State) (n : Fin 8) (q : Req) (w : Word),
    s.Manages q → n.val < s.nPorts → s.sizesOk = true → w.getLsbD 0 = true → s.flag (F.gpLinkCtrl_enable n) = true → s.link n = 6 →
    ∃ t, exec (.cutRelease n q w) s = .next t ∧ t.link n = 1 ∧ (∀ a ∈ addrs, s.devSt n a = 7 → (s.place n a).1 = 0 → t.devSt n a = 1)) ∧
  (∀ (s : State) (n : Fin 8),
    s.off = false → n.val < s.nPorts → s.sizesOk = true → s.link n = 3 → s.mirrors n = false → (s.port n).sweep = none →
    ∃ t, exec (.linkHit (.gliys n)) s = .next t ∧ t.link n = 4 ∧ t.flag (F.gpLinkEvents_hit n) = true ∧
    t.get (F.gpHitCnt_hits n) = min (maxOf (F.gpHitCnt_hits n).width) (s.get (F.gpHitCnt_hits n) + 1) ∧ (t.port n).fast = true ∧
    (t.port n).began = 4) ∧
  (∀ (s : State) (n : Fin 8),
    s.off = false → n.val < s.nPorts → s.sizesOk = true → s.link n = 4 → s.subtree n 0 = [] → (s.port n).attach = none →
    (s.port n).sweep = none →
    ∃ t, exec (.hitTimeout (.gliys n)) s = .next t ∧ t.link n = 1 ∧ t.flag (F.gpLinkEvents_detached n) = true ∧ (t.port n).beacons = 0) ∧
  (∀ (s : State) (n : Fin 8) (los abs : Bool),
    s.off = false → n.val < s.nPorts → s.flag (F.gpLinkCtrl_media n) = true → s.link n ≠ 3 →
    ∃ t, exec (.sfpLosChange n los abs) s = .next t ∧ t.flag (F.gpLinkStatus_sfp_los n) = los ∧
    t.flag (F.gpLinkStatus_sfp_present n) = !abs ∧ t.flag (F.gpLinkStatus_signal_present n) = !los ∧ t.link n = s.link n) ∧
  (∀ (s : State) (n : Fin 8) (abs : Bool),
    s.off = false → n.val < s.nPorts → s.sizesOk = true → s.flag (F.gpLinkCtrl_media n) = true → s.link n = 3 → s.mirrors n = false →
    (s.port n).sweep = none →
    ∃ t, exec (.sfpLosChange n true abs) s = .next t ∧ t.link n = 4 ∧ t.flag (F.gpLinkEvents_hit n) = true ∧
    t.flag (F.gpLinkStatus_sfp_los n) = true ∧ (t.port n).fast = true) ∧
  (∀ (s : State) (n : Fin 8) (a : Fin 64),
    s.off = false → n.val < s.nPorts → s.sizesOk = true → 1 ≤ a.val → a.val ≤ 62 → s.ownsPort n = true → s.devSt n a = 3 → s.link n = 3 →
    (s.port n).sweep = none → (s.port n).sweeps = [] → s.permitBars (.sweep n a) = false →
    ∃ t, exec (.rangingPermitRetry (.gliys n) a) s = .next t ∧ (t.port n).sweep = some { addr := a } ∧ t.asked (.sweep n a) = true ∧
    (t.port n).sweeps = []) ∧
  (∀ (s : State) (n : Fin 8) (a : Fin 64),
    s.off = false → n.val < s.nPorts → s.sizesOk = true → 1 ≤ a.val → a.val ≤ 62 → s.ownsPort n = true → s.devSt n a = 3 → s.link n = 3 →
    (s.port n).sweep = none → (s.port n).sweeps = [] → s.permitBars (.sweep n a) = false →
    ∃ t, exec (.sweepRetry n a) s = .next t ∧ (t.port n).sweep = some { addr := a } ∧ t.asked (.sweep n a) = true ∧ (t.port n).sweeps = [])

/-- In Detect a partner beacon with valid commas that starts one partner period (100 µs ± 10 µs or 100 ms ± 10 ms) after the last is
counted, another with valid commas is the first of a new run, and one without clears the count; the third of a run asks for a training
permit; the loss of the beacons clears the count (that either period does for each interval is the model's choice: log entry 175); a
refused request is made again. Training that ends with a partner of role 2, 3 or 5 makes the link Active and queues the attach of the
root port's device; another role, or 2 ms of a full training, counts a failure and returns to Detect; 50 µs of a fast training turn it
into a full one. -/
def Obligations.LinkTraining : Prop :=
  (∀ (s : State) (n : Fin 8) (e : Nat),
    s.off = false → n.val < s.nPorts → s.sizesOk = true → s.link n = 1 → (s.port n).beacons < 2 →
    (s.port n).beaconAt.any (fun u => (90000 ≤ e - u && e - u ≤ 110000) || (90000000 ≤ e - u && e - u ≤ 110000000)) = true →
    s.flag (F.gpLinkCtrl_media n) = false →
    ∃ t, exec (.partnerBeacon (.gliys n) e true) s = .next t ∧ (t.port n).beacons = (s.port n).beacons + 1 ∧ (t.port n).beaconAt = some e ∧
    t.link n = 1 ∧ t.flag (F.gpLinkStatus_signal_present n) = true) ∧
  (∀ (s : State) (n : Fin 8) (e : Nat),
    s.off = false → n.val < s.nPorts → s.sizesOk = true → s.link n = 1 → (s.port n).beacons < 3 →
    (s.port n).beaconAt.any (fun u => (90000 ≤ e - u && e - u ≤ 110000) || (90000000 ≤ e - u && e - u ≤ 110000000)) = false →
    ∃ t, exec (.partnerBeacon (.gliys n) e true) s = .next t ∧ (t.port n).beacons = 1 ∧ (t.port n).beaconAt = some e ∧ t.link n = 1) ∧
  (∀ (s : State) (n : Fin 8) (e : Nat),
    s.off = false → n.val < s.nPorts → s.sizesOk = true → s.link n = 1 → (s.port n).beacons < 3 →
    ∃ t, exec (.partnerBeacon (.gliys n) e false) s = .next t ∧ (t.port n).beacons = 0 ∧ t.link n = 1) ∧
  (∀ (s : State) (n : Fin 8) (e : Nat),
    s.off = false → n.val < s.nPorts → s.sizesOk = true → s.link n = 1 → (s.port n).beacons = 2 →
    (s.port n).beaconAt.any (fun u => (90000 ≤ e - u && e - u ≤ 110000) || (90000000 ≤ e - u && e - u ≤ 110000000)) = true →
    s.permitBars (.training n) = false →
    ∃ t, exec (.partnerBeacon (.gliys n) e true) s = .next t ∧ (t.port n).beacons = 3 ∧ t.flag (F.gpLinkStatus_permit_wait n) = true ∧
    t.asked (.training n) = true) ∧
  (∀ (s : State) (n : Fin 8),
    s.off = false → n.val < s.nPorts → s.sizesOk = true → (s.link n = 1 ∨ s.link n = 2) → s.flag (F.gpLinkCtrl_media n) = false →
    ∃ t, exec (.partnerBeaconLoss (.gliys n)) s = .next t ∧ (t.port n).beacons = 0 ∧ t.flag (F.gpLinkStatus_signal_present n) = false ∧
    t.flag (F.gpLinkStatus_permit_wait n) = false ∧ t.holds (.training n) = false ∧ t.asked (.training n) = false) ∧
  (∀ (s : State) (n : Fin 8),
    s.off = false → n.val < s.nPorts → s.link n = 1 → 3 ≤ (s.port n).beacons → s.holds (.training n) = false →
    s.asked (.training n) = false → s.permitBars (.training n) = false →
    ∃ t, exec (.trainingPermitRetry (.gliys n)) s = .next t ∧ t.flag (F.gpLinkStatus_permit_wait n) = true ∧ t.asked (.training n) = true ∧
    t.link n = 1) ∧
  (∀ (s : State) (n role : Fin 8) (partner : Nat) (pport : Fin 4),
    s.off = false → n.val < s.nPorts → s.sizesOk = true → (role = 2 ∨ role = 3 ∨ role = 5) → s.link n = 2 → (s.port n).began ≠ 5 →
    s.ownsPort n = true → (s.port n).attach = none → (s.port n).attaches = [] → (s.port n).fast = false →
    ∃ t, exec (.trainingComplete (.gliys n) role partner pport) s = .next t ∧ t.link n = 3 ∧ t.flag (F.gpLinkEvents_attached n) = true ∧
    t.get (F.gpLinkStatus_partner_role n) = role ∧ (t.port n).fails = 0 ∧
    (t.port n).attach.map (fun x => (x.parent, x.port, x.step)) = some (0, 0, 2) ∧ t.holds (.training n) = false) ∧
  (∀ (s : State) (n role : Fin 8) (partner : Nat) (pport : Fin 4),
    s.off = false → n.val < s.nPorts → s.sizesOk = true → role ≠ 2 → role ≠ 3 → role ≠ 5 → s.link n = 2 → (s.port n).began ≠ 5 →
    ∃ t, exec (.trainingComplete (.gliys n) role partner pport) s = .next t ∧ t.link n = 1 ∧ t.flag (F.gpLinkEvents_train_fail n) = true ∧
    (t.port n).fails = (s.port n).fails + 1) ∧
  (∀ (s : State) (n : Fin 8),
    s.off = false → n.val < s.nPorts → s.sizesOk = true → s.link n = 2 → (s.port n).fast = false → (s.port n).began ≠ 5 →
    ∃ t, exec (.trainingTimeout (.gliys n)) s = .next t ∧ t.link n = 1 ∧ t.flag (F.gpLinkEvents_train_fail n) = true ∧
    (t.port n).fails = (s.port n).fails + 1 ∧
    t.get (F.gpHitCnt_train_fail n) = min (maxOf (F.gpHitCnt_train_fail n).width) (s.get (F.gpHitCnt_train_fail n) + 1)) ∧
  (∀ (s : State) (n : Fin 8),
    s.off = false → n.val < s.nPorts → s.sizesOk = true → (s.link n = 2 ∨ s.link n = 4) →
    ∃ t, exec (.fastTrainingTimeout (.gliys n)) s = .next t ∧ (t.port n).fast = false ∧ t.link n = s.link n)

/-- A manager's suspend of an Active tree waits for the boundary, where SUS is sent; its answer, or 1 ms, makes the tree Suspended: attached
devices become Suspended. A resume starts a fast training with cause 2; the first FST at least 500 µs after Active makes devices with a
range Resynced and the others Unranged. -/
def Obligations.SuspendAndResume : Prop :=
  (∀ (s : State) (n : Fin 8) (q : Req) (w : Word),
    s.Manages q → n.val < s.nPorts → s.sizesOk = true → s.ownsPort n = true → s.link n = 3 →
    ∃ t, exec (.treeSuspend n q w) s = .next t ∧ (t.port n).suspend = max 1 (s.port n).suspend ∧ t.link n = 3) ∧
  (∀ (s : State) (n : Fin 8),
    s.off = false → n.val < s.nPorts → s.sizesOk = true → (s.port n).suspend = 1 → s.link n = 3 →
    ∃ t, exec (.suspendAtBoundary n) s = .next t ∧ (t.port n).suspend = 2 ∧ .sus n susSets ∈ t.out) ∧
  (∀ (s : State) (n : Fin 8),
    s.off = false → n.val < s.nPorts → s.sizesOk = true → (s.port n).suspend = 2 → (s.port n).attach = none → (s.port n).sweep = none →
    ∃ t, exec (.susReceived n) s = .next t ∧ t.link n = 5 ∧ (t.port n).suspend = 0 ∧ t.flag (F.gpAccStatus_suspended n) = true ∧
    t.flag (F.gpAccEvents_suspended n) = true ∧ (∀ a ∈ addrs, 3 ≤ s.devSt n a → s.devSt n a ≤ 5 → t.devSt n a = 6)) ∧
  (∀ (s : State) (n : Fin 8),
    s.off = false → n.val < s.nPorts → s.sizesOk = true → (s.port n).suspend = 2 → (s.port n).attach = none → (s.port n).sweep = none →
    ∃ t, exec (.susTimeout n) s = .next t ∧ t.link n = 5 ∧ (t.port n).suspend = 0 ∧ t.flag (F.gpAccStatus_suspended n) = true ∧
    t.flag (F.gpAccEvents_suspended n) = true ∧ (∀ a ∈ addrs, 3 ≤ s.devSt n a → s.devSt n a ≤ 5 → t.devSt n a = 6)) ∧
  (∀ (s : State) (n : Fin 8) (q : Req) (w : Word),
    s.Manages q → n.val < s.nPorts → s.sizesOk = true → s.ownsPort n = true → s.link n = 5 →
    ∃ t, exec (.treeResume n q w) s = .next t ∧ t.link n = 2 ∧ t.get (F.gpAccStatus_resume_cause n) = 2 ∧ (t.port n).fast = true ∧
    (t.port n).began = 5) ∧
  (∀ (s : State) (n : Fin 8),
    s.off = false → n.val < s.nPorts → s.sizesOk = true → (s.port n).resuming = true → s.link n = 3 → (s.port n).fstFrom ≤ s.tk.boundary →
    (s.port n).resets = [] →
    ∃ t, exec (.resumeFst n) s = .next t ∧ (t.port n).resuming = false ∧ t.flag (F.gpAccStatus_suspended n) = false ∧
    t.flag (F.gpAccEvents_resumed n) = true ∧ (∀ a ∈ addrs, s.devSt n a = 6 → t.devSt n a = if (s.dev n a).hadRange then 5 else 3))

/-- A manager's GP_ACC_UNBIND of an Absent device makes its address Free with identity 0; GP_ACC_RETRY of a rejected root port device
enables the port again; GP_CUT_RELEASE of a cut device below a hub makes it Absent and sends the hub SET_PORT_STATE 4. GP_CNT_CLEAR and
GP_XACT_CLEAR clear the counters of their port, and CU_ACC_POP removes the oldest accession record. After its wait an attach sends
GET_IDENTITY at address 0; a failed one is tried again; after 2 ms of Disabled an enabled port enters Detect. A manager's BUS_RESET of a
whole tree without devices takes the port through Disabled and sets reset_active; 2 ms later the port retrains; at its end, or 500 ms
after it began, reset_active goes back and reset_done is set. -/
def Obligations.AccessionCommands : Prop :=
  (∀ (s : State) (n : Fin 8) (q : Req) (w : Word),
    s.Manages q → n.val < s.nPorts → s.ownsPort n = true → 1 ≤ w.toNat % 64 → w.toNat % 64 ≤ 62 → s.devSt n (w.toNat % 64) = 1 →
    s.isHub n (w.toNat % 64) = false →
    ∃ t, exec (.gpAccUnbind n q w) s = .next t ∧ t.devSt n (w.toNat % 64) = 0 ∧ t.dev n (w.toNat % 64) = {} ∧
    (∀ i ∈ List.range 4, t.reg (R.gpDevId0 n (w.toNat % 64) + 4 * i) = 0)) ∧
  (∀ (s : State) (n : Fin 8) (q : Req) (w : Word),
    s.Manages q → n.val < s.nPorts → s.sizesOk = true → s.ownsPort n = true → w.toNat % 64 = 0 → w.toNat / 2 ^ 8 % 16 = 0 →
    (s.port n).rejected.contains (0, 0) = true → s.link n = 0 → (s.port n).pulse = false →
    ∃ t, exec (.gpAccRetry n q w) s = .next t ∧ t.link n = 1 ∧ t.flag (F.gpLinkCtrl_enable n) = true ∧
    (t.port n).rejected = (s.port n).rejected.filter (· != (0, 0))) ∧
  (∀ (s : State) (n : Fin 8) (q : Req) (w : Word),
    s.Manages q → n.val < s.nPorts → s.sizesOk = true → s.ownsPort n = true → 1 ≤ w.toNat % 64 → w.toNat % 64 ≤ 62 →
    s.devSt n (w.toNat % 64) = 7 → (s.place n (w.toNat % 64)).1 ≠ 0 →
    ∃ t, exec (.gpCutRelease n q w) s = .next t ∧ t.devSt n (w.toNat % 64) = 1 ∧
    (t.port n).ctls.map (fun c => (c.use, c.addr)) = (s.port n).ctls.map (fun c => (c.use, c.addr)) ++ [(.setPort (s.place n (w.toNat % 64)).2 4, (s.place n (w.toNat % 64)).1)]) ∧
  (∀ (s : State) (n : Fin 8) (q : Req) (w : Word),
    s.Manages q → n.val < s.nPorts →
    ∃ t, exec (.gpCntClear n q w) s = .next t ∧ t.get (F.gpRangeCfg_excursions n) = 0 ∧
    (∀ i ∈ List.range 5, t.reg (R.gpSymErr n + 4 * i) = 0)) ∧
  (∀ (s : State) (n : Fin 8) (q : Req) (w : Word),
    s.Manages q → n.val < s.nPorts →
    ∃ t, exec (.gpXactClear n q w) s = .next t ∧ (∀ i ∈ List.range 2, t.reg (R.gpXactCnt n + 4 * i) = 0)) ∧
  (∀ (s : State) (q : Req) (w : Word) (r : List Byte) (rs : List (List Byte)),
    s.Manages q → s.acc = r :: rs → rs.length < 64 →
    ∃ t, exec (.cuAccPop q w) s = .next t ∧ t.acc = rs ∧ t.get F.cuAccStatus_count = rs.length) ∧
  (∀ (s : State) (n : Fin 8) (x : Attach),
    s.off = false → n.val < s.nPorts → s.sizesOk = true → (s.port n).attach = some x → x.step = 2 →
    ∃ t, exec (.attachWaitDone n) s = .next t ∧ (t.port n).attach = some { x with step := 3 } ∧
    (t.port n).ctls = (s.port n).ctls ++ [{ use := .identity0, addr := 0, setup := setupBytes true 0 1 0 0 64 }] ∧
    (t.port n).svc = (s.port n).svc ++ [.ctl .identity0 0]) ∧
  (∀ (s : State) (n : Fin 8) (x : Attach),
    s.off = false → n.val < s.nPorts → s.sizesOk = true → (s.port n).attach = some x → x.step = 8 → x.parent = 0 → s.link n = 3 →
    (s.port n).resuming = false → s.ownsPort n = true →
    ∃ t, exec (.attachRetry n) s = .next t ∧ (t.port n).attach.map (fun y => (y.parent, y.port, y.step)) = some (0, x.port, 2) ∧
    t.flag (F.gpAccStatus_busy n) = true) ∧
  (∀ (s : State) (n : Fin 8),
    s.off = false → n.val < s.nPorts → s.sizesOk = true → (s.port n).pulse = true → s.link n = 0 → s.flag (F.gpLinkCtrl_enable n) = true →
    ∃ t, exec (.portDisableEnd n) s = .next t ∧ t.link n = 1 ∧ (t.port n).pulse = false ∧ (t.port n).beacons = 0) ∧
  (∀ (s : State) (n : Fin 8) (q : Req) (w : Word),
    s.Manages q → n.val < s.nPorts → s.sizesOk = true → s.ownsPort n = true → w.toNat % 64 = 0 → s.link n = 3 → (s.port n).resets = [] →
    s.subtree n 0 = [] → (s.port n).attach = none → (s.port n).sweep = none → (s.port n).resuming = false →
    ∃ t, exec (.busReset n q w) s = .next t ∧ t.link n = 0 ∧ (t.port n).pulse = true ∧ t.flag (F.gpAccStatus_reset_active n) = true ∧
    (t.port n).resets.map (fun b => (b.scope, b.phase)) = [(0, 1)]) ∧
  (∀ (s : State) (n : Fin 8),
    s.off = false → n.val < s.nPorts → s.sizesOk = true → (s.port n).resets.any (fun b => b.scope == 0 && b.phase == 1) = true →
    (s.port n).pulse = true → s.link n = 0 → s.flag (F.gpLinkCtrl_enable n) = true →
    ∃ t, exec (.busResetRetrain n) s = .next t ∧ t.link n = 1 ∧ (t.port n).pulse = false ∧
    (t.port n).resets.all (fun b => b.phase != 1) = true) ∧
  (∀ (s : State) (n : Fin 8) (b : BusReset) (bs : List BusReset),
    s.off = false → n.val < s.nPorts → s.sizesOk = true → (s.port n).resets = b :: bs →
    ∃ t, exec (.busResetTimeout n) s = .next t ∧ (t.port n).resets = (b :: bs).filter (·.scope != b.scope) ∧
    t.flag (F.gpAccEvents_reset_done n) = true ∧
    t.get (F.gpAccStatus_reset_active n) = b2n (!((b :: bs).filter (·.scope != b.scope)).isEmpty) ∧
    t.tk.time = max s.tk.time (b.since + 500000000))

/-- An acknowledgement received in its window with no fault closes its transaction and, when it says late, counts at its context. A window
that closes without a response frees the tag, counts and raises the time-out, counts the missed output and the silent transaction. A
control transfer not done within 5 ms ends and its work entry completes. A first babble observation is counted, shown and raised. A
maintenance echo within 2.0 ns moves L_rt by an eighth; a lost echo is counted; a due probe waits for port service. -/
def Obligations.TransactionsOfAPort : Prop :=
  (∀ (s : State) (n : Fin 8) (p : RxPacket) (x : Xact) (c e k : Nat) (h : Hdr) (pl : List Byte),
    s.off = false → n.val < s.nPorts → s.sizesOk = true → s.link n = 3 → (s.port n).opens.find? (fun y => y.accepts p.t) = some x →
    x.use = .periodicOut c → x.expect = some e → p.t + rxDur p ≤ e + x.slot * 10 + 120 → rxCheck p.start p.syms = .good h pl k →
    h.addr = x.addr → h.pipe = x.pipe → h.tag = x.tag → h.dir = 1 → h.typ = 3 → h.tsb % 8 = 1 → s.armed 3 n = none → s.armed 4 n = none →
    s.armed 6 n = none → s.armed 7 n = none →
    ∃ t, exec (.responseReceive n p) s = .next t ∧ (t.port n).opens = (s.port n).opens.filter (·.tag != x.tag) ∧
    t.get (F.pxCntC_late c) = min (maxOf (F.pxCntC_late c).width) (s.get (F.pxCntC_late c) + h.tsc % 2) ∧
    t.tk.time = max s.tk.time (ceilDiv (p.t + rxDur p) 10)) ∧
  (∀ (s : State) (n : Fin 8) (tag : Fin 1024) (x : Xact) (c : Nat),
    s.off = false → s.sizesOk = true → (s.port n).opens.find? (fun y => y.tag == tag.val) = some x → x.use = .periodicOut c → x.addr ≠ 0 →
    s.attached n x.addr = true → (s.dev n x.addr).silent + 1 < 32 →
    ∃ t, exec (.responseTimeout n tag) s = .next t ∧ (t.port n).opens = (s.port n).opens.filter (·.tag != x.tag) ∧
    t.get (F.gpXactCnt_timeouts n) = min (maxOf (F.gpXactCnt_timeouts n).width) (s.get (F.gpXactCnt_timeouts n) + 1) ∧
    t.flag (F.gpXactEvents_timeout n) = true ∧
    t.get (F.pxCntB_missed c) = min (maxOf (F.pxCntB_missed c).width) (s.get (F.pxCntB_missed c) + 1) ∧
    (t.dev n x.addr).silent = (s.dev n x.addr).silent + 1 ∧ t.tk.time = max s.tk.time (ceilDiv x.closes 10)) ∧
  (∀ (s : State) (n : Fin 8) (a : Fin 64) (c : Ctl) (v : Nat) (g : Fin 16) (r : Fin 8) (i : Nat) (w : Work),
    s.off = false → s.sizesOk = true → (s.port n).ctls.find? (fun y => y.addr == a.val) = some c → c.began = some v → c.use = .work g r i →
    s.findWork g r i = some w →
    ∃ t, exec (.controlTimeout n a) s = .next t ∧
    (t.port n).ctls = (s.port n).ctls.filter (fun y => !(y.use == c.use && y.addr == a.val)) ∧ t.findWork g r i = none ∧
    t.tk.time = max s.tk.time (v + 5000000)) ∧
  (∀ (s : State) (n : Fin 8) (a : Fin 64),
    s.off = false → n.val < s.nPorts → s.sizesOk = true → s.link n = 3 → (s.port n).babble = [] →
    ∃ t, exec (.babbleObservation n a) s = .next t ∧ t.flag (F.gpXactEvents_babble n) = true ∧
    t.reg (R.gpLastBabble n) = BitVec.ofNat 32 (s.frame % 2 ^ 16 * 2 ^ 16 + b2n (a.val != 0) * 2 ^ 15 + a.val) ∧
    t.get (F.gpBabbleCnt_attributed n) = min (maxOf (F.gpBabbleCnt_attributed n).width) (s.get (F.gpBabbleCnt_attributed n) + b2n (a.val != 0)) ∧
    t.get (F.gpBabbleCnt_unattributed n) = min (maxOf (F.gpBabbleCnt_unattributed n).width) (s.get (F.gpBabbleCnt_unattributed n) + b2n (a.val == 0)) ∧
    t.link n = 3) ∧
  (∀ (s : State) (n : Fin 8) (a : Fin 64) (rtt rd ru tt : Nat) (x : Xact),
    s.off = false → s.sizesOk = true → (s.port n).opens.find? (fun y => y.addr == a.val && y.use == .probe) = some x →
    (s.port n).sweep = none → (s.port n).resets = [] → s.isRanged n a = true → (s.dev n a).derived = false → s.ownsPort n = true →
    s.sharedPort n = false → ((rtt : Int) - rd - ru - tt - s.get (F.gpRangeDev2_l_rt n a)).natAbs ≤ 20 → s.armed 3 n = none →
    s.armed 6 n = none → s.armed 7 n = none →
    ∃ t, exec (.rangingEcho n a rtt rd ru tt) s = .next t ∧
    t.get (F.gpRangeDev2_l_rt n a) = unsigned 16 ((s.get (F.gpRangeDev2_l_rt n a) : Int) + roundDiv ((rtt : Int) - rd - ru - tt - s.get (F.gpRangeDev2_l_rt n a)) 8) ∧
    t.devSt n a = 4 ∧ (t.dev n a).lost = 0 ∧ (t.dev n a).excur = 0 ∧ (t.port n).opens = (s.port n).opens.filter (·.tag != x.tag)) ∧
  (∀ (s : State) (n : Fin 8) (a : Fin 64) (x : Xact),
    s.off = false → s.sizesOk = true → (s.port n).opens.find? (fun y => y.addr == a.val && y.use == .probe) = some x →
    (s.port n).sweep = none → s.isRanged n a = true → a.val ≠ 0 → (s.dev n a).lost < 2 → (s.dev n a).silent + 1 < 32 →
    ∃ t, exec (.echoLost n a) s = .next t ∧ (t.dev n a).lost = (s.dev n a).lost + 1 ∧ (t.dev n a).silent = (s.dev n a).silent + 1 ∧
    t.flag (F.gpXactEvents_timeout n) = true ∧ (t.port n).opens = (s.port n).opens.filter (·.tag != x.tag)) ∧
  (∀ (s : State) (n : Fin 8) (a : Fin 64),
    s.off = false → s.sizesOk = true → s.link n = 3 → s.isRanged n a = true → s.ownsPort n = true → s.flag (F.gpRangeDev0_valid n a) = true →
    ∃ t, exec (.maintenanceProbeDue n a) s = .next t ∧ (t.port n).svc = (s.port n).svc ++ [.probe a ((s.frame + s.rate / 64) % 2 ^ 32)])

/-- With no earlier record and room in the store, the record of a latch is written at the write pointer with its times, definition and word
count, the pointer moves by its size, the records are counted, and no other byte of SRAM changes. A manager's clear with no record left
to write sets the pointer and the record count to 0; cnt_clear sets dropped to 0. -/
def Obligations.RecordStore : Prop :=
  (∀ (s : State) (r : RecReq) (rs : List RecReq) (p : Nat),
    s.off = false → s.rg.todo = r :: rs → s.rg.newest = none → s.flag F.rgStatus_full = false → s.flag F.rgStatus_clearing = false →
    s.get F.rgWritePtr_ptr = p → p + recSize r.words.length ≤ rgSize →
    ∃ t, exec .recordWriteDone s = .next t ∧ t.ramBytes (rgStore + p) 8 = leBytes 8 s.rg.time ∧
    t.ramBytes (rgStore + p + 8) 8 = leBytes 8 s.rg.time ∧ t.ram (rgStore + p + 20) = BitVec.ofNat 8 r.trig ∧
    t.get F.rgWritePtr_ptr = p + recSize r.words.length ∧
    t.get F.rgCount_records = min (maxOf F.rgCount_records.width) (s.get F.rgCount_records + 1) ∧
    ∀ a, (a < rgStore + p ∨ rgStore + p + recSize r.words.length ≤ a) → t.ram a = s.ram a) ∧
  (∀ (s : State) (q : Req) (w : Word),
    s.Manages q → s.rg.todo = [] →
    ∃ t, exec (.storeClear q w) s = .next t ∧ t.get F.rgWritePtr_ptr = 0 ∧ t.get F.rgCount_records = 0 ∧
    t.get F.rgCount_dropped = s.get F.rgCount_dropped ∧ t.sram = s.sram) ∧
  (∀ (s : State) (q : Req) (w : Word),
    s.Manages q →
    ∃ t, exec (.rgCntClear q w) s = .next t ∧ t.get F.rgCount_dropped = 0 ∧ t.get F.rgCount_records = s.get F.rgCount_records ∧
    t.get F.rgWritePtr_ptr = s.get F.rgWritePtr_ptr)

/-- At a frame boundary with no renumbering pending the frame number rises by one modulo 2^32, whatever else the boundary does, awake or
asleep; asleep, the instant of the boundary is the next of the grid. A confirmed Δ is added to the frame number modulo 2^32, shown and
raised. -/
def Obligations.FrameNumbers : Prop :=
  (∀ (s : State) (e : List SramFlip),
    s.off = false → s.sp.renum = none →
    ∃ t, exec (.frameBoundary e) s = .next t ∧ t.frame = (s.frame + 1) % 2 ^ 32 ∧ t.fuses = s.fuses) ∧
  (∀ (s : State) (e : List SramFlip),
    s.off = false → s.sp.renum = none → 2 ≤ s.power → s.tk.step = none →
    ∃ t, exec (.frameBoundary e) s = .next t ∧ t.frame = (s.frame + 1) % 2 ^ 32 ∧ t.tk.boundary = nextBoundary s.rate s.tk.boundary ∧
    t.tk.time = max s.tk.time (nextBoundary s.rate s.tk.boundary) ∧ t.gp = s.gp ∧ t.sram = s.sram) ∧
  (∀ (s : State) (d : Nat),
    s.off = false → s.sp.renum = some d →
    ∃ t, exec .frameRenumber s = .next t ∧ t.frame = (s.frame + d) % 2 ^ 32 ∧ t.get F.spRenumber_delta = d % 2 ^ F.spRenumber_delta.width ∧
    t.flag F.spFabEvents_renumbered = true ∧ t.tk = s.tk)

/-- A build that ends before the cut-off of the next frame adds that frame's plan to the first Active port, in ascending order, whose plan
of it was begun and is not built; past the cut-off, or with none left, it adds the plan of the frame after it in the same order; the
time is noted. The cut-off advances the counter to 1,000 ns before the boundary, closes the complete plan of a port, and, where a plan
begun is not complete, repeats the last one, counts a late frame and raises plan_late. The periodic engine takes the next item of a plan
at its start; between a step and the next FST it takes none. Values of pw_open whose frame is reached are forgotten. On an Active, owned
port, for a context served in this frame whose device has a range, issuing a periodic-in item opens exactly one transaction more, for
that device and pipe, that accepts at most max_len bytes, and sends the token: header type 1 with the length limit, no payload, behind
SOP. A periodic-out item with its value sends the output packet with that value, and an item of a context that is not served sends
nothing. -/
def Obligations.PlansAndIssue : Prop :=
  (∀ (s : State) (n : Fin 8),
    s.off = false → s.sizesOk = true → n.val < s.nPorts → s.cutoff ≠ nextFrame s.frame →
    s.link n = 3 ∧ (s.cuPort n).begun.contains (nextFrame s.frame) = true ∧ (s.cuPort n).plans.any (fun p => p.frame == nextFrame s.frame) = false →
    (∀ m ∈ List.range n.val, ¬ (s.link m = 3 ∧ (s.cuPort m).begun.contains (nextFrame s.frame) = true ∧ (s.cuPort m).plans.any (fun p => p.frame == nextFrame s.frame) = false)) →
    ∃ t, exec (.planBuildDone n) s = .next t ∧ (t.cuPort n).plans = (s.cuPort n).plans ++ [s.planOf n (nextFrame s.frame)] ∧
    t.built.any (fun b => b == (nextFrame s.frame, s.tk.time)) = true ∧ (s.planOf n (nextFrame s.frame)).frame = nextFrame s.frame) ∧
  (∀ (s : State) (n : Fin 8),
    s.off = false → s.sizesOk = true → n.val < s.nPorts →
    (s.cutoff = nextFrame s.frame ∨ (∀ m ∈ List.range 8, ¬ (s.link m = 3 ∧ (s.cuPort m).begun.contains (nextFrame s.frame) = true ∧ (s.cuPort m).plans.any (fun p => p.frame == nextFrame s.frame) = false))) →
    s.link n = 3 ∧ (s.cuPort n).begun.contains (nextFrame (nextFrame s.frame)) = true ∧ (s.cuPort n).plans.any (fun p => p.frame == nextFrame (nextFrame s.frame)) = false →
    (∀ m ∈ List.range n.val, ¬ (s.link m = 3 ∧ (s.cuPort m).begun.contains (nextFrame (nextFrame s.frame)) = true ∧ (s.cuPort m).plans.any (fun p => p.frame == nextFrame (nextFrame s.frame)) = false)) →
    ∃ t, exec (.planBuildDone n) s = .next t ∧ (t.cuPort n).plans = (s.cuPort n).plans ++ [s.planOf n (nextFrame (nextFrame s.frame))] ∧
    t.built.any (fun b => b == (nextFrame (nextFrame s.frame), s.tk.time)) = true ∧
    (s.planOf n (nextFrame (nextFrame s.frame))).frame = nextFrame (nextFrame s.frame)) ∧
  (∀ (s : State),
    s.off = false → s.cutoff ≠ nextFrame s.frame →
    ∃ t, exec .planCutoff s = .next t ∧ t.cutoff = nextFrame s.frame ∧ t.frame = s.frame ∧
    t.tk.time = max s.tk.time (nextBoundary s.rate s.tk.boundary - 1000)) ∧
  (∀ (s : State) (n : Fin 8) (p : Plan),
    s.off = false → s.sizesOk = true → n.val < s.nPorts → s.cutoff ≠ nextFrame s.frame → s.link n = 3 →
    (s.cuPort n).begun.contains (nextFrame s.frame) = true → (s.cuPort n).plans.find? (fun p => p.frame == nextFrame s.frame) = some p →
    p.late = false → s.get (F.fiInjCtrl_mode 0x11) = 0 →
    ∃ t, exec .planCutoff s = .next t ∧
    ((t.cuPort n).plans.find? (fun p => p.frame == nextFrame s.frame)).map (fun p => (p.closed, p.late, p.endNs)) = some (true, false, p.endNs) ∧
    (t.cuPort n).begun.contains (nextFrame s.frame) = false) ∧
  (∀ (s : State) (n : Fin 8),
    s.off = false → s.sizesOk = true → n.val < s.nPorts → s.cutoff ≠ nextFrame s.frame → s.link n = 3 →
    (s.cuPort n).begun.contains (nextFrame s.frame) = true → (s.cuPort n).plans.any (fun p => p.frame == nextFrame s.frame) = false →
    ∃ t, exec .planCutoff s = .next t ∧
    ((t.cuPort n).plans.find? (fun p => p.frame == nextFrame s.frame)).map (fun p => (p.closed, p.late)) = some (true, true) ∧
    t.get (F.cuPortLate_late_frames n) = min (maxOf (F.cuPortLate_late_frames n).width) (s.get (F.cuPortLate_late_frames n) + 1) ∧
    t.flag F.cuEvents_plan_late = true ∧ t.get F.cuPlanMargin_last_margin = 0) ∧
  (∀ (s : State) (n : Fin 8) (x : PlanItem) (xs : List PlanItem),
    s.off = false → s.sizesOk = true → s.tk.stepping = false → (s.cuPort n).todo = x :: xs →
    ∃ t, exec (.periodicIssue n) s = .next t ∧ (t.cuPort n).todo = xs ∧ t.tk.time = max s.tk.time ((s.frameAt + x.start) / 10)) ∧
  (∀ (s : State) (n : Fin 8),
    s.off = false → s.tk.stepping = true → s.cn.rose = [] →
    ∃ t, exec (.periodicIssue n) s = .next t ∧ t.cu = s.cu ∧ t.gp = s.gp ∧ t.tk = s.tk ∧ t.px = s.px) ∧
  (∀ (s : State) (n : Fin 8),
    s.off = false → s.sizesOk = true → n.val < s.nPorts →
    ∃ t, exec .pwOpenEffect s = .next t ∧ (t.port n).pwOld = (s.port n).pwOld.filter (fun p => !s.reached p.1) ∧
    t.get (F.gpFrameCfg_pw_open n) = s.get (F.gpFrameCfg_pw_open n)) ∧
  (∀ (s : State) (n : Fin 8) (x : PlanItem) (xs : List PlanItem),
    s.off = false → s.sizesOk = true → s.tk.stepping = false → (s.cuPort n).todo = x :: xs → s.link n = 3 → (s.port n).suspend ≠ 2 →
    s.ownsPort n = true → s.pxServed x.ctx s.frame = true → s.isRanged n (s.pxAddr x.ctx) = true → x.kind = 1 →
    ∃ t, exec (.periodicIssue n) s = .next t ∧ (t.port n).opens.length = (s.port n).opens.length + 1 ∧
    ((t.port n).opens.getLast?).map (fun y => (y.addr, y.pipe, y.room)) = some (s.pxAddr x.ctx, s.pxPipe x.ctx, s.pxMax x.ctx) ∧
    (t.cuPort n).todo = xs ∧
    .gliys n (s.frameAt + x.start) [] (wireOf symSop (packetBytes { downHdr 1 (s.pxAddr x.ctx) (s.pxPipe x.ctx) with tsa := if s.pxKind x.ctx = 5 then s.seqBit n (s.pxAddr x.ctx) (s.pxPipe x.ctx) else 0, tsc := s.pxMax x.ctx, tag := s.freeTag } []) true) ∈ t.out) ∧
  (∀ (s : State) (n : Fin 8) (x : PlanItem) (xs : List PlanItem) (v : OutVal),
    s.off = false → s.sizesOk = true → s.tk.stepping = false → (s.cuPort n).todo = x :: xs → s.link n = 3 → (s.port n).suspend ≠ 2 →
    s.ownsPort n = true → s.pxServed x.ctx s.frame = true → s.isRanged n (s.pxAddr x.ctx) = true → x.kind = 2 → x.val = some v →
    v.bad = false →
    ∃ t, exec (.periodicIssue n) s = .next t ∧ (t.port n).opens.length = (s.port n).opens.length + 1 ∧ (t.cuPort n).todo = xs ∧
    .gliys n (s.frameAt + x.start) [] (wireOf symSop (packetBytes { outHdr (s.pxAddr x.ctx) (s.pxPipe x.ctx) (s.pxArm x.ctx) v with tag := s.freeTag } v.data) true) ∈ t.out) ∧
  (∀ (s : State) (n : Fin 8) (x : PlanItem) (xs : List PlanItem),
    s.off = false → s.sizesOk = true → s.tk.stepping = false → (s.cuPort n).todo = x :: xs → x.kind = 1 → s.pxServed x.ctx s.frame = false →
    ∃ t, exec (.periodicIssue n) s = .next t ∧ (t.port n).opens = (s.port n).opens ∧ (t.cuPort n).todo = xs)

/-- A manager's enable of a Disabled context that passes every check of R177 takes effect three frames on; one that fails shows the check's
code in refuse and stays. A disable of an Enabled context makes it Stopping until three frames on. A release of a Held context that fits
its descriptor enables it three frames on. A clear_halt of a Halted context queues a CLEAR_HALT at its port. cnt_clear sets the four
counters to 0. For every context with no disable pending and not Stopping whose enable's effect frame has been reached, EFFECT_FRAME
makes it Enabled with no enable pending; for every context whose disable's effect frame has been reached it makes it Disabled with none
pending. -/
def Obligations.ContextCommands : Prop :=
  (∀ (s : State) (c : Fin 2048) (q : Req) (w : Word),
    s.Manages q → s.pxState c = 1 → (s.ctx c).enAt = none → s.enableCode c = 0 →
    ∃ t, exec (.contextEnable c q w) s = .next t ∧ (t.ctx c).enAt = some s.effect ∧ t.get (F.pxCtrl_refuse c) = 0 ∧ t.pxGal c = w.toNat % 16) ∧
  (∀ (s : State) (c : Fin 2048) (q : Req) (w : Word),
    s.Manages q → s.pxState c = 1 → (s.ctx c).enAt = none → s.enableCode c ≠ 0 →
    ∃ t, exec (.contextEnable c q w) s = .next t ∧ t.get (F.pxCtrl_refuse c) = s.enableCode c ∧ t.ctx c = s.ctx c) ∧
  (∀ (s : State) (c : Fin 2048) (q : Req) (w : Word),
    s.Manages q → s.pxState c = 2 →
    ∃ t, exec (.contextDisable c q w) s = .next t ∧ (t.ctx c).mode = 6 ∧ (t.ctx c).disAt = some s.effect ∧ (t.ctx c).enAt = none ∧
    t.pxGal c = s.pxGal c) ∧
  (∀ (s : State) (c : Fin 2048) (q : Req) (w : Word),
    s.Manages q → s.pxState c = 4 → s.descFits c = true →
    ∃ t, exec (.contextRelease c q w) s = .next t ∧ (t.ctx c).enAt = some s.effect ∧ t.get (F.pxCtrl_refuse c) = 0) ∧
  (∀ (s : State) (c : Fin 2048) (q : Req) (w : Word),
    s.Manages q → s.sizesOk = true → s.pxState c = 5 → (s.port (s.pxPort c)).ctls.any (·.use == .clearHalt c (s.pxPipe c)) = false →
    ∃ t, exec (.clearHalt c q w) s = .next t ∧ (t.port (s.pxPort c)).ctls.any (·.use == .clearHalt c (s.pxPipe c)) = true ∧
    (t.port (s.pxPort c)).svc = (s.port (s.pxPort c)).svc ++ [.ctl (.clearHalt c (s.pxPipe c)) (s.pxAddr c)]) ∧
  (∀ (s : State) (c : Fin 2048) (q : Req) (w : Word),
    s.Manages q →
    ∃ t, exec (.pxCntClear c q w) s = .next t ∧ (∀ i ∈ List.range 4, t.reg (R.pxCntA c + 4 * i) = 0) ∧ t.ctx c = s.ctx c) ∧
  (∀ (s : State) (c : Nat) (e : Nat),
    s.off = false → (s.ctx c).disAt = none → (s.ctx c).mode ≠ 6 → (s.ctx c).enAt = some e → s.reached e = true →
    ∃ t, exec .effectFrame s = .next t ∧ (t.ctx c).mode = 2 ∧ (t.ctx c).enAt = none ∧ t.frame = s.frame) ∧
  (∀ (s : State) (c : Nat) (d : Nat),
    s.off = false → (s.ctx c).disAt = some d → s.reached d = true →
    ∃ t, exec .effectFrame s = .next t ∧ (t.ctx c).mode = 1 ∧ (t.ctx c).enAt = none ∧ (t.ctx c).disAt = none)

/-- A manager's write of a legal rate to CU_RATE_CHECK begins a check with done 0; its end sets done, raises rate_check_done and shows in
ports_over the ports that would shed an entry at that rate and in fit whether there are none. CU_ADMIT_CFG takes a cap of 10 to 90 and
CU_PORTn_CFG a fill of 1,000 to 9,000, and leaves any other write without effect. CU_CLEAR sets the held, late, deferred and reach
counts and the bulk counters to 0 and min_margin to 0xFFFF (that min_margin is set so is deduced: log entry 137). -/
def Obligations.AdmissionRegisters : Prop :=
  (∀ (s : State) (q : Req) (w : Word),
    s.Manages q → 2000 ≤ w.toNat % 65536 → w.toNat % 65536 ≤ 32000 →
    ∃ t, exec (.rateCheck q w) s = .next t ∧ t.reg R.cuRateCheck = BitVec.ofNat 32 (w.toNat % 65536) ∧ t.rate = s.rate ∧ t.cat = s.cat) ∧
  (∀ (s : State),
    s.off = false → s.flag F.cuRateCheck_done = false → 2000 ≤ s.get F.cuRateCheck_rate → s.get F.cuRateCheck_rate ≤ 32000 →
    ∃ t, exec .rateCheckDone s = .next t ∧ t.flag F.cuRateCheck_done = true ∧ t.flag F.cuEvents_rate_check_done = true ∧
    t.flag F.cuRateCheck_fit = s.ports.all (fun n => (s.shedSet n (s.get F.cuRateCheck_rate) s.frame).isEmpty) ∧
    (∀ n ∈ List.range 8, bitOf (t.get F.cuRateCheck_ports_over) n = (s.ports.contains n && !(s.shedSet n (s.get F.cuRateCheck_rate) s.frame).isEmpty)) ∧
    t.cat = s.cat) ∧
  (∀ (s : State) (q : Req) (w : Word),
    s.Manages q → 10 ≤ w.toNat % 256 → w.toNat % 256 ≤ 90 →
    ∃ t, exec (.admissionConfigWrite none q w) s = .next t ∧ t.get F.cuAdmitCfg_cap_pct = w.toNat % 256) ∧
  (∀ (s : State) (q : Req) (w : Word),
    s.Manages q → (w.toNat % 256 < 10 ∨ 90 < w.toNat % 256) →
    ∃ t, exec (.admissionConfigWrite none q w) s = .next t ∧ t.get F.cuAdmitCfg_cap_pct = s.get F.cuAdmitCfg_cap_pct ∧ t.cat = s.cat) ∧
  (∀ (s : State) (n : Fin 8) (q : Req) (w : Word),
    s.Manages q → n.val < s.nPorts → 1000 ≤ w.toNat % 2 ^ 14 → w.toNat % 2 ^ 14 ≤ 9000 →
    ∃ t, exec (.admissionConfigWrite (some n) q w) s = .next t ∧ t.fill n = w.toNat % 2 ^ 14) ∧
  (∀ (s : State) (n : Fin 8) (q : Req) (w : Word),
    s.Manages q → (w.toNat % 2 ^ 14 < 1000 ∨ 9000 < w.toNat % 2 ^ 14) →
    ∃ t, exec (.admissionConfigWrite (some n) q w) s = .next t ∧ t.fill n = s.fill n ∧ t.cat = s.cat) ∧
  (∀ (s : State) (q : Req) (w : Word),
    s.Manages q →
    ∃ t, exec (.cuClear q w) s = .next t ∧ t.get F.cuDelayStatus_held = 0 ∧ t.get F.cuPlanMargin_min_margin = 0xFFFF ∧
    (∀ n ∈ List.range 8, t.get (F.cuPortLate_late_frames n) = 0 ∧ t.get (F.cuPortUrgent_deferred n) = 0 ∧ t.get (F.cuPortReach_count n) = 0 ∧ t.reg (R.cuPortBulk n) = 0))

/-- A ring that fetches and has no read outstanding asks host memory for the 32 bytes at its fetch index, in one request when they lie at a
multiple of 32 and requests may be that long. A failed read, or one that times out, ends the read, is counted in host_err and is logged.
A fresh well-formed MARK entry is taken into the ring, the fetch index moves on by one modulo 2^16, and the entry waits for its target.
A malformed one halts its gallery: every ring that ran or was stopping is Halted and its entries not started are discarded, the ring
that met it shows halt_source with the index and op, and the entry is not fetched. -/
def Obligations.WorkEntryFetch : Prop :=
  (∀ (s : State) (g : Fin 16) (r : Fin 8),
    s.off = false → s.sizesOk = true → (s.gaOf g).rings.length = 8 → s.fetches g r = true → s.owed.any (fun o => o.1 == g.val) = false →
    (s.ring g r).reading = false → s.entryAt g r (s.get (F.gaRingPos_fetch g r)) % 32 = 0 → 32 ≤ s.pci.mrrs →
    s.readFits (s.entryAt g r (s.get (F.gaRingPos_fetch g r))) 32 = true →
    ∃ t, exec (.ringPoll g r) s = .next t ∧ (t.ring g r).reading = true ∧
    .hostRead (s.hostReq g 0) (s.entryAt g r (s.get (F.gaRingPos_fetch g r))) 32 ∈ t.out ∧
    t.get (F.gaRingPos_fetch g r) = s.get (F.gaRingPos_fetch g r)) ∧
  (∀ (s : State) (g : Fin 16) (r : Fin 8),
    s.off = false → s.sizesOk = true → (s.gaOf g).rings.length = 8 → (s.ring g r).reading = true → (s.ring g r).stale = 0 →
    s.armed 0x09 0 = none → s.armed 0x0A 0 = none →
    ∃ t, exec (.workEntryRead g r .ur) s = .next t ∧ (t.ring g r).reading = false ∧
    t.get (F.gaStatus_host_err g) = min (maxOf (F.gaStatus_host_err g).width) (s.get (F.gaStatus_host_err g) + 1) ∧
    t.pci.aer.map (·.1) = s.pci.aer.map (·.1) ++ [0] ∧ t.work = s.work) ∧
  (∀ (s : State) (g : Fin 16) (r : Fin 8),
    s.off = false → s.sizesOk = true → (s.gaOf g).rings.length = 8 → (s.ring g r).reading = true → (s.ring g r).stale = 0 →
    s.armed 0x09 0 = none → s.armed 0x0A 0 = none →
    ∃ t, exec (.hostReadTimeout (.workEntry g r)) s = .next t ∧ (t.ring g r).reading = false ∧
    t.get (F.gaStatus_host_err g) = min (maxOf (F.gaStatus_host_err g).width) (s.get (F.gaStatus_host_err g) + 1) ∧
    t.pci.aer.map (·.1) = s.pci.aer.map (·.1) ++ [3] ∧ t.work = s.work) ∧
  (∀ (s : State) (g : Fin 16) (r : Fin 8) (b : List Byte),
    s.off = false → s.sizesOk = true → (s.gaOf g).rings.length = 8 → (s.ring g r).reading = true → (s.ring g r).stale = 0 →
    s.armed 0x09 0 = none → s.armed 0x0A 0 = none → s.armed 0x08 g = none → s.fetches g r = true → b.length = 32 → byteAt b 0 = 7 →
    byteAt b 2 = lapOf (s.get (F.gaRingCtrl_log2_size g r)) (s.get (F.gaRingPos_fetch g r)) → byteAt b 3 = 255 - byteAt b 2 →
    byteAt b 2 ≠ byteAt b 3 → ({ g := g, r := r, i := s.get (F.gaRingPos_fetch g r), ent := b } : Work).shapely = true →
    ({ g := g, r := r, i := s.get (F.gaRingPos_fetch g r), ent := b } : Work).notBefore = false → s.flips = [] →
    (s.get (F.fiInjCtrl_mode 1) = 0 ∨ s.get (F.fiInjCtrl_mode 1) = 3) → (s.get (F.fiInjCtrl_mode 2) = 0 ∨ s.get (F.fiInjCtrl_mode 2) = 3) →
    ∃ t, exec (.workEntryRead g r (.data b)) s = .next t ∧
    t.work = s.work ++ [{ g := g, r := r, i := s.get (F.gaRingPos_fetch g r), ent := b }] ∧
    t.get (F.gaRingPos_fetch g r) = (s.get (F.gaRingPos_fetch g r) + 1) % 2 ^ 16 ∧
    (t.ring g r).out = (s.ring g r).out ++ [s.get (F.gaRingPos_fetch g r)] ∧ (t.ring g r).reading = true) ∧
  (∀ (s : State) (g : Fin 16) (r : Fin 8) (b : List Byte) (w : Work),
    s.off = false → s.sizesOk = true → (s.gaOf g).rings.length = 8 → (s.ring g r).reading = true → (s.ring g r).stale = 0 →
    s.armed 0x09 0 = none → s.armed 0x0A 0 = none → s.armed 0x08 g = none → s.fetches g r = true → b.length = 32 →
    byteAt b 2 = lapOf (s.get (F.gaRingCtrl_log2_size g r)) (s.get (F.gaRingPos_fetch g r)) → byteAt b 3 ≠ byteAt b 2 →
    w = { g := g, r := r, i := s.get (F.gaRingPos_fetch g r), ent := b } → (w.shapely = false ∨ byteAt b 3 ≠ 255 - byteAt b 2) →
    s.flips = [] → (s.get (F.fiInjCtrl_mode 1) = 0 ∨ s.get (F.fiInjCtrl_mode 1) = 3) →
    (s.get (F.fiInjCtrl_mode 2) = 0 ∨ s.get (F.fiInjCtrl_mode 2) = 3) →
    ∃ t, exec (.workEntryRead g r (.data b)) s = .next t ∧ t.gal g = 2 ∧
    (∀ k ∈ List.range 8, (s.ringSt g k = 1 ∨ s.ringSt g k = 2) → t.ringSt g k = 3) ∧
    (∀ y ∈ t.work, y.g = g → (s.ringSt g y.r = 1 ∨ s.ringSt g y.r = 2) → y.r < 8 → y.started = true) ∧
    t.flag (F.gaRingState_halt_source g r) = true ∧ t.reg (R.gaRingHaltIdx g r) = BitVec.ofNat 32 (w.op * 2 ^ 24 + w.i) ∧
    t.get (F.gaRingPos_fetch g r) = s.get (F.gaRingPos_fetch g r) ∧ (t.ring g r).reading = false ∧ (∀ h : Fin 16, h ≠ g → t.gal h = s.gal h))

/-- A local bulk-in, bulk-out or control entry that is on its way, that its gallery may use, that its context or device does not refuse, and
whose port's queue holds fewer than 512 enters the queue at the level of its flags, as the newest. A refused one completes and leaves,
or, with an earlier entry of its pipe not completed, waits for it (R33). A fragment table that cannot be read completes its entry; a
well-formed one gives an outward entry its fragments. -/
def Obligations.TransferEntries : Prop :=
  (∀ (s : State) (g : Fin 16) (r : Fin 8) (i : BitVec 16) (x : Work),
    s.off = false → s.findWork g r i.toNat = some x → x.loc = .gate → x.remote = false → s.violationOf x = 0 → s.bulkRefusal x = none →
    (s.bulkQueue (s.workPlace x).1).length < 512 → x.op = 1 →
    ∃ t, exec (.bulkIn g r i) s = .next t ∧
    (t.findWork g r i.toNat).map (fun y => (y.loc, y.level, y.since, y.stamp)) = some (.queued, x.level0, s.frame, s.stamps) ∧
    t.stamps = s.stamps + 1 ∧ (t.findWork g r i.toNat).map (·.ent) = some x.ent) ∧
  (∀ (s : State) (g : Fin 16) (r : Fin 8) (i : BitVec 16) (x : Work),
    s.off = false → s.findWork g r i.toNat = some x → x.loc = .gate → x.remote = false → s.violationOf x = 0 → s.bulkRefusal x = none →
    (s.bulkQueue (s.workPlace x).1).length < 512 → x.op = 2 → x.bytes ≠ 0 → x.indirect = true → x.host % 4096 + 16 * x.nFrag ≤ 4096 →
    16 * x.nFrag ≤ s.pci.mrrs → s.readFits x.host (16 * x.nFrag) = true → s.dmaReady g = true → s.owed.any (fun o => o.1 == g.val) = false →
    ∃ t, exec (.bulkOut g r i) s = .next t ∧
    (t.findWork g r i.toNat).map (fun y => (y.loc, y.level, y.since, y.stamp)) = some (.queued, x.level0, s.frame, s.stamps) ∧
    (t.findWork g r i.toNat).map (·.stage) = some .table ∧ .hostRead (s.hostReq g 0) x.host (16 * x.nFrag) ∈ t.out ∧ t.stamps = s.stamps + 1) ∧
  (∀ (s : State) (g : Fin 16) (r : Fin 8) (i : BitVec 16) (x : Work),
    s.off = false → s.findWork g r i.toNat = some x → x.loc = .gate → x.remote = false → s.violationOf x = 0 → s.bulkRefusal x = none →
    (s.bulkQueue (s.workPlace x).1).length < 512 → x.op = 2 → x.bytes ≠ 0 → x.indirect = false → s.asleep = true →
    ∃ t, exec (.bulkOut g r i) s = .next t ∧
    (t.findWork g r i.toNat).map (fun y => (y.loc, y.level, y.since, y.stamp)) = some (.queued, x.level0, s.frame, s.stamps) ∧
    (t.findWork g r i.toNat).map (·.stage) = some .wait ∧ t.stamps = s.stamps + 1) ∧
  (∀ (s : State) (g : Fin 16) (r : Fin 8) (i : BitVec 16) (x : Work),
    s.off = false → s.findWork g r i.toNat = some x → x.loc = .gate → x.remote = false → s.violationOf x = 0 → s.bulkRefusal x = none →
    (s.bulkQueue (s.workPlace x).1).length < 512 → x.op = 3 → x.outward = false →
    ∃ t, exec (.control g r i) s = .next t ∧
    (t.findWork g r i.toNat).map (fun y => (y.loc, y.level, y.since, y.stamp)) = some (.queued, x.level0, s.frame, s.stamps) ∧
    t.stamps = s.stamps + 1 ∧ t.gp = s.gp) ∧
  (∀ (s : State) (g : Fin 16) (r : Fin 8) (i : BitVec 16) (x : Work) (e : Nat × Nat),
    s.off = false → s.findWork g r i.toNat = some x → x.loc = .gate → x.remote = false → s.violationOf x = 0 → s.bulkRefusal x = some e →
    x.op = 1 → s.pipeAhead x = false →
    ∃ t, exec (.bulkIn g r i) s = .next t ∧ t.findWork g r i.toNat = none ∧ t.stamps = s.stamps) ∧
  (∀ (s : State) (g : Fin 16) (r : Fin 8) (i : BitVec 16) (x : Work) (e : Nat × Nat),
    s.off = false → s.findWork g r i.toNat = some x → x.loc = .gate → x.remote = false → s.violationOf x = 0 → s.bulkRefusal x = some e →
    x.op = 2 → s.pipeAhead x = false →
    ∃ t, exec (.bulkOut g r i) s = .next t ∧ t.findWork g r i.toNat = none ∧ t.stamps = s.stamps) ∧
  (∀ (s : State) (g : Fin 16) (r : Fin 8) (i : BitVec 16) (x : Work) (e : Nat × Nat),
    s.off = false → s.findWork g r i.toNat = some x → x.loc = .gate → x.remote = false → s.violationOf x = 0 → s.bulkRefusal x = some e →
    x.op = 3 → s.pipeAhead x = false →
    ∃ t, exec (.control g r i) s = .next t ∧ t.findWork g r i.toNat = none ∧ t.stamps = s.stamps) ∧
  (∀ (s : State) (g : Fin 16) (r : Fin 8) (i : BitVec 16) (x : Work) (e : Nat × Nat),
    s.off = false → s.findWork g r i.toNat = some x → x.loc = .gate → x.remote = false → s.violationOf x = 0 → s.bulkRefusal x = some e →
    x.op = 1 → s.pipeAhead x = true →
    ∃ t, exec (.bulkIn g r i) s = .next t ∧ (t.findWork g r i.toNat).map (·.loc) = some .ended ∧ t.stamps = s.stamps) ∧
  (∀ (s : State) (g : Fin 16) (r : Fin 8) (i : BitVec 16) (x : Work),
    s.off = false → s.findWork g r i.toNat = some x → x.stage = .table → s.armed 0x09 0 = none → s.armed 0x0A 0 = none →
    s.pipeAhead x = false → s.readsOf (.fragTable g.val r.val i.toNat) < 2 →
    ∃ t, exec (.fragmentTableReadDone g r i .ur) s = .next t ∧ t.findWork g r i.toNat = none ∧
    t.pci.aer.map (·.1) = s.pci.aer.map (·.1) ++ [0]) ∧
  (∀ (s : State) (g : Fin 16) (r : Fin 8) (i : BitVec 16) (x : Work) (b : List Byte),
    s.off = false → s.findWork g r i.toNat = some x → x.stage = .table → s.armed 0x09 0 = none → s.armed 0x0A 0 = none → x.op = 2 →
    (∀ y ∈ s.work, y.stage ≠ .wait) → b.length = 16 * x.nFrag →
    firstBad (fragsOf b x.nFrag) (fun k f => f.2 == 0 || (k + 1 != (fragsOf b x.nFrag).length && f.2 % 8 != 0)) = none →
    sumOf ((fragsOf b x.nFrag).map (·.2)) = x.bytes → firstBad (fragsOf b x.nFrag) (fun _ f => f.1 % 8 != 0) = none →
    s.readsOf (.fragTable g.val r.val i.toNat) < 2 →
    ∃ t, exec (.fragmentTableReadDone g r i (.data b)) s = .next t ∧ (t.findWork g r i.toNat).map (·.frags) = some (fragsOf b x.nFrag) ∧
    t.pci.aer = s.pci.aer)

/-- An edit entry that is on its way, that its gallery may use and whose fence is open completes: accepted, the edit of R187 is made in the
catalogue; refused, the catalogue stays and the refusal of its partition is counted. A MARK completes with status OK: while the gallery
has no dma_ready its two writes wait, the result first and the lap byte last. -/
def Obligations.CatalogueEntries : Prop :=
  (∀ (s : State) (g : Fin 16) (r : Fin 8) (i : BitVec 16) (x : Work),
    s.off = false → s.findWork g r i.toNat = some x → x.loc = .gate → x.remote = false → s.violationOf x = 0 → s.fenceOpen x = true →
    x.op = 4 → (s.catInsert x.ctx x.catSched).1 = 0 →
    ∃ t, exec (.catInsert g r i) s = .next t ∧ t.cat = (s.catInsert x.ctx x.catSched).2.2.cat ∧
    (t.catAt (s.catInsert x.ctx x.catSched).2.1).map (·.sched) = some x.catSched ∧ t.findWork g r i.toNat = none) ∧
  (∀ (s : State) (g : Fin 16) (r : Fin 8) (i : BitVec 16) (x : Work),
    s.off = false → s.findWork g r i.toNat = some x → x.loc = .gate → x.remote = false → s.violationOf x = 0 → s.fenceOpen x = true →
    x.op = 4 → s.editCode x.ctx x.catSched none ≠ 0 →
    ∃ t, exec (.catInsert g r i) s = .next t ∧ t.cat = s.cat ∧ t.findWork g r i.toNat = none ∧
    t.get (F.cuCatStatus_refused (s.pxPort x.ctx)) = min (maxOf (F.cuCatStatus_refused (s.pxPort x.ctx)).width) (s.get (F.cuCatStatus_refused (s.pxPort x.ctx)) + 1)) ∧
  (∀ (s : State) (g : Fin 16) (r : Fin 8) (i : BitVec 16) (x : Work) (e : CatEntry),
    s.off = false → s.findWork g r i.toNat = some x → x.loc = .gate → x.remote = false → s.violationOf x = 0 → s.fenceOpen x = true →
    x.op = 5 → s.catAt x.catIndex = some e → e.until_ = none → (s.pxKind e.ctx = 1 ∨ s.pxKind e.ctx = 2 ∨ s.pxKind e.ctx = 5) →
    ∃ t, exec (.catRemove g r i) s = .next t ∧ t.catAt x.catIndex = some { e with until_ := some s.effect } ∧ t.findWork g r i.toNat = none) ∧
  (∀ (s : State) (g : Fin 16) (r : Fin 8) (i : BitVec 16) (x : Work) (e : CatEntry),
    s.off = false → s.findWork g r i.toNat = some x → x.loc = .gate → x.remote = false → s.violationOf x = 0 → s.fenceOpen x = true →
    x.op = 6 → s.catAt x.catIndex = some e → (s.catModify x.catIndex x.catSched).1 = 0 →
    ∃ t, exec (.catModify g r i) s = .next t ∧
    (t.catAt x.catIndex).map (fun y => (y.ctx, y.sched, y.since, y.olds)) = some (e.ctx, x.catSched, s.effect, e.olds ++ [(s.effect, some e.sched)]) ∧
    t.findWork g r i.toNat = none) ∧
  (∀ (s : State) (g : Fin 16) (r : Fin 8) (i : BitVec 16) (x : Work),
    s.off = false → s.findWork g r i.toNat = some x → x.loc = .gate → x.remote = false → s.violationOf x = 0 → s.fenceOpen x = true →
    x.op = 5 → s.catAt x.catIndex = none →
    ∃ t, exec (.catRemove g r i) s = .next t ∧ t.cat = s.cat ∧ t.findWork g r i.toNat = none) ∧
  (∀ (s : State) (g : Fin 16) (r : Fin 8) (i : BitVec 16) (x : Work),
    s.off = false → s.findWork g r i.toNat = some x → x.loc = .gate → x.remote = false → s.violationOf x = 0 → s.fenceOpen x = true →
    x.op = 6 → s.catAt x.catIndex = none →
    ∃ t, exec (.catModify g r i) s = .next t ∧ t.cat = s.cat ∧ t.findWork g r i.toNat = none) ∧
  (∀ (s : State) (g : Fin 16) (r : Fin 8) (i : BitVec 16) (x : Work),
    s.off = false → s.findWork g r i.toNat = some x → x.loc = .gate → x.remote = false → s.fenceOpen x = true → x.op = 7 →
    ∃ t, exec (.mark g r i) s = .next t ∧ t.findWork g r i.toNat = none ∧
    t.get (F.gaRingCnt_completed g r) = (s.get (F.gaRingCnt_completed g r) + 1) % 2 ^ (F.gaRingCnt_completed g r).width ∧ t.cat = s.cat) ∧
  (∀ (s : State) (g : Fin 16) (r : Fin 8) (i : BitVec 16) (x : Work),
    s.off = false → s.findWork g r i.toNat = some x → x.loc = .gate → x.remote = false → s.fenceOpen x = true → x.op = 7 →
    s.dmaReady g = false →
    ∃ t, exec (.mark g r i) s = .next t ∧
    s.owed ++ [(g.val, s.entryAt g r i.toNat + 4, .write 0 (doneBytes 0 0 0 0 s.frame s.now (s.chipQuality s.now))), (g.val, s.entryAt g r i.toNat + 3, .write 0 [BitVec.ofNat 8 (byteAt x.ent 2)])] <+: t.owed)

/-- A manager's enable of a Disabled ring of an Open gallery with a legal size and aligned base and status addresses makes it Running from
its start index, with no resume head; with an illegal one it stays Disabled and shows refused. A disable of a Running ring makes it
Stopping, and its entries that are not started are forgotten. When the started ones have completed it is Disabled, with a valid resume
head and its start at the tail report. A manager's enable of an event ring that does not run, of a gallery that is not Closed, with a
legal size and aligned addresses makes it run and reads its tail word as soon as dma_ready allows; a disable stops it, it counts as
full, and what waits for it waits on (deduced: log entry 40), but for the copies of events whose pipes are polled all the same, which
are dropped. The tail word read gives the ring its index and head, the head word read its head; with nothing waiting to be written, full
is then what the indices say. A failed tail read is counted and made again. -/
def Obligations.RingCommands : Prop :=
  (∀ (s : State) (g : Fin 16) (r : Fin 8) (q : Req) (w : Word),
    s.Manages q → s.sizesOk = true → (s.gaOf g).rings.length = 8 → s.ringSt g r = 0 → s.gal g = 1 → 4 ≤ bitsOf w.toNat 24 4 →
    bitsOf w.toNat 24 4 ≤ 12 → s.reg64 (R.gaRingBaseLo g r) % 64 = 0 → s.reg64 (R.gaRingStatLo g r) % 4 = 0 →
    ∃ t, exec (.ringEnable g r q w) s = .next t ∧ t.ringSt g r = 1 ∧ t.get (F.gaRingPos_fetch g r) = s.get (F.gaRingStart_start g r) ∧
    t.get (F.gaRingPos_tail g r) = s.get (F.gaRingStart_start g r) ∧ t.flag (F.gaRingResume_valid g r) = false ∧ (t.ring g r).out = [] ∧
    t.get (F.gaRingCtrl_log2_size g r) = bitsOf w.toNat 24 4) ∧
  (∀ (s : State) (g : Fin 16) (r : Fin 8) (q : Req) (w : Word),
    s.Manages q → s.ringSt g r = 0 → s.gal g = 1 →
    (bitsOf w.toNat 24 4 < 4 ∨ 12 < bitsOf w.toNat 24 4 ∨ s.reg64 (R.gaRingBaseLo g r) % 64 ≠ 0 ∨ s.reg64 (R.gaRingStatLo g r) % 4 ≠ 0) →
    ∃ t, exec (.ringEnable g r q w) s = .next t ∧ t.ringSt g r = 0 ∧ t.flag (F.gaRingState_refused g r) = true ∧ t.ga = s.ga) ∧
  (∀ (s : State) (g : Fin 16) (r : Fin 8) (q : Req) (w : Word),
    s.Manages q → s.sizesOk = true → (s.gaOf g).rings.length = 8 → s.ringSt g r = 1 →
    ∃ t, exec (.ringDisable g r q w) s = .next t ∧ t.ringSt g r = 2 ∧ (∀ x ∈ t.work, x.g = g → x.r = r → x.started = true) ∧
    (t.ring g r).reading = false ∧ t.get (F.gaRingPos_fetch g r) = s.get (F.gaRingPos_fetch g r)) ∧
  (∀ (s : State) (g : Fin 16) (r : Fin 8),
    s.off = false → s.sizesOk = true → (s.gaOf g).rings.length = 8 → s.ringSt g r = 2 → s.ringQuiet g r = true →
    s.flag (F.gaRingResume_valid g r) = false →
    ∃ t, exec (.ringStopDone g r) s = .next t ∧ t.ringSt g r = 0 ∧ t.flag (F.gaRingCtrl_enable g r) = false ∧
    t.flag (F.gaRingResume_valid g r) = true ∧
    t.get (F.gaRingResume_cause g r) = (s.ring g r).cause % 2 ^ (F.gaRingResume_cause g r).width ∧
    t.get (F.gaRingResume_head g r) = s.tail g r % 2 ^ 16 ∧ t.get (F.gaRingStart_start g r) = s.tail g r % 2 ^ 16) ∧
  (∀ (s : State) (g : Fin 16) (q : Req) (w : Word),
    s.Manages q → s.sizesOk = true → s.flag (F.gaEvtStatus_running g) = false → s.gal g ≠ 0 → 4 ≤ bitsOf w.toNat 24 4 →
    bitsOf w.toNat 24 4 ≤ 12 → s.reg64 (R.gaEvtBaseLo g) % 16 = 0 → s.reg64 (R.gaEvtHeadLo g) % 4 = 0 → s.reg64 (R.gaEvtTailLo g) % 4 = 0 →
    ∃ t, exec (.eventRingEnable g q w) s = .next t ∧ t.flag (F.gaEvtStatus_running g) = true ∧ t.flag (F.gaEvtStatus_full g) = true ∧
    (t.evr g).wantTail = (if s.dmaReady g then 2 else 1) ∧ (t.evr g).wantHead = false ∧
    t.get (F.gaEvtCtrl_log2_size g) = bitsOf w.toNat 24 4) ∧
  (∀ (s : State) (g : Fin 16) (q : Req) (w : Word),
    s.Manages q → s.sizesOk = true → s.flag (F.gaEvtStatus_running g) = true →
    ∃ t, exec (.eventRingDisable g q w) s = .next t ∧ t.flag (F.gaEvtStatus_running g) = false ∧ t.flag (F.gaEvtStatus_full g) = true ∧
    (t.evr g).wantTail = 0 ∧ (t.evr g).wait = (s.evr g).wait.filter (fun e => !(e.flushed && s.polledFor e))) ∧
  (∀ (s : State) (g : Fin 16) (b : List Byte),
    s.off = false → s.sizesOk = true → (s.evr g).wantTail = 2 → (s.evr g).staleTail = 0 → (s.evr g).wait = [] → (s.evr g).lostAt = none →
    s.armed 0x09 0 = none → s.armed 0x0A 0 = none →
    ∃ t, exec (.eventTailReadDone g (.data b)) s = .next t ∧ t.get (F.gaEvtPos_index g) = leAt b 0 2 ∧
    t.get (F.gaEvtPos_head g) = leAt b 0 2 ∧ t.flag (F.gaEvtStatus_full g) = false ∧ (t.evr g).wantTail = 0) ∧
  (∀ (s : State) (g : Fin 16),
    s.off = false → s.sizesOk = true → (s.evr g).wantTail = 2 → (s.evr g).staleTail = 0 → s.armed 0x09 0 = none → s.armed 0x0A 0 = none →
    ∃ t, exec (.eventTailReadDone g .ca) s = .next t ∧ (t.evr g).wantTail = 1 ∧
    t.get (F.gaStatus_host_err g) = min (maxOf (F.gaStatus_host_err g).width) (s.get (F.gaStatus_host_err g) + 1) ∧
    t.pci.aer.map (·.1) = s.pci.aer.map (·.1) ++ [1]) ∧
  (∀ (s : State) (g : Fin 16) (b : List Byte),
    s.off = false → s.sizesOk = true → (s.evr g).wantHead = true → (s.evr g).staleHead = 0 → (s.evr g).wait = [] →
    (s.evr g).lostAt = none → s.armed 0x09 0 = none → s.armed 0x0A 0 = none →
    ∃ t, exec (.eventHeadReadDone g (.data b)) s = .next t ∧ t.get (F.gaEvtPos_head g) = leAt b 0 2 ∧
    t.flag (F.gaEvtStatus_full g) = t.evLooksFull g ∧ (t.evr g).wantHead = false ∧ t.get (F.gaEvtPos_index g) = s.get (F.gaEvtPos_index g))

/-- An entry that has waited the threshold of its level, not 0, in the bulk queue moves up one level, as its newest, and is counted. With
the bulk window open, nothing urgent and no entry in the queue, a maintenance probe of a Ranged device that fits and finds a tag is
sent: it leaves port service and one transaction more is open. -/
def Obligations.BulkWindow : Prop :=
  (∀ (s : State) (n : Fin 8) (g : Fin 16) (r : Fin 8) (i : BitVec 16) (x : Work) (h : Nat),
    s.off = false → s.findWork g r i.toNat = some x → x.loc = .queued → (s.workPlace x).1 = n → x.level < 4 →
    bitsOf (s.reg R.cuAgeCfg0).toNat (8 * x.level) 8 = h → h ≠ 0 → h ≤ (s.frame + 2 ^ 32 - x.since) % 2 ^ 32 →
    ∃ t, exec (.ageingPromotion n g r i) s = .next t ∧
    (t.findWork g r i.toNat).map (fun y => (y.level, y.since, y.stamp)) = some (x.level + 1, s.frame, s.stamps) ∧ t.stamps = s.stamps + 1 ∧
    t.get (F.cuPortBulk_promotions n) = min (maxOf (F.cuPortBulk_promotions n).width) (s.get (F.cuPortBulk_promotions n) + 1)) ∧
  (∀ (s : State) (n : Fin 8) (a u : Nat),
    s.off = false → s.sizesOk = true → s.tk.stepping = false → s.bulkOpen n = true → s.bulkQueue n = [] → (s.cuPort n).reflexes = [] →
    (s.port n).svc = [.probe a u] → s.isRanged n a = true → newer s.frame u = false → s.pipeBusy n a 0 = false → s.tagFree n = true →
    s.fits n a 0 (packetNs false 16) 136 = true → s.flips = [] → (s.get (F.fiInjCtrl_mode 1) = 0 ∨ s.get (F.fiInjCtrl_mode 1) = 3) →
    (s.get (F.fiInjCtrl_mode 2) = 0 ∨ s.get (F.fiInjCtrl_mode 2) = 3) →
    ∃ t, exec (.bulkPacketBoundary n) s = .next t ∧ (t.port n).svc = [] ∧ (t.port n).opens.length = (s.port n).opens.length + 1 ∧
    ((t.port n).opens.getLast?).map (fun y => (y.addr, y.pipe, y.use, y.pool)) = some (a, 0, .probe, true))

/-- A flush read ends the flush of its event, which is written when the ring runs and has room. One that fails is counted and ends the flush
all the same (deduced: log entry 65). The software index read gives PX_SW_IDX; a failed one is counted, and the ring counts as full. A
slot of a periodic-out ring that is read and not discarded waits at the end of those read; a failed read is counted and none is added. -/
def Obligations.HostMemoryReads : Prop :=
  (∀ (s : State) (c : Fin 2048) (v : Event) (b : List Byte),
    s.off = false → s.sizesOk = true → s.pxGal c < 16 → (s.evr (s.pxGal c)).wait = [v] → v.ctx = c → v.flushed = false → v.fwds = [] →
    v.ring = true → (s.evr (s.pxGal c)).lostAt = none → s.evRunning (s.pxGal c) = true → s.evLooksFull (s.pxGal c) = false →
    s.armed 0x09 0 = none → s.armed 0x0A 0 = none →
    ∃ t, exec (.flushReadDone c (.data b)) s = .next t ∧ (t.evr (s.pxGal c)).wait = [] ∧
    t.get (F.gaEvtPos_index (s.pxGal c)) = (s.get (F.gaEvtPos_index (s.pxGal c)) + 1) % 2 ^ 16 ∧
    t.get (F.gaStatus_host_err (s.pxGal c)) = s.get (F.gaStatus_host_err (s.pxGal c))) ∧
  (∀ (s : State) (c : Fin 2048) (v : Event),
    s.off = false → s.sizesOk = true → s.pxGal c < 16 → (s.evr (s.pxGal c)).wait = [v] → v.ctx = c → v.flushed = false → v.fwds = [] →
    v.ring = true → s.evRunning (s.pxGal c) = false → s.armed 0x09 0 = none → s.armed 0x0A 0 = none →
    ∃ t, exec (.flushReadDone c .ur) s = .next t ∧ (t.evr (s.pxGal c)).wait = [{ v with flushed := true }] ∧
    t.get (F.gaStatus_host_err (s.pxGal c)) = min (maxOf (F.gaStatus_host_err (s.pxGal c)).width) (s.get (F.gaStatus_host_err (s.pxGal c)) + 1)) ∧
  (∀ (s : State) (c : Fin 2048) (b : List Byte),
    s.off = false → (s.ctx c).reading = true → (s.ctx c).wantDev = false → s.pxKind c ≠ 2 → (s.ctx c).wait = [] → s.armed 0x09 0 = none →
    s.armed 0x0A 0 = none → s.readsOf (.swIndex c.val) < 2 →
    ∃ t, exec (.swIndexReadDone c (.data b)) s = .next t ∧ t.reg (R.pxSwIdx c) = BitVec.ofNat 32 (leAt b 0 4) ∧ (t.ctx c).reading = false ∧
    (t.ctx c).swBad = false) ∧
  (∀ (s : State) (c : Fin 2048),
    s.off = false → (s.ctx c).reading = true → (s.ctx c).wantDev = false → (s.ctx c).wait = [] → s.armed 0x09 0 = none →
    s.armed 0x0A 0 = none → s.readsOf (.swIndex c.val) < 2 →
    ∃ t, exec (.swIndexReadDone c .ur) s = .next t ∧ t.reg (R.pxSwIdx c) = s.reg (R.pxSwIdx c) ∧ (t.ctx c).reading = false ∧
    (t.ctx c).swBad = true ∧
    t.get (F.gaStatus_host_err (s.pxGal c)) = min (maxOf (F.gaStatus_host_err (s.pxGal c)).width) (s.get (F.gaStatus_host_err (s.pxGal c)) + 1)) ∧
  (∀ (s : State) (c : Fin 2048) (f : Nat),
    s.off = false → (s.ctx c).outRead = some f → s.armed 0x09 0 = none → s.armed 0x0A 0 = none → s.readsOf (.outRing c.val) < 2 →
    ∃ t, exec (.outRingReadDone c .ur) s = .next t ∧ (t.ctx c).outRead = none ∧ (t.ctx c).slots = (s.ctx c).slots ∧
    t.get (F.gaStatus_host_err (s.pxGal c)) = min (maxOf (F.gaStatus_host_err (s.pxGal c)).width) (s.get (F.gaStatus_host_err (s.pxGal c)) + 1)) ∧
  (∀ (s : State) (c : Fin 2048) (f : Nat) (b : List Byte),
    s.off = false → (s.ctx c).outRead = some f → (s.ctx c).slots = [] → s.streamOpen c = false →
    s.slotDiscarded c (if s.cutoff = nextFrame s.frame then (s.frame + 2) % 2 ^ 32 else nextFrame s.frame) (fit (64 * s.stride c) b) (s.ctx c).again = false →
    s.armed 0x09 0 = none → s.armed 0x0A 0 = none → s.readsOf (.outRing c.val) < 2 →
    ∃ t, exec (.outRingReadDone c (.data b)) s = .next t ∧ (t.ctx c).outRead = none ∧ (t.ctx c).slots = [fit (64 * s.stride c) b])

/-- A manager's go of an Idle manager's channel makes it Running at the descriptor that MV_CHn_HEAD names; a stop makes a Running one
Stopping. An Idle channel of the device becomes the manager's, but the device's last one stays its own, and an Idle one of the manager
becomes the device's. cnt_clear sets the error counts and every channel's counts to 0. A descriptor that fails a check of R264 ends with
that status and moves nothing. A good one from SRAM to SRAM copies its words: only the bytes of its destination change, and the channel
reads back. Bytes of a host read are stored at the destination and counted. The read-back of the last descriptor of a chain writes the
status word over bytes 28 to 31, counts ok and leaves the channel Idle; a failed one is counted as bad. -/
def Obligations.MoverCommands : Prop :=
  (∀ (s : State) (c : Fin 8) (q : Req) (w : Word),
    s.Manages q → s.sizesOk = true → w.getLsbD 0 = true → w.getLsbD 30 = false → s.chManager c = true → s.chSt c = 0 →
    ∃ t, exec (.moverGo c q w) s = .next t ∧ t.chSt c = 1 ∧ t.get (F.mvChState_desc c) = s.get (F.mvChHead_addr c) / 32 * 32 ∧
    t.chan c = { s.chan c with desc := none, phase := 0, moved := 0, work := none, left := [], gal := 0 } ∧
    t.flag (F.mvChState_chain_err c) = false ∧ t.flag (F.mvChState_stopped c) = false) ∧
  (∀ (s : State) (c : Fin 8) (q : Req) (w : Word),
    s.Manages q → w.getLsbD 31 = false → s.chManager c = true → s.chSt c = 1 →
    ∃ t, exec (.moverStop c q w) s = .next t ∧ t.chSt c = 2 ∧ t.mv = s.mv ∧ t.chManager c = true) ∧
  (∀ (s : State) (c : Fin 8) (q : Req) (w : Word),
    s.Manages q → w.getLsbD 0 = true → w.getLsbD 30 = false → w.getLsbD 31 = false → s.chSt c = 0 → s.chManager c = false →
    (List.range 8).any (fun k => k != c.val && !s.chManager k) = true → (∀ x ∈ s.work, x.stage ≠ .wait) →
    ∃ t, exec (.moverOwner c q w) s = .next t ∧ t.chManager c = true ∧ t.chSt c = 0) ∧
  (∀ (s : State) (c : Fin 8) (q : Req) (w : Word),
    s.Manages q → w.getLsbD 0 = true → w.getLsbD 30 = false → w.getLsbD 31 = false → s.chSt c = 0 → s.chManager c = false →
    (List.range 8).any (fun k => k != c.val && !s.chManager k) = false →
    ∃ t, exec (.moverOwner c q w) s = .next t ∧ t.chManager c = false ∧ t.chSt c = 0 ∧ t.mv = s.mv) ∧
  (∀ (s : State) (c : Fin 8) (q : Req) (w : Word),
    s.Manages q → w.getLsbD 0 = false → w.getLsbD 30 = false → w.getLsbD 31 = false → s.chSt c = 0 → s.chManager c = true →
    (∀ x ∈ s.work, x.stage ≠ .wait) →
    ∃ t, exec (.moverOwner c q w) s = .next t ∧ t.chManager c = false ∧ t.chSt c = 0) ∧
  (∀ (s : State) (q : Req) (w : Word),
    s.Manages q →
    ∃ t, exec (.mvCntClear q w) s = .next t ∧ t.reg R.mvErrCnt = 0 ∧ (∀ k ∈ List.range 8, t.reg (R.mvChCnt k) = 0) ∧ t.mv = s.mv) ∧
  (∀ (s : State) (c : Fin 8) (d : Desc),
    s.off = false → s.sizesOk = true → s.chManager c = true → (s.chSt c = 1 ∨ s.chSt c = 2) → (s.chan c).phase = 0 →
    (s.chan c).desc = none → (s.get (F.fiInjCtrl_mode 1) = 0 ∨ s.get (F.fiInjCtrl_mode 1) = 3) →
    (s.get (F.fiInjCtrl_mode 2) = 0 ∨ s.get (F.fiInjCtrl_mode 2) = 3) → descOf (s.ramBytes (s.get (F.mvChState_desc c)) 32) = d →
    d.check ≠ 0 → d.last = true → s.flips = [] →
    ∃ t, exec (.descriptorReadDone c) s = .next t ∧ t.reg (R.mvChLast c) = BitVec.ofNat 32 (2 ^ 31 + d.check * 2 ^ 24) ∧
    t.get (F.mvChCnt_bad c) = min (maxOf (F.mvChCnt_bad c).width) (s.get (F.mvChCnt_bad c) + 1) ∧ t.chSt c = 0) ∧
  (∀ (s : State) (c : Fin 8) (d : Desc),
    s.off = false → s.sizesOk = true → s.chManager c = true → (s.chSt c = 1 ∨ s.chSt c = 2) → (s.chan c).phase = 0 →
    (s.chan c).desc = none → (s.get (F.fiInjCtrl_mode 1) = 0 ∨ s.get (F.fiInjCtrl_mode 1) = 3) →
    (s.get (F.fiInjCtrl_mode 2) = 0 ∨ s.get (F.fiInjCtrl_mode 2) = 3) → descOf (s.ramBytes (s.get (F.mvChState_desc c)) 32) = d →
    d.check = 0 → d.srcHost = false → d.dstHost = false → d.dstFixed = false → s.flips = [] →
    ∃ t, exec (.descriptorReadDone c) s = .next t ∧ t.chan c = { s.chan c with desc := some d, phase := 2, moved := d.len } ∧
    ∀ a, (a < d.dst ∨ d.dst + d.len ≤ a) → t.ram a = s.ram a ∧ t.chSt c = s.chSt c) ∧
  (∀ (s : State) (c : Fin 8) (d : Desc),
    s.off = false → s.sizesOk = true → s.chManager c = true → (s.chSt c = 1 ∨ s.chSt c = 2) → (s.chan c).phase = 0 →
    (s.chan c).desc = none → (s.get (F.fiInjCtrl_mode 1) = 0 ∨ s.get (F.fiInjCtrl_mode 1) = 3) →
    (s.get (F.fiInjCtrl_mode 2) = 0 ∨ s.get (F.fiInjCtrl_mode 2) = 3) → descOf (s.ramBytes (s.get (F.mvChState_desc c)) 32) = d →
    d.check = 0 → d.srcHost = false → d.dstHost = false → d.dstFixed = false → d.srcFixed = false →
    (d.src + d.len ≤ d.dst ∨ d.dst + d.len ≤ d.src) → s.flips = [] →
    ∃ t, exec (.descriptorReadDone c) s = .next t ∧ t.ramBytes d.dst d.len = s.ramBytes d.src d.len) ∧
  (∀ (s : State) (c : Fin 8) (d : Desc),
    s.off = false → s.sizesOk = true → s.chManager c = true → (s.chSt c = 1 ∨ s.chSt c = 2) → (s.chan c).phase = 0 →
    (s.chan c).desc = none → (s.get (F.fiInjCtrl_mode 1) = 0 ∨ s.get (F.fiInjCtrl_mode 1) = 3) →
    (s.get (F.fiInjCtrl_mode 2) = 0 ∨ s.get (F.fiInjCtrl_mode 2) = 3) → descOf (s.ramBytes (s.get (F.mvChState_desc c)) 32) = d →
    d.check = 0 → d.srcHost = true → d.srcFixed = false → s.flips = [] →
    ∃ t, exec (.descriptorReadDone c) s = .next t ∧ (t.chan c).phase = 1 ∧ (t.chan c).desc = some d ∧ t.sram = s.sram ∧ t.chSt c = s.chSt c) ∧
  (∀ (s : State) (c : Fin 8) (d : Desc) (a k : Nat) (rest : List (Nat × Nat)) (b : List Byte),
    s.off = false → s.sizesOk = true → s.chManager c = true → (s.chan c).stale = 0 → (s.chan c).work = none → (s.chan c).desc = some d →
    (s.chan c).outs = (a, k) :: rest → d.dstFixed = false → b.length = k → s.armed 0x09 0 = none → s.armed 0x0A 0 = none →
    ∃ t, exec (.moverHostReadDone c (.data b)) s = .next t ∧ (t.chan c).moved = (s.chan c).moved + k ∧
    t.ramBytes (d.dst + (s.chan c).moved) k = b ∧ (t.chan c).phase = (if d.len ≤ (s.chan c).moved + k then 2 else (s.chan c).phase) ∧
    ∀ x, (x < d.dst + (s.chan c).moved ∨ d.dst + (s.chan c).moved + k ≤ x) → t.ram x = s.ram x) ∧
  (∀ (s : State) (c : Fin 8) (d : Desc) (a k : Nat) (rest : List (Nat × Nat)),
    s.off = false → s.sizesOk = true → s.chManager c = true → (s.chan c).stale = 0 → (s.chan c).desc = some d →
    (s.chan c).outs = (a, k) :: rest → d.last = true → d.pulse = 0 → s.armed 0x09 0 = none → s.armed 0x0A 0 = none →
    ∃ t, exec (.moverHostReadDone c .ur) s = .next t ∧ t.reg (R.mvChLast c) = BitVec.ofNat 32 (2 ^ 31 + 4 * 2 ^ 24 + (s.chan c).moved) ∧
    t.chSt c = 0 ∧ t.get (F.mvChCnt_bad c) = min (maxOf (F.mvChCnt_bad c).width) (s.get (F.mvChCnt_bad c) + 1) ∧
    (t.chan c).stale = rest.length) ∧
  (∀ (s : State) (c : Fin 8) (d : Desc) (r : HostRes),
    s.off = false → s.sizesOk = true → s.chManager c = true → (s.chSt c = 1 ∨ s.chSt c = 2) → (s.chan c).phase = 2 →
    (s.chan c).desc = some d → d.dstHost = false → d.last = true → d.pulse = 0 → (s.chan c).outs = [] →
    (s.get (F.fiInjCtrl_mode 1) = 0 ∨ s.get (F.fiInjCtrl_mode 1) = 3) → (s.get (F.fiInjCtrl_mode 2) = 0 ∨ s.get (F.fiInjCtrl_mode 2) = 3) →
    s.flips = [] →
    ∃ t, exec (.moverReadbackDone c r) s = .next t ∧ t.chSt c = 0 ∧
    t.get (F.mvChCnt_ok c) = min (maxOf (F.mvChCnt_ok c).width) (s.get (F.mvChCnt_ok c) + 1) ∧
    t.reg (R.mvChLast c) = BitVec.ofNat 32 (2 ^ 31 + (s.chan c).moved) ∧
    t.ramBytes (s.get (F.mvChState_desc c) + 28) 4 = leBytes 4 (2 ^ 31 + (s.chan c).moved) ∧ (t.chan c).desc = none ∧
    (t.flag (F.mvChState_stopped c) = true ∨ s.chSt c = 1))

/-- ROUTE_WRITE puts the eight words of CO_ROUTE_DATA into the entry that CO_ROUTE_IDX names when their check gives code 0, and otherwise
shows the code in refuse and changes no entry. ROUTE_READ puts the words of the entry into CO_ROUTE_DATA. ROUTE_CLEAR clears the entry's
valid bit. The clear commands set the Courier's counters and the posted-write error log to 0. -/
def Obligations.RoutingTable : Prop :=
  (∀ (s : State) (q : Req) (w : Word),
    s.Manages q → s.routeCode s.routeData = 0 → w.getLsbD 29 = false → w.getLsbD 30 = false →
    ∃ t, exec (.routeWrite q w) s = .next t ∧ t.route (s.get F.coRouteIdx_index) = s.routeData ∧ t.get F.coRouteCmd_refuse = 0) ∧
  (∀ (s : State) (q : Req) (w : Word),
    s.Manages q → s.routeCode s.routeData ≠ 0 → w.getLsbD 29 = false → w.getLsbD 30 = false →
    ∃ t, exec (.routeWrite q w) s = .next t ∧ t.get F.coRouteCmd_refuse = s.routeCode s.routeData ∧ t.co = s.co) ∧
  (∀ (s : State) (q : Req) (w : Word) (ws : List Nat),
    s.Manages q → w.getLsbD 29 = false → w.getLsbD 31 = false → s.route (s.get F.coRouteIdx_index) = ws → ws.length = 8 →
    ∃ t, exec (.routeRead q w) s = .next t ∧ (∀ k ∈ List.range 8, t.reg (R.coRouteData k) = BitVec.ofNat 32 (ws.getD k 0)) ∧ t.co = s.co) ∧
  (∀ (s : State) (q : Req) (w : Word),
    s.Manages q → w.getLsbD 30 = false → w.getLsbD 31 = false →
    ∃ t, exec (.routeClear q w) s = .next t ∧ routeValid (t.route (s.get F.coRouteIdx_index)) = false ∧
    (t.route (s.get F.coRouteIdx_index)).drop 1 = (s.route (s.get F.coRouteIdx_index)).drop 1) ∧
  (∀ (s : State) (q : Req) (w : Word),
    s.Manages q →
    ∃ t, exec (.coCntClear q w) s = .next t ∧ t.reg R.coReflexCnt = 0 ∧ t.reg R.coFwdCnt = 0 ∧ t.reg R.coRemoteCnt = 0 ∧
    t.get F.coRemoteDenied_count = 0 ∧ t.co = s.co) ∧
  (∀ (s : State) (q : Req) (w : Word),
    s.Manages q →
    ∃ t, exec (.coPwerrClear q w) s = .next t ∧ t.get F.coPwerrStatus_count = 0 ∧ t.get F.coPwerrStatus_total = 0 ∧
    (∀ k ∈ List.range 8, t.reg (R.coPwerrLog0 k) = 0))

/-- Each consumes the first message of its kind from the port's inbox. A reflex for a port of this chip that is not Active is dropped with
cause 6; one for a ranged device's reflex context that holds none is placed for the frame of R286. A forwarded event, with routes off,
becomes the next entry of the running event ring of its gallery. A TAKE while nothing is held latches the vitrines with the origin's
chip and source 6. A write error is counted in the posted-write error log. -/
def Obligations.SpanMessages : Prop :=
  (∀ (s : State) (m : Fin 4) (x : SpanPkt),
    s.off = false → s.sizesOk = true → (s.spanPort m).inbox.find? (isEvt 1) = some x → s.chip ≠ 62 → x.dst < 64 →
    s.ownsPort (byteAt x.payload 12 / 32) = true → s.link (byteAt x.payload 12 / 32) ≠ 3 →
    ∃ t, exec (.reflexMessage m) s = .next t ∧ (t.spanPort m).inbox = (s.spanPort m).inbox.erase x ∧ t.get F.coReflexLast_cause = 6 ∧
    t.get F.coReflexCnt_dropped = min (maxOf F.coReflexCnt_dropped.width) (s.get F.coReflexCnt_dropped + 1) ∧
    t.flag F.coEvents_reflex_dropped = true ∧ t.cu = s.cu) ∧
  (∀ (s : State) (m : Fin 4) (x : SpanPkt) (n a p c : Nat),
    s.off = false → s.sizesOk = true → (s.spanPort m).inbox.find? (isEvt 1) = some x → s.chip ≠ 62 → byteAt x.payload 12 / 32 = n →
    byteAt x.payload 13 % 64 = a → byteAt x.payload 12 % 16 = p → n < s.nPorts → s.link n = 3 → s.reflexCtx n a p = some c →
    s.isRanged n a = true → (x.payload.drop 16).length ≤ s.pxMax c → s.reflexWait c = [] → (s.cuPort n).later = [] →
    ∃ t, exec (.reflexMessage m) s = .next t ∧ (t.spanPort m).inbox = (s.spanPort m).inbox.erase x ∧
    t.get F.coReflexCnt_placed = min (maxOf F.coReflexCnt_placed.width) (s.get F.coReflexCnt_placed + 1) ∧
    (t.cuPort n).later.any (fun y => y == { frame := s.reflexFrame, ctx := c, payload := x.payload.drop 16, ts := leAt x.payload 0 8 }) = true) ∧
  (∀ (s : State) (m : Fin 4) (x : SpanPkt) (g : Fin 16),
    s.off = false → s.sizesOk = true → (s.spanPort m).inbox.find? (isEvt 2) = some x → byteAt x.payload 12 % 16 = g →
    s.flag F.coCtrl_routes_enable = false → s.evFull g = false → (s.evr g).wait = [] → (s.evr g).lostAt = none → s.evLooksFull g = false →
    ∃ t, exec (.forwardMessage m) s = .next t ∧ (t.spanPort m).inbox = (s.spanPort m).inbox.erase x ∧
    t.get (F.gaEvtPos_index g) = (s.get (F.gaEvtPos_index g) + 1) % 2 ^ 16 ∧ (t.evr g).wait = []) ∧
  (∀ (s : State) (m : Fin 4) (x : SpanPkt),
    s.Awake → s.sizesOk = true → (s.spanPort m).inbox.find? (isEvt 3) = some x → s.rg.latched = false → s.flag F.rgStatus_held = false →
    s.flag F.rgCtrl_keep = true → s.phase ≠ 0 →
    ∃ t, exec (.takeMessage m) s = .next t ∧ (t.spanPort m).inbox = (s.spanPort m).inbox.erase x ∧
    t.get F.spTakeCnt_received = min (maxOf F.spTakeCnt_received.width) (s.get F.spTakeCnt_received + 1) ∧ t.rg.latched = true ∧
    t.rg.time = s.tk.time ∧ bitOf t.rg.sources 6 = true ∧ t.rg.origin = byteAt x.payload 0 ∧ t.flag F.rgStatus_held = true) ∧
  (∀ (s : State) (m : Fin 4) (x : SpanPkt),
    s.off = false → s.sizesOk = true → (s.spanPort m).inbox.find? (isEvt 4) = some x →
    ∃ t, exec (.writeErrorMessage m) s = .next t ∧ (t.spanPort m).inbox = (s.spanPort m).inbox.erase x ∧
    t.get F.coPwerrStatus_total = min (maxOf F.coPwerrStatus_total.width) (s.get F.coPwerrStatus_total + 1) ∧
    t.flag F.coEvents_pwerr = true ∧ t.get F.coPwerrStatus_count = min 8 (s.get F.coPwerrStatus_count + 1))

/-- A remote entry that is ready takes the lowest free tag and is started. A request that arrives while remote access is off, or from a
gallery that the map does not hold, is denied and counted. A fresh bulk-in or control request that is granted and not refused enters the
bulk queue with the lowest free ticket and is answered RETRY with it; a bulk-out of no bytes is answered ACCEPT and enters the queue
while a posted-write buffer is free, and else RETRY without a ticket; a retry of a ticket whose result is there frees it and is answered
DATA, one whose result is not there is answered RETRY, one of an unknown ticket STALE. An ACCEPT completes its entry; a back-off that
ends sends the request again; an answer that does not come in time ends the entry with a remote error; a result that nobody collects is
discarded with its ticket and counted. -/
def Obligations.RemoteAccess : Prop :=
  (∀ (s : State) (g : Fin 16) (r : Fin 8) (i : BitVec 16) (x : Work) (k : Nat),
    s.off = false → s.sizesOk = true → s.findWork g r i.toNat = some x → s.remoteReady x = true → s.flag F.coCtrl_remote_enable = true →
    lowestFree 1024 (s.co.rems.map (·.tag)) = some k → s.armed 0x0C 0xFF = none → x.chip ≠ s.chip → s.chip ≠ 62 →
    (s.routeTo x.chip).isSome = true →
    ∃ t, exec (.remoteSend g r i) s = .next t ∧ t.co.rems = s.co.rems ++ [{ tag := k, g := g, r := r, i := i.toNat }] ∧
    (t.findWork g r i.toNat).map (·.started) = some true) ∧
  (∀ (s : State) (m : Fin 4) (x : SpanPkt),
    s.off = false → s.sizesOk = true → (s.spanPort m).inbox.find? (fun p => p.typ == 1) = some x → byteAt x.tsd 6 = 0 →
    byteAt x.tsd 7 = 1 → s.flag F.coCtrl_remote_enable = false →
    ∃ t, exec (.remoteRequest m) s = .next t ∧ (t.spanPort m).inbox = (s.spanPort m).inbox.erase x ∧
    t.get F.coRemoteDenied_count = min (maxOf F.coRemoteDenied_count.width) (s.get F.coRemoteDenied_count + 1) ∧
    t.get F.coRemoteDenied_last_chip = x.src % 2 ^ F.coRemoteDenied_last_chip.width ∧
    t.get F.coRemoteDenied_last_gallery = byteAt x.tsd 3 % 16 ∧ t.flag F.coEvents_denied = true ∧ t.work = s.work) ∧
  (∀ (s : State) (m : Fin 4) (x : SpanPkt) (j : Nat),
    s.off = false → s.sizesOk = true → (s.spanPort m).inbox.find? (fun p => p.typ == 1) = some x → byteAt x.tsd 6 = 0 →
    byteAt x.tsd 7 = 1 → s.flag F.coCtrl_remote_enable = true → s.chip ≠ 62 → x.src ≠ 63 → s.routeTo x.src = some j → j < 4 →
    s.remoteMap x.src (byteAt x.tsd 3 % 16) = none →
    ∃ t, exec (.remoteRequest m) s = .next t ∧ (t.spanPort m).inbox = (s.spanPort m).inbox.erase x ∧
    t.get F.coRemoteDenied_count = min (maxOf F.coRemoteDenied_count.width) (s.get F.coRemoteDenied_count + 1) ∧
    t.flag F.coEvents_denied = true ∧ t.work = s.work ∧ t.co.tickets = s.co.tickets ∧
    ({ typ := 2, vc := 1, dst := x.src, src := s.chip, tsd := reqTsd (leAt x.tsd 0 2) 5 0 0xFFFF 0 1, payload := [], stamp := s.sp.seq } : SpanPkt) ∈ (t.spanPort j).ready) ∧
  (∀ (s : State) (m : Fin 4) (x : SpanPkt) (j lg k : Nat) (w : Work),
    s.off = false → s.sizesOk = true → (s.spanPort m).inbox.find? (fun p => p.typ == 1) = some x → byteAt x.tsd 6 = 0 →
    byteAt x.tsd 7 = 1 → s.flag F.coCtrl_remote_enable = true → s.chip ≠ 62 → x.src ≠ 63 → s.routeTo x.src = some j → j < 4 →
    s.remoteMap x.src (byteAt x.tsd 3 % 16) = some lg → leAt x.tsd 4 2 = 0xFFFF →
    w = ({ g := lg, r := 8, i := 0, ent := ({ src := x.src, tag := leAt x.tsd 0 2, op := byteAt x.tsd 2, gal := byteAt x.tsd 3 % 16, ticket := leAt x.tsd 4 2, seg0 := x.payload, data := [] } : Request).entry, loc := .queued, level := byteAt x.payload 8 % 8, since := s.frame, stamp := s.stamps } : Work) →
    (w.op = 1 ∨ w.op = 3) → w.outward = false → byteAt x.tsd 2 = w.op → s.violationOf w = 0 → s.bulkRefusal w = none →
    (s.bulkQueue (s.workPlace w).1).length < 512 → lowestFree 256 (s.co.tickets.map (·.num)) = some k → s.findWork lg 8 k = none →
    ∃ t, exec (.remoteRequest m) s = .next t ∧ (t.spanPort m).inbox = (s.spanPort m).inbox.erase x ∧
    t.co.tickets = s.co.tickets ++ [{ num := k, chip := x.src, gal := byteAt x.tsd 3 % 16, tag := leAt x.tsd 0 2 }] ∧
    (t.findWork lg 8 k).map (fun y => (y.ent, y.loc, y.stamp)) = some (w.ent, .queued, s.stamps) ∧ t.stamps = s.stamps + 1 ∧
    ({ typ := 2, vc := 1, dst := x.src, src := s.chip, tsd := reqTsd (leAt x.tsd 0 2) 3 0 k 0 1, payload := [], stamp := s.sp.seq } : SpanPkt) ∈ (t.spanPort j).ready) ∧
  (∀ (s : State) (m : Fin 4) (x : SpanPkt) (j lg : Nat) (w : Work),
    s.off = false → s.sizesOk = true → (s.spanPort m).inbox.find? (fun p => p.typ == 1) = some x → byteAt x.tsd 6 = 0 →
    byteAt x.tsd 7 = 1 → s.flag F.coCtrl_remote_enable = true → s.chip ≠ 62 → x.src ≠ 63 → s.routeTo x.src = some j → j < 4 →
    s.remoteMap x.src (byteAt x.tsd 3 % 16) = some lg → leAt x.tsd 4 2 = 0xFFFF →
    w = ({ g := lg, r := 8, i := 0, ent := ({ src := x.src, tag := leAt x.tsd 0 2, op := byteAt x.tsd 2, gal := byteAt x.tsd 3 % 16, ticket := leAt x.tsd 4 2, seg0 := x.payload, data := [] } : Request).entry, loc := .queued, level := byteAt x.payload 8 % 8, since := s.frame, stamp := s.stamps } : Work) →
    w.op = 2 → byteAt x.tsd 2 = 2 → s.violationOf w = 0 → s.bulkRefusal w = none → (s.bulkQueue (s.workPlace w).1).length < 512 →
    ∃ t, exec (.remoteRequest m) s = .next t ∧ (t.spanPort m).inbox = (s.spanPort m).inbox.erase x ∧
    (if s.co.posted.length < Config.postedBuffers then ({ typ := 2, vc := 1, dst := x.src, src := s.chip, tsd := reqTsd (leAt x.tsd 0 2) 2 0 0xFFFF 0 1, payload := [], stamp := s.sp.seq } : SpanPkt) ∈ (t.spanPort j).ready else ({ typ := 2, vc := 1, dst := x.src, src := s.chip, tsd := reqTsd (leAt x.tsd 0 2) 3 0 0xFFFF 0 1, payload := [], stamp := s.sp.seq } : SpanPkt) ∈ (t.spanPort j).ready) ∧
    t.work.length = s.work.length + (if s.co.posted.length < Config.postedBuffers then 1 else 0) ∧
    t.co.posted.map (fun p => (p.chip, p.gal)) = s.co.posted.map (fun p => (p.chip, p.gal)) ++ (if s.co.posted.length < Config.postedBuffers then [(x.src, byteAt x.tsd 3 % 16)] else []) ∧
    t.co.tickets = s.co.tickets) ∧
  (∀ (s : State) (m : Fin 4) (x : SpanPkt) (j : Nat) (lg : Nat) (y : Ticket) (b d : List Byte),
    s.off = false → s.sizesOk = true → (s.spanPort m).inbox.find? (fun p => p.typ == 1) = some x → byteAt x.tsd 6 = 0 →
    byteAt x.tsd 7 = 1 → s.flag F.coCtrl_remote_enable = true → s.chip ≠ 62 → x.src ≠ 63 → s.routeTo x.src = some j → j < 4 →
    s.remoteMap x.src (byteAt x.tsd 3 % 16) = some lg → leAt x.tsd 4 2 ≠ 0xFFFF →
    s.co.tickets.find? (fun t => t.num == leAt x.tsd 4 2 && t.chip == x.src && t.tag == leAt x.tsd 0 2) = some y → y.result = some (b, d) →
    ∃ t, exec (.remoteRequest m) s = .next t ∧ (t.spanPort m).inbox = (s.spanPort m).inbox.erase x ∧
    t.co.tickets = s.co.tickets.filter (·.num != y.num) ∧ t.work = s.work ∧
    (∀ p ∈ (answerSegs (dataAnswer b d)).zipIdx, ({ typ := 2, vc := 1, dst := x.src, src := s.chip, tsd := reqTsd (leAt x.tsd 0 2) 1 (byteAt b 0) 0xFFFF p.2 (answerSegs (dataAnswer b d)).length, payload := p.1, stamp := s.sp.seq + p.2 } : SpanPkt) ∈ (t.spanPort j).ready)) ∧
  (∀ (s : State) (m : Fin 4) (x : SpanPkt) (j : Nat) (lg : Nat) (y : Ticket),
    s.off = false → s.sizesOk = true → (s.spanPort m).inbox.find? (fun p => p.typ == 1) = some x → byteAt x.tsd 6 = 0 →
    byteAt x.tsd 7 = 1 → s.flag F.coCtrl_remote_enable = true → s.chip ≠ 62 → x.src ≠ 63 → s.routeTo x.src = some j → j < 4 →
    s.remoteMap x.src (byteAt x.tsd 3 % 16) = some lg → leAt x.tsd 4 2 ≠ 0xFFFF →
    s.co.tickets.find? (fun t => t.num == leAt x.tsd 4 2 && t.chip == x.src && t.tag == leAt x.tsd 0 2) = some y → y.result = none →
    ∃ t, exec (.remoteRequest m) s = .next t ∧ (t.spanPort m).inbox = (s.spanPort m).inbox.erase x ∧ t.co.tickets = s.co.tickets ∧
    t.work = s.work ∧
    ({ typ := 2, vc := 1, dst := x.src, src := s.chip, tsd := reqTsd (leAt x.tsd 0 2) 3 0 y.num 0 1, payload := [], stamp := s.sp.seq } : SpanPkt) ∈ (t.spanPort j).ready) ∧
  (∀ (s : State) (m : Fin 4) (x : SpanPkt) (j : Nat) (lg : Nat),
    s.off = false → s.sizesOk = true → (s.spanPort m).inbox.find? (fun p => p.typ == 1) = some x → byteAt x.tsd 6 = 0 →
    byteAt x.tsd 7 = 1 → s.flag F.coCtrl_remote_enable = true → s.chip ≠ 62 → x.src ≠ 63 → s.routeTo x.src = some j → j < 4 →
    s.remoteMap x.src (byteAt x.tsd 3 % 16) = some lg → leAt x.tsd 4 2 ≠ 0xFFFF →
    s.co.tickets.find? (fun t => t.num == leAt x.tsd 4 2 && t.chip == x.src && t.tag == leAt x.tsd 0 2) = none →
    ∃ t, exec (.remoteRequest m) s = .next t ∧ (t.spanPort m).inbox = (s.spanPort m).inbox.erase x ∧ t.co.tickets = s.co.tickets ∧
    t.work = s.work ∧
    ({ typ := 2, vc := 1, dst := x.src, src := s.chip, tsd := reqTsd (leAt x.tsd 0 2) 4 0 0xFFFF 0 1, payload := [], stamp := s.sp.seq } : SpanPkt) ∈ (t.spanPort j).ready) ∧
  (∀ (s : State) (m : Fin 4) (x : SpanPkt) (y : Rem) (w : Work),
    s.off = false → s.sizesOk = true → (s.spanPort m).inbox.find? (fun p => p.typ == 2) = some x → byteAt x.tsd 2 = 2 →
    byteAt x.tsd 6 = 0 → byteAt x.tsd 7 = 1 → s.remWork (leAt x.tsd 0 2) = some (y, w) → y.waiting = false → w.chip = x.src →
    ∃ t, exec (.remoteResponse m) s = .next t ∧ (t.spanPort m).inbox = (s.spanPort m).inbox.erase x ∧ t.findWork w.g w.r w.i = none) ∧
  (∀ (s : State) (k : Fin 1024) (y : Rem) (w : Work),
    s.off = false → s.sizesOk = true → s.remWork k = some (y, w) → y.waiting = true → w.chip ≠ s.chip → s.chip ≠ 62 →
    (s.routeTo w.chip).isSome = true →
    ∃ t, exec (.retryBackoffExpire k) s = .next t ∧ (t.remOf k).map (·.waiting) = some false ∧ t.work = s.work) ∧
  (∀ (s : State) (k : Fin 1024) (y : Rem) (w : Work),
    s.off = false → s.sizesOk = true → s.remWork k = some (y, w) → y.waiting = false → w.ended = none →
    ∃ t, exec (.remoteTimeout k) s = .next t ∧ t.findWork w.g w.r w.i = none ∧
    t.get F.coRemoteCnt_retry_exhausted = min (maxOf F.coRemoteCnt_retry_exhausted.width) (s.get F.coRemoteCnt_retry_exhausted + 1)) ∧
  (∀ (s : State) (k : Fin 256),
    s.off = false → s.co.tickets.any (fun t => t.num == k.val && t.result.isSome) = true →
    ∃ t, exec (.ticketDiscard k) s = .next t ∧ t.co.tickets = s.co.tickets.filter (fun y => y.num != k.val) ∧
    t.get F.coRemoteCnt_discarded = min (maxOf F.coRemoteCnt_discarded.width) (s.get F.coRemoteCnt_discarded + 1) ∧
    t.flag F.coEvents_discarded = true)

/-- In phase 5, with no re-application, an attach makes the device hosted, and mode 1 becomes mode 2; before phase 5 it is held. A manager's
detach begins one; when every gallery but 0 is Closed and gallery 0's rings are Disabled the host is gone, and mode 2 becomes mode 1. A
write of a setting of configuration space takes it (a payload size that is none of PCI Express, or above 512 bytes, is ignored: log
entry 23); a change of the link is taken, and the link up again releases WAKE_N; PME_Turn_Off is answered with PME_TO_Ack; the release
of PERST_N ends the reset of the link; clearing the mask of a vector whose message is pending and can leave sends it and clears its
pending bit. -/
def Obligations.HostPresence : Prop :=
  (∀ (s : State) (q : Req) (w : Word),
    s.Awake → s.hosted = false → s.managerReq q = true → s.phase = 5 → s.ch.job ≠ .reapply →
    ∃ t, exec (.hostAttach q w) s = .next t ∧ t.hosted = true ∧ t.mode = (if s.mode = 1 then 2 else s.mode)) ∧
  (∀ (s : State) (q : Req) (w : Word),
    s.Awake → s.hosted = false → s.managerReq q = true → s.phase ≠ 5 →
    ∃ t, exec (.hostAttach q w) s = .next t ∧ t.hosted = false ∧ t.ch.attach = true ∧ t.mode = s.mode) ∧
  (∀ (s : State) (q : Req) (w : Word),
    s.Manages q → s.pci.detaching = false →
    ∃ t, exec (.hostDetach q w) s = .next t ∧ t.pci.detaching = true ∧ t.hosted = true ∧
    (∀ g ∈ List.range 16, 1 ≤ g → s.gal g = 1 → t.gal g = 4) ∧ (∀ r ∈ List.range 8, s.ringSt 0 r = 1 → t.ringSt 0 r = 2)) ∧
  (∀ (s : State),
    s.off = false → s.pci.detaching = true → (List.range 15).all (fun g => s.gal (g + 1) == 0) = true →
    (List.range 8).all (fun r => s.ringSt 0 r == 0) = true →
    ∃ t, exec .detachDone s = .next t ∧ t.hosted = false ∧ t.pci.detaching = false ∧ t.mode = (if s.mode = 2 then 1 else s.mode)) ∧
  (∀ (s : State) (v : Bool),
    s.off = false →
    ∃ t, exec (.pcieConfigWrite (.busMaster v)) s = .next t ∧ t.pci.busMaster = v ∧ t.pci.mps = s.pci.mps) ∧
  (∀ (s : State) (v : Nat),
    s.off = false →
    ∃ t, exec (.pcieConfigWrite (.maxPayload v)) s = .next t ∧
    t.pci = { s.pci with mps := if [128, 256, 512].contains v then v else s.pci.mps }) ∧
  (∀ (s : State) (v : Bool),
    s.off = false →
    ∃ t, exec (.pcieConfigWrite (.powerD3 v)) s = .next t ∧ t.pci = { s.pci with d3hot := v }) ∧
  (∀ (s : State) (l : PcieLink),
    s.Awake →
    ∃ t, exec (.pcieLinkStateChange l) s = .next t ∧ t.pci.link = l ∧ t.cn.wakeN = (s.cn.wakeN && !decide (l = .l0))) ∧
  (∀ (s : State),
    s.off = false →
    ∃ t, exec .pmeTurnOff s = .next t ∧ t.pci = { s.pci with l2Ready := true } ∧ .pcie "PME_TO_Ack" ∈ t.out) ∧
  (∀ (s : State),
    s.off = false →
    ∃ t, exec .perstNRelease s = .next t ∧ t.pci = { s.pci with perst := false } ∧
    (s.pci.perst = true → 1 ≤ s.phase → s.asleep = false → .pcie "train" ∈ t.out)) ∧
  (∀ (s : State) (v : Fin 17) (q : Req) (w : Word),
    s.Manages q → s.pci.msixMask = false → bitOf (s.reg 0xC00).toNat v = true → s.msiReady v = true →
    ∃ t, exec (.msixUnmask v q w) s = .next t ∧ bitOf (t.reg (msixWord v 3)).toNat 0 = false ∧
    .msix v ((s.reg (msixWord v 0)).toNat + (s.reg (msixWord v 1)).toNat * 2 ^ 32) (s.reg (msixWord v 2)).toNat ∈ t.out)

/-- A manager opens a Closed gallery other than 0 (state 1), closes an Open one (state 4), resets an Open one (state 3); its Running rings
then stop. When every started entry has completed, a Closing gallery is Closed and a Resetting one Open with its rings Disabled and its
mailboxes 0. A PASID is accepted for a Closed gallery or one without a valid PASID unless another page holds it; otherwise it is refused
and stays. The manager's write of GA_DB_IN sets the bits of its low half that are written as 1, its write of GA_DB_OUT clears them; a
gallery's own write of GA_DB_IN clears them, of GA_DB_OUT sets them. GA_VIOL_CLEAR empties the log: its status, counts and entries are
0. -/
def Obligations.GalleryCommands : Prop :=
  (∀ (s : State) (g : Fin 16) (q : Req) (w : Word),
    s.Manages q → g ≠ 0 → s.gal g = 0 →
    ∃ t, exec (.galleryOpen g q w) s = .next t ∧ t.gal g = 1 ∧ t.get (F.gaStatus_host_err g) = 0 ∧ t.flag (F.gaCtrl_open g) = true) ∧
  (∀ (s : State) (g : Fin 16) (q : Req) (w : Word),
    s.Manages q → g ≠ 0 → s.gal g = 1 →
    ∃ t, exec (.galleryClose g q w) s = .next t ∧ t.gal g = 4 ∧ t.flag (F.gaCtrl_open g) = false ∧
    (∀ r ∈ List.range 8, s.ringSt g r = 1 → t.ringSt g r = 2)) ∧
  (∀ (s : State) (g : Fin 16) (q : Req) (w : Word),
    s.Manages q → s.gal g = 1 →
    ∃ t, exec (.galleryReset g q w) s = .next t ∧ t.gal g = 3 ∧ (∀ r ∈ List.range 8, s.ringSt g r = 1 → t.ringSt g r = 2)) ∧
  (∀ (s : State) (g : Fin 16),
    s.off = false → s.gal g = 3 → (List.range 8).all (s.ringQuiet g) = true →
    ∃ t, exec (.galleryResetDone g) s = .next t ∧ t.gal g = 1 ∧ (∀ r ∈ List.range 8, t.ringSt g r = 0) ∧
    (g = 0 ∨ ∀ k ∈ List.range 16, t.reg (R.gaMboxIn g k) = 0)) ∧
  (∀ (s : State) (g : Fin 16),
    s.off = false → s.gal g = 4 → (List.range 8).all (s.ringQuiet g) = true →
    ∃ t, exec (.galleryResetDone g) s = .next t ∧ t.gal g = 0 ∧ (∀ r ∈ List.range 8, t.ringSt g r = 0) ∧
    t.reg (R.gaMboxIn g 0) = s.reg (R.gaMboxIn g 0)) ∧
  (∀ (s : State) (g : Fin 16) (q : Req) (w : Word),
    s.Manages q → (s.gal g = 0 ∨ s.flag (F.gaPasid_valid g) = false) →
    (List.range 16).any (fun h => h != g.val && s.flag (F.gaPasid_valid h) && s.get (F.gaPasid_pasid h) == w.toNat % 2 ^ 20) = false →
    ∃ t, exec (.pasidWrite g q w) s = .next t ∧ t.reg (R.gaPasid g) = w &&& 0x800FFFFF ∧ t.get (F.gaStatus_pasid_refused g) = 0) ∧
  (∀ (s : State) (g : Fin 16) (q : Req) (w : Word),
    s.Manages q →
    ((s.gal g ≠ 0 ∧ s.flag (F.gaPasid_valid g) = true) ∨ (List.range 16).any (fun h => h != g.val && s.flag (F.gaPasid_valid h) && s.get (F.gaPasid_pasid h) == w.toNat % 2 ^ 20) = true) →
    ∃ t, exec (.pasidWrite g q w) s = .next t ∧ t.reg (R.gaPasid g) = s.reg (R.gaPasid g) ∧ t.get (F.gaStatus_pasid_refused g) = 1) ∧
  (∀ (s : State) (g : Fin 16) (q : Req) (w : Word),
    s.Manages q → g ≠ 0 →
    ∃ t, exec (.gaDbIn g q w) s = .next t ∧
    (∀ b ∈ List.range 16, bitOf (t.get (F.gaDbIn_bell g)) b = (bitOf (s.get (F.gaDbIn_bell g)) b || w.getLsbD b))) ∧
  (∀ (s : State) (g : Fin 16) (p : BitVec 20) (w : Word),
    s.Awake → s.hosted = true → g ≠ 0 → s.pasidGal p = some g →
    ∃ t, exec (.gaDbIn g (some p) w) s = .next t ∧
    (∀ b ∈ List.range 16, bitOf (t.get (F.gaDbIn_bell g)) b = (bitOf (s.get (F.gaDbIn_bell g)) b && ! w.getLsbD b))) ∧
  (∀ (s : State) (g : Fin 16) (q : Req) (w : Word),
    s.Manages q → g ≠ 0 →
    ∃ t, exec (.gaDbOut g q w) s = .next t ∧
    (∀ b ∈ List.range 16, bitOf (t.get (F.gaDbOut_bell g)) b = (bitOf (s.get (F.gaDbOut_bell g)) b && ! w.getLsbD b))) ∧
  (∀ (s : State) (g : Fin 16) (p : BitVec 20) (w : Word),
    s.Awake → s.hosted = true → g ≠ 0 → s.pasidGal p = some g →
    ∃ t, exec (.gaDbOut g (some p) w) s = .next t ∧
    (∀ b ∈ List.range 16, bitOf (t.get (F.gaDbOut_bell g)) b = (bitOf (s.get (F.gaDbOut_bell g)) b || w.getLsbD b))) ∧
  (∀ (s : State) (q : Req) (w : Word),
    s.Manages q →
    ∃ t, exec (.gaViolClear q w) s = .next t ∧ t.reg (R.gaViolStatus 0) = 0 ∧ (∀ k ∈ List.range 16, t.reg (R.gaViolCnt 0 k) = 0) ∧
    (∀ k ∈ List.range 64, t.reg (R.gaViolLog0 0 0 + 4 * k) = 0))

/-- A read of IC_CLAIM answers the number of the deliverable source with the highest priority and claims it for the gallery at its priority,
or answers 0xFFFF. A write of IC_COMPLETE with the number of a source that the gallery holds ends the claim; with another it is counted.
A software set of an enabled source that exists and is not Pending makes it Pending. A write of an enable word sets the enable bit of
every source that exists to the bit written, and a source disabled by it is not Pending. A write of a shared source's configuration
gives it the target written. In Open and Dimmed, when its coalescing time is over a Gathering source is Pending (that it rests asleep is
the model's choice: log entry 154); when its fallback time is over a Pending shared source whose target is not served is presented to
gallery 0 and counted. -/
def Obligations.InterruptSources : Prop :=
  (∀ (s : State) (g : Fin 16) (q : Req) (k : Nat),
    s.Manages q → s.icBest g = some k →
    ∃ t, exec (.icClaim g q) s = .next t ∧ .readData (leBytes 4 (srcNum k)) false ∈ t.out ∧ (t.inst k).claim = some (g.val, s.icPrio k)) ∧
  (∀ (s : State) (g : Fin 16) (q : Req),
    s.Manages q → s.icBest g = none →
    ∃ t, exec (.icClaim g q) s = .next t ∧ .readData [255, 255, 0, 0] false ∈ t.out ∧ ∀ k, (t.inst k).claim = (s.inst k).claim) ∧
  (∀ (s : State) (g : Fin 16) (q : Req) (w : Word) (k p : Nat),
    s.Manages q → w.toNat % 2 ^ 16 < 256 → k = (if w.toNat % 2 ^ 16 < 64 then privKey g (w.toNat % 2 ^ 16) else shKey (w.toNat % 2 ^ 16)) →
    (s.inst k).claim = some (g.val, p) →
    ∃ t, exec (.icComplete g q w) s = .next t ∧ (t.inst k).claim = none ∧
    t.get (F.icLevel_bad_complete g) = s.get (F.icLevel_bad_complete g)) ∧
  (∀ (s : State) (g : Fin 16) (q : Req) (w : Word) (k : Nat),
    s.Manages q → k = (if w.toNat % 2 ^ 16 < 64 then privKey g (w.toNat % 2 ^ 16) else shKey (w.toNat % 2 ^ 16)) → (s.inst k).claim = none →
    ∃ t, exec (.icComplete g q w) s = .next t ∧
    t.get (F.icLevel_bad_complete g) = min (maxOf (F.icLevel_bad_complete g).width) (s.get (F.icLevel_bad_complete g) + 1)) ∧
  (∀ (s : State) (g : Fin 16) (q : Req) (w : Word),
    s.Manages q → w.toNat % 256 < 64 → s.srcExists (privKey g (w.toNat % 256)) = true → s.icEnabled (privKey g (w.toNat % 256)) = true →
    (s.inst (privKey g (w.toNat % 256))).phase ≠ .pending →
    ∃ t, exec (.icSet g q w) s = .next t ∧ (t.inst (privKey g (w.toNat % 256))).phase = .pending ∧
    (t.inst (privKey g (w.toNat % 256))).since = s.tk.time) ∧
  (∀ (s : State) (q : Req) (w : Word),
    s.Manages q → 64 ≤ w.toNat % 256 → s.srcExists (shKey (w.toNat % 256)) = true → s.icEnabled (shKey (w.toNat % 256)) = true →
    (s.inst (shKey (w.toNat % 256))).phase ≠ .pending →
    ∃ t, exec (.icShSet q w) s = .next t ∧ (t.inst (shKey (w.toNat % 256))).phase = .pending ∧
    (t.inst (shKey (w.toNat % 256))).since = s.tk.time) ∧
  (∀ (s : State) (g : Fin 16) (k : Fin 6) (q : Req) (w : Word) (b : Fin 32),
    s.Manages q → privExists g (32 * (k % 2) + b) = true →
    ∃ t, exec (.icEnableWrite (some g) k q w) s = .next t ∧ s.srcExists (privKey g (32 * (k % 2) + b)) = true ∧
    t.icEnabled (privKey g (32 * (k % 2) + b)) = w.getLsbD b ∧ (w.getLsbD b = false → (t.inst (privKey g (32 * (k % 2) + b))).phase = .idle)) ∧
  (∀ (s : State) (k : Fin 6) (q : Req) (w : Word) (b : Fin 32),
    s.Manages q → s.shExists (64 + 32 * k + b) = true →
    ∃ t, exec (.icEnableWrite none k q w) s = .next t ∧ t.icEnabled (shKey (64 + 32 * k + b)) = w.getLsbD b) ∧
  (∀ (s : State) (k : Fin 192) (q : Req) (w : Word),
    s.Manages q →
    ∃ t, exec (.icShTargetWrite k q w) s = .next t ∧ t.icTarget (shKey (64 + k)) = w.toNat / 2 ^ 4 % 16) ∧
  (∀ (s : State) (g : Option (Fin 16)) (k : Fin 256) (n u : Nat),
    s.Awake → (s.inst (srcKey g k)).phase = .gathering n u → bitsOf (s.reg (icCfg (srcKey g k))).toNat 16 16 ≠ 0 →
    ∃ t, exec (.coalesceTimeout g k) s = .next t ∧ (t.inst (srcKey g k)).phase = .pending ∧
    t.tk.time = max s.tk.time (u + bitsOf (s.reg (icCfg (srcKey g k))).toNat 16 16 * 1000)) ∧
  (∀ (s : State) (k : Fin 256),
    s.Awake → s.shExists k = true → (s.inst (shKey k)).phase = .pending → (s.inst (shKey k)).fallen = false → s.icTarget (shKey k) ≠ 0 →
    s.served (s.icTarget (shKey k)) = false → s.get (F.icGcfg_fallback_ms (s.icTarget (shKey k))) ≠ 0 →
    ∃ t, exec (.fallbackTimeout k) s = .next t ∧ (t.inst (shKey k)).fallen = true ∧ (t.inst (shKey k)).phase = .pending ∧
    t.get F.icShStatus_fallbacks = min (maxOf F.icShStatus_fallbacks.width) (s.get F.icShStatus_fallbacks + 1))

/-- A 32-bit write of the manager to a register that the part has is that register's write, an aligned 64-bit one is two of them, the low
half first, and one to an offset without a register changes none. A 32-bit read of an offset with no register gives zeros, one of
ID_PART the part's code. A BAR2 write of the manager that lies within buffer memory stores its bytes and changes no other byte of SRAM,
and one beyond it changes none; a BAR2 read within buffer memory with no injection armed gives the bytes. -/
def Obligations.RegisterAndBufferAccess : Prop :=
  (∀ (s : State) (q : Req) (off : Nat) (d : List Byte), s.Manages q → d.length = 4 → (regRow off).isSome = true → s.absent off = false →
    ∃ t, exec (.registerWrite q off d) s = .next t ∧ t = settle s (s.regWrite 0 off (BitVec.ofNat 32 (leVal d)))) ∧
  (∀ (s : State) (q : Req) (off : Nat) (d : List Byte),
    s.Manages q → d.length = 4 → (off = R.rgCursor ∨ off = R.cnEventEn ∨ off = R.fiSummaryEn ∨ off = R.coEventEn) →
    ∃ t, exec (.registerWrite q off d) s = .next t ∧ t.reg off = plainWord off (s.reg off) (BitVec.ofNat 32 (leVal d)) ∧ t.sram = s.sram) ∧
  (∀ (s u t : State) (q : Req) (off : Nat) (d : List Byte), d.length = 8 → off % 8 = 0 → exec (.registerWrite q off (d.take 4)) s = .next u →
    exec (.registerWrite q (off + 4) (d.drop 4)) u = .next t → exec (.registerWrite q off d) s = .next t) ∧
  (∀ (s : State) (q : Req) (off : Nat) (d : List Byte),
    s.Manages q → (regRow off).isNone = true → d.length = 4 →
    ∃ t, exec (.registerWrite q off d) s = .next t ∧ t.sram = s.sram ∧ t.reg off = s.reg off ∧ t.tk = s.tk ∧ t.gp = s.gp) ∧
  (∀ (s : State) (q : Req) (off : Nat),
    s.Manages q → (regRow off).isNone = true → off % 4 = 0 → (off < 0x6000 ∨ 0x7000 ≤ off) →
    ∃ t, exec (.bar0Read q off 4 none) s = .next t ∧ .readData [0, 0, 0, 0] false ∈ t.out ∧ t.sram = s.sram ∧ t.tk = s.tk) ∧
  (∀ (s : State) (q : Req),
    s.Manages q →
    ∃ t, exec (.bar0Read q R.idPart 4 none) s = .next t ∧ .readData (leBytes 4 (s.peek R.idPart).toNat) false ∈ t.out ∧ t.tk = s.tk) ∧
  (∀ (s : State) (q : Req) (off : Nat) (d : List Byte),
    s.Manages q → off + d.length ≤ 0x200000 →
    ∃ t, exec (.bar2Write q off d) s = .next t ∧ t.ramBytes off d.length = d ∧ ∀ a, (a < off ∨ off + d.length ≤ a) → t.ram a = s.ram a) ∧
  (∀ (s : State) (q : Req) (off : Nat) (d : List Byte),
    s.Manages q → 0x200000 ≤ off →
    ∃ t, exec (.bar2Write q off d) s = .next t ∧ t.sram = s.sram) ∧
  (∀ (s : State) (q : Req) (off len : Nat),
    s.Manages q → 0 < len → off + len ≤ 0x200000 → s.anyBad off len = false →
    ∃ t, exec (.bar2Read q off len none) s = .next t ∧ .readData (s.ramBytes off len) false ∈ t.out ∧ t.sram = s.sram)

/-- An enable of a Disabled Span port of the part enters Detect, as does a retrain; beacons one partner period apart are counted in Detect,
another begins a new run, and the third asks for a permit; their loss clears the count; a refused permit is asked for again. Training
that ends with role 6 makes the link Active with its partner shown; another role or 2 ms fail it, counted, into Detect; a Hit comes from
Active and after 1 ms ends in Detect, detached. -/
def Obligations.SpanLinkStates : Prop :=
  (∀ (s : State) (m : Fin 4) (q : Req) (w : Word),
    s.Manages q → s.sizesOk = true → m.val < s.nSpan → s.spanState m = 0 →
    ∃ t, exec (.spanEnable m q w) s = .next t ∧ t.spanState m = 1 ∧ t.flag (F.spPCtrl_enable m) = true ∧ (t.spanPort m).beacons = 0 ∧
    (t.spanPort m).replay = [] ∧ t.mode = (if s.mode = 3 then 4 else s.mode)) ∧
  (∀ (s : State) (m : Fin 4) (q : Req) (w : Word),
    s.Manages q → s.sizesOk = true → m.val < s.nSpan → w.getLsbD 0 = true → s.flag (F.spPCtrl_enable m) = true → s.spanState m = 3 →
    ∃ t, exec (.spanRetrain m q w) s = .next t ∧ t.spanState m = 1 ∧ (t.spanPort m).fails = 0 ∧ (t.spanPort m).beacons = 0 ∧
    t.flag (F.spPStatus_ranged m) = false) ∧
  (∀ (s : State) (m : Fin 4) (e : Nat),
    s.off = false → s.sizesOk = true → m.val < s.nSpan → s.spanState m = 1 → (s.spanPort m).beacons < 2 →
    (s.spanPort m).beaconAt.any (fun u => (90000 ≤ e - u && e - u ≤ 110000) || (90000000 ≤ e - u && e - u ≤ 110000000)) = true →
    ∃ t, exec (.partnerBeacon (.span m) e true) s = .next t ∧ (t.spanPort m).beacons = (s.spanPort m).beacons + 1 ∧ t.spanState m = 1) ∧
  (∀ (s : State) (m : Fin 4) (e : Nat),
    s.off = false → s.sizesOk = true → m.val < s.nSpan → s.spanState m = 1 → (s.spanPort m).beacons < 3 →
    (s.spanPort m).beaconAt.any (fun u => (90000 ≤ e - u && e - u ≤ 110000) || (90000000 ≤ e - u && e - u ≤ 110000000)) = false →
    ∃ t, exec (.partnerBeacon (.span m) e true) s = .next t ∧ (t.spanPort m).beacons = 1 ∧ (t.spanPort m).beaconAt = some e ∧
    t.spanState m = 1) ∧
  (∀ (s : State) (m : Fin 4) (e : Nat),
    s.off = false → s.sizesOk = true → m.val < s.nSpan → s.spanState m = 1 → (s.spanPort m).beacons = 2 →
    (s.spanPort m).beaconAt.any (fun u => (90000 ≤ e - u && e - u ≤ 110000) || (90000000 ≤ e - u && e - u ≤ 110000000)) = true →
    s.permitBars (.spanTraining m) = false →
    ∃ t, exec (.partnerBeacon (.span m) e true) s = .next t ∧ (t.spanPort m).beacons = 3 ∧ t.asked (.spanTraining m) = true ∧
    t.flag (F.spPStatus_permit_wait m) = true) ∧
  (∀ (s : State) (m : Fin 4),
    s.off = false → s.sizesOk = true → m.val < s.nSpan → (s.spanState m = 1 ∨ s.spanState m = 2) →
    ∃ t, exec (.partnerBeaconLoss (.span m)) s = .next t ∧ (t.spanPort m).beacons = 0 ∧ t.holds (.spanTraining m) = false ∧
    t.asked (.spanTraining m) = false ∧ t.spanState m = s.spanState m) ∧
  (∀ (s : State) (m : Fin 4),
    s.off = false → s.sizesOk = true → m.val < s.nSpan → s.spanState m = 1 → 3 ≤ (s.spanPort m).beacons →
    s.holds (.spanTraining m) = false → s.asked (.spanTraining m) = false → s.permitBars (.spanTraining m) = false →
    ∃ t, exec (.trainingPermitRetry (.span m)) s = .next t ∧ t.asked (.spanTraining m) = true ∧ t.spanState m = 1) ∧
  (∀ (s : State) (m : Fin 4) (role : Fin 8) (partner : Nat) (pport : Fin 4),
    s.off = false → s.sizesOk = true → m.val < s.nSpan → s.spanState m = 2 → role = 6 →
    ∃ t, exec (.trainingComplete (.span m) role partner pport) s = .next t ∧ t.spanState m = 3 ∧ (t.spanPort m).partner = partner ∧
    t.get (F.spPStatus_partner_port m) = pport ∧ t.flag (F.spPEvents_attached m) = true ∧ t.holds (.spanTraining m) = false) ∧
  (∀ (s : State) (m : Fin 4) (role : Fin 8) (partner : Nat) (pport : Fin 4),
    s.off = false → s.sizesOk = true → m.val < s.nSpan → s.spanState m = 2 → role ≠ 6 →
    ∃ t, exec (.trainingComplete (.span m) role partner pport) s = .next t ∧ t.spanState m = 1 ∧ t.flag (F.spPEvents_train_fail m) = true ∧
    (t.spanPort m).fails = (s.spanPort m).fails + 1) ∧
  (∀ (s : State) (m : Fin 4),
    s.off = false → s.sizesOk = true → m.val < s.nSpan → s.spanState m = 2 →
    ∃ t, exec (.trainingTimeout (.span m)) s = .next t ∧ t.spanState m = 1 ∧ t.flag (F.spPEvents_train_fail m) = true ∧
    (t.spanPort m).fails = (s.spanPort m).fails + 1) ∧
  (∀ (s : State) (m : Fin 4),
    s.off = false → s.sizesOk = true → m.val < s.nSpan → s.spanState m = 4 →
    ∃ t, exec (.fastTrainingTimeout (.span m)) s = .next t ∧ (t.spanPort m).fast = false ∧ t.spanState m = 4) ∧
  (∀ (s : State) (m : Fin 4),
    s.off = false → s.sizesOk = true → m.val < s.nSpan → s.spanState m = 3 →
    ∃ t, exec (.linkHit (.span m)) s = .next t ∧ t.spanState m = 4 ∧ t.flag (F.spPEvents_hit m) = true ∧ (t.spanPort m).fast = true ∧
    (t.spanPort m).replay = (s.spanPort m).replay) ∧
  (∀ (s : State) (m : Fin 4),
    s.off = false → s.sizesOk = true → m.val < s.nSpan → s.spanState m = 4 →
    ∃ t, exec (.hitTimeout (.span m)) s = .next t ∧ t.spanState m = 1 ∧ t.flag (F.spPEvents_detached m) = true ∧ (t.spanPort m).replay = []) ∧
  (∀ (s : State) (m : Fin 4) (a : Fin 64),
    s.off = false → s.sizesOk = true → m.val < s.nSpan → s.spanState m = 3 → s.flag (F.spPStatus_ranged m) = false →
    s.holds (.spanSweep m) = false → s.asked (.spanSweep m) = false → s.permitBars (.spanSweep m) = false →
    ∃ t, exec (.rangingPermitRetry (.span m) a) s = .next t ∧ t.asked (.spanSweep m) = true ∧ t.spanState m = 3)

/-- A good packet of channels 0 to 2 for this chip, in sequence, joins the inbox, and an acknowledgement is owed; one that fails its CRC is
counted and a NAK is owed. A LINK packet frees what it acknowledges. At a packet boundary what is owed goes first; else a fresh packet
that has credit takes the next sequence number and is kept. An echo near the stored L moves it by an eighth. The clears set their
counters to 0. -/
def Obligations.SpanPackets : Prop :=
  (∀ (s : State) (m : Fin 4) (x : SpanRx) (k : Nat) (p : SpanPkt),
    s.off = false → s.sizesOk = true → m.val < s.nSpan → s.spanState m = 3 → spanCheck x.start x.syms = .good k p → p.vc < 3 →
    k = (s.spanPort m).rxSeq → p.dst = s.chip → p.dst ≠ 63 → s.armed 0x0B m = none → s.flips = [] →
    (s.get (F.fiInjCtrl_mode 1) = 0 ∨ s.get (F.fiInjCtrl_mode 1) = 3) → (s.get (F.fiInjCtrl_mode 2) = 0 ∨ s.get (F.fiInjCtrl_mode 2) = 3) →
    ∃ t, exec (.spanPacketReceive m x) s = .next t ∧ (t.spanPort m).inbox = (s.spanPort m).inbox ++ [p] ∧
    (t.spanPort m).rxSeq = (k + 1) % 256 ∧ (t.spanPort m).ackDue = true) ∧
  (∀ (s : State) (m : Fin 4) (x : SpanRx),
    s.off = false → s.sizesOk = true → m.val < s.nSpan → s.spanState m = 3 → spanCheck x.start x.syms = .crc →
    ∃ t, exec (.spanPacketReceive m x) s = .next t ∧ (t.spanPort m).nakDue = true ∧ (t.spanPort m).inbox = (s.spanPort m).inbox ∧
    t.get (F.spPErr_crc m) = min (maxOf (F.spPErr_crc m).width) (s.get (F.spPErr_crc m) + 1) ∧ (t.spanPort m).rxSeq = (s.spanPort m).rxSeq) ∧
  (∀ (s : State) (m : Fin 4) (x : SpanRx) (k : Nat) (p : SpanPkt),
    s.off = false → s.sizesOk = true → m.val < s.nSpan → s.spanState m = 3 → spanCheck x.start x.syms = .good k p → p.typ = 4 → p.vc = 3 →
    byteAt p.tsd 1 % 2 = 0 → s.armed 0x0B m = none →
    ∃ t, exec (.linkPacket m x) s = .next t ∧
    (t.spanPort m).replay = (s.spanPort m).replay.filter (fun r => !decide ((byteAt p.tsd 0 + 256 - r.1) % 256 < 128)) ∧
    (t.spanPort m).inbox = (s.spanPort m).inbox ∧ t.spanState m = 3) ∧
  (∀ (s : State) (m : Fin 4),
    s.off = false → s.sizesOk = true → m.val < s.nSpan → s.spanState m = 3 → s.tw.due = false → (s.spanPort m).probe = none →
    (s.spanPort m).ackDue = true →
    ∃ t, exec (.spanPacketBoundary m) s = .next t ∧ (t.spanPort m).ackDue = false ∧ (t.spanPort m).nakDue = false ∧
    (t.spanPort m).owe = [0, 0, 0] ∧ (t.spanPort m).ready = (s.spanPort m).ready) ∧
  (∀ (s : State) (m : Fin 4) (x : SpanPkt),
    s.off = false → s.sizesOk = true → m.val < s.nSpan → s.spanState m = 3 → s.tw.due = false → (s.spanPort m).probe = none →
    (s.spanPort m).ackDue = false → (s.spanPort m).nakDue = false → (s.spanPort m).owe = [0, 0, 0] → (s.spanPort m).timeDue = false →
    (s.spanPort m).echoes = [] → s.probeDue m = false → (s.spanPort m).replay.find? (fun r => r.2.2.1) = none →
    (s.spanPort m).ready = [x] → x.vc = 2 → 0 < (s.spanPort m).credits.getD 2 0 → s.armed 0x0C m = none →
    ∃ t, exec (.spanPacketBoundary m) s = .next t ∧ (t.spanPort m).ready = [] ∧
    (t.spanPort m).replay = (s.spanPort m).replay ++ [((s.spanPort m).txSeq, 1, false, x)] ∧
    (t.spanPort m).txSeq = ((s.spanPort m).txSeq + 1) % 256 ∧ .span m (wireOf symSop (x.bytes (s.spanPort m).txSeq) true) ∈ t.out) ∧
  (∀ (s : State) (m : Fin 4) (rtt tt : Nat),
    s.off = false → s.sizesOk = true → (s.spanPort m).probe.isSome = true → (s.spanPort m).sweep = none →
    s.flag (F.spPStatus_ranged m) = true → ((rtt : Int) - tt - (s.spanPort m).lrt).natAbs ≤ 20 →
    ∃ t, exec (.spanRangingEcho m rtt tt) s = .next t ∧
    (t.spanPort m).lrt = (s.spanPort m).lrt + roundDiv ((rtt : Int) - tt - (s.spanPort m).lrt) 8 ∧ (t.spanPort m).probe = none ∧
    (t.spanPort m).lost = 0 ∧ t.flag (F.spPRange_valid m) = true) ∧
  (∀ (s : State) (m : Fin 4),
    s.off = false → s.sizesOk = true → s.spanState m = 3 → (s.spanPort m).sweep = none → (s.spanPort m).probe = none →
    s.flag (F.spPStatus_ranged m) = true →
    ∃ t, exec (.spanMaintenanceProbe m) s = .next t ∧ (t.spanPort m).maint = true ∧ (t.spanPort m).lost = (s.spanPort m).lost) ∧
  (∀ (s : State) (q : Req) (w : Word),
    s.Manages q →
    ∃ t, exec (.spCntClear q w) s = .next t ∧ t.reg R.spTakeCnt = 0 ∧ t.sp.records = s.sp.records) ∧
  (∀ (s : State) (m : Fin 4) (q : Req) (w : Word),
    s.Manages q → m.val < s.nSpan →
    ∃ t, exec (.spPmCntClear m q w) s = .next t ∧ t.reg (R.spPErr m) = 0 ∧ t.reg (R.spPTraffic m) = 0 ∧ t.spanState m = s.spanState m)

/-- A chip that is not the head counts pulses; the first train of k ≤ 61 gives it ID k from the chain; a chip with an ID c sends c + 1
pulses; without any pulse it is not chained. A DISCOVER, or its retry, asks to flood this chip's record; a record newer than the one
held of its chip is stored (a record is a set of fields, since its byte layout is not given: log entry 84). When discovery settles, a
chip ID that no chip has gets no route unless it is static, and settled is raised. -/
def Obligations.ChainAndDiscovery : Prop :=
  (∀ (s : State),
    s.off = false → s.sp.head = false →
    ∃ t, exec .chainPulse s = .next t ∧ t.sp.pulses = s.sp.pulses + 1 ∧ t.chip = s.chip) ∧
  (∀ (s : State) (k : Nat),
    s.off = false → s.sp.pulses = k → 1 ≤ k → k ≤ 61 → s.sp.chained = none →
    ∃ t, exec .chainIdTake s = .next t ∧ t.chip = k ∧ t.get F.spChipId_id_source = 1 ∧ t.sp.chained = some k ∧ t.sp.pulses = 0 ∧
    t.flag F.spChipId_chain_wired = true) ∧
  (∀ (s : State),
    s.off = false → s.chip ≠ 62 → s.jtag.holds = false →
    ∃ t, exec .chainTrain s = .next t ∧
    s.out ++ (List.replicate (s.chip + 1) [.pin "CHAIN_OUT" false, .pin "CHAIN_OUT" true]).flatten <+: t.out ∧ t.sp = s.sp) ∧
  (∀ (s : State),
    s.off = false → s.sp.head = false → s.sp.chained = none → s.sp.pulses = 0 →
    ∃ t, exec .chainTimeout s = .next t ∧ t.flag F.spChipId_chain_wired = false ∧ t.chip = s.chip) ∧
  (∀ (s : State) (q : Req) (w : Word),
    s.Manages q → s.permitBars .discovery = false →
    ∃ t, exec (.discover q w) s = .next t ∧ t.sp.flood = true ∧ t.asked .discovery = true) ∧
  (∀ (s : State),
    s.off = false → s.sp.flood = true → s.holds .discovery = false → s.permitBars .discovery = false →
    ∃ t, exec .discoveryPermitRetry s = .next t ∧ t.asked .discovery = true ∧ t.sp.flood = true) ∧
  (∀ (s : State) (m : Fin 4) (r : DiscRec),
    s.off = false → s.sizesOk = true → m.val < s.nSpan → s.spanState m = 3 → r.serial ≠ s.serialNo → s.newRec r = true →
    ∃ t, exec (.discRecord m r) s = .next t ∧ r ∈ t.sp.records ∧ (∀ x ∈ t.sp.records, x.serial = r.serial → x = r)) ∧
  (∀ (s : State),
    s.off = false → s.flag F.spFabStatus_discovering = true →
    ∃ t, exec .discoverySettled s = .next t ∧ t.flag F.spFabEvents_settled = true ∧
    (∀ d ∈ List.range 62, (treeOf s.fabric).any (fun x => x.chip.id == d) = false → s.flag (F.spRoute_static d) = false → t.reg (R.spRoute d) = 0))

/-- At the next second boundary the master makes a TIME packet due on every Active Span port. A TIME packet that a port holds is consumed
and remembered with its arrival, its master, its hops and its sender; from the time parent at another frame rate it raises rate_mismatch
(a packet not older than 1.5 s makes its port a candidate for the time parent: deduced, log entry 153). A change of master is raised,
and the alignment begins anew. -/
def Obligations.FabricTime : Prop :=
  (∀ (s : State),
    s.off = false → s.sizesOk = true → s.isMaster = true →
    ∃ t, exec .timeSend s = .next t ∧ (∀ m ∈ s.activeSpans, (t.spanPort m).timeDue = true) ∧
    t.tk.time = max s.tk.time (secondAtOrAfter s.tk.time)) ∧
  (∀ (s : State) (m : Fin 4) (a : Nat) (b : List Byte),
    s.off = false → s.sizesOk = true → (s.spanPort m).time = some (a, b) →
    ∃ t, exec (.timePacket m) s = .next t ∧ (t.spanPort m).time = none ∧
    (t.spanPort m).heard = some (a / 10, byteAt b 14, byteAt b 15, s.get (F.spPStatus_partner_chip m))) ∧
  (∀ (s : State) (m : Fin 4) (a : Nat) (b : List Byte),
    s.off = false → s.sizesOk = true → s.part = .vx4880 → (s.spanPort m).time = some (a, b) → s.isMaster = false → s.spanState m = 3 →
    s.flag (F.spPStatus_ranged m) = true → byteAt b 14 = s.get F.spFabStatus_master →
    (∀ k ∈ List.range 4, k ≠ m.val → (s.spanPort k).heard = none) → leAt b 12 2 ≠ s.rate → s.tk.time ≤ a / 10 + 1500000000 →
    ∃ t, exec (.timePacket m) s = .next t ∧ t.flag F.spFabEvents_rate_mismatch = true ∧ t.sp.renum = s.sp.renum) ∧
  (∀ (s : State),
    s.off = false → bestChip s.fabric ≠ s.get F.spFabStatus_master →
    ∃ t, exec .masterChange s = .next t ∧ t.flag F.spFabEvents_master_changed = true ∧ t.sp.delta = (0, 0) ∧ t.tk.time = s.tk.time)

/-- On the VX-4880 an enable starts twin operation, seeking its partner; with the high role pin the chip owns the shared trees from then on,
with the low one it takes none (deduced: log entry 98). A yield of a Paired owner is offered for the third frame on; accepted and
reached it gives the trees up. Three missed heartbeats of a Paired chip leave it Alone, and a standby takes the trees at the next
boundary. A low-role chip that never paired claims its shared trees and runs Alone. clear sets the twin's counters to 0. A due
heartbeat, with the partner's chip known and nothing before it at port 3, is sent: it is due no more and one packet more is kept for
acknowledgement. A heartbeat received while twin operation is on and none is to be discarded ends the run of misses and is remembered. A
mirror packet that is not the last part of its item is kept with the parts before it, and one that carries a whole item of sequence bits
sets the bit of its pipe (a context item has bytes without a register, which are left open: log entry 94). -/
def Obligations.TwinOperation : Prop :=
  (∀ (s : State) (q : Req) (w : Word),
    s.Manages q → s.part = .vx4880 → s.flag F.twCtrl_enable = false →
    ∃ t, exec (.twinEnable q w) s = .next t ∧ t.flag F.twCtrl_enable = true ∧ t.get F.twStatus_state = 1 ∧
    t.ownMap = (if s.flag F.twStatus_role_pin then s.sharedMap else s.ownMap)) ∧
  (∀ (s : State) (q : Req) (w : Word),
    s.Manages q → s.part = .vx4880 → s.flag F.twCtrl_enable = true → w.getLsbD 0 = true → s.flag F.twStatus_paired = true → s.ownMap ≠ 0 →
    s.tw.yield_ = none →
    ∃ t, exec (.twinYield q w) s = .next t ∧ t.tw.yield_ = some (s.ownMap, (s.frame + 3) % 2 ^ 32, false) ∧ t.ownMap = s.ownMap) ∧
  (∀ (s : State) (f : Nat),
    s.off = false → s.tw.yield_ = some (s.ownMap, f, true) → s.reached f = true → s.tw.accept = none → s.ownMap ≠ 0 →
    ∃ t, exec .yieldEffect s = .next t ∧ t.ownMap = 0 ∧ t.tw.yield_ = none ∧ t.get F.twLastSwitch_frame = s.frame ∧
    t.flag F.twEvents_yielded = true) ∧
  (∀ (s : State),
    s.off = false → s.part = .vx4880 → s.flag F.twCtrl_enable = true → s.flag F.twStatus_paired = true → 3 ≤ s.get F.twStatus_misses →
    ∃ t, exec .twinTakeover s = .next t ∧ t.flag F.twStatus_paired = false ∧ t.get F.twStatus_state = 3 ∧
    t.flag F.twEvents_heartbeat_lost = true ∧ t.tw.taking = decide (mapMinus s.sharedMap s.ownMap ≠ 0)) ∧
  (∀ (s : State),
    s.off = false → s.part = .vx4880 → s.flag F.twCtrl_enable = true → s.get F.twStatus_state = 1 → s.flag F.twStatus_role_pin = false →
    ∃ t, exec .soloWaitExpire s = .next t ∧ t.get F.twStatus_state = 3 ∧
    (∀ n ∈ List.range 8, bitOf s.sharedMap n = true → bitOf t.ownMap n = true)) ∧
  (∀ (s : State) (q : Req) (w : Word),
    s.Manages q → s.part = .vx4880 →
    ∃ t, exec (.twClear q w) s = .next t ∧ t.reg R.twCnt = 0 ∧ t.get F.twMirror_late = 0 ∧ t.tw = s.tw) ∧
  (∀ (s : State),
    s.off = false → s.sizesOk = true → s.part = .vx4880 → s.flag F.twCtrl_enable = true → s.partnerId ≠ 62 → s.tw.due = true →
    s.spanState 3 = 3 → (s.spanPort 3).probe = none → (s.spanPort 3).ackDue = false → (s.spanPort 3).nakDue = false →
    (s.spanPort 3).owe = [0, 0, 0] → (s.spanPort 3).timeDue = false → (s.spanPort 3).echoes = [] → s.probeDue 3 = false →
    (s.spanPort 3).replay.find? (fun r => r.2.2.1) = none → (s.spanPort 3).ready = [] → 0 < (s.spanPort 3).credits.getD 2 0 →
    s.armed 0x0C 3 = none →
    ∃ t, exec .heartbeatSend s = .next t ∧ t.tw.due = false ∧ (t.spanPort 3).replay.length = (s.spanPort 3).replay.length + 1 ∧
    ((t.spanPort 3).replay.getLast?).map (fun r => (r.1, isEvt 0x10 r.2.2.2)) = some ((s.spanPort 3).txSeq, true)) ∧
  (∀ (s : State) (x : SpanPkt) (maps : Bool),
    s.off = false → s.sizesOk = true → s.part = .vx4880 → s.flag F.twCtrl_enable = true →
    (s.spanPort 3).inbox.find? (isEvt 0x10) = some x → s.tw.drop = 0 → s.armed 0x12 0 = none →
    ∃ t, exec (.heartbeatReceive maps) s = .next t ∧ t.get F.twStatus_misses = 0 ∧ t.tw.seen = true ∧
    t.tw.last = some (heartOf x.payload) ∧ (t.spanPort 3).inbox = (s.spanPort 3).inbox.erase x) ∧
  (∀ (s : State) (x : SpanPkt),
    s.off = false → s.sizesOk = true → (s.spanPort 3).inbox.find? (isEvt 0x11) = some x → bitOf (byteAt x.payload 0) 7 = true →
    ∃ t, exec .mirrorMessage s = .next t ∧ t.tw.part = s.tw.part ++ x.payload.drop 8 ∧
    (t.spanPort 3).inbox = (s.spanPort 3).inbox.erase x ∧ t.devs = s.devs) ∧
  (∀ (s : State) (x : SpanPkt) (n a p : Nat),
    s.off = false → s.sizesOk = true → (s.spanPort 3).inbox.find? (isEvt 0x11) = some x → byteAt x.payload 0 = 5 → s.tw.part = [] →
    byteAt x.payload 1 = n → byteAt x.payload 2 % 64 = a → byteAt x.payload 3 % 16 = p → s.ownsPort n = false →
    ∃ t, exec .mirrorMessage s = .next t ∧ t.seqBit n a p = byteAt x.payload 8 % 2 ∧ t.tw.part = [])

/-- The manager writes 0x4B51 and then 0x6E4A to FI_UNLOCK.key to unlock the block; any other value as the first write leaves it locked and
restarts the sequence, and while it is unlocked any write locks it and disarms all 18 injection points. A write to an injection register
takes effect while the block is unlocked, clearing fired in a CTRL word, and otherwise is ignored and sets locked_write. A cold reset
and every warm reset lock the block and disarm every injection point. That only the 16 bits of the key field are compared is deduced
from R12 (log entry 118). -/
def Obligations.InjectionLock : Prop :=
  (∀ (s : State) (q : Req) (w : Word),
    s.Manages q → s.flag F.fiStatus_unlocked = false → w.toNat % 2 ^ 16 = 0x4B51 →
    ∃ t, exec (.fiUnlock q w) s = .next t ∧ t.fi.step1 = true ∧ t.flag F.fiStatus_unlocked = false) ∧
  (∀ (s : State) (q : Req) (w : Word),
    s.Manages q → s.flag F.fiStatus_unlocked = false → s.fi.step1 = true → w.toNat % 2 ^ 16 = 0x6E4A →
    ∃ t, exec (.fiUnlock q w) s = .next t ∧ t.flag F.fiStatus_unlocked = true ∧ t.fi.step1 = false ∧
    (∀ d ∈ List.range 18, t.reg (R.fiInjCtrl (d + 1)) = s.reg (R.fiInjCtrl (d + 1)))) ∧
  (∀ (s : State) (q : Req) (w : Word),
    s.Manages q → s.flag F.fiStatus_unlocked = false → w.toNat % 2 ^ 16 ≠ 0x4B51 → (s.fi.step1 = false ∨ w.toNat % 2 ^ 16 ≠ 0x6E4A) →
    ∃ t, exec (.fiUnlock q w) s = .next t ∧ t.flag F.fiStatus_unlocked = false ∧ t.fi.step1 = false) ∧
  (∀ (s : State) (q : Req) (w : Word),
    s.Manages q → s.flag F.fiStatus_unlocked = true →
    ∃ t, exec (.fiUnlock q w) s = .next t ∧ t.flag F.fiStatus_unlocked = false ∧ t.fi.step1 = false ∧
    (∀ d ∈ List.range 18, t.get (F.fiInjCtrl_mode (d + 1)) = 0)) ∧
  (∀ (s : State) (k : Fin 18) (q : Req) (w : Word),
    s.Manages q → s.flag F.fiStatus_unlocked = true →
    ∃ t, exec (.injectionArm k q w) s = .next t ∧
    t.reg (R.fiInjCtrl (k + 1)) = plainWord (R.fiInjCtrl (k + 1)) (s.reg (R.fiInjCtrl (k + 1))) w &&& 0xDFFFFFFF ∧
    t.flag (F.fiInjCtrl_fired (k + 1)) = false ∧ t.get (F.fiInjCtrl_mode (k + 1)) = w.toNat / 2 ^ 30) ∧
  (∀ (s : State) (k : Fin 18) (q : Req) (w : Word),
    s.Manages q → s.flag F.fiStatus_unlocked = false →
    ∃ t, exec (.injectionArm k q w) s = .next t ∧ t.reg (R.fiInjCtrl (k + 1)) = s.reg (R.fiInjCtrl (k + 1)) ∧
    t.flag F.fiStatus_locked_write = true) ∧
  (∀ (s : State) (q : Req) (off : Nat) (d : List Byte) (k : Fin 18),
    s.Manages q → off = R.fiInjAddr (k + 1) → d.length = 4 → s.flag F.fiStatus_unlocked = true →
    ∃ t, exec (.registerWrite q off d) s = .next t ∧ t.reg off = plainWord off (s.reg off) (BitVec.ofNat 32 (leVal d)) &&& 0x003FFFF8 ∧
    t.flag F.fiStatus_locked_write = s.flag F.fiStatus_locked_write) ∧
  (∀ (s : State) (q : Req) (off : Nat) (d : List Byte) (k : Fin 18),
    s.Manages q → off = R.fiInjAddr (k + 1) → d.length = 4 → s.flag F.fiStatus_unlocked = false →
    ∃ t, exec (.registerWrite q off d) s = .next t ∧ t.reg off = s.reg off ∧ t.flag F.fiStatus_locked_write = true) ∧
  (∀ (s : State) (p c h : Bool),
    s.off = false →
    ∃ t, exec (.coldReset p c h) s = .next t ∧ t.flag F.fiStatus_unlocked = false ∧ t.fi.step1 = false ∧
    (∀ d ∈ List.range 18, t.get (F.fiInjCtrl_mode (d + 1)) = 0)) ∧
  (∀ (s : State),
    s.off = false → s.power ≠ 3 →
    ∃ t, exec .perstNAssert s = .next t ∧ t.flag F.fiStatus_unlocked = false ∧ t.fi.step1 = false ∧
    (∀ d ∈ List.range 18, t.get (F.fiInjCtrl_mode (d + 1)) = 0)) ∧
  (∀ (s : State),
    s.off = false → s.power ≠ 3 →
    ∃ t, exec .functionLevelReset s = .next t ∧ t.flag F.fiStatus_unlocked = false ∧ t.fi.step1 = false ∧
    (∀ d ∈ List.range 18, t.get (F.fiInjCtrl_mode (d + 1)) = 0)) ∧
  (∀ (s : State) (q : Req) (w : Word),
    s.Manages q →
    ∃ t, exec (.softReset q w) s = .next t ∧ t.flag F.fiStatus_unlocked = false ∧ t.fi.step1 = false ∧
    (∀ d ∈ List.range 18, t.get (F.fiInjCtrl_mode (d + 1)) = 0))

/-- A stalled handshake of a watched block adds 1 to the count of detector 0x10, which saturates. The clears set FI_FAULT to 0 and release
FAULT_N if it was asserted; set every count, log entry and locked_write to 0; set FI_FIRST to 0; clear the bits of FI_SUMMARY that are
written as 1. -/
def Obligations.FaultRecords : Prop :=
  (∀ (s : State) (b : Fin 24) (ring : Nat),
    s.off = false → s.blockWatched b = true →
    ∃ t, exec (.handshakeStall b ring) s = .next t ∧
    t.get (F.fiCnt_count 0x10) = min (maxOf (F.fiCnt_count 0x10).width) (s.get (F.fiCnt_count 0x10) + 1) ∧ t.flag F.fiFault_active = true) ∧
  (∀ (s : State) (q : Req) (w : Word),
    s.Manages q → s.flag F.fiFault_active = true → s.jtag.holds = false →
    ∃ t, exec (.fiFaultClear q w) s = .next t ∧ t.reg R.fiFault = 0 ∧ .pin "FAULT_N" true ∈ t.out) ∧
  (∀ (s : State) (q : Req) (w : Word),
    s.Manages q →
    ∃ t, exec (.fiClear q w) s = .next t ∧ (∀ d ∈ List.range 18, t.reg (R.fiCnt (d + 1)) = 0) ∧
    (∀ k ∈ List.range 64, t.reg (R.fiLog0 0 + 4 * k) = 0) ∧ t.flag F.fiStatus_locked_write = false ∧ t.get F.fiStatus_count = 0 ∧
    t.reg R.fiFirst0 = s.reg R.fiFirst0) ∧
  (∀ (s : State) (q : Req) (w : Word),
    s.Manages q →
    ∃ t, exec (.fiClearFirst q w) s = .next t ∧ (∀ k ∈ List.range 4, t.reg (R.fiFirst0 + 4 * k) = 0) ∧
    (∀ d ∈ List.range 18, t.reg (R.fiCnt (d + 1)) = s.reg (R.fiCnt (d + 1)))) ∧
  (∀ (s : State) (q : Req) (w : Word),
    s.Manages q →
    ∃ t, exec (.fiSummaryClear q w) s = .next t ∧
    (∀ d ∈ List.range 18, bitOf (t.reg R.fiSummary).toNat (d + 1) = (bitOf (s.reg R.fiSummary).toNat (d + 1) && !w.getLsbD (d + 1))))

/-- A target of less power than the present state begins a step down to the next state; one of more power, above Stowed, climbs at once; a
target written during a step down is kept for its end. A step that every block agrees to reaches Dimmed, or Closed, from which the step
into Stowed begins when that is the target; the step into Stowed commands 600 mV and reaches Stowed, with the oscillator stopped, when
the supply shows power-good. A refusal abandons a step with the code and block, and a block that delays past entry_ms abandons it with
code 6; into Stowed no block delays. A wake source that is enabled wakes a Closed chip to wake_to within the command (that the wake from
Closed takes no time of its own is the model's choice: log entry 133), begins the wake of a Stowed one with a VOUT_COMMAND of 800 mV to
the core regulator, and is kept during a step down; a beacon on a Suspended root port in Open or Dimmed sets its remote_wake event, and
the port is Suspended no more. When the oscillator is stable the startup or the wake goes on; without it the startup ends and a wake
fails, counted. -/
def Obligations.PowerMoves : Prop :=
  (∀ (s : State) (q : Req) (w : Word),
    s.Manages q → s.cn.move = .idle → w.toNat % 8 < 4 → s.power < w.toNat % 8 →
    ∃ t, exec (.powerTarget q w) s = .next t ∧ t.cn.move = .down s.power (s.power + 1) s.now ∧ t.flag F.cnStatus_moving = true ∧
    t.power = s.power ∧ t.get F.cnCtrl_target = w.toNat % 8) ∧
  (∀ (s : State) (q : Req) (w : Word),
    s.Manages q → s.cn.move = .idle → w.toNat % 8 < s.power →
    ∃ t, exec (.powerTarget q w) s = .next t ∧ t.power = w.toNat % 8 ∧ t.flag F.cnEvents_state_changed = true ∧
    t.flag F.cnStatus_moving = false ∧ t.cn.move = .idle) ∧
  (∀ (s : State) (q : Req) (w : Word) (a b c : Nat),
    s.Manages q → s.cn.move = .down a b c → w.toNat % 8 < 4 →
    ∃ t, exec (.powerTarget q w) s = .next t ∧ t.cn.target = some (w.toNat % 8) ∧ t.cn.move = .down a b c ∧ t.power = s.power) ∧
  (∀ (s : State) (o c : Nat),
    s.off = false → s.cn.move = .down o 1 c → s.power = 0 → s.delayer 1 = none → s.cn.wake = none → s.cn.target = none →
    s.get F.cnCtrl_target = 1 →
    ∃ t, exec .entryStepDone s = .next t ∧ t.power = 1 ∧ t.cn.move = .idle ∧ t.flag F.cnStatus_moving = false ∧
    t.flag F.cnEvents_state_changed = true) ∧
  (∀ (s : State) (o c : Nat),
    s.off = false → s.cn.move = .down o 2 c → s.power = 1 → s.spansPark.refusal 2 = none → s.spansPark.delayer 2 = none →
    s.cn.wake = none → s.cn.target = none → s.get F.cnCtrl_target = 2 →
    ∃ t, exec .entryStepDone s = .next t ∧ t.power = 2 ∧ t.cn.move = .idle ∧ t.flag F.cnStatus_moving = false ∧
    t.flag F.cnEvents_state_changed = true) ∧
  (∀ (s : State) (o c : Nat),
    s.off = false → s.cn.move = .down o 2 c → s.power = 1 → s.spansPark.refusal 2 = none → s.spansPark.delayer 2 = none →
    s.cn.wake = none → s.cn.target = none → s.get F.cnCtrl_target = 3 →
    ∃ t, exec .entryStepDone s = .next t ∧ t.power = 2 ∧ t.cn.move = .down o 3 s.now ∧ t.flag F.cnStatus_moving = true ∧
    t.flag F.cnEvents_state_changed = true) ∧
  (∀ (s : State) (o c : Nat),
    s.off = false → s.cn.move = .down o 3 c → s.power = 2 → s.cn.supply = none → s.refusal 3 = none → s.jtag.holds = false →
    ∃ t, exec .entryStepDone s = .next t ∧ t.power = 2 ∧ t.cn.move = .down o 3 c ∧ t.cn.supply = some { use := .stow, mv := 600 } ∧
    .pmbus (s.get F.cnPmbCfg_core_addr) (s.flag F.cnPmbCfg_slow) (s.flag F.cnPmbCfg_pec) 0x21 (voutData 600) ∈ t.out) ∧
  (∀ (s : State) (o c : Nat) (u : Supply) (sw : BitVec 16) (a : Nat),
    s.off = false → s.cn.move = .down o 3 c → s.power = 2 → s.cn.supply = some u → u.use = .stow → u.mv = 600 → u.acked = some a →
    s.armed 0x0E 0 = none → sw.getLsbD 11 = false → s.cn.wake = none → s.cn.target = none → s.get F.cnCtrl_target = 3 → s.jtag.holds = false →
    ∃ t, exec (.pmbusStatusPoll sw true) s = .next t ∧ t.power = 3 ∧ t.cn.move = .idle ∧ t.flag F.cnStatus_moving = false ∧
    t.cn.oscOn = false ∧ t.cn.supply = none ∧ t.get F.cnSupply_setpoint_mv = 600 ∧ t.get F.cnPace_samples = 0 ∧
    t.flag F.cnEvents_state_changed = true ∧ .pin "REFOSC_EN" false ∈ t.out) ∧
  (∀ (s : State) (o c : Nat) (b x : Nat),
    s.off = false → s.cn.move = .down o 3 c → s.cn.supply = none → s.refusal 3 = some (b, x) → s.cn.wake = none → s.cn.target = none →
    b < 32 → x < 8 → o < 3 →
    ∃ t, exec .entryStepDone s = .next t ∧ t.power = o ∧ t.get F.cnStatus_refuse_code = x ∧ t.get F.cnStatus_refuse_block = b ∧
    t.flag F.cnEvents_entry_refused = true ∧ t.get F.cnCtrl_target = o ∧ t.cn.move = .idle) ∧
  (∀ (s : State) (o c : Nat) (b : Nat),
    s.off = false → s.cn.move = .down o 2 c → s.spansPark.delayer 2 = some b → s.cn.wake = none → s.cn.target = none → b < 32 → o < 2 →
    ∃ t, exec .entryTimeout s = .next t ∧ t.power = o ∧ t.get F.cnStatus_refuse_code = 6 ∧ t.get F.cnStatus_refuse_block = b ∧
    t.flag F.cnEvents_entry_refused = true ∧ t.get F.cnCtrl_target = o ∧ t.cn.move = .idle ∧
    t.tk.time = max s.tk.time (c + max 1 (s.get F.cnCtrl_entry_ms) * 1000000)) ∧
  (∀ (s : State) (o c : Nat),
    s.off = false → s.cn.move = .down o 3 c →
    ∃ t, exec .entryTimeout s = .next t ∧ t.cn.move = .down o 3 c ∧ t.power = s.power ∧ t.tk.time = s.tk.time) ∧
  (∀ (s : State) (o c : Nat) (b x : Nat),
    s.off = false → s.cn.move = .down o 2 c → s.spansPark.refusal 2 = some (b, x) → s.cn.wake = none → s.cn.target = none → b < 32 →
    x < 8 → o < 2 →
    ∃ t, exec .entryStepDone s = .next t ∧ t.power = o ∧ t.get F.cnStatus_refuse_code = x ∧ t.get F.cnStatus_refuse_block = b ∧
    t.flag F.cnEvents_entry_refused = true ∧ t.get F.cnCtrl_target = o ∧ t.cn.move = .idle) ∧
  (∀ (s : State) (o c : Nat) (b : Nat),
    s.off = false → s.cn.move = .down o 1 c → s.delayer 1 = some b →
    ∃ t, exec .entryStepDone s = .next t ∧ t.cn.move = s.cn.move ∧ t.power = s.power) ∧
  (∀ (s : State) (o c : Nat) (b : Nat),
    s.off = false → s.cn.move = .down o 1 c → s.delayer 1 = some b → s.cn.wake = none → s.cn.target = none → b < 32 → o = 0 →
    ∃ t, exec .entryTimeout s = .next t ∧ t.power = 0 ∧ t.get F.cnStatus_refuse_code = 6 ∧ t.get F.cnStatus_refuse_block = b ∧
    t.flag F.cnEvents_entry_refused = true ∧ t.cn.move = .idle ∧ t.tk.time = max s.tk.time (c + max 1 (s.get F.cnCtrl_entry_ms) * 1000000)) ∧
  (∀ (s : State) (x : WakeSrc),
    s.off = false → (s.wakeCode x).2.2 = true → s.cn.move = .idle → s.power = 2 → s.wakeTo (s.wakeCode x).1 < 2 → (s.wakeCode x).2.1 < 64 →
    ∃ t, exec (.wakeSource x) s = .next t ∧ t.power = s.wakeTo (s.wakeCode x).1 ∧ t.get F.cnWakeCause_cause = (s.wakeCode x).1 ∧
    t.get F.cnWakeCause_detail = (s.wakeCode x).2.1 ∧
    t.get F.cnWakeCause_wakes = (s.get F.cnWakeCause_wakes + 1) % 2 ^ F.cnWakeCause_wakes.width ∧ t.flag F.cnEvents_woke = true) ∧
  (∀ (s : State) (x : WakeSrc),
    s.off = false → (s.wakeCode x).2.2 = true → s.cn.move = .idle → s.power = 3 → s.jtag.holds = false →
    ∃ t, exec (.wakeSource x) s = .next t ∧ t.cn.move = .wake (s.wakeTo (s.wakeCode x).1) (s.wakeCode x).1 (s.wakeCode x).2.1 0 ∧
    t.cn.supply = some { use := .wake, mv := 800 } ∧ t.flag F.cnStatus_moving = true ∧
    .pmbus (s.get F.cnPmbCfg_core_addr) (s.flag F.cnPmbCfg_slow) (s.flag F.cnPmbCfg_pec) 0x21 (voutData 800) ∈ t.out ∧ t.power = 3) ∧
  (∀ (s : State) (x : WakeSrc) (a b c : Nat),
    s.off = false → (s.wakeCode x).2.2 = true → s.cn.move = .down a b c → s.cn.wake = none →
    ∃ t, exec (.wakeSource x) s = .next t ∧ t.cn.wake = some ((s.wakeCode x).1, (s.wakeCode x).2.1) ∧ t.cn.move = .down a b c ∧
    t.power = s.power) ∧
  (∀ (s : State) (n : Fin 8),
    s.off = false → s.power < 2 → n.val < s.nPorts → s.link n = 5 →
    ∃ t, exec (.remoteWakeBeacon n) s = .next t ∧ t.flag (F.gpAccEvents_remote_wake n) = true ∧ t.power = s.power ∧ t.link n ≠ 5) ∧
  (∀ (s : State),
    s.off = false → s.cn.move = .idle → s.ch.job = .startup → s.phase = 0 → s.cn.oscOn = true →
    ∃ t, exec .oscillatorReady s = .next t ∧ t.phase = 1 ∧ t.ch = s.ch ∧ (s.pci.link = .down → s.pci.perst = false → .pcie "train" ∈ t.out)) ∧
  (∀ (s : State) (k c d : Nat),
    s.off = false → s.cn.move = .wake k c d 1 → s.cn.warmAfter = false → c ≠ 0 → k < 2 → s.power = 3 →
    ∃ t, exec .oscillatorReady s = .next t ∧ t.power = k ∧ t.get F.cnWakeCause_cause = c % 2 ^ F.cnWakeCause_cause.width ∧
    t.flag F.cnEvents_woke = true ∧ t.cn.move = .idle ∧ t.flag F.cnStatus_moving = false) ∧
  (∀ (s : State),
    s.off = false → s.cn.move = .idle → s.ch.job = .startup → s.phase = 0 → s.cn.oscOn = true → s.jtag.holds = false →
    ∃ t, exec .oscillatorTimeout s = .next t ∧ t.ch.job = .idle ∧ t.cn.oscOn = false ∧ t.phase = 0 ∧ .pin "REFOSC_EN" false ∈ t.out ∧
    t.flag F.fiFault_active = true) ∧
  (∀ (s : State) (k c d : Nat),
    s.off = false → s.cn.move = .wake k c d 1 → s.power = 3 →
    ∃ t, exec .oscillatorTimeout s = .next t ∧ t.power = 3 ∧ t.cn.move = .idle ∧ t.cn.oscOn = false ∧ t.get F.cnWakeFault_cause = 2 ∧
    t.get F.cnWakeFault_fails = min (maxOf F.cnWakeFault_fails.width) (s.get F.cnWakeFault_fails + 1) ∧
    t.cn.supply = some { use := .unstow, mv := 600 })

/-- An acknowledged command is remembered with its time. A failed one is counted and, before the third retry, waits; after it a step up is
over, supply changes are halted and the setpoint stays. A retry commands the voltage again. A poll that shows POWER_GOOD# 0 with CORE_PG
high ends the change with the setpoint it asked for; one that does not leaves it running; 2 ms without power-good after the
acknowledgement is a failure. The status of the always-on regulator is read by command 0x79, a failed read adding 1 to the count of
detector 0x0E. The commands carry the addresses, speed and error checking of CN_PMB_CFG. No injection at the PMBus points is armed
(which commands are their opportunities: log entry 112). -/
def Obligations.CoreSupply : Prop :=
  (∀ (s : State) (u : Supply),
    s.off = false → s.cn.supply = some u → u.waiting = false → u.acked = none → s.armed 0x0E 0 = none → s.armed 0x0F 0 = none →
    ∃ t, exec .pmbusAck s = .next t ∧ t.cn.supply = some { u with acked := some s.now } ∧ t.tk.time = s.tk.time) ∧
  (∀ (s : State) (u : Supply) (cmd : BitVec 8),
    s.off = false → s.cn.supply = some u → u.waiting = false → u.retries < 3 →
    ∃ t, exec (.pmbusCommandFail cmd) s = .next t ∧ t.cn.supply = some { u with waiting := true, acked := none } ∧
    t.get F.cnPmbStatus_fails = min (maxOf F.cnPmbStatus_fails.width) (s.get F.cnPmbStatus_fails + 1)) ∧
  (∀ (s : State) (u : Supply) (cmd : BitVec 8),
    s.off = false → s.cn.supply = some u → u.waiting = false → 3 ≤ u.retries → u.use = .stepUp →
    ∃ t, exec (.pmbusCommandFail cmd) s = .next t ∧ t.cn.supply = none ∧ t.flag F.cnStatus_avs_halted = true ∧
    t.flag F.cnEvents_pmbus_fail = true ∧ t.get F.cnSupply_setpoint_mv = s.get F.cnSupply_setpoint_mv) ∧
  (∀ (s : State) (u : Supply),
    s.off = false → s.cn.supply = some u → u.waiting = true → s.jtag.holds = false →
    ∃ t, exec .pmbusRetry s = .next t ∧ t.cn.supply = some { u with waiting := false, retries := u.retries + 1 } ∧
    t.get F.cnPmbStatus_last_cmd = 0x21 ∧
    .pmbus (s.get F.cnPmbCfg_core_addr) (s.flag F.cnPmbCfg_slow) (s.flag F.cnPmbCfg_pec) 0x21 (voutData u.mv) ∈ t.out) ∧
  (∀ (s : State) (u : Supply) (sw : BitVec 16) (a : Nat),
    s.off = false → s.cn.supply = some u → u.acked = some a → s.armed 0x0E 0 = none → sw.getLsbD 11 = false → u.use = .stepUp →
    u.mv < 1024 → s.jtag.holds = false →
    ∃ t, exec (.pmbusStatusPoll sw true) s = .next t ∧ t.cn.supply = none ∧ t.get F.cnSupply_setpoint_mv = u.mv ∧
    t.get F.cnPmbStatus_status_word = sw.toNat ∧
    .pmbus (s.get F.cnPmbCfg_core_addr) (s.flag F.cnPmbCfg_slow) (s.flag F.cnPmbCfg_pec) 0x79 [] ∈ t.out) ∧
  (∀ (s : State) (u : Supply) (sw : BitVec 16) (pg : Bool) (a : Nat),
    s.off = false → s.cn.supply = some u → u.acked = some a → s.armed 0x0E 0 = none → (sw.getLsbD 11 = true ∨ pg = false) →
    ∃ t, exec (.pmbusStatusPoll sw pg) s = .next t ∧ t.cn.supply = some u ∧ t.get F.cnSupply_setpoint_mv = s.get F.cnSupply_setpoint_mv ∧
    t.get F.cnPmbStatus_status_word = sw.toNat) ∧
  (∀ (s : State) (u : Supply) (a : Nat),
    s.off = false → s.cn.supply = some u → u.acked = some a → u.waiting = false → u.retries < 3 →
    ∃ t, exec .powerGoodTimeout s = .next t ∧ t.cn.supply = some { u with waiting := true, acked := none } ∧
    t.get F.cnPmbStatus_fails = min (maxOf F.cnPmbStatus_fails.width) (s.get F.cnPmbStatus_fails + 1) ∧
    t.tk.time = max s.tk.time (a + 2000000)) ∧
  (∀ (s : State) (ok : Bool),
    s.off = false → s.power < 2 → s.jtag.holds = false →
    ∃ t, exec (.aonStatusRead ok) s = .next t ∧ t.get F.cnPmbStatus_last_cmd = 0x79 ∧
    .pmbus (s.get F.cnPmbCfg_aon_addr) (s.flag F.cnPmbCfg_slow) (s.flag F.cnPmbCfg_pec) 0x79 [] ∈ t.out ∧ t.cn.supply = s.cn.supply ∧
    (ok = true → s.armed 0x0E 1 = none → t.get (F.fiCnt_count 0x0E) = s.get (F.fiCnt_count 0x0E)) ∧
    (ok = false → t.get (F.fiCnt_count 0x0E) = min (maxOf (F.fiCnt_count 0x0E).width) (s.get (F.fiCnt_count 0x0E) + 1)))

/-- A pace sample in Open or Dimmed is counted and enters the minimum of the period; one below P_wc forces the setpoint, or that of an
upward change which runs if it is higher, up by 20 mV, to at most 880 mV, with no step down for 10 s; while supply changes are halted it
starts none. At the end of a period with a low sample a step up is asked for; with a fast one and no bar a step down of 5 mV begins. A
write of CN_AVS_CFG takes a v_min of 620 to 800 only and ends a halt. The clears set the wake-fault record and the counters of the
Conservator to 0. -/
def Obligations.PaceAndVoltage : Prop :=
  (∀ (s : State) (p : BitVec 16),
    s.off = false → s.power < 2 → s.flag F.cnStatus_avs_ready = true → s.get F.cnPaceCal_p_wc ≤ p.toNat → s.phase ≠ 0 →
    ∃ t, exec (.paceSample p) s = .next t ∧ t.get F.cnPace_samples = min (maxOf F.cnPace_samples.width) (s.get F.cnPace_samples + 1) ∧
    t.cn.pMin = some (min p.toNat (s.cn.pMin.getD p.toNat)) ∧ t.cn.supply = s.cn.supply) ∧
  (∀ (s : State) (p : BitVec 16),
    s.off = false → s.power < 2 → s.flag F.cnStatus_avs_halted = false → p.toNat < s.get F.cnPaceCal_p_wc → s.phase ≠ 0 →
    (s.cn.supply.any fun u => 880 ≤ u.mv) = false →
    ∃ t, exec (.paceSample p) s = .next t ∧ t.cn.supply = some { use := .forced, mv := min 880 (s.risingMv + 20) } ∧
    t.cn.noDown = s.now + 10000000000 ∧ t.get F.cnSupply_forced = min (maxOf F.cnSupply_forced.width) (s.get F.cnSupply_forced + 1) ∧
    t.flag F.cnEvents_forced_step = true) ∧
  (∀ (s : State) (p : BitVec 16),
    s.off = false → s.power < 2 → s.flag F.cnStatus_avs_halted = true → s.phase ≠ 0 →
    ∃ t, exec (.paceSample p) s = .next t ∧ t.get F.cnPace_samples = min (maxOf F.cnPace_samples.width) (s.get F.cnPace_samples + 1) ∧
    t.cn.supply = s.cn.supply ∧ t.get F.cnSupply_setpoint_mv = s.get F.cnSupply_setpoint_mv) ∧
  (∀ (s : State) (p : Nat),
    s.off = false → s.power < 2 → s.flag F.cnStatus_avs_ready = true → s.cn.pMin = some p → s.cn.mMin = none →
    s.flag F.cnStatus_avs_halted = false → s.cn.supply = none → p * 100 < s.pLo → s.get F.cnSupply_setpoint_mv + 5 ≤ 880 →
    s.asked .stepUp = false → s.permitBars .stepUp = false → s.phase ≠ 0 →
    ∃ t, exec .avsPeriod s = .next t ∧ t.asked .stepUp = true ∧ t.cn.pMin = none ∧
    t.get F.cnSupply_setpoint_mv = s.get F.cnSupply_setpoint_mv) ∧
  (∀ (s : State) (p : Nat),
    s.off = false → s.power < 2 → s.flag F.cnStatus_avs_ready = true → s.cn.pMin = some p → s.cn.mMin = none →
    s.flag F.cnStatus_avs_halted = false → s.cn.supply = none → ¬ p * 100 < s.pLo → 104 * s.pLo ≤ p * 10000 →
    s.get F.cnAvsCfg_v_min + 5 ≤ s.get F.cnSupply_setpoint_mv → s.cn.noDown ≤ s.now → s.phase ≠ 0 →
    ∃ t, exec .avsPeriod s = .next t ∧ t.cn.supply = some { use := .stepDown, mv := s.get F.cnSupply_setpoint_mv - 5 } ∧ t.cn.pMin = none ∧
    t.asked .stepUp = s.asked .stepUp) ∧
  (∀ (s : State) (q : Req) (w : Word),
    s.Manages q →
    ∃ t, exec (.avsConfigWrite q w) s = .next t ∧
    t.get F.cnAvsCfg_v_min = (if 620 ≤ w.toNat / 2 ^ 22 ∧ w.toNat / 2 ^ 22 ≤ 800 then w.toNat / 2 ^ 22 else s.get F.cnAvsCfg_v_min) ∧
    t.flag F.cnStatus_avs_halted = false) ∧
  (∀ (s : State) (q : Req) (w : Word),
    s.Manages q →
    ∃ t, exec (.cnWakeFaultClear q w) s = .next t ∧ t.reg R.cnWakeFault = 0 ∧ t.reg R.cnWakeFaultTimeLo = 0 ∧ t.reg R.cnWakeFaultTimeHi = 0) ∧
  (∀ (s : State) (q : Req) (w : Word),
    s.Manages q →
    ∃ t, exec (.cnCntClear q w) s = .next t ∧ t.reg R.cnPermitCnt = 0 ∧ t.get F.cnSupply_forced = 0 ∧ t.get F.cnPmbStatus_fails = 0 ∧
    t.reg R.cnScrubStatus = 0 ∧ t.get F.cnSupply_setpoint_mv = s.get F.cnSupply_setpoint_mv)

/-- The request at the head of the queue is granted when its cost fits what is left of the budget: it leaves the queue and is counted; a
scrub begins, a link waiting in Detect goes to Training. A scrub request that has waited for max_wait_ms is refused and counted, and the
counter stands at the end of its wait (a max_wait_ms of 0 counts as 1 ms: deduced, log entry 131). An interval asks for the scrub
permit; the end of a pass returns it and is counted. -/
def Obligations.PermitsAndScrub : Prop :=
  (∀ (s : State) (p : Permit) (r : List Permit),
    s.off = false → s.cn.queue = p :: r → s.power < 2 → s.permitFits p = true → p.use = .scrub →
    ∃ t, exec .permitGrant s = .next t ∧ t.cn.queue = r ∧ t.cn.scrubbing = true ∧ t.holds .scrub = true ∧
    t.get F.cnPermitCnt_granted = min (maxOf F.cnPermitCnt_granted.width) (s.get F.cnPermitCnt_granted + 1)) ∧
  (∀ (s : State) (p : Permit) (r : List Permit) (n : Fin 8),
    s.off = false → s.sizesOk = true → s.cn.queue = p :: r → s.power < 2 → s.permitFits p = true → p.use = .training n → s.link n = 1 →
    ∃ t, exec .permitGrant s = .next t ∧ t.cn.queue = r ∧ t.link n = 2 ∧ t.holds (.training n) = true ∧
    t.get F.cnPermitCnt_granted = min (maxOf F.cnPermitCnt_granted.width) (s.get F.cnPermitCnt_granted + 1)) ∧
  (∀ (s : State) (p : Permit) (r : List Permit),
    s.off = false → s.cn.queue = p :: r → p.use = .scrub →
    ∃ t, exec .permitWaitTimeout s = .next t ∧ t.cn.queue = r ∧ t.flag F.cnEvents_permit_refused = true ∧
    t.get F.cnPermitCnt_refused = min (maxOf F.cnPermitCnt_refused.width) (s.get F.cnPermitCnt_refused + 1) ∧
    t.get F.cnScrubStatus_deferred = min (maxOf F.cnScrubStatus_deferred.width) (s.get F.cnScrubStatus_deferred + 1) ∧
    t.tk.time = max s.tk.time (p.at_ + max 1 (s.get F.cnPermitCfg_max_wait_ms) * 1000000)) ∧
  (∀ (s : State),
    s.off = false → s.power < 2 → s.get F.cnScrubCfg_interval_s ≠ 0 → s.cn.scrubbing = false → s.asked .scrub = false →
    s.permitBars .scrub = false → s.phase ≠ 0 →
    ∃ t, exec .scrubInterval s = .next t ∧ t.asked .scrub = true ∧ t.cn.scrubbing = false ∧ t.reg R.cnScrubStatus = s.reg R.cnScrubStatus) ∧
  (∀ (s : State),
    s.off = false → s.cn.scrubbing = true → s.get (F.fiInjCtrl_mode 1) = 0 → s.get (F.fiInjCtrl_mode 2) = 0 →
    ∃ t, exec (.scrubPassDone []) s = .next t ∧ t.cn.scrubbing = false ∧ t.holds .scrub = false ∧
    t.get F.cnScrubStatus_passes = min (maxOf F.cnScrubStatus_passes.width) (s.get F.cnScrubStatus_passes + 1) ∧ t.sram = s.sram)

/-- COLD_RESET, by power-up or RESET_N, puts the device into phase 0 of its startup with its fuses shown: no host, no work entry, no permit
request, no catalogue entry, no pipe context, SRAM without a stored byte; it shows its cause, and RESET_N keeps the wake-fault record
and the test access port. In Off, RESET_N changes nothing (deduced: log entry 53). ALWAYS_ON_SUPPLY_LOSS leaves the chip Off with the
part and the fuses kept and the wake-fault record 0 (what is left of the rest is deduced: log entries 52, 53). A warm reset by PERST_N,
FLR or SOFT_RESET in phase 5 and Open counts and shows its cause, leaves the frame number, the station time and the set of pipe
contexts, takes away the entries of the chip's own rings and the permit requests; with mode 1 or 2 before it the device is then Standing
and re-applies its Charter. Only PERST_N changes the level of PERST_N; the other two leave it (what an FLR and a soft reset do to
configuration space: log entry 106). PERST_N in phase 3 of the startup begins flash discovery again (deduced: log entry 107), with no
context, no catalogue entry and buffer memory below the Registrar store reading 0. -/
def Obligations.Resets : Prop :=
  (∀ (s : State) (c h : Bool),
    ∃ t, exec (.coldReset true c h) s = .next t ∧ t.phase = 0 ∧ t.off = false ∧ t.hosted = false ∧ t.cat = [] ∧ t.px = [] ∧ t.sram = [] ∧
    t.work = [] ∧ t.cn.queue = [] ∧ t.fuses = s.fuses ∧ t.part = s.part ∧ t.reg64 R.idSerialLo = s.fuses.serial % 2 ^ 64 ∧
    t.flag F.idFuse_key_programmed = (s.fuses.keyHash != 0) ∧ t.flag F.idFuse_key_lock = s.fuses.keyLock ∧ t.get F.idResetCause_cause = 1 ∧
    t.reg R.cnWakeFault = 0) ∧
  (∀ (s : State) (c h : Bool),
    s.off = false →
    ∃ t, exec (.coldReset false c h) s = .next t ∧ t.phase = 0 ∧ t.off = false ∧ t.hosted = false ∧ t.cat = [] ∧ t.px = [] ∧ t.sram = [] ∧
    t.work = [] ∧ t.cn.queue = [] ∧ t.fuses = s.fuses ∧ t.part = s.part ∧ t.reg64 R.idSerialLo = s.fuses.serial % 2 ^ 64 ∧
    t.flag F.idFuse_key_programmed = (s.fuses.keyHash != 0) ∧ t.flag F.idFuse_key_lock = s.fuses.keyLock ∧ t.get F.idResetCause_cause = 2 ∧
    t.reg R.cnWakeFault = s.reg R.cnWakeFault ∧ t.jtag = s.jtag) ∧
  (∀ (s : State) (c h : Bool),
    s.off = true →
    ∃ t, exec (.coldReset false c h) s = .next t ∧ t = s) ∧
  (∀ (s : State),
    ∃ t, exec .alwaysOnSupplyLoss s = .next t ∧ t.off = true ∧ t.fuses = s.fuses ∧ t.part = s.part ∧ t.reg R.cnWakeFault = 0 ∧ t.cat = [] ∧
    t.sram = []) ∧
  (∀ (s : State),
    s.off = false → s.phase = 3 → s.ch.job = .startup → s.power ≠ 3 →
    ∃ t, exec .perstNAssert s = .next t ∧ t.phase = 2 ∧ t.ch.job = .startup ∧ t.ch.wait = .sfdp ∧ t.cat = [] ∧ t.px = [] ∧
    ∀ a, a < 0x340000 → t.ram a = 0 ∧ t.get F.idResetCause_cause = 4) ∧
  (∀ (s : State),
    s.off = false → s.mode ≠ 1 → s.mode ≠ 2 → s.power = 0 → s.flag F.cnStatus_moving = false → s.phase = 5 →
    ∃ t, exec .perstNAssert s = .next t ∧ t.get F.idResetCause_cause = 4 ∧
    t.get F.idResetCause_warm_count = (s.get F.idResetCause_warm_count + 1) % 2 ^ F.idResetCause_warm_count.width ∧
    t.work = s.work.filter (fun x => 8 ≤ x.r) ∧ t.frame = s.frame ∧ t.px.map (·.1) = s.px.map (·.1) ∧ t.tk.time = s.tk.time ∧ t.power = 0 ∧
    t.cn.queue = [] ∧ t.phase = 5 ∧ t.pci.perst = true) ∧
  (∀ (s : State),
    s.off = false → (s.mode = 1 ∨ s.mode = 2) → s.power = 0 → s.flag F.cnStatus_moving = false → s.phase = 5 →
    ∃ t, exec .perstNAssert s = .next t ∧ t.get F.idResetCause_cause = 4 ∧
    t.get F.idResetCause_warm_count = (s.get F.idResetCause_warm_count + 1) % 2 ^ F.idResetCause_warm_count.width ∧
    t.work = s.work.filter (fun x => 8 ≤ x.r) ∧ t.frame = s.frame ∧ t.px.map (·.1) = s.px.map (·.1) ∧ t.tk.time = s.tk.time ∧ t.power = 0 ∧
    t.cn.queue = [] ∧ t.phase = 5 ∧ t.mode = 1 ∧ t.ch.job = .reapply ∧ t.flag F.chStatus_busy = true) ∧
  (∀ (s : State),
    s.off = false → s.mode ≠ 1 → s.mode ≠ 2 → s.power = 0 → s.flag F.cnStatus_moving = false → s.phase = 5 →
    ∃ t, exec .functionLevelReset s = .next t ∧ t.get F.idResetCause_cause = 16 ∧
    t.get F.idResetCause_warm_count = (s.get F.idResetCause_warm_count + 1) % 2 ^ F.idResetCause_warm_count.width ∧
    t.work = s.work.filter (fun x => 8 ≤ x.r) ∧ t.frame = s.frame ∧ t.px.map (·.1) = s.px.map (·.1) ∧ t.tk.time = s.tk.time ∧ t.power = 0 ∧
    t.cn.queue = [] ∧ t.phase = 5 ∧ t.pci.perst = s.pci.perst) ∧
  (∀ (s : State),
    s.off = false → (s.mode = 1 ∨ s.mode = 2) → s.power = 0 → s.flag F.cnStatus_moving = false → s.phase = 5 →
    ∃ t, exec .functionLevelReset s = .next t ∧ t.get F.idResetCause_cause = 16 ∧
    t.get F.idResetCause_warm_count = (s.get F.idResetCause_warm_count + 1) % 2 ^ F.idResetCause_warm_count.width ∧
    t.work = s.work.filter (fun x => 8 ≤ x.r) ∧ t.frame = s.frame ∧ t.px.map (·.1) = s.px.map (·.1) ∧ t.tk.time = s.tk.time ∧ t.power = 0 ∧
    t.cn.queue = [] ∧ t.phase = 5 ∧ t.mode = 1 ∧ t.ch.job = .reapply ∧ t.flag F.chStatus_busy = true) ∧
  (∀ (s : State) (q : Req) (w : Word),
    s.Manages q → s.mode ≠ 1 → s.mode ≠ 2 → s.power = 0 → s.flag F.cnStatus_moving = false → s.phase = 5 →
    ∃ t, exec (.softReset q w) s = .next t ∧ t.get F.idResetCause_cause = 8 ∧
    t.get F.idResetCause_warm_count = (s.get F.idResetCause_warm_count + 1) % 2 ^ F.idResetCause_warm_count.width ∧
    t.work = s.work.filter (fun x => 8 ≤ x.r) ∧ t.frame = s.frame ∧ t.px.map (·.1) = s.px.map (·.1) ∧ t.tk.time = s.tk.time ∧ t.power = 0 ∧
    t.cn.queue = [] ∧ t.phase = 5 ∧ t.pci.perst = s.pci.perst) ∧
  (∀ (s : State) (q : Req) (w : Word),
    s.Manages q → (s.mode = 1 ∨ s.mode = 2) → s.power = 0 → s.flag F.cnStatus_moving = false → s.phase = 5 →
    ∃ t, exec (.softReset q w) s = .next t ∧ t.get F.idResetCause_cause = 8 ∧
    t.get F.idResetCause_warm_count = (s.get F.idResetCause_warm_count + 1) % 2 ^ F.idResetCause_warm_count.width ∧
    t.work = s.work.filter (fun x => 8 ≤ x.r) ∧ t.frame = s.frame ∧ t.px.map (·.1) = s.px.map (·.1) ∧ t.tk.time = s.tk.time ∧ t.power = 0 ∧
    t.cn.queue = [] ∧ t.phase = 5 ∧ t.mode = 1 ∧ t.ch.job = .reapply ∧ t.flag F.chStatus_busy = true)

/-- In phase 1 the end of the clear finds the SRAM all zeros and discovery begins with a read of the SFDP header with 8 dummy clocks at 20
MHz (the layout of the tables is presumed: log entry 123). Without an answer, or without the SFDP signature, the flash is read by 0x03,
as 16 MiB with copy B at 8 MiB, and copy A's header is read. A header of copy A that fails leaves the copy with its code, and copy B's
header is read next; one that passes has the rest read. The end of copy A's check shows its result and begins copy B. A valid copy B
alone is applied: phase 5, loaded, its sequence number shown. With no valid copy the device comes up Bare: mode 3, phase 5. In phase 5,
with the loader not busy and nothing that bars a request, a check, and in Bare (mode 3) a load, makes the loader busy and asks for a
kind-7 permit. A re-application asks for its permit when it begins, and again after a refusal; the tenth refusal (a request that is
barred is refused at once) ends it: reapply_failed is raised and the loader is idle. -/
def Obligations.CharterLoader : Prop :=
  (∀ (s : State),
    s.off = false → s.ch.job = .startup → s.phase = 1 → s.jtag.holds = false →
    ∃ t, exec .sramClearDone s = .next t ∧ t.sram = [] ∧ t.phase = 2 ∧ t.ch.wait = .sfdp ∧ .flash 0x5A 0 16 8 20 ∈ t.out ∧
    t.flag F.chStatus_reading = true) ∧
  (∀ (s : State),
    s.off = false → s.ch.job = .startup → s.ch.wait = .sfdp → s.jtag.holds = false →
    ∃ t, exec (.flashReadDone .none) s = .next t ∧ t.phase = 3 ∧ t.flag F.chFlash_sfdp_ok = false ∧ t.get F.chFlash_read_mode = 0 ∧
    t.get F.chFlash_density_log2 = 24 ∧ t.get F.chFlash_b_offset = 2048 ∧ t.ch.wait = .header false ∧ .flash 0x03 0 64 0 20 ∈ t.out) ∧
  (∀ (s : State) (d : List Byte),
    s.off = false → s.ch.job = .startup → s.ch.wait = .sfdp → leAt (fit 16 d) 0 4 ≠ 0x50444653 → s.jtag.holds = false →
    ∃ t, exec (.flashReadDone (.data d)) s = .next t ∧ t.phase = 3 ∧ t.flag F.chFlash_sfdp_ok = false ∧ t.get F.chFlash_read_mode = 0 ∧
    t.get F.chFlash_density_log2 = 24 ∧ t.get F.chFlash_b_offset = 2048 ∧ t.ch.wait = .header false ∧ .flash 0x03 0 64 0 20 ∈ t.out) ∧
  (∀ (s : State) (d : List Byte),
    s.off = false → s.ch.job = .startup → s.ch.wait = .header false → headerCode d s.copySpace ≠ 0 → headerCode d s.copySpace < 16 →
    ∃ t, exec (.flashReadDone (.data d)) s = .next t ∧ t.ch.wait = .header true ∧ t.ch.copyA = none ∧
    t.reg R.chCopyA = BitVec.ofNat 32 (headerCode d s.copySpace * 2 ^ 24) ∧ t.reg R.chSeqA = 0 ∧ t.phase = s.phase) ∧
  (∀ (s : State) (d : List Byte),
    s.off = false → s.ch.job = .startup → s.ch.wait = .header true → headerCode d s.copySpace ≠ 0 → headerCode d s.copySpace < 16 →
    s.ch.copyA = none → s.ch.attach = false →
    ∃ t, exec (.flashReadDone (.data d)) s = .next t ∧ t.phase = 5 ∧ t.mode = 3 ∧ t.ch.job = .idle ∧ t.flag F.chEvents_bare = true ∧
    t.flag F.chStatus_busy = false ∧ t.cat = s.cat) ∧
  (∀ (s : State),
    s.off = false → s.ch.job = .startup → s.ch.wait = .verify false → (s.imageCode s.ch.image).1 ≠ 0 → (s.imageCode s.ch.image).1 < 16 →
    ∃ t, exec .signatureCheckDone s = .next t ∧ t.ch.wait = .header true ∧ t.ch.copyA = none ∧
    t.get F.chCopyA_error = (s.imageCode s.ch.image).1 ∧ t.flag F.chCopyA_valid = false) ∧
  (∀ (s : State),
    s.off = false → s.ch.job = .startup → s.ch.wait = .verify false → (s.imageCode s.ch.image).1 = 0 → s.jtag.holds = false →
    ∃ t, exec .signatureCheckDone s = .next t ∧ t.ch.wait = .header true ∧ t.ch.copyA = some s.ch.image ∧ t.flag F.chCopyA_valid = true ∧
    .flash (readCmd (s.get F.chFlash_read_mode)) s.copySpace 64 (readDummy s.ch.table (s.get F.chFlash_read_mode)) (if s.get F.chFlash_read_mode = 0 then 20 else 50) ∈ t.out) ∧
  (∀ (s : State),
    s.off = false → s.ch.job = .startup → s.ch.wait = .verify true → s.ch.copyA = none → (s.imageCode s.ch.image).1 = 0 →
    ∃ t, exec .signatureCheckDone s = .next t ∧ t.phase = 5 ∧ (t.mode = 1 ∨ t.mode = 2) ∧ t.ch.job = .idle ∧
    t.flag F.chEvents_loaded = true ∧ t.reg R.chApplied = BitVec.ofNat 32 (imgSeq s.ch.image) ∧ t.get F.chStatus_copy = 2) ∧
  (∀ (s : State) (d : List Byte),
    s.off = false → s.ch.job = .startup → s.ch.wait = .header false → headerCode d s.copySpace = 0 → s.jtag.holds = false →
    ∃ t, exec (.flashReadDone (.data d)) s = .next t ∧ t.ch.wait = .body false ∧ t.ch.image = d.take 64 ∧
    t.reg R.chSeqA = BitVec.ofNat 32 (imgSeq d) ∧
    .flash (readCmd (s.get F.chFlash_read_mode)) 64 (imgLen d - 64) (readDummy s.ch.table (s.get F.chFlash_read_mode)) (if s.get F.chFlash_read_mode = 0 then 20 else 50) ∈ t.out) ∧
  (∀ (s : State) (q : Req) (w : Word),
    s.Manages q → s.flag F.chStatus_busy = false → s.phase = 5 → s.permitBars .charter = false →
    ∃ t, exec (.charterCheck q w) s = .next t ∧ t.ch.job = .check ∧ t.ch.wait = .permit ∧ t.flag F.chStatus_busy = true ∧
    t.asked .charter = true ∧ t.mode = s.mode) ∧
  (∀ (s : State) (q : Req) (w : Word),
    s.Manages q → s.mode = 3 → s.flag F.chStatus_busy = false → s.phase = 5 → s.permitBars .charter = false →
    ∃ t, exec (.charterLoad q w) s = .next t ∧ t.ch.job = .load ∧ t.ch.wait = .permit ∧ t.flag F.chStatus_busy = true ∧
    t.asked .charter = true ∧ t.mode = s.mode) ∧
  (∀ (s : State),
    s.off = false → s.ch.job = .reapply → s.ch.wait = .none → s.ch.refusals = 0 → s.permitBars .charter = false →
    ∃ t, exec .charterReapply s = .next t ∧ t.ch.wait = .permit ∧ t.asked .charter = true ∧ t.ch.job = .reapply) ∧
  (∀ (s : State),
    s.off = false → s.ch.job = .reapply → s.ch.wait = .none → 1 ≤ s.ch.refusals → s.permitBars .charter = false →
    ∃ t, exec .reapplyRetry s = .next t ∧ t.ch.wait = .permit ∧ t.asked .charter = true ∧ t.ch.refusals = s.ch.refusals) ∧
  (∀ (s : State),
    s.off = false → s.ch.job = .reapply → s.ch.wait = .none → s.ch.refusals = 9 → s.permitBars .charter = true → s.ch.attach = false →
    ∃ t, exec .reapplyRetry s = .next t ∧ t.flag F.chEvents_reapply_failed = true ∧ t.ch.job = .idle ∧ t.flag F.chStatus_busy = false ∧
    t.flag F.cnEvents_permit_refused = true)

/-- A command loads its instruction and scans its data register once (the model's choice: log entry 26). Each instruction selects its code:
EXTEST puts the cells of the output balls on them, shifts the levels captured out and the new cells in, which are on the balls then;
SAMPLE/PRELOAD shifts the levels sampled out and loads the cells, one for each ball of the chain (order, one cell a ball: log entry
182); CLAMP puts the cells on the balls and HIGHZ floats them; in these two and BYPASS what is shifted in comes out one place later.
While EXTEST, HIGHZ or CLAMP is selected nothing that the device drives goes out on a ball of the chain, and another instruction gives
the balls the device's levels back. IDCODE shifts out the identification, whose lowest bit is 1 (its manufacturer field has no value in
the spec and is left open: log entry 27); an undefined code, or 0xFF, selects BYPASS; a reset of the port selects IDCODE. FUSE_LOAD
keeps the 257 bits shifted in; FUSE_READ shifts out the hash, key_lock, key_programmed and burn_failed. None of these changes the fuses.
FUSE_BURN is the whole procedure of a burn and acts whenever the chip is not Off (deduced: log entry 120). With the supply in range a
burn writes the loaded hash when no hash is burnt, and keeps a hash that is; key_lock, once 1, stays 1, and is set by the loaded bit 256
when a hash is then burnt. Out of range the burn writes no fuse and burn_failed is set. The serial number and the pace calibration are
never changed. -/
def Obligations.TestAccessAndFuses : Prop :=
  (∀ (s : State) (a b : List Bool),
    s.off = false →
    ∃ t, exec (.extest a b) s = .next t ∧ t.jtag.ir = 0x00 ∧
    s.out ++ [.cells ((scanBalls.zip s.jtag.cells).filterMap (fun p => if p.1.2 then some (p.1.1, p.2) else none)), .tdo a, .cells ((scanBalls.zip t.jtag.cells).filterMap (fun p => if p.1.2 then some (p.1.1, p.2) else none))] <+: t.out ∧
    t.jtag.cells = (List.range scanBalls.length).map (fun i => b.getD i false) ∧ t.fuses = s.fuses) ∧
  (∀ (s : State),
    s.off = false →
    ∃ t, exec .idcode s = .next t ∧ t.jtag.ir = 0x01 ∧ .tdo (lsbBits 32 s.idcode) ∈ t.out ∧ s.idcode % 2 = 1 ∧ t.fuses = s.fuses) ∧
  (∀ (s : State) (a b : List Bool),
    s.off = false →
    ∃ t, exec (.samplePreload a b) s = .next t ∧ t.jtag.ir = 0x02 ∧ .tdo a ∈ t.out ∧
    t.jtag.cells = (List.range scanBalls.length).map (fun i => b.getD i false) ∧ t.fuses = s.fuses) ∧
  (∀ (s : State) (b : List Bool),
    s.off = false →
    ∃ t, exec (.highz b) s = .next t ∧ t.jtag.ir = 0x03 ∧ .highz ∈ t.out ∧ .tdo ((false :: b).take b.length) ∈ t.out ∧
    t.jtag.cells = s.jtag.cells ∧ t.fuses = s.fuses) ∧
  (∀ (s : State) (b : List Bool),
    s.off = false →
    ∃ t, exec (.clamp b) s = .next t ∧ t.jtag.ir = 0x04 ∧
    .cells ((scanBalls.zip s.jtag.cells).filterMap (fun p => if p.1.2 then some (p.1.1, p.2) else none)) ∈ t.out ∧
    .tdo ((false :: b).take b.length) ∈ t.out ∧ t.jtag.cells = s.jtag.cells ∧ t.fuses = s.fuses) ∧
  (∀ (s : State) (c : BitVec 8) (b : List Bool),
    s.off = false → tapCodes.contains c.toNat = false →
    ∃ t, exec (.bypass c b) s = .next t ∧ t.jtag.ir = 0xFF ∧ .tdo ((false :: b).take b.length) ∈ t.out ∧ t.jtag.cells = s.jtag.cells ∧
    t.jtag.fuse = s.jtag.fuse ∧ t.fuses = s.fuses) ∧
  (∀ (s : State),
    s.off = false → s.jtag.holds = true →
    ∃ t, exec .idcode s = .next t ∧ t.jtag.holds = false ∧ .pin "FAULT_N" (!s.flag F.fiFault_active) ∈ t.out ∧
    .pin "PPS_OUT" s.tk.ppsOutHigh ∈ t.out) ∧
  (∀ (s : State) (o : Output), s.jtag.holds = true → o.scanned = true → s.emit o = s) ∧
  (∀ (s : State),
    s.off = false →
    ∃ t, exec .tapReset s = .next t ∧ t.jtag.ir = 0x01 ∧ t.jtag.cells = s.jtag.cells ∧ t.fuses = s.fuses) ∧
  (∀ (s : State) (b : BitVec 257),
    s.off = false →
    ∃ t, exec (.fuseLoad b) s = .next t ∧ t.jtag.ir = 0x20 ∧ t.jtag.fuse = b.toNat ∧ t.fuses = s.fuses) ∧
  (∀ (s : State),
    s.off = false →
    ∃ t, exec .fuseRead s = .next t ∧ t.jtag.ir = 0x22 ∧
    .tdo (lsbBits 256 s.fuses.keyHash ++ [s.fuses.keyLock, s.fuses.keyHash != 0, s.fuses.burnFailed]) ∈ t.out ∧ t.fuses = s.fuses) ∧
  (∀ (s : State),
    s.off = false →
    ∃ t, exec (.fuseBurn true) s = .next t ∧ t.jtag.ir = 0x21 ∧
    t.fuses.keyHash = (if s.fuses.keyHash = 0 then s.jtag.fuse % 2 ^ 256 else s.fuses.keyHash) ∧
    t.fuses.keyLock = (s.fuses.keyLock || (bitOf s.jtag.fuse 256 && (if s.fuses.keyHash = 0 then s.jtag.fuse % 2 ^ 256 else s.fuses.keyHash) != 0)) ∧
    t.fuses.burnFailed = s.fuses.burnFailed ∧ t.fuses.serial = s.fuses.serial ∧ t.fuses.pWc = s.fuses.pWc) ∧
  (∀ (s : State),
    s.off = false →
    ∃ t, exec (.fuseBurn false) s = .next t ∧ t.jtag.ir = 0x21 ∧ t.fuses = { s.fuses with burnFailed := true })
end

