-- ==== Sys2Proof/Laws/Touch.lean ====
section
/-! SUPPORT. What an operation may touch: a relation between the states before and after it, made of a set of parts of the state. The parts are the
fields of State and groups of registers; a set of parts is a number whose bit i stands for part i. Every operation of the model has one lemma
`<name>_touch` in the Frame files of this folder, which says what it leaves alone, and that it keeps the tables canonical and the
numbers of the units. -/

namespace Sys2Proof.Machine

/-- The part a register belongs to: the block it lies in (R451), with the event and status registers that any command may change apart. -/
def regPart (off : Nat) : Nat :=
  if off < 0x1000 then (if off = 0xC00 then 34 else 35)
  else if off < 0x2000 then (if off = R.tkEvents then 36 else if off = R.tkFrameNum then 37 else if off = R.tkStatus then 38 else 39)
  else if off < 0x3000 then (if off = R.cnEvents then 40 else 41)
  else if off < 0x4000 then (if off = R.chEvents then 42 else 43)
  else if off < 0x5000 then 44
  else if off < 0x6000 then
    (if off = R.rgEvents ∨ off = R.rgStatus ∨ off = R.rgMissed ∨ off = R.rgLastTake ∨ off = R.rgLastTakeLo ∨ off = R.rgLastTakeHi then 45 else 46)
  else if off < 0x8000 then 47
  else if off < 0x9000 then 48
  else if off < 0xA000 then 49
  else if off < 0xC000 then 50
  else if off < 0xD000 then (if off = R.spFabStatus then 51 else 52)
  else if off < 0xE000 then 53
  else if off < 0x10000 then 54
  else if off < 0x20000 then 55
  else if off < 0x40000 then 56
  else 57

/-- Whether every part of a is a part of b. -/
def sub (a b : Nat) : Bool := Nat.beq (Nat.land a b) a

/-- The part of one register, as a set. -/
def regBit (off : Nat) : Nat := Nat.shiftLeft 1 (regPart off)

/-- The step from s to t touches only the parts of m, and keeps the sparse tables canonical and the numbers of the units. -/
structure Touch (m : Nat) (s t : State) : Prop where
  mem : s.memOk = true → t.memOk = true
  sizes : s.sizesOk = true → t.sizesOk = true
  reg : ∀ off, m.testBit (regPart off) = false → t.reg off = s.reg off
  part : m.testBit 0 = false → t.part = s.part
  off : m.testBit 1 = false → t.off = s.off
  pending : m.testBit 2 = false → t.pending = s.pending
  caps : m.testBit 3 = false → t.caps = s.caps
  sram : m.testBit 4 = false → t.sram = s.sram
  out : m.testBit 5 = false → t.out = s.out
  free : m.testBit 6 = false → t.free = s.free
  tk : m.testBit 7 = false → t.tk = s.tk
  ic : m.testBit 8 = false → t.ic = s.ic
  rg : m.testBit 9 = false → t.rg = s.rg
  fi : m.testBit 10 = false → t.fi = s.fi
  cn : m.testBit 11 = false → t.cn = s.cn
  pci : m.testBit 12 = false → t.pci = s.pci
  gp : m.testBit 13 = false → t.gp = s.gp
  devs : m.testBit 14 = false → t.devs = s.devs
  seqs : m.testBit 15 = false → t.seqs = s.seqs
  acc : m.testBit 16 = false → t.acc = s.acc
  px : m.testBit 17 = false → t.px = s.px
  cat : m.testBit 18 = false → t.cat = s.cat
  cu : m.testBit 19 = false → t.cu = s.cu
  cutoff : m.testBit 20 = false → t.cutoff = s.cutoff
  built : m.testBit 21 = false → t.built = s.built
  ga : m.testBit 22 = false → t.ga = s.ga
  work : m.testBit 23 = false → t.work = s.work
  stamps : m.testBit 24 = false → t.stamps = s.stamps
  owed : m.testBit 25 = false → t.owed = s.owed
  mv : m.testBit 26 = false → t.mv = s.mv
  mvLast : m.testBit 27 = false → t.mvLast = s.mvLast
  sp : m.testBit 28 = false → t.sp = s.sp
  tw : m.testBit 29 = false → t.tw = s.tw
  co : m.testBit 30 = false → t.co = s.co
  ch : m.testBit 31 = false → t.ch = s.ch
  fuses : m.testBit 32 = false → t.fuses = s.fuses
  jtag : m.testBit 33 = false → t.jtag = s.jtag
  flips : m.testBit 58 = false → t.flips = s.flips

theorem sizesOf_iff {a b c d e f g : Nat} :
    sizesOf a b c d e f g = true ↔ a = 8 ∧ b = 8 ∧ c = 16 ∧ d = 8 ∧ e = 4 ∧ f = 4 ∧ g = 4 := by
  simp [sizesOf, and_assoc]

theorem sub_testBit {a b : Nat} (h : sub a b = true) {i : Nat} (hb : b.testBit i = false) : a.testBit i = false := by
  have e : a &&& b = a := Nat.eq_of_beq_eq_true h
  rw [← e, Nat.testBit_and, hb, Bool.and_false]

theorem Touch.refl {m : Nat} (s : State) : Touch m s s where
  mem := id
  sizes := id
  reg _ _ := rfl
  part _ := rfl
  off _ := rfl
  pending _ := rfl
  caps _ := rfl
  sram _ := rfl
  out _ := rfl
  free _ := rfl
  tk _ := rfl
  ic _ := rfl
  rg _ := rfl
  fi _ := rfl
  cn _ := rfl
  pci _ := rfl
  gp _ := rfl
  devs _ := rfl
  seqs _ := rfl
  acc _ := rfl
  px _ := rfl
  cat _ := rfl
  cu _ := rfl
  cutoff _ := rfl
  built _ := rfl
  ga _ := rfl
  work _ := rfl
  stamps _ := rfl
  owed _ := rfl
  mv _ := rfl
  mvLast _ := rfl
  sp _ := rfl
  tw _ := rfl
  co _ := rfl
  ch _ := rfl
  fuses _ := rfl
  jtag _ := rfl
  flips _ := rfl

theorem Touch.trans {m : Nat} {s t u : State} (h : Touch m s t) (k : Touch m t u) : Touch m s u where
  mem x := k.mem (h.mem x)
  sizes x := k.sizes (h.sizes x)
  reg off x := (k.reg off x).trans (h.reg off x)
  part x := (k.part x).trans (h.part x)
  off x := (k.off x).trans (h.off x)
  pending x := (k.pending x).trans (h.pending x)
  caps x := (k.caps x).trans (h.caps x)
  sram x := (k.sram x).trans (h.sram x)
  out x := (k.out x).trans (h.out x)
  free x := (k.free x).trans (h.free x)
  tk x := (k.tk x).trans (h.tk x)
  ic x := (k.ic x).trans (h.ic x)
  rg x := (k.rg x).trans (h.rg x)
  fi x := (k.fi x).trans (h.fi x)
  cn x := (k.cn x).trans (h.cn x)
  pci x := (k.pci x).trans (h.pci x)
  gp x := (k.gp x).trans (h.gp x)
  devs x := (k.devs x).trans (h.devs x)
  seqs x := (k.seqs x).trans (h.seqs x)
  acc x := (k.acc x).trans (h.acc x)
  px x := (k.px x).trans (h.px x)
  cat x := (k.cat x).trans (h.cat x)
  cu x := (k.cu x).trans (h.cu x)
  cutoff x := (k.cutoff x).trans (h.cutoff x)
  built x := (k.built x).trans (h.built x)
  ga x := (k.ga x).trans (h.ga x)
  work x := (k.work x).trans (h.work x)
  stamps x := (k.stamps x).trans (h.stamps x)
  owed x := (k.owed x).trans (h.owed x)
  mv x := (k.mv x).trans (h.mv x)
  mvLast x := (k.mvLast x).trans (h.mvLast x)
  sp x := (k.sp x).trans (h.sp x)
  tw x := (k.tw x).trans (h.tw x)
  co x := (k.co x).trans (h.co x)
  ch x := (k.ch x).trans (h.ch x)
  fuses x := (k.fuses x).trans (h.fuses x)
  jtag x := (k.jtag x).trans (h.jtag x)
  flips x := (k.flips x).trans (h.flips x)

theorem Touch.weaken {a m : Nat} {s t : State} (h : Touch a s t) (e : sub a m = true) : Touch m s t where
  mem := h.mem
  sizes := h.sizes
  reg off x := h.reg off (sub_testBit e x)
  part x := h.part (sub_testBit e x)
  off x := h.off (sub_testBit e x)
  pending x := h.pending (sub_testBit e x)
  caps x := h.caps (sub_testBit e x)
  sram x := h.sram (sub_testBit e x)
  out x := h.out (sub_testBit e x)
  free x := h.free (sub_testBit e x)
  tk x := h.tk (sub_testBit e x)
  ic x := h.ic (sub_testBit e x)
  rg x := h.rg (sub_testBit e x)
  fi x := h.fi (sub_testBit e x)
  cn x := h.cn (sub_testBit e x)
  pci x := h.pci (sub_testBit e x)
  gp x := h.gp (sub_testBit e x)
  devs x := h.devs (sub_testBit e x)
  seqs x := h.seqs (sub_testBit e x)
  acc x := h.acc (sub_testBit e x)
  px x := h.px (sub_testBit e x)
  cat x := h.cat (sub_testBit e x)
  cu x := h.cu (sub_testBit e x)
  cutoff x := h.cutoff (sub_testBit e x)
  built x := h.built (sub_testBit e x)
  ga x := h.ga (sub_testBit e x)
  work x := h.work (sub_testBit e x)
  stamps x := h.stamps (sub_testBit e x)
  owed x := h.owed (sub_testBit e x)
  mv x := h.mv (sub_testBit e x)
  mvLast x := h.mvLast (sub_testBit e x)
  sp x := h.sp (sub_testBit e x)
  tw x := h.tw (sub_testBit e x)
  co x := h.co (sub_testBit e x)
  ch x := h.ch (sub_testBit e x)
  fuses x := h.fuses (sub_testBit e x)
  jtag x := h.jtag (sub_testBit e x)
  flips x := h.flips (sub_testBit e x)

/-- One more operation at the end of a chain. -/
theorem Touch.to {a m : Nat} {b s t : State} (k : Touch a s t) (e : sub a m = true) (h : Touch m b s) : Touch m b t :=
  h.trans (k.weaken e)

theorem Touch.ite {m : Nat} {b s t : State} {c : Prop} [Decidable c] (h : Touch m b s) (k : Touch m b t) : Touch m b (if c then s else t) := by
  split
  · exact h
  · exact k

theorem Touch.forEach {m : Nat} {α : Type} {b s : State} {f : State → α → State} {xs : List α} (h : Touch m b s)
    (hf : ∀ a x, Touch m b a → Touch m b (f a x)) : Touch m b (forEach xs s f) := by
  unfold Machine.forEach
  induction xs generalizing s with
  | nil => exact h
  | cons x xs ih => exact ih (hf s x h)

theorem Touch.foldl {m : Nat} {α : Type} {b s : State} {f : State → α → State} {xs : List α} (h : Touch m b s)
    (hf : ∀ a x, Touch m b a → Touch m b (f a x)) : Touch m b (xs.foldl f s) := Touch.forEach h hf

theorem Touch.foldl_fst {m : Nat} {α β : Type} {b : State} {f : State × β → α → State × β} {a : State × β} {xs : List α} (h : Touch m b a.1)
    (hf : ∀ p x, Touch m b p.1 → Touch m b (f p x).1) : Touch m b (xs.foldl f a).1 := by
  induction xs generalizing a with
  | nil => exact h
  | cons x xs ih => exact ih (hf a x h)

theorem Touch.foldl_snd {m : Nat} {α β : Type} {b : State} {f : β × State → α → β × State} {a : β × State} {xs : List α} (h : Touch m b a.2)
    (hf : ∀ p x, Touch m b p.2 → Touch m b (f p x).2) : Touch m b (xs.foldl f a).2 := by
  induction xs generalizing a with
  | nil => exact h
  | cons x xs ih => exact ih (hf a x h)

/-- A record update: the parts outside m stay. -/
theorem Touch.mk' {m : Nat} {b s : State}
    {xpart} {xoff} {xpending} {xregs} {xcaps} {xsram} {xflips} {xout} {xfree} {xtk} {xic} {xrg} {xfi} {xcn} {xpci} {xgp} {xdevs} {xseqs} {xacc} {xpx} {xcat} {xcu} {xcutoff} {xbuilt} {xga} {xwork} {xstamps} {xowed} {xmv} {xmvLast} {xsp} {xtw} {xco} {xch} {xfuses} {xjtag}
    (h : Touch m b s) (er : xregs = s.regs) (em : xsram = s.sram)
    (z : s.sizesOk = true → sizesOf xgp.length xcu.length xga.length xmv.length xsp.ports.length xtk.srcs.length xtk.cmp.length = true)
    (e : (m.testBit 0 = true ∨ xpart = s.part) ∧
      (m.testBit 1 = true ∨ xoff = s.off) ∧
      (m.testBit 2 = true ∨ xpending = s.pending) ∧
      (m.testBit 3 = true ∨ xcaps = s.caps) ∧
      (m.testBit 5 = true ∨ xout = s.out) ∧
      (m.testBit 6 = true ∨ xfree = s.free) ∧
      (m.testBit 7 = true ∨ xtk = s.tk) ∧
      (m.testBit 8 = true ∨ xic = s.ic) ∧
      (m.testBit 9 = true ∨ xrg = s.rg) ∧
      (m.testBit 10 = true ∨ xfi = s.fi) ∧
      (m.testBit 11 = true ∨ xcn = s.cn) ∧
      (m.testBit 12 = true ∨ xpci = s.pci) ∧
      (m.testBit 13 = true ∨ xgp = s.gp) ∧
      (m.testBit 14 = true ∨ xdevs = s.devs) ∧
      (m.testBit 15 = true ∨ xseqs = s.seqs) ∧
      (m.testBit 16 = true ∨ xacc = s.acc) ∧
      (m.testBit 17 = true ∨ xpx = s.px) ∧
      (m.testBit 18 = true ∨ xcat = s.cat) ∧
      (m.testBit 19 = true ∨ xcu = s.cu) ∧
      (m.testBit 20 = true ∨ xcutoff = s.cutoff) ∧
      (m.testBit 21 = true ∨ xbuilt = s.built) ∧
      (m.testBit 22 = true ∨ xga = s.ga) ∧
      (m.testBit 23 = true ∨ xwork = s.work) ∧
      (m.testBit 24 = true ∨ xstamps = s.stamps) ∧
      (m.testBit 25 = true ∨ xowed = s.owed) ∧
      (m.testBit 26 = true ∨ xmv = s.mv) ∧
      (m.testBit 27 = true ∨ xmvLast = s.mvLast) ∧
      (m.testBit 28 = true ∨ xsp = s.sp) ∧
      (m.testBit 29 = true ∨ xtw = s.tw) ∧
      (m.testBit 30 = true ∨ xco = s.co) ∧
      (m.testBit 31 = true ∨ xch = s.ch) ∧
      (m.testBit 32 = true ∨ xfuses = s.fuses) ∧
      (m.testBit 33 = true ∨ xjtag = s.jtag) ∧
      (m.testBit 58 = true ∨ xflips = s.flips)) :
    Touch m b (State.mk xpart xoff xpending xregs xcaps xsram xflips xout xfree xtk xic xrg xfi xcn xpci xgp xdevs xseqs xacc xpx xcat xcu xcutoff xbuilt xga xwork xstamps xowed xmv xmvLast xsp xtw xco xch xfuses xjtag) := by
  subst er em
  obtain ⟨epart, eoff, epending, ecaps, eout, efree, etk, eic, erg, efi, ecn, epci, egp, edevs, eseqs, eacc, epx, ecat, ecu, ecutoff, ebuilt, ega, ework, estamps, eowed, emv, emvLast, esp, etw, eco, ech, efuses, ejtag, eflips⟩ := e
  exact {
    mem := fun x => h.mem x
    sizes := fun x => z (h.sizes x)
    reg := fun off x => h.reg off x
    part := fun x => epart.elim (fun y => absurd (x.symm.trans y) Bool.false_ne_true) fun y => y.trans (h.part x)
    off := fun x => eoff.elim (fun y => absurd (x.symm.trans y) Bool.false_ne_true) fun y => y.trans (h.off x)
    pending := fun x => epending.elim (fun y => absurd (x.symm.trans y) Bool.false_ne_true) fun y => y.trans (h.pending x)
    caps := fun x => ecaps.elim (fun y => absurd (x.symm.trans y) Bool.false_ne_true) fun y => y.trans (h.caps x)
    sram := fun x => h.sram x
    out := fun x => eout.elim (fun y => absurd (x.symm.trans y) Bool.false_ne_true) fun y => y.trans (h.out x)
    free := fun x => efree.elim (fun y => absurd (x.symm.trans y) Bool.false_ne_true) fun y => y.trans (h.free x)
    tk := fun x => etk.elim (fun y => absurd (x.symm.trans y) Bool.false_ne_true) fun y => y.trans (h.tk x)
    ic := fun x => eic.elim (fun y => absurd (x.symm.trans y) Bool.false_ne_true) fun y => y.trans (h.ic x)
    rg := fun x => erg.elim (fun y => absurd (x.symm.trans y) Bool.false_ne_true) fun y => y.trans (h.rg x)
    fi := fun x => efi.elim (fun y => absurd (x.symm.trans y) Bool.false_ne_true) fun y => y.trans (h.fi x)
    cn := fun x => ecn.elim (fun y => absurd (x.symm.trans y) Bool.false_ne_true) fun y => y.trans (h.cn x)
    pci := fun x => epci.elim (fun y => absurd (x.symm.trans y) Bool.false_ne_true) fun y => y.trans (h.pci x)
    gp := fun x => egp.elim (fun y => absurd (x.symm.trans y) Bool.false_ne_true) fun y => y.trans (h.gp x)
    devs := fun x => edevs.elim (fun y => absurd (x.symm.trans y) Bool.false_ne_true) fun y => y.trans (h.devs x)
    seqs := fun x => eseqs.elim (fun y => absurd (x.symm.trans y) Bool.false_ne_true) fun y => y.trans (h.seqs x)
    acc := fun x => eacc.elim (fun y => absurd (x.symm.trans y) Bool.false_ne_true) fun y => y.trans (h.acc x)
    px := fun x => epx.elim (fun y => absurd (x.symm.trans y) Bool.false_ne_true) fun y => y.trans (h.px x)
    cat := fun x => ecat.elim (fun y => absurd (x.symm.trans y) Bool.false_ne_true) fun y => y.trans (h.cat x)
    cu := fun x => ecu.elim (fun y => absurd (x.symm.trans y) Bool.false_ne_true) fun y => y.trans (h.cu x)
    cutoff := fun x => ecutoff.elim (fun y => absurd (x.symm.trans y) Bool.false_ne_true) fun y => y.trans (h.cutoff x)
    built := fun x => ebuilt.elim (fun y => absurd (x.symm.trans y) Bool.false_ne_true) fun y => y.trans (h.built x)
    ga := fun x => ega.elim (fun y => absurd (x.symm.trans y) Bool.false_ne_true) fun y => y.trans (h.ga x)
    work := fun x => ework.elim (fun y => absurd (x.symm.trans y) Bool.false_ne_true) fun y => y.trans (h.work x)
    stamps := fun x => estamps.elim (fun y => absurd (x.symm.trans y) Bool.false_ne_true) fun y => y.trans (h.stamps x)
    owed := fun x => eowed.elim (fun y => absurd (x.symm.trans y) Bool.false_ne_true) fun y => y.trans (h.owed x)
    mv := fun x => emv.elim (fun y => absurd (x.symm.trans y) Bool.false_ne_true) fun y => y.trans (h.mv x)
    mvLast := fun x => emvLast.elim (fun y => absurd (x.symm.trans y) Bool.false_ne_true) fun y => y.trans (h.mvLast x)
    sp := fun x => esp.elim (fun y => absurd (x.symm.trans y) Bool.false_ne_true) fun y => y.trans (h.sp x)
    tw := fun x => etw.elim (fun y => absurd (x.symm.trans y) Bool.false_ne_true) fun y => y.trans (h.tw x)
    co := fun x => eco.elim (fun y => absurd (x.symm.trans y) Bool.false_ne_true) fun y => y.trans (h.co x)
    ch := fun x => ech.elim (fun y => absurd (x.symm.trans y) Bool.false_ne_true) fun y => y.trans (h.ch x)
    fuses := fun x => efuses.elim (fun y => absurd (x.symm.trans y) Bool.false_ne_true) fun y => y.trans (h.fuses x)
    jtag := fun x => ejtag.elim (fun y => absurd (x.symm.trans y) Bool.false_ne_true) fun y => y.trans (h.jtag x)
    flips := fun x => eflips.elim (fun y => absurd (x.symm.trans y) Bool.false_ne_true) fun y => y.trans (h.flips x)
  }

theorem listSet_length {α : Type} (xs : List α) (i : Nat) (v : α) : (listSet xs i v).length = xs.length := by
  induction xs generalizing i with
  | nil => rfl
  | cons x xs ih => cases i <;> simp [listSet, ih]

/-! ### Tables -/

theorem tget_terase {α : Type} (d : Nat → α) (t : Tab α) (j k : Nat) : tget d (terase t k) j = if j = k then d j else tget d t j := by
  induction t with
  | nil => simp [terase, tget]
  | cons p t ih =>
    obtain ⟨i, v⟩ := p
    simp only [terase, tget]
    by_cases h : i = k
    · subst h
      rw [if_pos rfl, ih]
      by_cases hj : j = i
      · simp [hj]
      · simp [hj, Ne.symm hj]
    · rw [if_neg h]
      simp only [tget, ih]
      by_cases hj : i = j
      · subst hj; simp [h]
      · simp [hj]

theorem tget_tinsert_same {α : Type} (d : Nat → α) (t : Tab α) (k : Nat) (v : α) : tget d (tinsert (terase t k) k v) k = v := by
  induction t with
  | nil => simp [terase, tinsert, tget]
  | cons p t ih =>
    obtain ⟨i, w⟩ := p
    simp only [terase]
    by_cases h : i = k
    · simpa [h] using ih
    · rw [if_neg h]
      simp only [tinsert]
      split
      · simp [tget]
      · simp [tget, h, ih]

theorem tget_tinsert_ne {α : Type} (d : Nat → α) (t : Tab α) (j k : Nat) (v : α) (h : j ≠ k) : tget d (tinsert t k v) j = tget d t j := by
  induction t with
  | nil => simp [tinsert, tget, Ne.symm h]
  | cons p t ih =>
    obtain ⟨i, w⟩ := p
    simp only [tinsert]
    split
    · simp [tget, Ne.symm h]
    · simp only [tget, ih]

/-- A table read at the key just written. -/
theorem tget_tput_same {α : Type} [DecidableEq α] (d : Nat → α) (t : Tab α) (k : Nat) (v : α) : tget d (tput d t k v) k = v := by
  unfold tput
  split
  · rename_i h; rw [tget_terase]; simp [h]
  · exact tget_tinsert_same d t k v

/-- A table read at another key. -/
theorem tget_tput_ne {α : Type} [DecidableEq α] (d : Nat → α) (t : Tab α) (j k : Nat) (v : α) (h : j ≠ k) :
    tget d (tput d t k v) j = tget d t j := by
  unfold tput
  split
  · rw [tget_terase, if_neg h]
  · rw [tget_tinsert_ne d _ j k v h, tget_terase, if_neg h]

theorem rising_some {α : Type} {j : Nat} {t : Tab α} (h : rising (some j) t = true) : rising none t = true := by
  cases t with
  | nil => rfl
  | cons p t => obtain ⟨k, v⟩ := p; simp only [rising, Bool.and_eq_true] at h; exact h.2

theorem rising_lower {α : Type} {i j : Nat} {t : Tab α} (h : rising (some j) t = true) (hi : i ≤ j) : rising (some i) t = true := by
  cases t with
  | nil => rfl
  | cons p t =>
    obtain ⟨k, v⟩ := p
    simp only [rising, Bool.and_eq_true, decide_eq_true_eq] at h ⊢
    exact ⟨by omega, h.2⟩

theorem rising_terase {α : Type} {j k : Nat} {t : Tab α} (h : rising (some j) t = true) : rising (some j) (terase t k) = true := by
  induction t generalizing j with
  | nil => rfl
  | cons p t ih =>
    obtain ⟨i, v⟩ := p
    simp only [rising, Bool.and_eq_true, decide_eq_true_eq] at h
    simp only [terase]
    split
    · exact ih (rising_lower h.2 (by omega))
    · simp only [rising, Bool.and_eq_true, decide_eq_true_eq]
      exact ⟨h.1, ih h.2⟩

theorem rising_none_terase {α : Type} {k : Nat} {t : Tab α} (h : rising none t = true) : rising none (terase t k) = true := by
  cases t with
  | nil => rfl
  | cons p t =>
    obtain ⟨i, v⟩ := p
    simp only [rising] at h
    simp only [terase]
    split
    · exact rising_some (rising_terase h)
    · simp only [rising]; exact rising_terase h

theorem terase_absent {α : Type} (t : Tab α) (k : Nat) : ∀ p ∈ terase t k, p.1 ≠ k ∧ p ∈ t := by
  induction t with
  | nil => simp [terase]
  | cons p t ih =>
    obtain ⟨i, v⟩ := p
    simp only [terase]
    intro q hq
    by_cases h : i = k
    · rw [if_pos h] at hq; exact ⟨(ih q hq).1, List.mem_cons_of_mem _ (ih q hq).2⟩
    · rw [if_neg h] at hq
      rcases List.mem_cons.mp hq with rfl | hq
      · exact ⟨h, List.mem_cons_self⟩
      · exact ⟨(ih q hq).1, List.mem_cons_of_mem _ (ih q hq).2⟩

theorem rising_tinsert {α : Type} {j k : Nat} {v : α} {t : Tab α} (h : rising (some j) t = true) (hj : j < k) (hk : ∀ p ∈ t, p.1 ≠ k) :
    rising (some j) (tinsert t k v) = true := by
  induction t generalizing j with
  | nil => simp [tinsert, rising, hj]
  | cons p t ih =>
    obtain ⟨i, w⟩ := p
    have hik : i ≠ k := hk (i, w) List.mem_cons_self
    simp only [rising, Bool.and_eq_true, decide_eq_true_eq] at h
    simp only [tinsert]
    split
    · rename_i hlt
      simp only [rising, Bool.and_eq_true, decide_eq_true_eq]
      exact ⟨hj, hlt, h.2⟩
    · simp only [rising, Bool.and_eq_true, decide_eq_true_eq]
      exact ⟨h.1, ih h.2 (by omega) fun p hp => hk p (List.mem_cons_of_mem _ hp)⟩

theorem rising_none_tinsert {α : Type} {k : Nat} {v : α} {t : Tab α} (h : rising none t = true) (hk : ∀ p ∈ t, p.1 ≠ k) :
    rising none (tinsert t k v) = true := by
  cases t with
  | nil => rfl
  | cons p t =>
    obtain ⟨i, w⟩ := p
    have hik : i ≠ k := hk (i, w) List.mem_cons_self
    simp only [rising] at h
    simp only [tinsert]
    split
    · rename_i hlt
      simp only [rising, Bool.and_eq_true, decide_eq_true_eq]
      exact ⟨hlt, h⟩
    · simp only [rising]
      exact rising_tinsert h (by omega) fun p hp => hk p (List.mem_cons_of_mem _ hp)

theorem all_tinsert {α : Type} (p : Nat × α → Bool) (t : Tab α) (k : Nat) (v : α) (h : t.all p = true) (hv : p (k, v) = true) :
    (tinsert t k v).all p = true := by
  induction t with
  | nil => simp [tinsert, hv]
  | cons q t ih =>
    obtain ⟨i, w⟩ := q
    simp only [List.all_cons, Bool.and_eq_true] at h
    simp only [tinsert]
    split
    · simp only [List.all_cons, Bool.and_eq_true]; exact ⟨hv, h⟩
    · simp only [List.all_cons, Bool.and_eq_true]; exact ⟨h.1, ih h.2⟩

/-- Writing a key keeps the canonical form. -/
theorem tput_wf {α : Type} [DecidableEq α] (d : Nat → α) (t : Tab α) (k : Nat) (v : α) (h : Tab.wf d t = true) :
    Tab.wf d (tput d t k v) = true := by
  unfold Tab.wf at h ⊢
  simp only [Bool.and_eq_true] at h
  have he : (terase t k).all (fun p => decide (p.2 ≠ d p.1)) = true :=
    List.all_eq_true.mpr fun p hp => List.all_eq_true.mp h.2 p (terase_absent t k p hp).2
  unfold tput
  split
  · simp only [Bool.and_eq_true]
    exact ⟨rising_none_terase h.1, he⟩
  · rename_i hv
    simp only [Bool.and_eq_true]
    exact ⟨rising_none_tinsert (rising_none_terase h.1) fun p hp => (terase_absent t k p hp).1, all_tinsert _ _ _ _ he (by simpa using hv)⟩

theorem rising_filter {α : Type} (p : Nat × α → Bool) {j : Nat} {t : Tab α} (h : rising (some j) t = true) :
    rising (some j) (t.filter p) = true := by
  induction t generalizing j with
  | nil => rfl
  | cons q t ih =>
    obtain ⟨i, v⟩ := q
    simp only [rising, Bool.and_eq_true, decide_eq_true_eq] at h
    simp only [List.filter]
    split
    · simp only [rising, Bool.and_eq_true, decide_eq_true_eq]; exact ⟨h.1, ih h.2⟩
    · exact ih (rising_lower h.2 (by omega))

/-- Leaving out entries keeps the canonical form. -/
theorem filter_wf {α : Type} [DecidableEq α] (d : Nat → α) (p : Nat × α → Bool) (t : Tab α) (h : Tab.wf d t = true) :
    Tab.wf d (t.filter p) = true := by
  unfold Tab.wf at h ⊢
  simp only [Bool.and_eq_true] at h ⊢
  refine ⟨?_, List.all_eq_true.mpr fun q hq => List.all_eq_true.mp h.2 q (List.mem_filter.mp hq).1⟩
  cases t with
  | nil => rfl
  | cons q t =>
    obtain ⟨i, v⟩ := q
    have h1 : rising (some i) t = true := h.1
    simp only [List.filter]
    split
    · simp only [rising]; exact rising_filter p h1
    · exact rising_some (rising_filter p h1)

/-! ### The operations on registers and memory -/

theorem State.memOk_of {s t : State} (hs : s.memOk = true) (hr : Tab.wf resetWord s.regs = true → Tab.wf resetWord t.regs = true)
    (hm : Tab.wf (fun _ => (0 : Byte)) s.sram = true → Tab.wf (fun _ => (0 : Byte)) t.sram = true) : t.memOk = true := by
  unfold State.memOk at hs ⊢
  simp only [Bool.and_eq_true] at hs ⊢
  exact ⟨hr hs.1, hm hs.2⟩

@[simp] theorem State.reg_setReg_same (s : State) (off : Nat) (w : Word) : (s.setReg off w).reg off = w := tget_tput_same _ _ _ _

theorem State.reg_setReg_ne (s : State) (i off : Nat) (w : Word) (h : i ≠ off) : (s.setReg off w).reg i = s.reg i :=
  tget_tput_ne _ _ _ _ _ h

theorem testBit_regBit (off : Nat) : (regBit off).testBit (regPart off) = true := by
  show (1 <<< regPart off).testBit (regPart off) = true
  simp

theorem State.setReg_touch (s : State) (off : Nat) (w : Word) : Touch (regBit off) s (s.setReg off w) where
  mem h := State.memOk_of h (tput_wf _ _ _ _) id
  sizes := id
  reg i h := by
    refine State.reg_setReg_ne s i off w fun e => ?_
    subst e
    rw [testBit_regBit] at h
    exact absurd h Bool.true_eq_false.mp
  part _ := rfl
  off _ := rfl
  pending _ := rfl
  caps _ := rfl
  sram _ := rfl
  out _ := rfl
  free _ := rfl
  tk _ := rfl
  ic _ := rfl
  rg _ := rfl
  fi _ := rfl
  cn _ := rfl
  pci _ := rfl
  gp _ := rfl
  devs _ := rfl
  seqs _ := rfl
  acc _ := rfl
  px _ := rfl
  cat _ := rfl
  cu _ := rfl
  cutoff _ := rfl
  built _ := rfl
  ga _ := rfl
  work _ := rfl
  stamps _ := rfl
  owed _ := rfl
  mv _ := rfl
  mvLast _ := rfl
  sp _ := rfl
  tw _ := rfl
  co _ := rfl
  ch _ := rfl
  fuses _ := rfl
  jtag _ := rfl
  flips _ := rfl

theorem State.setRam_touch (s : State) (a : Nat) (b : Byte) : Touch 0x400000000000010 s (s.setRam a b) where
  mem h := State.memOk_of h id (tput_wf _ _ _ _)
  sizes := id
  reg _ _ := rfl
  sram h := absurd h (by decide)
  flips h := absurd h (by decide)
  part _ := rfl
  off _ := rfl
  pending _ := rfl
  caps _ := rfl
  out _ := rfl
  free _ := rfl
  tk _ := rfl
  ic _ := rfl
  rg _ := rfl
  fi _ := rfl
  cn _ := rfl
  pci _ := rfl
  gp _ := rfl
  devs _ := rfl
  seqs _ := rfl
  acc _ := rfl
  px _ := rfl
  cat _ := rfl
  cu _ := rfl
  cutoff _ := rfl
  built _ := rfl
  ga _ := rfl
  work _ := rfl
  stamps _ := rfl
  owed _ := rfl
  mv _ := rfl
  mvLast _ := rfl
  sp _ := rfl
  tw _ := rfl
  co _ := rfl
  ch _ := rfl
  fuses _ := rfl
  jtag _ := rfl

theorem State.put_touch (s : State) (f : Field) (v : Nat) : Touch (regBit f.off) s (s.put f v) := s.setReg_touch _ _
theorem State.putB_touch (s : State) (f : Field) (v : Bool) : Touch (regBit f.off) s (s.putB f v) := s.setReg_touch _ _
theorem State.raise_touch (s : State) (f : Field) : Touch (regBit f.off) s (s.raise f) := s.setReg_touch _ _
theorem State.add_touch (s : State) (f : Field) (n : Nat) : Touch (regBit f.off) s (s.add f n) := s.setReg_touch _ _
theorem State.bump_touch (s : State) (f : Field) : Touch (regBit f.off) s (s.bump f) := s.setReg_touch _ _
theorem State.wrap_touch (s : State) (f : Field) : Touch (regBit f.off) s (s.wrap f) := s.setReg_touch _ _
theorem State.setBit_touch (s : State) (off i : Nat) : Touch (regBit off) s (s.setBit off i) := s.setReg_touch _ _
theorem State.clrBit_touch (s : State) (off i : Nat) : Touch (regBit off) s (s.clrBit off i) := s.setReg_touch _ _

theorem ite_bounds {c : Prop} [Decidable c] {lo hi a b : Nat} (h : c → lo ≤ a ∧ a ≤ hi) (k : ¬ c → lo ≤ b ∧ b ≤ hi) :
    lo ≤ (if c then a else b) ∧ (if c then a else b) ≤ hi := by
  by_cases x : c
  · rw [if_pos x]; exact h x
  · rw [if_neg x]; exact k x

/-- The registers at and above an offset lie in parts from its own on. -/
theorem sub_bit {M i : Nat} (h : M.testBit i = true) : sub (Nat.shiftLeft 1 i) M = true := by
  show Nat.beq _ _ = true
  rw [Nat.beq_eq]
  refine Nat.eq_of_testBit_eq fun j => ?_
  show (1 <<< i &&& M).testBit j = (1 <<< i).testBit j
  rw [Nat.testBit_and, Nat.shiftLeft_eq, Nat.one_mul, Nat.testBit_two_pow]
  by_cases e : i = j
  · subst e; simp [h]
  · simp [e]

theorem sub_trans {a b c : Nat} (h : sub a b = true) (k : sub b c = true) : sub a c = true := by
  have e : a &&& b = a := Nat.eq_of_beq_eq_true h
  have f : b &&& c = b := Nat.eq_of_beq_eq_true k
  have g : a &&& c = a := by rw [← e, Nat.and_assoc, f]
  show Nat.beq (a &&& c) a = true
  rw [g]
  exact Nat.beq_refl a


theorem up_0 {off M : Nat} (_h : 0x0 ≤ off) (k : sub 0x3fffffc00000000 M = true) : sub (regBit off) M = true := by
  have e : 34 ≤ regPart off ∧ regPart off ≤ 57 := by
    simp only [regPart, R.tkEvents, R.tkFrameNum, R.tkStatus, R.cnEvents, R.chEvents, R.rgEvents, R.rgStatus, R.rgMissed, R.rgLastTake,
      R.rgLastTakeLo, R.rgLastTakeHi, R.spFabStatus]
    repeat' (first | (refine ite_bounds (fun _ => ?_) (fun _ => ?_)) | omega)
  have f : ∀ i, 34 ≤ i ∧ i ≤ 57 → (Nat.testBit 0x3fffffc00000000 i) = true := by
    intro i hi
    obtain ⟨j, rfl⟩ : ∃ j, i = 34 + j := ⟨i - 34, by omega⟩
    have : ∀ j : Fin 24, (Nat.testBit 0x3fffffc00000000 (34 + j)) = true := by decide
    exact this ⟨j, by omega⟩
  exact sub_trans (sub_bit (f _ e)) k

theorem up_1000 {off M : Nat} (h : 0x1000 ≤ off) (k : sub 0x3fffff000000000 M = true) : sub (regBit off) M = true := by
  have e : 36 ≤ regPart off ∧ regPart off ≤ 57 := by
    simp only [regPart, R.tkEvents, R.tkFrameNum, R.tkStatus, R.cnEvents, R.chEvents, R.rgEvents, R.rgStatus, R.rgMissed, R.rgLastTake,
      R.rgLastTakeLo, R.rgLastTakeHi, R.spFabStatus]
    repeat' (first | (refine ite_bounds (fun _ => ?_) (fun _ => ?_)) | omega)
  have f : ∀ i, 36 ≤ i ∧ i ≤ 57 → (Nat.testBit 0x3fffff000000000 i) = true := by
    intro i hi
    obtain ⟨j, rfl⟩ : ∃ j, i = 36 + j := ⟨i - 36, by omega⟩
    have : ∀ j : Fin 22, (Nat.testBit 0x3fffff000000000 (36 + j)) = true := by decide
    exact this ⟨j, by omega⟩
  exact sub_trans (sub_bit (f _ e)) k

theorem up_2000 {off M : Nat} (h : 0x2000 ≤ off) (k : sub 0x3ffff0000000000 M = true) : sub (regBit off) M = true := by
  have e : 40 ≤ regPart off ∧ regPart off ≤ 57 := by
    simp only [regPart, R.tkEvents, R.tkFrameNum, R.tkStatus, R.cnEvents, R.chEvents, R.rgEvents, R.rgStatus, R.rgMissed, R.rgLastTake,
      R.rgLastTakeLo, R.rgLastTakeHi, R.spFabStatus]
    repeat' (first | (refine ite_bounds (fun _ => ?_) (fun _ => ?_)) | omega)
  have f : ∀ i, 40 ≤ i ∧ i ≤ 57 → (Nat.testBit 0x3ffff0000000000 i) = true := by
    intro i hi
    obtain ⟨j, rfl⟩ : ∃ j, i = 40 + j := ⟨i - 40, by omega⟩
    have : ∀ j : Fin 18, (Nat.testBit 0x3ffff0000000000 (40 + j)) = true := by decide
    exact this ⟨j, by omega⟩
  exact sub_trans (sub_bit (f _ e)) k

theorem up_3000 {off M : Nat} (h : 0x3000 ≤ off) (k : sub 0x3fffc0000000000 M = true) : sub (regBit off) M = true := by
  have e : 42 ≤ regPart off ∧ regPart off ≤ 57 := by
    simp only [regPart, R.tkEvents, R.tkFrameNum, R.tkStatus, R.cnEvents, R.chEvents, R.rgEvents, R.rgStatus, R.rgMissed, R.rgLastTake,
      R.rgLastTakeLo, R.rgLastTakeHi, R.spFabStatus]
    repeat' (first | (refine ite_bounds (fun _ => ?_) (fun _ => ?_)) | omega)
  have f : ∀ i, 42 ≤ i ∧ i ≤ 57 → (Nat.testBit 0x3fffc0000000000 i) = true := by
    intro i hi
    obtain ⟨j, rfl⟩ : ∃ j, i = 42 + j := ⟨i - 42, by omega⟩
    have : ∀ j : Fin 16, (Nat.testBit 0x3fffc0000000000 (42 + j)) = true := by decide
    exact this ⟨j, by omega⟩
  exact sub_trans (sub_bit (f _ e)) k

theorem up_4000 {off M : Nat} (h : 0x4000 ≤ off) (k : sub 0x3fff00000000000 M = true) : sub (regBit off) M = true := by
  have e : 44 ≤ regPart off ∧ regPart off ≤ 57 := by
    simp only [regPart, R.tkEvents, R.tkFrameNum, R.tkStatus, R.cnEvents, R.chEvents, R.rgEvents, R.rgStatus, R.rgMissed, R.rgLastTake,
      R.rgLastTakeLo, R.rgLastTakeHi, R.spFabStatus]
    repeat' (first | (refine ite_bounds (fun _ => ?_) (fun _ => ?_)) | omega)
  have f : ∀ i, 44 ≤ i ∧ i ≤ 57 → (Nat.testBit 0x3fff00000000000 i) = true := by
    intro i hi
    obtain ⟨j, rfl⟩ : ∃ j, i = 44 + j := ⟨i - 44, by omega⟩
    have : ∀ j : Fin 14, (Nat.testBit 0x3fff00000000000 (44 + j)) = true := by decide
    exact this ⟨j, by omega⟩
  exact sub_trans (sub_bit (f _ e)) k

theorem up_5200 {off M : Nat} (h : 0x5200 ≤ off) (k : sub 0x3ffc00000000000 M = true) : sub (regBit off) M = true := by
  have e : 46 ≤ regPart off ∧ regPart off ≤ 57 := by
    simp only [regPart, R.tkEvents, R.tkFrameNum, R.tkStatus, R.cnEvents, R.chEvents, R.rgEvents, R.rgStatus, R.rgMissed, R.rgLastTake,
      R.rgLastTakeLo, R.rgLastTakeHi, R.spFabStatus]
    repeat' (first | (refine ite_bounds (fun _ => ?_) (fun _ => ?_)) | omega)
  have f : ∀ i, 46 ≤ i ∧ i ≤ 57 → (Nat.testBit 0x3ffc00000000000 i) = true := by
    intro i hi
    obtain ⟨j, rfl⟩ : ∃ j, i = 46 + j := ⟨i - 46, by omega⟩
    have : ∀ j : Fin 12, (Nat.testBit 0x3ffc00000000000 (46 + j)) = true := by decide
    exact this ⟨j, by omega⟩
  exact sub_trans (sub_bit (f _ e)) k

theorem up_8000 {off M : Nat} (h : 0x8000 ≤ off) (k : sub 0x3ff000000000000 M = true) : sub (regBit off) M = true := by
  have e : 48 ≤ regPart off ∧ regPart off ≤ 57 := by
    simp only [regPart, R.tkEvents, R.tkFrameNum, R.tkStatus, R.cnEvents, R.chEvents, R.rgEvents, R.rgStatus, R.rgMissed, R.rgLastTake,
      R.rgLastTakeLo, R.rgLastTakeHi, R.spFabStatus]
    repeat' (first | (refine ite_bounds (fun _ => ?_) (fun _ => ?_)) | omega)
  have f : ∀ i, 48 ≤ i ∧ i ≤ 57 → (Nat.testBit 0x3ff000000000000 i) = true := by
    intro i hi
    obtain ⟨j, rfl⟩ : ∃ j, i = 48 + j := ⟨i - 48, by omega⟩
    have : ∀ j : Fin 10, (Nat.testBit 0x3ff000000000000 (48 + j)) = true := by decide
    exact this ⟨j, by omega⟩
  exact sub_trans (sub_bit (f _ e)) k

theorem up_9000 {off M : Nat} (h : 0x9000 ≤ off) (k : sub 0x3fe000000000000 M = true) : sub (regBit off) M = true := by
  have e : 49 ≤ regPart off ∧ regPart off ≤ 57 := by
    simp only [regPart, R.tkEvents, R.tkFrameNum, R.tkStatus, R.cnEvents, R.chEvents, R.rgEvents, R.rgStatus, R.rgMissed, R.rgLastTake,
      R.rgLastTakeLo, R.rgLastTakeHi, R.spFabStatus]
    repeat' (first | (refine ite_bounds (fun _ => ?_) (fun _ => ?_)) | omega)
  have f : ∀ i, 49 ≤ i ∧ i ≤ 57 → (Nat.testBit 0x3fe000000000000 i) = true := by
    intro i hi
    obtain ⟨j, rfl⟩ : ∃ j, i = 49 + j := ⟨i - 49, by omega⟩
    have : ∀ j : Fin 9, (Nat.testBit 0x3fe000000000000 (49 + j)) = true := by decide
    exact this ⟨j, by omega⟩
  exact sub_trans (sub_bit (f _ e)) k

theorem up_a000 {off M : Nat} (h : 0xa000 ≤ off) (k : sub 0x3fc000000000000 M = true) : sub (regBit off) M = true := by
  have e : 50 ≤ regPart off ∧ regPart off ≤ 57 := by
    simp only [regPart, R.tkEvents, R.tkFrameNum, R.tkStatus, R.cnEvents, R.chEvents, R.rgEvents, R.rgStatus, R.rgMissed, R.rgLastTake,
      R.rgLastTakeLo, R.rgLastTakeHi, R.spFabStatus]
    repeat' (first | (refine ite_bounds (fun _ => ?_) (fun _ => ?_)) | omega)
  have f : ∀ i, 50 ≤ i ∧ i ≤ 57 → (Nat.testBit 0x3fc000000000000 i) = true := by
    intro i hi
    obtain ⟨j, rfl⟩ : ∃ j, i = 50 + j := ⟨i - 50, by omega⟩
    have : ∀ j : Fin 8, (Nat.testBit 0x3fc000000000000 (50 + j)) = true := by decide
    exact this ⟨j, by omega⟩
  exact sub_trans (sub_bit (f _ e)) k

theorem up_c010 {off M : Nat} (h : 0xc010 ≤ off) (k : sub 0x3f0000000000000 M = true) : sub (regBit off) M = true := by
  have e : 52 ≤ regPart off ∧ regPart off ≤ 57 := by
    simp only [regPart, R.tkEvents, R.tkFrameNum, R.tkStatus, R.cnEvents, R.chEvents, R.rgEvents, R.rgStatus, R.rgMissed, R.rgLastTake,
      R.rgLastTakeLo, R.rgLastTakeHi, R.spFabStatus]
    repeat' (first | (refine ite_bounds (fun _ => ?_) (fun _ => ?_)) | omega)
  have f : ∀ i, 52 ≤ i ∧ i ≤ 57 → (Nat.testBit 0x3f0000000000000 i) = true := by
    intro i hi
    obtain ⟨j, rfl⟩ : ∃ j, i = 52 + j := ⟨i - 52, by omega⟩
    have : ∀ j : Fin 6, (Nat.testBit 0x3f0000000000000 (52 + j)) = true := by decide
    exact this ⟨j, by omega⟩
  exact sub_trans (sub_bit (f _ e)) k

theorem up_d000 {off M : Nat} (h : 0xd000 ≤ off) (k : sub 0x3e0000000000000 M = true) : sub (regBit off) M = true := by
  have e : 53 ≤ regPart off ∧ regPart off ≤ 57 := by
    simp only [regPart, R.tkEvents, R.tkFrameNum, R.tkStatus, R.cnEvents, R.chEvents, R.rgEvents, R.rgStatus, R.rgMissed, R.rgLastTake,
      R.rgLastTakeLo, R.rgLastTakeHi, R.spFabStatus]
    repeat' (first | (refine ite_bounds (fun _ => ?_) (fun _ => ?_)) | omega)
  have f : ∀ i, 53 ≤ i ∧ i ≤ 57 → (Nat.testBit 0x3e0000000000000 i) = true := by
    intro i hi
    obtain ⟨j, rfl⟩ : ∃ j, i = 53 + j := ⟨i - 53, by omega⟩
    have : ∀ j : Fin 5, (Nat.testBit 0x3e0000000000000 (53 + j)) = true := by decide
    exact this ⟨j, by omega⟩
  exact sub_trans (sub_bit (f _ e)) k

theorem up_e000 {off M : Nat} (h : 0xe000 ≤ off) (k : sub 0x3c0000000000000 M = true) : sub (regBit off) M = true := by
  have e : 54 ≤ regPart off ∧ regPart off ≤ 57 := by
    simp only [regPart, R.tkEvents, R.tkFrameNum, R.tkStatus, R.cnEvents, R.chEvents, R.rgEvents, R.rgStatus, R.rgMissed, R.rgLastTake,
      R.rgLastTakeLo, R.rgLastTakeHi, R.spFabStatus]
    repeat' (first | (refine ite_bounds (fun _ => ?_) (fun _ => ?_)) | omega)
  have f : ∀ i, 54 ≤ i ∧ i ≤ 57 → (Nat.testBit 0x3c0000000000000 i) = true := by
    intro i hi
    obtain ⟨j, rfl⟩ : ∃ j, i = 54 + j := ⟨i - 54, by omega⟩
    have : ∀ j : Fin 4, (Nat.testBit 0x3c0000000000000 (54 + j)) = true := by decide
    exact this ⟨j, by omega⟩
  exact sub_trans (sub_bit (f _ e)) k

theorem up_10000 {off M : Nat} (h : 0x10000 ≤ off) (k : sub 0x380000000000000 M = true) : sub (regBit off) M = true := by
  have e : 55 ≤ regPart off ∧ regPart off ≤ 57 := by
    simp only [regPart, R.tkEvents, R.tkFrameNum, R.tkStatus, R.cnEvents, R.chEvents, R.rgEvents, R.rgStatus, R.rgMissed, R.rgLastTake,
      R.rgLastTakeLo, R.rgLastTakeHi, R.spFabStatus]
    repeat' (first | (refine ite_bounds (fun _ => ?_) (fun _ => ?_)) | omega)
  have f : ∀ i, 55 ≤ i ∧ i ≤ 57 → (Nat.testBit 0x380000000000000 i) = true := by
    intro i hi
    obtain ⟨j, rfl⟩ : ∃ j, i = 55 + j := ⟨i - 55, by omega⟩
    have : ∀ j : Fin 3, (Nat.testBit 0x380000000000000 (55 + j)) = true := by decide
    exact this ⟨j, by omega⟩
  exact sub_trans (sub_bit (f _ e)) k

theorem up_20000 {off M : Nat} (h : 0x20000 ≤ off) (k : sub 0x300000000000000 M = true) : sub (regBit off) M = true := by
  have e : 56 ≤ regPart off ∧ regPart off ≤ 57 := by
    simp only [regPart, R.tkEvents, R.tkFrameNum, R.tkStatus, R.cnEvents, R.chEvents, R.rgEvents, R.rgStatus, R.rgMissed, R.rgLastTake,
      R.rgLastTakeLo, R.rgLastTakeHi, R.spFabStatus]
    repeat' (first | (refine ite_bounds (fun _ => ?_) (fun _ => ?_)) | omega)
  have f : ∀ i, 56 ≤ i ∧ i ≤ 57 → (Nat.testBit 0x300000000000000 i) = true := by
    intro i hi
    obtain ⟨j, rfl⟩ : ∃ j, i = 56 + j := ⟨i - 56, by omega⟩
    have : ∀ j : Fin 2, (Nat.testBit 0x300000000000000 (56 + j)) = true := by decide
    exact this ⟨j, by omega⟩
  exact sub_trans (sub_bit (f _ e)) k

theorem up_40000 {off M : Nat} (h : 0x40000 ≤ off) (k : sub 0x200000000000000 M = true) : sub (regBit off) M = true := by
  have e : 57 ≤ regPart off ∧ regPart off ≤ 57 := by
    simp only [regPart, R.tkEvents, R.tkFrameNum, R.tkStatus, R.cnEvents, R.chEvents, R.rgEvents, R.rgStatus, R.rgMissed, R.rgLastTake,
      R.rgLastTakeLo, R.rgLastTakeHi, R.spFabStatus]
    repeat' (first | (refine ite_bounds (fun _ => ?_) (fun _ => ?_)) | omega)
  have f : ∀ i, 57 ≤ i ∧ i ≤ 57 → (Nat.testBit 0x200000000000000 i) = true := by
    intro i hi
    obtain ⟨j, rfl⟩ : ∃ j, i = 57 + j := ⟨i - 57, by omega⟩
    have : ∀ j : Fin 1, (Nat.testBit 0x200000000000000 (57 + j)) = true := by decide
    exact this ⟨j, by omega⟩
  exact sub_trans (sub_bit (f _ e)) k

theorem State.setRegs_touch {M : Nat} (s : State) (off : Nat) (ws : List Nat) (h : ∀ j, off ≤ j → sub (regBit j) M = true) :
    Touch M s (s.setRegs off ws) := by
  induction ws generalizing s off with
  | nil => exact Touch.refl s
  | cons w ws ih => exact ((s.setReg_touch off _).weaken (h off (Nat.le_refl _))).trans (ih _ _ fun j hj => h j (by omega))

/-- Consecutive registers written at the end of a chain. -/
theorem Touch.setRegs {m : Nat} {b s : State} {off : Nat} {ws : List Nat} (h : Touch m b s) (k : ∀ j, off ≤ j → sub (regBit j) m = true) :
    Touch m b (s.setRegs off ws) := h.trans (s.setRegs_touch off ws k)

/-- A pair of registers written at the end of a chain. -/
theorem Touch.setReg64 {m : Nat} {b s : State} {off v : Nat} (h : Touch m b s) (k : sub (regBit off) m = true)
    (l : sub (regBit (off + 4)) m = true) : Touch m b (s.setReg64 off v) :=
  h.trans (((s.setReg_touch off _).weaken k).trans ((State.setReg_touch _ _ _).weaken l))

/-- A register of the fault block. -/
theorem up_fi {off M : Nat} (h : 0x4000 ≤ off) (h' : off < 0x5000) (k : sub 0x100000000000 M = true) : sub (regBit off) M = true := by
  have e : regPart off = 44 := by
    unfold regPart
    repeat' (first | rw [if_pos h'] | rw [if_neg (by omega)])
  have f : regBit off = 0x100000000000 := by unfold regBit; rw [e]; rfl
  rw [f]; exact k

theorem State.setRegs_fi {m : Nat} {b s : State} {off : Nat} {ws : List Nat} (h : Touch m b s) (k : 0x4000 ≤ off)
    (l : off + 4 * ws.length ≤ 0x5000) (e : sub 0x100000000000 m = true) : Touch m b (s.setRegs off ws) := by
  induction ws generalizing s off with
  | nil => exact h
  | cons w ws ih =>
    have l' : off + 4 * ws.length + 4 ≤ 0x5000 := by simpa [Nat.mul_add, Nat.add_assoc] using l
    exact ih (h.trans ((s.setReg_touch off _).weaken (up_fi k (by omega) e))) (by omega) (by omega)

/-- Every part: only the canonical form of the tables and the numbers of the units are claimed. -/
theorem Touch.top {s t : State} (h : s.memOk = true → t.memOk = true) (z : s.sizesOk = true → t.sizesOk = true) :
    Touch 0x7FFFFFFFFFFFFFF s t where
  mem := h
  sizes := z
  reg off k := absurd (testBit_regBit off) (by rw [sub_testBit (up_0 (Nat.zero_le off) rfl) k]; decide)
  part h := absurd h (by decide)
  off h := absurd h (by decide)
  pending h := absurd h (by decide)
  caps h := absurd h (by decide)
  sram h := absurd h (by decide)
  out h := absurd h (by decide)
  free h := absurd h (by decide)
  tk h := absurd h (by decide)
  ic h := absurd h (by decide)
  rg h := absurd h (by decide)
  fi h := absurd h (by decide)
  cn h := absurd h (by decide)
  pci h := absurd h (by decide)
  gp h := absurd h (by decide)
  devs h := absurd h (by decide)
  seqs h := absurd h (by decide)
  acc h := absurd h (by decide)
  px h := absurd h (by decide)
  cat h := absurd h (by decide)
  cu h := absurd h (by decide)
  cutoff h := absurd h (by decide)
  built h := absurd h (by decide)
  ga h := absurd h (by decide)
  work h := absurd h (by decide)
  stamps h := absurd h (by decide)
  owed h := absurd h (by decide)
  mv h := absurd h (by decide)
  mvLast h := absurd h (by decide)
  sp h := absurd h (by decide)
  tw h := absurd h (by decide)
  co h := absurd h (by decide)
  ch h := absurd h (by decide)
  fuses h := absurd h (by decide)
  jtag h := absurd h (by decide)
  flips h := absurd h (by decide)

end Sys2Proof.Machine
end

