-- ==== Sys2Proof/Laws/FrameOps.lean ====
section
/-! SUPPORT. What each operation of Machine/Ops.lean touches: the parts of its set (Laws/Touch.lean), and nothing else. -/

set_option linter.unusedSimpArgs false
set_option linter.unusedVariables false
set_option Elab.async false

namespace Sys2Proof.Machine

theorem State.advanceTo_touch (s : State) (t : Nat) : Touch 0x80 s (State.advanceTo s t) := by
  unfold State.advanceTo
  try dsimp only
  repeat' first
    | (show sub _ _ = true; decide +kernel)
    | (show State.sizesOk _ = true → _; first | with_reducible exact id | (intro hz; simp only [State.sizesOk, listSet_length, List.length_map, List.length_replicate] at hz ⊢; first | exact hz | (rw [sizesOf_iff] at hz ⊢; and_intros <;> first | rfl | exact hz.1 | exact hz.2.1 | exact hz.2.2.1 | exact hz.2.2.2.1 | exact hz.2.2.2.2.1 | exact hz.2.2.2.2.2.1 | exact hz.2.2.2.2.2.2)))
    | (show _ ∧ _; and_intros <;> first | (apply Or.inl; decide +kernel) | (apply Or.inr; with_reducible rfl))
    | with_reducible exact Touch.refl _
    | with_reducible refine Touch.ite ?_ ?_
    | split
    | dsimp only
    | with_reducible refine Touch.mk' ?_ rfl rfl ?_ ?_

theorem State.draw_touch (s : State) (n : Nat) : Touch 0x40 s (State.draw s n).2 := by
  unfold State.draw
  try dsimp only
  repeat' first
    | (show sub _ _ = true; decide +kernel)
    | (show State.sizesOk _ = true → _; first | with_reducible exact id | (intro hz; simp only [State.sizesOk, listSet_length, List.length_map, List.length_replicate] at hz ⊢; first | exact hz | (rw [sizesOf_iff] at hz ⊢; and_intros <;> first | rfl | exact hz.1 | exact hz.2.1 | exact hz.2.2.1 | exact hz.2.2.2.1 | exact hz.2.2.2.2.1 | exact hz.2.2.2.2.2.1 | exact hz.2.2.2.2.2.2)))
    | (show _ ∧ _; and_intros <;> first | (apply Or.inl; decide +kernel) | (apply Or.inr; with_reducible rfl))
    | with_reducible exact Touch.refl _
    | dsimp only
    | with_reducible refine Touch.mk' ?_ rfl rfl ?_ ?_

theorem State.emit_touch (s : State) (o : Output) : Touch 0x20 s (State.emit s o) := by
  unfold State.emit
  try dsimp only
  repeat' first
    | (show sub _ _ = true; decide +kernel)
    | (show State.sizesOk _ = true → _; first | with_reducible exact id | (intro hz; simp only [State.sizesOk, listSet_length, List.length_map, List.length_replicate] at hz ⊢; first | exact hz | (rw [sizesOf_iff] at hz ⊢; and_intros <;> first | rfl | exact hz.1 | exact hz.2.1 | exact hz.2.2.1 | exact hz.2.2.2.1 | exact hz.2.2.2.2.1 | exact hz.2.2.2.2.2.1 | exact hz.2.2.2.2.2.2)))
    | (show _ ∧ _; and_intros <;> first | (apply Or.inl; decide +kernel) | (apply Or.inr; with_reducible rfl))
    | with_reducible exact Touch.refl _
    | with_reducible refine Touch.ite ?_ ?_
    | split
    | dsimp only
    | with_reducible refine Touch.mk' ?_ rfl rfl ?_ ?_

theorem State.setRamBytes_touch (s : State) (a : Nat) (bs : List Byte) : Touch 0x400000000000010 s (s.setRamBytes a bs) := by
  induction bs generalizing s a with
  | nil => exact Touch.refl s
  | cons b bs ih => exact (s.setRam_touch a b).trans (ih _ _)

theorem State.setSpanPort_touch (s : State) (m : Nat) (p : SpanPort) : Touch 0x10000000 s (State.setSpanPort s m p) := by
  unfold State.setSpanPort
  try dsimp only
  repeat' first
    | (show sub _ _ = true; decide +kernel)
    | (show State.sizesOk _ = true → _; first | with_reducible exact id | (intro hz; simp only [State.sizesOk, listSet_length, List.length_map, List.length_replicate] at hz ⊢; first | exact hz | (rw [sizesOf_iff] at hz ⊢; and_intros <;> first | rfl | exact hz.1 | exact hz.2.1 | exact hz.2.2.1 | exact hz.2.2.2.1 | exact hz.2.2.2.2.1 | exact hz.2.2.2.2.2.1 | exact hz.2.2.2.2.2.2)))
    | (show _ ∧ _; and_intros <;> first | (apply Or.inl; decide +kernel) | (apply Or.inr; with_reducible rfl))
    | with_reducible exact Touch.refl _
    | dsimp only
    | with_reducible refine Touch.mk' ?_ rfl rfl ?_ ?_

theorem State.spanTick_touch (s : State) : Touch 0x10000000 s (State.spanTick s) := by
  unfold State.spanTick
  try dsimp only
  repeat' first
    | (show sub _ _ = true; decide +kernel)
    | (show State.sizesOk _ = true → _; first | with_reducible exact id | (intro hz; simp only [State.sizesOk, listSet_length, List.length_map, List.length_replicate] at hz ⊢; first | exact hz | (rw [sizesOf_iff] at hz ⊢; and_intros <;> first | rfl | exact hz.1 | exact hz.2.1 | exact hz.2.2.1 | exact hz.2.2.2.1 | exact hz.2.2.2.2.1 | exact hz.2.2.2.2.2.1 | exact hz.2.2.2.2.2.2)))
    | (show _ ∧ _; and_intros <;> first | (apply Or.inl; decide +kernel) | (apply Or.inr; with_reducible rfl))
    | with_reducible exact Touch.refl _
    | dsimp only
    | with_reducible refine Touch.mk' ?_ rfl rfl ?_ ?_

theorem State.spanReady_touch (s : State) (m : Nat) (p : SpanPkt) : Touch 0x10000000 s (State.spanReady s m p) := by
  unfold State.spanReady
  try dsimp only
  repeat' first
    | (show sub _ _ = true; decide +kernel)
    | with_reducible exact Touch.refl _
    | with_reducible apply Touch.to (State.setSpanPort_touch ..)
    | with_reducible apply Touch.to (State.spanTick_touch ..)
    | dsimp only

theorem State.spanSend_touch (s : State) (p : SpanPkt) : Touch 0x10000010000000 s (State.spanSend s p) := by
  unfold State.spanSend
  try dsimp only
  repeat' first
    | (show sub _ _ = true; decide +kernel)
    | with_reducible assumption
    | with_reducible exact Touch.refl _
    | with_reducible apply Touch.to (State.spanReady_touch ..)
    | with_reducible apply Touch.to (State.bump_touch ..)
    | with_reducible refine Touch.ite ?_ ?_
    | with_reducible refine Touch.forEach ?_ (fun _ _ _ => ?_)
    | (refine up_c010 ?_ (by decide +kernel); simp only [F.spPTraffic_lost, R.spPTraffic]; omega)
    | split
    | dsimp only

end Sys2Proof.Machine
end

