-- ==== Sys2Proof/Laws/FrameIrq.lean ====
section
/-! SUPPORT. What each operation of Machine/Irq.lean touches: the parts of its set (Laws/Touch.lean), and nothing else. -/

set_option linter.unusedSimpArgs false
set_option linter.unusedVariables false
set_option Elab.async false

namespace Sys2Proof.Machine

theorem State.setInst_touch (s : State) (k : Nat) (i : IcInst) : Touch 0x100 s (State.setInst s k i) := by
  unfold State.setInst
  try dsimp only
  repeat' first
    | (show sub _ _ = true; decide +kernel)
    | (show State.sizesOk _ = true → _; first | with_reducible exact id | (intro hz; simp only [State.sizesOk, listSet_length, List.length_map, List.length_replicate] at hz ⊢; first | exact hz | (rw [sizesOf_iff] at hz ⊢; and_intros <;> first | rfl | exact hz.1 | exact hz.2.1 | exact hz.2.2.1 | exact hz.2.2.2.1 | exact hz.2.2.2.2.1 | exact hz.2.2.2.2.2.1 | exact hz.2.2.2.2.2.2)))
    | (show _ ∧ _; and_intros <;> first | (apply Or.inl; decide +kernel) | (apply Or.inr; with_reducible rfl))
    | with_reducible exact Touch.refl _
    | dsimp only
    | with_reducible refine Touch.mk' ?_ rfl rfl ?_ ?_

theorem State.icClaim_touch (s : State) (g : Nat) : Touch 0x100 s (State.icClaim s g).2 := by
  unfold State.icClaim
  try dsimp only
  repeat' first
    | (show sub _ _ = true; decide +kernel)
    | with_reducible exact Touch.refl _
    | with_reducible apply Touch.to (State.setInst_touch ..)
    | split
    | dsimp only

theorem State.icDisable_touch (s : State) (k : Nat) : Touch 0x100 s (State.icDisable s k) := by
  unfold State.icDisable
  try dsimp only
  repeat' first
    | (show sub _ _ = true; decide +kernel)
    | with_reducible exact Touch.refl _
    | with_reducible apply Touch.to (State.setInst_touch ..)
    | dsimp only

theorem State.icPend_touch (s : State) (k : Nat) : Touch 0x100 s (State.icPend s k) := by
  unfold State.icPend
  try dsimp only
  repeat' first
    | (show sub _ _ = true; decide +kernel)
    | with_reducible exact Touch.refl _
    | with_reducible apply Touch.to (State.setInst_touch ..)
    | dsimp only

theorem State.icEvent_touch (s : State) (k : Nat) : Touch 0x100 s (State.icEvent s k) := by
  unfold State.icEvent
  try dsimp only
  repeat' first
    | (show sub _ _ = true; decide +kernel)
    | with_reducible exact Touch.refl _
    | with_reducible apply Touch.to (State.icPend_touch ..)
    | with_reducible apply Touch.to (State.setInst_touch ..)
    | with_reducible refine Touch.ite ?_ ?_
    | split
    | dsimp only

theorem State.icGalleryReset_touch (s : State) (g : Nat) : Touch 0x100 s (State.icGalleryReset s g) := by
  unfold State.icGalleryReset
  try dsimp only
  repeat' first
    | (show sub _ _ = true; decide +kernel)
    | with_reducible assumption
    | with_reducible exact Touch.refl _
    | with_reducible apply Touch.to (State.setInst_touch ..)
    | with_reducible apply Touch.to (State.icPend_touch ..)
    | with_reducible refine Touch.ite ?_ ?_
    | with_reducible refine Touch.forEach ?_ (fun _ _ _ => ?_)
    | split
    | dsimp only

theorem State.icSet_touch (s : State) (k : Nat) : Touch 0x100 s (State.icSet s k) := by
  unfold State.icSet
  try dsimp only
  repeat' first
    | (show sub _ _ = true; decide +kernel)
    | with_reducible exact Touch.refl _
    | with_reducible apply Touch.to (State.icPend_touch ..)
    | with_reducible refine Touch.ite ?_ ?_
    | split
    | dsimp only

theorem State.msi_touch (s : State) (v : Nat) : Touch 0x400000020 s (State.msi s v) := by
  unfold State.msi
  try dsimp only
  repeat' first
    | (show sub _ _ = true; decide +kernel)
    | with_reducible exact Touch.refl _
    | with_reducible apply Touch.to (State.setBit_touch ..)
    | with_reducible apply Touch.to (State.emit_touch ..)
    | with_reducible apply Touch.to (State.clrBit_touch ..)
    | with_reducible refine Touch.ite ?_ ?_
    | split
    | dsimp only

theorem State.msixFlush_touch (s : State) : Touch 0x400000020 s (State.msixFlush s) := by
  unfold State.msixFlush
  try dsimp only
  repeat' first
    | (show sub _ _ = true; decide +kernel)
    | with_reducible assumption
    | with_reducible exact Touch.refl _
    | with_reducible apply Touch.to (State.msi_touch ..)
    | with_reducible refine Touch.ite ?_ ?_
    | with_reducible refine Touch.forEach ?_ (fun _ _ _ => ?_)
    | split
    | dsimp only

theorem State.privEvent_touch (s : State) (g : Nat) (n : Nat) : Touch 0x100 s (State.privEvent s g n) := by
  unfold State.privEvent
  try dsimp only
  repeat' first
    | (show sub _ _ = true; decide +kernel)
    | with_reducible exact Touch.refl _
    | with_reducible apply Touch.to (State.icEvent_touch ..)
    | dsimp only

end Sys2Proof.Machine
end

