-- ==== Sys2Proof/Laws/FrameUnits.lean ====
section
/-! SUPPORT. What each operation of Machine/Units.lean touches: the parts of its set (Laws/Touch.lean), and nothing else. -/

set_option linter.unusedSimpArgs false
set_option linter.unusedVariables false
set_option Elab.async false

namespace Sys2Proof.Machine

theorem State.dropWork_touch (s : State) (g : Nat) (r : Nat) (i : Nat) : Touch 0x800000 s (State.dropWork s g r i) := by
  unfold State.dropWork
  try dsimp only
  repeat' first
    | (show sub _ _ = true; decide +kernel)
    | (show State.sizesOk _ = true → _; first | with_reducible exact id | (intro hz; simp only [State.sizesOk, listSet_length, List.length_map, List.length_replicate] at hz ⊢; first | exact hz | (rw [sizesOf_iff] at hz ⊢; and_intros <;> first | rfl | exact hz.1 | exact hz.2.1 | exact hz.2.2.1 | exact hz.2.2.2.1 | exact hz.2.2.2.2.1 | exact hz.2.2.2.2.2.1 | exact hz.2.2.2.2.2.2)))
    | (show _ ∧ _; and_intros <;> first | (apply Or.inl; decide +kernel) | (apply Or.inr; with_reducible rfl))
    | with_reducible exact Touch.refl _
    | dsimp only
    | with_reducible refine Touch.mk' ?_ rfl rfl ?_ ?_

theorem State.modCtx_touch (s : State) (c : Nat) (f : Px → Px) : Touch 0x20000 s (State.modCtx s c f) := by
  unfold State.modCtx
  try dsimp only
  repeat' first
    | (show sub _ _ = true; decide +kernel)
    | (show State.sizesOk _ = true → _; first | with_reducible exact id | (intro hz; simp only [State.sizesOk, listSet_length, List.length_map, List.length_replicate] at hz ⊢; first | exact hz | (rw [sizesOf_iff] at hz ⊢; and_intros <;> first | rfl | exact hz.1 | exact hz.2.1 | exact hz.2.2.1 | exact hz.2.2.2.1 | exact hz.2.2.2.2.1 | exact hz.2.2.2.2.2.1 | exact hz.2.2.2.2.2.2)))
    | (show _ ∧ _; and_intros <;> first | (apply Or.inl; decide +kernel) | (apply Or.inr; with_reducible rfl))
    | with_reducible exact Touch.refl _
    | dsimp only
    | with_reducible refine Touch.mk' ?_ rfl rfl ?_ ?_

theorem State.modCu_touch (s : State) (n : Nat) (f : CuPort → CuPort) : Touch 0x80000 s (State.modCu s n f) := by
  unfold State.modCu
  try dsimp only
  repeat' first
    | (show sub _ _ = true; decide +kernel)
    | (show State.sizesOk _ = true → _; first | with_reducible exact id | (intro hz; simp only [State.sizesOk, listSet_length, List.length_map, List.length_replicate] at hz ⊢; first | exact hz | (rw [sizesOf_iff] at hz ⊢; and_intros <;> first | rfl | exact hz.1 | exact hz.2.1 | exact hz.2.2.1 | exact hz.2.2.2.1 | exact hz.2.2.2.2.1 | exact hz.2.2.2.2.2.1 | exact hz.2.2.2.2.2.2)))
    | (show _ ∧ _; and_intros <;> first | (apply Or.inl; decide +kernel) | (apply Or.inr; with_reducible rfl))
    | with_reducible exact Touch.refl _
    | dsimp only
    | with_reducible refine Touch.mk' ?_ rfl rfl ?_ ?_

theorem State.modDev_touch (s : State) (n : Nat) (a : Nat) (f : Dev → Dev) : Touch 0x4000 s (State.modDev s n a f) := by
  unfold State.modDev
  try dsimp only
  repeat' first
    | (show sub _ _ = true; decide +kernel)
    | (show State.sizesOk _ = true → _; first | with_reducible exact id | (intro hz; simp only [State.sizesOk, listSet_length, List.length_map, List.length_replicate] at hz ⊢; first | exact hz | (rw [sizesOf_iff] at hz ⊢; and_intros <;> first | rfl | exact hz.1 | exact hz.2.1 | exact hz.2.2.1 | exact hz.2.2.2.1 | exact hz.2.2.2.2.1 | exact hz.2.2.2.2.2.1 | exact hz.2.2.2.2.2.2)))
    | (show _ ∧ _; and_intros <;> first | (apply Or.inl; decide +kernel) | (apply Or.inr; with_reducible rfl))
    | with_reducible exact Touch.refl _
    | dsimp only
    | with_reducible refine Touch.mk' ?_ rfl rfl ?_ ?_

theorem State.modGa_touch (s : State) (g : Nat) (f : Ga → Ga) : Touch 0x400000 s (State.modGa s g f) := by
  unfold State.modGa
  try dsimp only
  repeat' first
    | (show sub _ _ = true; decide +kernel)
    | (show State.sizesOk _ = true → _; first | with_reducible exact id | (intro hz; simp only [State.sizesOk, listSet_length, List.length_map, List.length_replicate] at hz ⊢; first | exact hz | (rw [sizesOf_iff] at hz ⊢; and_intros <;> first | rfl | exact hz.1 | exact hz.2.1 | exact hz.2.2.1 | exact hz.2.2.2.1 | exact hz.2.2.2.2.1 | exact hz.2.2.2.2.2.1 | exact hz.2.2.2.2.2.2)))
    | (show _ ∧ _; and_intros <;> first | (apply Or.inl; decide +kernel) | (apply Or.inr; with_reducible rfl))
    | with_reducible exact Touch.refl _
    | dsimp only
    | with_reducible refine Touch.mk' ?_ rfl rfl ?_ ?_

theorem State.modPort_touch (s : State) (n : Nat) (f : Gp → Gp) : Touch 0x2000 s (State.modPort s n f) := by
  unfold State.modPort
  try dsimp only
  repeat' first
    | (show sub _ _ = true; decide +kernel)
    | (show State.sizesOk _ = true → _; first | with_reducible exact id | (intro hz; simp only [State.sizesOk, listSet_length, List.length_map, List.length_replicate] at hz ⊢; first | exact hz | (rw [sizesOf_iff] at hz ⊢; and_intros <;> first | rfl | exact hz.1 | exact hz.2.1 | exact hz.2.2.1 | exact hz.2.2.2.1 | exact hz.2.2.2.2.1 | exact hz.2.2.2.2.2.1 | exact hz.2.2.2.2.2.2)))
    | (show _ ∧ _; and_intros <;> first | (apply Or.inl; decide +kernel) | (apply Or.inr; with_reducible rfl))
    | with_reducible exact Touch.refl _
    | dsimp only
    | with_reducible refine Touch.mk' ?_ rfl rfl ?_ ?_

theorem State.modRing_touch (s : State) (g : Nat) (r : Nat) (f : Ring → Ring) : Touch 0x400000 s (State.modRing s g r f) := by
  unfold State.modRing
  try dsimp only
  repeat' first
    | (show sub _ _ = true; decide +kernel)
    | with_reducible exact Touch.refl _
    | with_reducible apply Touch.to (State.modGa_touch ..)
    | dsimp only

theorem State.modWork_touch (s : State) (g : Nat) (r : Nat) (i : Nat) (f : Work → Work) : Touch 0x800000 s (State.modWork s g r i f) := by
  unfold State.modWork
  try dsimp only
  repeat' first
    | (show sub _ _ = true; decide +kernel)
    | (show State.sizesOk _ = true → _; first | with_reducible exact id | (intro hz; simp only [State.sizesOk, listSet_length, List.length_map, List.length_replicate] at hz ⊢; first | exact hz | (rw [sizesOf_iff] at hz ⊢; and_intros <;> first | rfl | exact hz.1 | exact hz.2.1 | exact hz.2.2.1 | exact hz.2.2.2.1 | exact hz.2.2.2.2.1 | exact hz.2.2.2.2.2.1 | exact hz.2.2.2.2.2.2)))
    | (show _ ∧ _; and_intros <;> first | (apply Or.inl; decide +kernel) | (apply Or.inr; with_reducible rfl))
    | with_reducible exact Touch.refl _
    | with_reducible refine Touch.ite ?_ ?_
    | split
    | dsimp only
    | with_reducible refine Touch.mk' ?_ rfl rfl ?_ ?_

theorem State.setDevSt_touch (s : State) (n : Nat) (a : Nat) (st : Nat) : Touch 0x300000000000000 s (State.setDevSt s n a st) := by
  unfold State.setDevSt
  try dsimp only
  repeat' first
    | (show sub _ _ = true; decide +kernel)
    | with_reducible exact Touch.refl _
    | with_reducible apply Touch.to (State.put_touch ..)
    | (refine up_20000 ?_ (by decide +kernel); simp only [F.gpDevState_state, R.gpDevState]; omega)
    | dsimp only

theorem State.setLink_touch (s : State) (n : Nat) (st : Nat) : Touch 0x300000000000000 s (State.setLink s n st) := by
  unfold State.setLink
  try dsimp only
  repeat' first
    | (show sub _ _ = true; decide +kernel)
    | with_reducible exact Touch.refl _
    | with_reducible apply Touch.to (State.put_touch ..)
    | (refine up_20000 ?_ (by decide +kernel); simp only [F.gpLinkStatus_state, R.gpLinkStatus]; omega)
    | dsimp only

end Sys2Proof.Machine
end

