-- ==== Sys2Proof/Laws/FrameAccount.lean ====
section
/-! SUPPORT. What each operation of Machine/Account.lean touches: the parts of its set (Laws/Touch.lean), and nothing else. -/

set_option linter.unusedSimpArgs false
set_option linter.unusedVariables false
set_option Elab.async false

namespace Sys2Proof.Machine

theorem State.permitRefused_touch (s : State) : Touch 0x30000000000 s (State.permitRefused s) := by
  unfold State.permitRefused
  try dsimp only
  repeat' first
    | (show sub _ _ = true; decide +kernel)
    | with_reducible exact Touch.refl _
    | with_reducible apply Touch.to (State.raise_touch ..)
    | with_reducible apply Touch.to (State.bump_touch ..)
    | dsimp only

theorem State.permitAsk_touch (s : State) (use : PermitFor) : Touch 0x30000000800 s (State.permitAsk s use).2 := by
  unfold State.permitAsk
  try dsimp only
  repeat' first
    | (show sub _ _ = true; decide +kernel)
    | (show State.sizesOk _ = true → _; first | with_reducible exact id | (intro hz; simp only [State.sizesOk, listSet_length, List.length_map, List.length_replicate] at hz ⊢; first | exact hz | (rw [sizesOf_iff] at hz ⊢; and_intros <;> first | rfl | exact hz.1 | exact hz.2.1 | exact hz.2.2.1 | exact hz.2.2.2.1 | exact hz.2.2.2.2.1 | exact hz.2.2.2.2.2.1 | exact hz.2.2.2.2.2.2)))
    | (show _ ∧ _; and_intros <;> first | (apply Or.inl; decide +kernel) | (apply Or.inr; with_reducible rfl))
    | with_reducible exact Touch.refl _
    | with_reducible apply Touch.to (State.permitRefused_touch ..)
    | with_reducible refine Touch.ite ?_ ?_
    | split
    | dsimp only
    | with_reducible refine Touch.mk' ?_ rfl rfl ?_ ?_

theorem State.permitDrop_touch (s : State) (use : PermitFor) : Touch 0x800 s (State.permitDrop s use) := by
  unfold State.permitDrop
  try dsimp only
  repeat' first
    | (show sub _ _ = true; decide +kernel)
    | (show State.sizesOk _ = true → _; first | with_reducible exact id | (intro hz; simp only [State.sizesOk, listSet_length, List.length_map, List.length_replicate] at hz ⊢; first | exact hz | (rw [sizesOf_iff] at hz ⊢; and_intros <;> first | rfl | exact hz.1 | exact hz.2.1 | exact hz.2.2.1 | exact hz.2.2.2.1 | exact hz.2.2.2.2.1 | exact hz.2.2.2.2.2.1 | exact hz.2.2.2.2.2.2)))
    | (show _ ∧ _; and_intros <;> first | (apply Or.inl; decide +kernel) | (apply Or.inr; with_reducible rfl))
    | with_reducible exact Touch.refl _
    | with_reducible refine Touch.ite ?_ ?_
    | split
    | dsimp only
    | with_reducible refine Touch.mk' ?_ rfl rfl ?_ ?_

theorem State.permitReturn_touch (s : State) (use : PermitFor) : Touch 0x800 s (State.permitReturn s use) := by
  unfold State.permitReturn
  try dsimp only
  repeat' first
    | (show sub _ _ = true; decide +kernel)
    | (show State.sizesOk _ = true → _; first | with_reducible exact id | (intro hz; simp only [State.sizesOk, listSet_length, List.length_map, List.length_replicate] at hz ⊢; first | exact hz | (rw [sizesOf_iff] at hz ⊢; and_intros <;> first | rfl | exact hz.1 | exact hz.2.1 | exact hz.2.2.1 | exact hz.2.2.2.1 | exact hz.2.2.2.2.1 | exact hz.2.2.2.2.2.1 | exact hz.2.2.2.2.2.2)))
    | (show _ ∧ _; and_intros <;> first | (apply Or.inl; decide +kernel) | (apply Or.inr; with_reducible rfl))
    | with_reducible exact Touch.refl _
    | dsimp only
    | with_reducible refine Touch.mk' ?_ rfl rfl ?_ ?_

end Sys2Proof.Machine
end

