-- ==== Sys2Proof/Laws/FrameFabric.lean ====
section
/-! SUPPORT. What each operation of Machine/Fabric.lean touches: the parts of its set (Laws/Touch.lean), and nothing else. -/

set_option linter.unusedSimpArgs false
set_option linter.unusedVariables false
set_option Elab.async false

namespace Sys2Proof.Machine

theorem State.discAsk_touch (s : State) : Touch 0x8030010000800 s (State.discAsk s) := by
  unfold State.discAsk
  try dsimp only
  repeat' first
    | (show sub _ _ = true; decide +kernel)
    | (show State.sizesOk _ = true → _; first | with_reducible exact id | (intro hz; simp only [State.sizesOk, listSet_length, List.length_map, List.length_replicate] at hz ⊢; first | exact hz | (rw [sizesOf_iff] at hz ⊢; and_intros <;> first | rfl | exact hz.1 | exact hz.2.1 | exact hz.2.2.1 | exact hz.2.2.2.1 | exact hz.2.2.2.2.1 | exact hz.2.2.2.2.2.1 | exact hz.2.2.2.2.2.2)))
    | (show _ ∧ _; and_intros <;> first | (apply Or.inl; decide +kernel) | (apply Or.inr; with_reducible rfl))
    | with_reducible exact Touch.refl _
    | with_reducible apply Touch.to (State.put_touch ..)
    | with_reducible apply Touch.to (State.permitAsk_touch ..)
    | with_reducible refine Touch.ite ?_ ?_
    | split
    | dsimp only
    | with_reducible refine Touch.mk' ?_ rfl rfl ?_ ?_

theorem State.storeRec_touch (s : State) (r : DiscRec) : Touch 0x10000000 s (State.storeRec s r) := by
  unfold State.storeRec
  try dsimp only
  repeat' first
    | (show sub _ _ = true; decide +kernel)
    | (show State.sizesOk _ = true → _; first | with_reducible exact id | (intro hz; simp only [State.sizesOk, listSet_length, List.length_map, List.length_replicate] at hz ⊢; first | exact hz | (rw [sizesOf_iff] at hz ⊢; and_intros <;> first | rfl | exact hz.1 | exact hz.2.1 | exact hz.2.2.1 | exact hz.2.2.2.1 | exact hz.2.2.2.2.1 | exact hz.2.2.2.2.2.1 | exact hz.2.2.2.2.2.2)))
    | (show _ ∧ _; and_intros <;> first | (apply Or.inl; decide +kernel) | (apply Or.inr; with_reducible rfl))
    | with_reducible exact Touch.refl _
    | dsimp only
    | with_reducible refine Touch.mk' ?_ rfl rfl ?_ ?_

theorem State.discSend_touch (s : State) (m : Nat) (r : DiscRec) : Touch 0x10000000 s (State.discSend s m r) := by
  unfold State.discSend
  try dsimp only
  repeat' first
    | (show sub _ _ = true; decide +kernel)
    | with_reducible exact Touch.refl _
    | with_reducible apply Touch.to (State.setSpanPort_touch ..)
    | dsimp only

theorem State.discFlood_touch (s : State) : Touch 0x8000010000000 s (State.discFlood s) := by
  unfold State.discFlood
  try dsimp only
  repeat' first
    | (show sub _ _ = true; decide +kernel)
    | (show State.sizesOk _ = true → _; first | with_reducible exact id | (intro hz; simp only [State.sizesOk, listSet_length, List.length_map, List.length_replicate] at hz ⊢; first | exact hz | (rw [sizesOf_iff] at hz ⊢; and_intros <;> first | rfl | exact hz.1 | exact hz.2.1 | exact hz.2.2.1 | exact hz.2.2.2.1 | exact hz.2.2.2.2.1 | exact hz.2.2.2.2.2.1 | exact hz.2.2.2.2.2.2)))
    | (show _ ∧ _; and_intros <;> first | (apply Or.inl; decide +kernel) | (apply Or.inr; with_reducible rfl))
    | with_reducible assumption
    | with_reducible exact Touch.refl _
    | with_reducible apply Touch.to (State.put_touch ..)
    | with_reducible apply Touch.to (State.storeRec_touch ..)
    | with_reducible apply Touch.to (State.discSend_touch ..)
    | with_reducible refine Touch.forEach ?_ (fun _ _ _ => ?_)
    | dsimp only
    | with_reducible refine Touch.mk' ?_ rfl rfl ?_ ?_

theorem State.discGranted_touch (s : State) : Touch 0x8000010000800 s (State.discGranted s) := by
  unfold State.discGranted
  try dsimp only
  repeat' first
    | (show sub _ _ = true; decide +kernel)
    | (show State.sizesOk _ = true → _; first | with_reducible exact id | (intro hz; simp only [State.sizesOk, listSet_length, List.length_map, List.length_replicate] at hz ⊢; first | exact hz | (rw [sizesOf_iff] at hz ⊢; and_intros <;> first | rfl | exact hz.1 | exact hz.2.1 | exact hz.2.2.1 | exact hz.2.2.2.1 | exact hz.2.2.2.2.1 | exact hz.2.2.2.2.2.1 | exact hz.2.2.2.2.2.2)))
    | (show _ ∧ _; and_intros <;> first | (apply Or.inl; decide +kernel) | (apply Or.inr; with_reducible rfl))
    | with_reducible exact Touch.refl _
    | with_reducible apply Touch.to (State.put_touch ..)
    | with_reducible apply Touch.to (State.discFlood_touch ..)
    | with_reducible apply Touch.to (State.permitReturn_touch ..)
    | with_reducible refine Touch.ite ?_ ?_
    | split
    | dsimp only
    | with_reducible refine Touch.mk' ?_ rfl rfl ?_ ?_

theorem State.drawBytes_touch (s : State) (n : Nat) : Touch 0x40 s (s.drawBytes n).2 := by
  induction n generalizing s with
  | zero => exact Touch.refl s
  | succ n ih => exact (s.draw_touch 8).trans (ih _)

theorem State.toMirror_touch (s : State) (pl : List Byte) : Touch 0x30000000 s (State.toMirror s pl) := by
  unfold State.toMirror
  try dsimp only
  repeat' first
    | (show sub _ _ = true; decide +kernel)
    | (show State.sizesOk _ = true → _; first | with_reducible exact id | (intro hz; simp only [State.sizesOk, listSet_length, List.length_map, List.length_replicate] at hz ⊢; first | exact hz | (rw [sizesOf_iff] at hz ⊢; and_intros <;> first | rfl | exact hz.1 | exact hz.2.1 | exact hz.2.2.1 | exact hz.2.2.2.1 | exact hz.2.2.2.2.1 | exact hz.2.2.2.2.2.1 | exact hz.2.2.2.2.2.2)))
    | (show _ ∧ _; and_intros <;> first | (apply Or.inl; decide +kernel) | (apply Or.inr; with_reducible rfl))
    | with_reducible exact Touch.refl _
    | with_reducible apply Touch.to (State.spanTick_touch ..)
    | dsimp only
    | with_reducible refine Touch.mk' ?_ rfl rfl ?_ ?_

theorem State.mirrorItem_touch (s : State) (typ : Nat) (n : Nat) (addr : Nat) (pipe : Nat) (index : Nat) (body : List Byte) : Touch 0x30000000 s (State.mirrorItem s typ n addr pipe index body) := by
  unfold State.mirrorItem
  try dsimp only
  repeat' first
    | (show sub _ _ = true; decide +kernel)
    | with_reducible assumption
    | with_reducible exact Touch.refl _
    | with_reducible apply Touch.to (State.toMirror_touch ..)
    | with_reducible refine Touch.forEach ?_ (fun _ _ _ => ?_)
    | dsimp only

theorem State.mirrorCat_touch (s : State) (i : Nat) : Touch 0x30000000 s (State.mirrorCat s i) := by
  unfold State.mirrorCat
  try dsimp only
  repeat' first
    | (show sub _ _ = true; decide +kernel)
    | with_reducible exact Touch.refl _
    | with_reducible apply Touch.to (State.mirrorItem_touch ..)
    | dsimp only

theorem State.mirrorDev_touch (s : State) (n : Nat) (a : Nat) : Touch 0x30000000 s (State.mirrorDev s n a) := by
  unfold State.mirrorDev
  try dsimp only
  repeat' first
    | (show sub _ _ = true; decide +kernel)
    | with_reducible exact Touch.refl _
    | with_reducible apply Touch.to (State.mirrorItem_touch ..)
    | dsimp only

theorem State.mirrorCtx_touch (s : State) (b : State) (c : Nat) : Touch 0x30000040 s (State.mirrorCtx s b c) := by
  unfold State.mirrorCtx
  try dsimp only
  repeat' first
    | (show sub _ _ = true; decide +kernel)
    | with_reducible exact Touch.refl _
    | with_reducible apply Touch.to (State.drawBytes_touch ..)
    | with_reducible apply Touch.to (State.mirrorItem_touch ..)
    | with_reducible refine Touch.ite ?_ ?_
    | split
    | dsimp only

theorem State.mirrorChanges_touch (s0 : State) (s : State) : Touch 0x30000040 s (State.mirrorChanges s0 s) := by
  unfold State.mirrorChanges
  try dsimp only
  repeat' first
    | (show sub _ _ = true; decide +kernel)
    | with_reducible assumption
    | with_reducible exact Touch.refl _
    | with_reducible apply Touch.to (State.mirrorDev_touch ..)
    | with_reducible apply Touch.to (State.mirrorCtx_touch ..)
    | with_reducible apply Touch.to (State.mirrorCat_touch ..)
    | with_reducible refine Touch.ite ?_ ?_
    | with_reducible refine Touch.forEach ?_ (fun _ _ _ => ?_)
    | split
    | dsimp only

theorem State.parentLost_touch (s : State) : Touch 0x18000010000000 s (State.parentLost s) := by
  unfold State.parentLost
  try dsimp only
  repeat' first
    | (show sub _ _ = true; decide +kernel)
    | (show State.sizesOk _ = true → _; first | with_reducible exact id | (intro hz; simp only [State.sizesOk, listSet_length, List.length_map, List.length_replicate] at hz ⊢; first | exact hz | (rw [sizesOf_iff] at hz ⊢; and_intros <;> first | rfl | exact hz.1 | exact hz.2.1 | exact hz.2.2.1 | exact hz.2.2.2.1 | exact hz.2.2.2.2.1 | exact hz.2.2.2.2.2.1 | exact hz.2.2.2.2.2.2)))
    | (show _ ∧ _; and_intros <;> first | (apply Or.inl; decide +kernel) | (apply Or.inr; with_reducible rfl))
    | with_reducible exact Touch.refl _
    | with_reducible apply Touch.to (State.raise_touch ..)
    | with_reducible apply Touch.to (State.put_touch ..)
    | with_reducible apply Touch.to (State.setSpanPort_touch ..)
    | with_reducible refine Touch.ite ?_ ?_
    | split
    | dsimp only
    | with_reducible refine Touch.mk' ?_ rfl rfl ?_ ?_

theorem State.setChipId_touch (s : State) (id : Nat) (src : Nat) : Touch 0x18000010000000 s (State.setChipId s id src) := by
  unfold State.setChipId
  try dsimp only
  repeat' first
    | (show sub _ _ = true; decide +kernel)
    | with_reducible exact Touch.refl _
    | with_reducible apply Touch.to (State.discFlood_touch ..)
    | with_reducible apply Touch.to (State.put_touch ..)
    | with_reducible refine Touch.ite ?_ ?_
    | split
    | dsimp only

theorem State.toPartner_touch (s : State) (kind : Nat) (pl : List Byte) : Touch 0x10000000 s (State.toPartner s kind pl) := by
  unfold State.toPartner
  try dsimp only
  repeat' first
    | (show sub _ _ = true; decide +kernel)
    | with_reducible exact Touch.refl _
    | with_reducible apply Touch.to (State.spanReady_touch ..)
    | dsimp only

theorem settleFabric_touch (s0 : State) (s : State) : Touch 0x8000030000040 s (settleFabric s0 s) := by
  unfold settleFabric
  try dsimp only
  repeat' first
    | (show sub _ _ = true; decide +kernel)
    | with_reducible exact Touch.refl _
    | with_reducible apply Touch.to (State.discFlood_touch ..)
    | with_reducible apply Touch.to (State.mirrorChanges_touch ..)
    | with_reducible refine Touch.ite ?_ ?_
    | split
    | dsimp only

end Sys2Proof.Machine
end

