-- ==== Sys2Proof/Laws/FrameLines.lean ====
section
/-! SUPPORT. What each operation of Machine/Lines.lean touches: the parts of its set (Laws/Touch.lean), and nothing else. -/

set_option linter.unusedSimpArgs false
set_option linter.unusedVariables false
set_option Elab.async false

namespace Sys2Proof.Machine

theorem settleTx_touch (s0 : State) (s : State) : Touch 0x20 s (settleTx s0 s) := by
  unfold settleTx
  try dsimp only
  repeat' first
    | (show sub _ _ = true; decide +kernel)
    | with_reducible assumption
    | with_reducible exact Touch.refl _
    | with_reducible apply Touch.to (State.emit_touch ..)
    | with_reducible refine Touch.ite ?_ ?_
    | with_reducible refine Touch.forEach ?_ (fun _ _ _ => ?_)
    | split
    | dsimp only

end Sys2Proof.Machine
end

