-- ==== Sys2Proof/Laws/FrameFlags.lean ====
section
/-! SUPPORT. What each operation of Machine/Flags.lean touches: the parts of its set (Laws/Touch.lean), and nothing else. -/

set_option linter.unusedSimpArgs false
set_option linter.unusedVariables false
set_option Elab.async false

namespace Sys2Proof.Machine

theorem State.addFlips_touch (s : State) (e : List SramFlip) : Touch 0x400000000000000 s (State.addFlips s e) := by
  unfold State.addFlips
  try dsimp only
  repeat' first
    | (show sub _ _ = true; decide +kernel)
    | (show State.sizesOk _ = true → _; first | with_reducible exact id | (intro hz; simp only [State.sizesOk, listSet_length, List.length_map, List.length_replicate] at hz ⊢; first | exact hz | (rw [sizesOf_iff] at hz ⊢; and_intros <;> first | rfl | exact hz.1 | exact hz.2.1 | exact hz.2.2.1 | exact hz.2.2.2.1 | exact hz.2.2.2.2.1 | exact hz.2.2.2.2.2.1 | exact hz.2.2.2.2.2.2)))
    | (show _ ∧ _; and_intros <;> first | (apply Or.inl; decide +kernel) | (apply Or.inr; with_reducible rfl))
    | with_reducible assumption
    | with_reducible exact Touch.refl _
    | with_reducible refine Touch.foldl ?_ (fun _ _ _ => ?_)
    | with_reducible refine Touch.foldl_fst ?_ (fun _ _ _ => ?_)
    | with_reducible refine Touch.foldl_snd ?_ (fun _ _ _ => ?_)
    | dsimp only
    | with_reducible refine Touch.mk' ?_ rfl rfl ?_ ?_

theorem State.logPlace_step {n : Nat} {s : State} {e d t : Nat} (he : e < 16) {P : Nat × State → Prop}
    (h : ∀ u, Touch 0x100000000000 s u → ∀ e', e' < 16 → P (u.logPlace n e' d t)) (k : P (e, s)) : P (s.logPlace (n + 1) e d t) := by
  rw [State.logPlace.eq_2]
  split
  · refine h _ (State.setRegs_fi (Touch.refl s) ?_ ?_ (by decide +kernel)) _ (Nat.mod_lt _ (by decide))
    · simp only [R.fiLog0]; omega
    · simp only [R.fiLog0, List.length_map, List.length_range]; omega
  · exact k

theorem State.logPlace_touch (n : Nat) (s : State) (e d t : Nat) (he : e < 16) :
    (s.logPlace n e d t).1 < 16 ∧ Touch 0x100000000000 s (s.logPlace n e d t).2 := by
  induction n generalizing s e with
  | zero => exact ⟨he, Touch.refl s⟩
  | succ n ih => exact State.logPlace_step (P := fun p => p.1 < 16 ∧ Touch 0x100000000000 s p.2) he (fun u hu e' h => ⟨(ih u e' h).1, hu.trans (ih u e' h).2⟩) ⟨he, Touch.refl s⟩

theorem State.faultLogWrite_touch (s : State) (d cls inst detail gal t : Nat) (inj : Bool) :
    Touch 0x100000000400 s (s.faultLogWrite d cls inst detail gal t inj) := by
  unfold State.faultLogWrite
  dsimp only
  with_reducible refine Touch.mk' ?_ rfl rfl ?_ ?_
  · with_reducible apply Touch.to (State.put_touch ..)
    · decide +kernel
    with_reducible apply Touch.to (State.put_touch ..)
    · decide +kernel
    have he : (if s.get F.fiStatus_count = 0 then 0 else (s.get F.fiStatus_newest + 1) % 16) < 16 := by split <;> omega
    have k := State.logPlace_touch 15 s _ d t he
    refine State.setRegs_fi (Touch.weaken k.2 (by decide +kernel)) ?_ ?_ (by decide +kernel)
    · simp only [R.fiLog0]; omega
    · simp only [R.fiLog0, logWords, List.length_cons, List.length_nil]; omega
  · with_reducible exact id
  · and_intros <;> first | with_reducible exact Or.inr rfl | exact Or.inl (by decide +kernel)

theorem State.faultLog_touch (s : State) (d : Nat) (cls : Nat) (inst : Nat) (detail : Nat) (gal : Nat) (t : Nat) (inj : Bool) : Touch 0x100000000400 s (State.faultLog s d cls inst detail gal t inj) := by
  unfold State.faultLog
  try dsimp only
  repeat' first
    | (show sub _ _ = true; decide +kernel)
    | with_reducible exact Touch.refl _
    | with_reducible apply Touch.to (State.faultLogWrite_touch ..)
    | with_reducible refine Touch.ite ?_ ?_
    | split
    | dsimp only

theorem State.faultN_touch (s : State) : Touch 0x100000000020 s (State.faultN s) := by
  unfold State.faultN
  try dsimp only
  repeat' first
    | (show sub _ _ = true; decide +kernel)
    | with_reducible exact Touch.refl _
    | with_reducible apply Touch.to (State.bump_touch ..)
    | with_reducible apply Touch.to (State.emit_touch ..)
    | with_reducible apply Touch.to (State.raise_touch ..)
    | with_reducible refine Touch.ite ?_ ?_
    | split
    | dsimp only

theorem State.vitRelease_touch (s : State) : Touch 0x200000000200 s (State.vitRelease s) := by
  unfold State.vitRelease
  try dsimp only
  repeat' first
    | (show sub _ _ = true; decide +kernel)
    | (show State.sizesOk _ = true → _; first | with_reducible exact id | (intro hz; simp only [State.sizesOk, listSet_length, List.length_map, List.length_replicate] at hz ⊢; first | exact hz | (rw [sizesOf_iff] at hz ⊢; and_intros <;> first | rfl | exact hz.1 | exact hz.2.1 | exact hz.2.2.1 | exact hz.2.2.2.1 | exact hz.2.2.2.2.1 | exact hz.2.2.2.2.2.1 | exact hz.2.2.2.2.2.2)))
    | (show _ ∧ _; and_intros <;> first | (apply Or.inl; decide +kernel) | (apply Or.inr; with_reducible rfl))
    | with_reducible exact Touch.refl _
    | with_reducible apply Touch.to (State.put_touch ..)
    | with_reducible refine Touch.ite ?_ ?_
    | split
    | dsimp only
    | with_reducible refine Touch.mk' ?_ rfl rfl ?_ ?_

theorem State.joinLatch_touch (s : State) (code : Nat) (evt : List (Nat × Bool)) : Touch 0x200000000200 s (State.joinLatch s code evt) := by
  unfold State.joinLatch
  try dsimp only
  repeat' first
    | (show sub _ _ = true; decide +kernel)
    | (show State.sizesOk _ = true → _; first | with_reducible exact id | (intro hz; simp only [State.sizesOk, listSet_length, List.length_map, List.length_replicate] at hz ⊢; first | exact hz | (rw [sizesOf_iff] at hz ⊢; and_intros <;> first | rfl | exact hz.1 | exact hz.2.1 | exact hz.2.2.1 | exact hz.2.2.2.1 | exact hz.2.2.2.2.1 | exact hz.2.2.2.2.2.1 | exact hz.2.2.2.2.2.2)))
    | (show _ ∧ _; and_intros <;> first | (apply Or.inl; decide +kernel) | (apply Or.inr; with_reducible rfl))
    | with_reducible assumption
    | with_reducible exact Touch.refl _
    | with_reducible apply Touch.to (State.vitRelease_touch ..)
    | with_reducible apply Touch.to (State.raise_touch ..)
    | with_reducible apply Touch.to (State.put_touch ..)
    | with_reducible refine Touch.foldl ?_ (fun _ _ _ => ?_)
    | with_reducible refine Touch.foldl_fst ?_ (fun _ _ _ => ?_)
    | with_reducible refine Touch.foldl_snd ?_ (fun _ _ _ => ?_)
    | dsimp only
    | with_reducible refine Touch.mk' ?_ rfl rfl ?_ ?_

theorem State.takeMissed_touch (s : State) (n : Nat) : Touch 0x200000000200 s (State.takeMissed s n) := by
  unfold State.takeMissed
  try dsimp only
  repeat' first
    | (show sub _ _ = true; decide +kernel)
    | (show State.sizesOk _ = true → _; first | with_reducible exact id | (intro hz; simp only [State.sizesOk, listSet_length, List.length_map, List.length_replicate] at hz ⊢; first | exact hz | (rw [sizesOf_iff] at hz ⊢; and_intros <;> first | rfl | exact hz.1 | exact hz.2.1 | exact hz.2.2.1 | exact hz.2.2.2.1 | exact hz.2.2.2.2.1 | exact hz.2.2.2.2.2.1 | exact hz.2.2.2.2.2.2)))
    | (show _ ∧ _; and_intros <;> first | (apply Or.inl; decide +kernel) | (apply Or.inr; with_reducible rfl))
    | with_reducible exact Touch.refl _
    | with_reducible apply Touch.to (State.raise_touch ..)
    | with_reducible apply Touch.to (State.add_touch ..)
    | dsimp only
    | with_reducible refine Touch.mk' ?_ rfl rfl ?_ ?_

theorem State.takePulse_touch (s : State) : Touch 0x220 s (State.takePulse s) := by
  unfold State.takePulse
  try dsimp only
  repeat' first
    | (show sub _ _ = true; decide +kernel)
    | (show State.sizesOk _ = true → _; first | with_reducible exact id | (intro hz; simp only [State.sizesOk, listSet_length, List.length_map, List.length_replicate] at hz ⊢; first | exact hz | (rw [sizesOf_iff] at hz ⊢; and_intros <;> first | rfl | exact hz.1 | exact hz.2.1 | exact hz.2.2.1 | exact hz.2.2.2.1 | exact hz.2.2.2.2.1 | exact hz.2.2.2.2.2.1 | exact hz.2.2.2.2.2.2)))
    | (show _ ∧ _; and_intros <;> first | (apply Or.inl; decide +kernel) | (apply Or.inr; with_reducible rfl))
    | with_reducible exact Touch.refl _
    | with_reducible apply Touch.to (State.emit_touch ..)
    | with_reducible refine Touch.ite ?_ ?_
    | split
    | dsimp only
    | with_reducible refine Touch.mk' ?_ rfl rfl ?_ ?_

theorem State.latch_touch (s : State) (code : Nat) (t : Nat) (origin : Nat) (evt : List (Nat × Bool)) : Touch 0x200000000220 s (State.latch s code t origin evt) := by
  unfold State.latch
  try dsimp only
  repeat' first
    | (show sub _ _ = true; decide +kernel)
    | (show State.sizesOk _ = true → _; first | with_reducible exact id | (intro hz; simp only [State.sizesOk, listSet_length, List.length_map, List.length_replicate] at hz ⊢; first | exact hz | (rw [sizesOf_iff] at hz ⊢; and_intros <;> first | rfl | exact hz.1 | exact hz.2.1 | exact hz.2.2.1 | exact hz.2.2.2.1 | exact hz.2.2.2.2.1 | exact hz.2.2.2.2.2.1 | exact hz.2.2.2.2.2.2)))
    | (show _ ∧ _; and_intros <;> first | (apply Or.inl; decide +kernel) | (apply Or.inr; with_reducible rfl))
    | with_reducible exact Touch.refl _
    | with_reducible apply Touch.to (State.wrap_touch ..)
    | with_reducible apply Touch.to (State.put_touch ..)
    | with_reducible apply Touch.setReg64
    | with_reducible apply Touch.to (State.vitRelease_touch ..)
    | with_reducible apply Touch.to (State.takePulse_touch ..)
    | with_reducible apply Touch.to (State.raise_touch ..)
    | dsimp only
    | with_reducible refine Touch.mk' ?_ rfl rfl ?_ ?_

theorem State.takeLocal_touch (s : State) (code : Nat) (t : Nat) (origin : Nat) (evt : List (Nat × Bool)) : Touch 0x200000000A20 s (State.takeLocal s code t origin evt) := by
  unfold State.takeLocal
  try dsimp only
  repeat' first
    | (show sub _ _ = true; decide +kernel)
    | (show State.sizesOk _ = true → _; first | with_reducible exact id | (intro hz; simp only [State.sizesOk, listSet_length, List.length_map, List.length_replicate] at hz ⊢; first | exact hz | (rw [sizesOf_iff] at hz ⊢; and_intros <;> first | rfl | exact hz.1 | exact hz.2.1 | exact hz.2.2.1 | exact hz.2.2.2.1 | exact hz.2.2.2.2.1 | exact hz.2.2.2.2.2.1 | exact hz.2.2.2.2.2.2)))
    | (show _ ∧ _; and_intros <;> first | (apply Or.inl; decide +kernel) | (apply Or.inr; with_reducible rfl))
    | with_reducible exact Touch.refl _
    | with_reducible apply Touch.to (State.joinLatch_touch ..)
    | with_reducible apply Touch.to (State.takeMissed_touch ..)
    | with_reducible apply Touch.to (State.latch_touch ..)
    | with_reducible refine Touch.ite ?_ ?_
    | split
    | dsimp only
    | with_reducible refine Touch.mk' ?_ rfl rfl ?_ ?_

theorem State.take_touch (s : State) (code : Nat) (t : Nat) : Touch 0x10200010000A20 s (State.take s code t) := by
  unfold State.take
  try dsimp only
  repeat' first
    | (show sub _ _ = true; decide +kernel)
    | with_reducible exact Touch.refl _
    | with_reducible apply Touch.to (State.takeLocal_touch ..)
    | with_reducible apply Touch.to (State.bump_touch ..)
    | with_reducible apply Touch.to (State.spanSend_touch ..)
    | with_reducible refine Touch.ite ?_ ?_
    | split
    | dsimp only

theorem State.detectAt_touch (s : State) (d cls inst detail gal t : Nat) (inj : Bool) (hd : d < 32) :
    Touch 0x10300010000E20 s (s.detectAt d cls inst detail gal t inj) := by
  unfold State.detectAt
  dsimp only
  have e1 : ∀ {m : Nat}, sub 0x100000000000 m = true → sub (regBit (F.fiCnt_count d).off) m = true := fun k =>
    up_fi (by simp only [F.fiCnt_count, R.fiCnt]; omega) (by simp only [F.fiCnt_count, R.fiCnt]; omega) k
  have e2 : ∀ {m : Nat}, sub 0x100000000000 m = true → sub (regBit (F.fiCnt_injected d).off) m = true := fun k =>
    up_fi (by simp only [F.fiCnt_injected, R.fiCnt]; omega) (by simp only [F.fiCnt_injected, R.fiCnt]; omega) k
  repeat' first
    | (show sub _ _ = true; decide +kernel)
    | exact e1 (by decide +kernel)
    | exact e2 (by decide +kernel)
    | with_reducible exact Touch.refl _
    | with_reducible apply Touch.to (State.bump_touch ..)
    | with_reducible apply Touch.to (State.faultLog_touch ..)
    | with_reducible apply Touch.to (State.setBit_touch ..)
    | with_reducible apply Touch.to (State.faultN_touch ..)
    | (with_reducible refine State.setRegs_fi ?_ (by decide) (by simp [logWords, R.fiFirst0]) (by decide +kernel))
    | with_reducible apply Touch.to (State.take_touch ..)
    | split

theorem State.detectAt_touch_any (s : State) (d cls inst detail gal t : Nat) (inj : Bool) :
    Touch 0x3FFF00010000E20 s (s.detectAt d cls inst detail gal t inj) := by
  unfold State.detectAt
  dsimp only
  have e1 : ∀ {m : Nat}, sub 0x3FFF00000000000 m = true → sub (regBit (F.fiCnt_count d).off) m = true := fun k =>
    up_4000 (by simp only [F.fiCnt_count, R.fiCnt]; omega) k
  have e2 : ∀ {m : Nat}, sub 0x3FFF00000000000 m = true → sub (regBit (F.fiCnt_injected d).off) m = true := fun k =>
    up_4000 (by simp only [F.fiCnt_injected, R.fiCnt]; omega) k
  repeat' first
    | (show sub _ _ = true; decide +kernel)
    | exact e1 (by decide +kernel)
    | exact e2 (by decide +kernel)
    | with_reducible exact Touch.refl _
    | with_reducible apply Touch.to (State.bump_touch ..)
    | with_reducible apply Touch.to (State.faultLog_touch ..)
    | with_reducible apply Touch.to (State.setBit_touch ..)
    | with_reducible apply Touch.to (State.faultN_touch ..)
    | (with_reducible refine State.setRegs_fi ?_ (by decide) (by simp [logWords, R.fiFirst0]) (by decide +kernel))
    | with_reducible apply Touch.to (State.take_touch ..)
    | split

theorem State.detect_touch (s : State) (d cls inst detail : Nat) (inj : Bool) (hd : d < 32) :
    Touch 0x10300010000E20 s (s.detect d cls inst detail inj) := s.detectAt_touch _ _ _ _ _ _ _ hd

theorem State.dropFlip_touch (s : State) (a : Nat) : Touch 0x400000000000000 s (State.dropFlip s a) := by
  unfold State.dropFlip
  try dsimp only
  repeat' first
    | (show sub _ _ = true; decide +kernel)
    | (show State.sizesOk _ = true → _; first | with_reducible exact id | (intro hz; simp only [State.sizesOk, listSet_length, List.length_map, List.length_replicate] at hz ⊢; first | exact hz | (rw [sizesOf_iff] at hz ⊢; and_intros <;> first | rfl | exact hz.1 | exact hz.2.1 | exact hz.2.2.1 | exact hz.2.2.2.1 | exact hz.2.2.2.2.1 | exact hz.2.2.2.2.2.1 | exact hz.2.2.2.2.2.2)))
    | (show _ ∧ _; and_intros <;> first | (apply Or.inl; decide +kernel) | (apply Or.inr; with_reducible rfl))
    | with_reducible exact Touch.refl _
    | dsimp only
    | with_reducible refine Touch.mk' ?_ rfl rfl ?_ ?_

theorem State.takeEvent_touch (s : State) (evt : List (Nat × Bool)) : Touch 0x200000000A20 s (State.takeEvent s evt) := by
  unfold State.takeEvent
  try dsimp only
  repeat' first
    | (show sub _ _ = true; decide +kernel)
    | with_reducible exact Touch.refl _
    | with_reducible apply Touch.to (State.takeLocal_touch ..)
    | with_reducible refine Touch.ite ?_ ?_
    | split
    | dsimp only

theorem State.sharedEvent_touch (s : State) (n : Nat) : Touch 0x200000000B20 s (State.sharedEvent s n) := by
  unfold State.sharedEvent
  try dsimp only
  repeat' first
    | (show sub _ _ = true; decide +kernel)
    | with_reducible exact Touch.refl _
    | with_reducible apply Touch.to (State.takeEvent_touch ..)
    | with_reducible apply Touch.to (State.icEvent_touch ..)
    | dsimp only

theorem State.icComplete_touch (s : State) (g : Nat) (n : Nat) : Touch 0x380200000000B20 s (State.icComplete s g n) := by
  unfold State.icComplete
  try dsimp only
  repeat' first
    | (show sub _ _ = true; decide +kernel)
    | with_reducible exact Touch.refl _
    | with_reducible apply Touch.to (State.setInst_touch ..)
    | with_reducible apply Touch.to (State.sharedEvent_touch ..)
    | with_reducible apply Touch.to (State.bump_touch ..)
    | with_reducible refine Touch.ite ?_ ?_
    | (refine up_10000 ?_ (by decide +kernel); simp only [F.icLevel_bad_complete, R.icLevel]; omega)
    | split
    | dsimp only

theorem State.injFire_touch (s : State) (d : Nat) (hd : d < 32) : Touch 0x100000000000 s (s.injFire d) := by
  unfold State.injFire
  split
  · refine Touch.to (State.put_touch ..) (up_fi (by simp only [F.fiInjCtrl_fired, R.fiInjCtrl]; omega)
      (by simp only [F.fiInjCtrl_fired, R.fiInjCtrl]; omega) (by decide +kernel)) ?_
    exact (State.put_touch ..).weaken (up_fi (by simp only [F.fiInjCtrl_mode, R.fiInjCtrl]; omega)
      (by simp only [F.fiInjCtrl_mode, R.fiInjCtrl]; omega) (by decide +kernel))
  · exact Touch.refl s

theorem State.inject_touch (s : State) (d inst : Nat) (p : Nat → Bool) (hd : d < 32) : Touch 0x100000000000 s (s.inject d inst p).2 := by
  unfold State.inject
  split
  · split
    · exact s.injFire_touch d hd
    · exact Touch.refl s
  · exact Touch.refl s

theorem State.ramCe_touch (s : State) (a : Nat) (inj : Bool) : Touch 0x10300010000E20 s (State.ramCe s a inj) := by
  unfold State.ramCe
  try dsimp only
  repeat' first
    | (show sub _ _ = true; decide +kernel)
    | with_reducible exact Touch.refl _
    | with_reducible apply Touch.to (State.detect_touch ..)
    | (show _ < 32; decide)
    | dsimp only

theorem State.ramErrors_touch (ws : List BadWord) (s : State) (cls gal : Nat) : Touch 0x10300010000E20 s (State.ramErrors ws s cls gal).2 := by
  induction ws generalizing s with
  | nil => exact Touch.refl _
  | cons w ws ih =>
    unfold State.ramErrors
    repeat' first
      | (show sub _ _ = true; decide +kernel)
      | (show _ < 32; decide)
      | with_reducible exact Touch.refl _
      | with_reducible apply Touch.to (State.detectAt_touch ..)
      | with_reducible apply Touch.to (State.ramCe_touch ..)
      | with_reducible apply Touch.to (ih ..)
      | split
      | dsimp only

theorem State.ramFire_touch (s : State) (a : Nat) (len : Nat) : Touch 0x100000000000 s (State.ramFire s a len) := by
  unfold State.ramFire
  try dsimp only
  repeat' first
    | (show sub _ _ = true; decide +kernel)
    | with_reducible exact Touch.refl _
    | with_reducible apply Touch.to (State.injFire_touch ..)
    | with_reducible refine Touch.ite ?_ ?_
    | (show _ < 32; decide)
    | split
    | dsimp only

theorem State.ramRead_touch (s : State) (a : Nat) (len : Nat) (cls : Nat) (gal : Nat) : Touch 0x10300010000E20 s (State.ramRead s a len cls gal).2 := by
  unfold State.ramRead
  try dsimp only
  repeat' first
    | (show sub _ _ = true; decide +kernel)
    | with_reducible exact Touch.refl _
    | with_reducible apply Touch.to (State.ramErrors_touch ..)
    | with_reducible apply Touch.to (State.ramFire_touch ..)
    | dsimp only

theorem State.itemRead_touch (s : State) (lo : Nat) (size : Nat) (len : Nat) (cls : Nat) (gal : Nat) : Touch 0x410300010000E60 s (State.itemRead s lo size len cls gal).2 := by
  unfold State.itemRead
  try dsimp only
  repeat' first
    | (show sub _ _ = true; decide +kernel)
    | with_reducible exact Touch.refl _
    | with_reducible apply Touch.to (State.draw_touch ..)
    | with_reducible apply Touch.to (State.ramRead_touch ..)
    | with_reducible apply Touch.to (State.dropFlip_touch ..)
    | with_reducible refine Touch.ite ?_ ?_
    | split
    | dsimp only

theorem settleMsi_touch (s0 : State) (s : State) : Touch 0x400000820 s (settleMsi s0 s) := by
  unfold settleMsi
  try dsimp only
  repeat' first
    | (show sub _ _ = true; decide +kernel)
    | (show State.sizesOk _ = true → _; first | with_reducible exact id | (intro hz; simp only [State.sizesOk, listSet_length, List.length_map, List.length_replicate] at hz ⊢; first | exact hz | (rw [sizesOf_iff] at hz ⊢; and_intros <;> first | rfl | exact hz.1 | exact hz.2.1 | exact hz.2.2.1 | exact hz.2.2.2.1 | exact hz.2.2.2.2.1 | exact hz.2.2.2.2.2.1 | exact hz.2.2.2.2.2.2)))
    | (show _ ∧ _; and_intros <;> first | (apply Or.inl; decide +kernel) | (apply Or.inr; with_reducible rfl))
    | with_reducible assumption
    | with_reducible exact Touch.refl _
    | with_reducible apply Touch.to (State.msi_touch ..)
    | with_reducible apply Touch.to (State.msixFlush_touch ..)
    | with_reducible refine Touch.ite ?_ ?_
    | with_reducible refine Touch.forEach ?_ (fun _ _ _ => ?_)
    | split
    | dsimp only
    | with_reducible refine Touch.mk' ?_ rfl rfl ?_ ?_

theorem settleLines_touch (n : Nat) (s0 s : State) : Touch 0x200000000B20 s (settleLines n s0 s) := by
  induction n generalizing s0 s with
  | zero => exact Touch.refl s
  | succ n ih =>
    unfold settleLines
    dsimp only
    split
    · exact Touch.refl s
    · exact (Touch.forEach (Touch.refl s) fun a k h => h.trans (a.sharedEvent_touch k)).trans (ih _ _)

theorem settleRose_touch (s0 : State) (s : State) : Touch 0x200000000B20 s (settleRose s0 s) := by
  unfold settleRose
  try dsimp only
  repeat' first
    | (show sub _ _ = true; decide +kernel)
    | (show State.sizesOk _ = true → _; first | with_reducible exact id | (intro hz; simp only [State.sizesOk, listSet_length, List.length_map, List.length_replicate] at hz ⊢; first | exact hz | (rw [sizesOf_iff] at hz ⊢; and_intros <;> first | rfl | exact hz.1 | exact hz.2.1 | exact hz.2.2.1 | exact hz.2.2.2.1 | exact hz.2.2.2.2.1 | exact hz.2.2.2.2.2.1 | exact hz.2.2.2.2.2.2)))
    | (show _ ∧ _; and_intros <;> first | (apply Or.inl; decide +kernel) | (apply Or.inr; with_reducible rfl))
    | with_reducible assumption
    | with_reducible exact Touch.refl _
    | with_reducible apply Touch.to (State.sharedEvent_touch ..)
    | with_reducible refine Touch.ite ?_ ?_
    | with_reducible refine Touch.forEach ?_ (fun _ _ _ => ?_)
    | split
    | dsimp only
    | with_reducible refine Touch.mk' ?_ rfl rfl ?_ ?_

theorem settleRanged_touch (s0 : State) (s : State) : Touch 0x40000000000 s (settleRanged s0 s) := by
  unfold settleRanged
  try dsimp only
  repeat' first
    | (show sub _ _ = true; decide +kernel)
    | with_reducible exact Touch.refl _
    | with_reducible apply Touch.to (State.raise_touch ..)
    | with_reducible refine Touch.ite ?_ ?_
    | split
    | dsimp only

theorem settleBudget_touch (s : State) : Touch 0x10000000800 s (settleBudget s) := by
  unfold settleBudget
  try dsimp only
  repeat' first
    | (show sub _ _ = true; decide +kernel)
    | (show State.sizesOk _ = true → _; first | with_reducible exact id | (intro hz; simp only [State.sizesOk, listSet_length, List.length_map, List.length_replicate] at hz ⊢; first | exact hz | (rw [sizesOf_iff] at hz ⊢; and_intros <;> first | rfl | exact hz.1 | exact hz.2.1 | exact hz.2.2.1 | exact hz.2.2.2.1 | exact hz.2.2.2.2.1 | exact hz.2.2.2.2.2.1 | exact hz.2.2.2.2.2.2)))
    | (show _ ∧ _; and_intros <;> first | (apply Or.inl; decide +kernel) | (apply Or.inr; with_reducible rfl))
    | with_reducible exact Touch.refl _
    | with_reducible apply Touch.to (State.raise_touch ..)
    | with_reducible refine Touch.ite ?_ ?_
    | split
    | dsimp only
    | with_reducible refine Touch.mk' ?_ rfl rfl ?_ ?_

theorem settle_touch (s0 : State) (s : State) : Touch 0x8250430000B60 s (settle s0 s) := by
  unfold settle
  try dsimp only
  repeat' first
    | (show sub _ _ = true; decide +kernel)
    | with_reducible exact Touch.refl _
    | with_reducible apply Touch.to (settleFabric_touch ..)
    | with_reducible apply Touch.to (settleMsi_touch ..)
    | with_reducible apply Touch.to (settleTx_touch ..)
    | with_reducible apply Touch.to (settleLines_touch ..)
    | with_reducible apply Touch.to (settleRose_touch ..)
    | with_reducible apply Touch.to (settleRanged_touch ..)
    | with_reducible apply Touch.to (settleBudget_touch ..)
    | dsimp only

/-- Every command answers a next state: what its effect touches, and what settling may touch. -/
theorem act_touch {m : Nat} (s : State) (f : State → State) (h : sub 0x8250430000B60 m = true) (k : Touch m s (f s)) :
    ∃ t, act s f = .next t ∧ Touch m s t := by
  refine ⟨_, rfl, ?_⟩
  split
  · exact Touch.refl s
  · exact Touch.to (settle_touch ..) h k

/-- The same of a command of two accesses. -/
theorem act2_touch {m : Nat} (s : State) (f g : State → State) (h : sub 0x8250430000B60 m = true) (k : Touch m s (f s)) (k2 : ∀ t, Touch m t (g t)) :
    ∃ t, act2 s f g = .next t ∧ Touch m s t := by
  refine ⟨_, rfl, ?_⟩
  split
  · exact Touch.refl s
  · exact ((Touch.to (settle_touch ..) h k).trans (k2 _)).trans (Touch.to (settle_touch ..) h (Touch.refl _))

end Sys2Proof.Machine
end

