-- ==== Sys2Proof/Laws/State.lean ====
section
/-! SUPPORT. The small lemmas of the state's operations: what each field holds after an update of a register, of a byte of SRAM, of the outbox; what a
register field reads after a field of the same or of another register is set. -/

namespace Sys2Proof.Machine

/-! ### A register set -/

@[simp] theorem State.setReg_part (s : State) (o : Nat) (w : Word) : (s.setReg o w).part = s.part := rfl
@[simp] theorem State.setReg_off (s : State) (o : Nat) (w : Word) : (s.setReg o w).off = s.off := rfl
@[simp] theorem State.setReg_pending (s : State) (o : Nat) (w : Word) : (s.setReg o w).pending = s.pending := rfl
@[simp] theorem State.setReg_caps (s : State) (o : Nat) (w : Word) : (s.setReg o w).caps = s.caps := rfl
@[simp] theorem State.setReg_sram (s : State) (o : Nat) (w : Word) : (s.setReg o w).sram = s.sram := rfl
@[simp] theorem State.setReg_flips (s : State) (o : Nat) (w : Word) : (s.setReg o w).flips = s.flips := rfl
@[simp] theorem State.setReg_out (s : State) (o : Nat) (w : Word) : (s.setReg o w).out = s.out := rfl
@[simp] theorem State.setReg_free (s : State) (o : Nat) (w : Word) : (s.setReg o w).free = s.free := rfl
@[simp] theorem State.setReg_tk (s : State) (o : Nat) (w : Word) : (s.setReg o w).tk = s.tk := rfl
@[simp] theorem State.setReg_ic (s : State) (o : Nat) (w : Word) : (s.setReg o w).ic = s.ic := rfl
@[simp] theorem State.setReg_rg (s : State) (o : Nat) (w : Word) : (s.setReg o w).rg = s.rg := rfl
@[simp] theorem State.setReg_fi (s : State) (o : Nat) (w : Word) : (s.setReg o w).fi = s.fi := rfl
@[simp] theorem State.setReg_cn (s : State) (o : Nat) (w : Word) : (s.setReg o w).cn = s.cn := rfl
@[simp] theorem State.setReg_pci (s : State) (o : Nat) (w : Word) : (s.setReg o w).pci = s.pci := rfl
@[simp] theorem State.setReg_gp (s : State) (o : Nat) (w : Word) : (s.setReg o w).gp = s.gp := rfl
@[simp] theorem State.setReg_devs (s : State) (o : Nat) (w : Word) : (s.setReg o w).devs = s.devs := rfl
@[simp] theorem State.setReg_seqs (s : State) (o : Nat) (w : Word) : (s.setReg o w).seqs = s.seqs := rfl
@[simp] theorem State.setReg_acc (s : State) (o : Nat) (w : Word) : (s.setReg o w).acc = s.acc := rfl
@[simp] theorem State.setReg_px (s : State) (o : Nat) (w : Word) : (s.setReg o w).px = s.px := rfl
@[simp] theorem State.setReg_cat (s : State) (o : Nat) (w : Word) : (s.setReg o w).cat = s.cat := rfl
@[simp] theorem State.setReg_cu (s : State) (o : Nat) (w : Word) : (s.setReg o w).cu = s.cu := rfl
@[simp] theorem State.setReg_cutoff (s : State) (o : Nat) (w : Word) : (s.setReg o w).cutoff = s.cutoff := rfl
@[simp] theorem State.setReg_built (s : State) (o : Nat) (w : Word) : (s.setReg o w).built = s.built := rfl
@[simp] theorem State.setReg_ga (s : State) (o : Nat) (w : Word) : (s.setReg o w).ga = s.ga := rfl
@[simp] theorem State.setReg_work (s : State) (o : Nat) (w : Word) : (s.setReg o w).work = s.work := rfl
@[simp] theorem State.setReg_stamps (s : State) (o : Nat) (w : Word) : (s.setReg o w).stamps = s.stamps := rfl
@[simp] theorem State.setReg_owed (s : State) (o : Nat) (w : Word) : (s.setReg o w).owed = s.owed := rfl
@[simp] theorem State.setReg_mv (s : State) (o : Nat) (w : Word) : (s.setReg o w).mv = s.mv := rfl
@[simp] theorem State.setReg_mvLast (s : State) (o : Nat) (w : Word) : (s.setReg o w).mvLast = s.mvLast := rfl
@[simp] theorem State.setReg_sp (s : State) (o : Nat) (w : Word) : (s.setReg o w).sp = s.sp := rfl
@[simp] theorem State.setReg_tw (s : State) (o : Nat) (w : Word) : (s.setReg o w).tw = s.tw := rfl
@[simp] theorem State.setReg_co (s : State) (o : Nat) (w : Word) : (s.setReg o w).co = s.co := rfl
@[simp] theorem State.setReg_ch (s : State) (o : Nat) (w : Word) : (s.setReg o w).ch = s.ch := rfl
@[simp] theorem State.setReg_fuses (s : State) (o : Nat) (w : Word) : (s.setReg o w).fuses = s.fuses := rfl
@[simp] theorem State.setReg_jtag (s : State) (o : Nat) (w : Word) : (s.setReg o w).jtag = s.jtag := rfl
@[simp] theorem State.reg_setReg_other (s : State) {i o : Nat} (w : Word) (h : i ≠ o) : (s.setReg o w).reg i = s.reg i := s.reg_setReg_ne i o w h

/-! ### A register field set: `put` is a register set -/

@[simp] theorem State.put_part (s : State) (x : Field) (v : Nat) : (s.put x v).part = s.part := rfl
@[simp] theorem State.put_off (s : State) (x : Field) (v : Nat) : (s.put x v).off = s.off := rfl
@[simp] theorem State.put_pending (s : State) (x : Field) (v : Nat) : (s.put x v).pending = s.pending := rfl
@[simp] theorem State.put_caps (s : State) (x : Field) (v : Nat) : (s.put x v).caps = s.caps := rfl
@[simp] theorem State.put_sram (s : State) (x : Field) (v : Nat) : (s.put x v).sram = s.sram := rfl
@[simp] theorem State.put_flips (s : State) (x : Field) (v : Nat) : (s.put x v).flips = s.flips := rfl
@[simp] theorem State.put_out (s : State) (x : Field) (v : Nat) : (s.put x v).out = s.out := rfl
@[simp] theorem State.put_free (s : State) (x : Field) (v : Nat) : (s.put x v).free = s.free := rfl
@[simp] theorem State.put_tk (s : State) (x : Field) (v : Nat) : (s.put x v).tk = s.tk := rfl
@[simp] theorem State.put_ic (s : State) (x : Field) (v : Nat) : (s.put x v).ic = s.ic := rfl
@[simp] theorem State.put_rg (s : State) (x : Field) (v : Nat) : (s.put x v).rg = s.rg := rfl
@[simp] theorem State.put_fi (s : State) (x : Field) (v : Nat) : (s.put x v).fi = s.fi := rfl
@[simp] theorem State.put_cn (s : State) (x : Field) (v : Nat) : (s.put x v).cn = s.cn := rfl
@[simp] theorem State.put_pci (s : State) (x : Field) (v : Nat) : (s.put x v).pci = s.pci := rfl
@[simp] theorem State.put_gp (s : State) (x : Field) (v : Nat) : (s.put x v).gp = s.gp := rfl
@[simp] theorem State.put_devs (s : State) (x : Field) (v : Nat) : (s.put x v).devs = s.devs := rfl
@[simp] theorem State.put_seqs (s : State) (x : Field) (v : Nat) : (s.put x v).seqs = s.seqs := rfl
@[simp] theorem State.put_acc (s : State) (x : Field) (v : Nat) : (s.put x v).acc = s.acc := rfl
@[simp] theorem State.put_px (s : State) (x : Field) (v : Nat) : (s.put x v).px = s.px := rfl
@[simp] theorem State.put_cat (s : State) (x : Field) (v : Nat) : (s.put x v).cat = s.cat := rfl
@[simp] theorem State.put_cu (s : State) (x : Field) (v : Nat) : (s.put x v).cu = s.cu := rfl
@[simp] theorem State.put_cutoff (s : State) (x : Field) (v : Nat) : (s.put x v).cutoff = s.cutoff := rfl
@[simp] theorem State.put_built (s : State) (x : Field) (v : Nat) : (s.put x v).built = s.built := rfl
@[simp] theorem State.put_ga (s : State) (x : Field) (v : Nat) : (s.put x v).ga = s.ga := rfl
@[simp] theorem State.put_work (s : State) (x : Field) (v : Nat) : (s.put x v).work = s.work := rfl
@[simp] theorem State.put_stamps (s : State) (x : Field) (v : Nat) : (s.put x v).stamps = s.stamps := rfl
@[simp] theorem State.put_owed (s : State) (x : Field) (v : Nat) : (s.put x v).owed = s.owed := rfl
@[simp] theorem State.put_mv (s : State) (x : Field) (v : Nat) : (s.put x v).mv = s.mv := rfl
@[simp] theorem State.put_mvLast (s : State) (x : Field) (v : Nat) : (s.put x v).mvLast = s.mvLast := rfl
@[simp] theorem State.put_sp (s : State) (x : Field) (v : Nat) : (s.put x v).sp = s.sp := rfl
@[simp] theorem State.put_tw (s : State) (x : Field) (v : Nat) : (s.put x v).tw = s.tw := rfl
@[simp] theorem State.put_co (s : State) (x : Field) (v : Nat) : (s.put x v).co = s.co := rfl
@[simp] theorem State.put_ch (s : State) (x : Field) (v : Nat) : (s.put x v).ch = s.ch := rfl
@[simp] theorem State.put_fuses (s : State) (x : Field) (v : Nat) : (s.put x v).fuses = s.fuses := rfl
@[simp] theorem State.put_jtag (s : State) (x : Field) (v : Nat) : (s.put x v).jtag = s.jtag := rfl

/-! ### A byte of SRAM written -/

@[simp] theorem State.setRam_regs (s : State) (a : Nat) (b : Byte) : (s.setRam a b).regs = s.regs := rfl
@[simp] theorem State.setRam_part (s : State) (a : Nat) (b : Byte) : (s.setRam a b).part = s.part := rfl
@[simp] theorem State.setRam_off (s : State) (a : Nat) (b : Byte) : (s.setRam a b).off = s.off := rfl
@[simp] theorem State.setRam_pending (s : State) (a : Nat) (b : Byte) : (s.setRam a b).pending = s.pending := rfl
@[simp] theorem State.setRam_caps (s : State) (a : Nat) (b : Byte) : (s.setRam a b).caps = s.caps := rfl
@[simp] theorem State.setRam_out (s : State) (a : Nat) (b : Byte) : (s.setRam a b).out = s.out := rfl
@[simp] theorem State.setRam_free (s : State) (a : Nat) (b : Byte) : (s.setRam a b).free = s.free := rfl
@[simp] theorem State.setRam_tk (s : State) (a : Nat) (b : Byte) : (s.setRam a b).tk = s.tk := rfl
@[simp] theorem State.setRam_ic (s : State) (a : Nat) (b : Byte) : (s.setRam a b).ic = s.ic := rfl
@[simp] theorem State.setRam_rg (s : State) (a : Nat) (b : Byte) : (s.setRam a b).rg = s.rg := rfl
@[simp] theorem State.setRam_fi (s : State) (a : Nat) (b : Byte) : (s.setRam a b).fi = s.fi := rfl
@[simp] theorem State.setRam_cn (s : State) (a : Nat) (b : Byte) : (s.setRam a b).cn = s.cn := rfl
@[simp] theorem State.setRam_pci (s : State) (a : Nat) (b : Byte) : (s.setRam a b).pci = s.pci := rfl
@[simp] theorem State.setRam_gp (s : State) (a : Nat) (b : Byte) : (s.setRam a b).gp = s.gp := rfl
@[simp] theorem State.setRam_devs (s : State) (a : Nat) (b : Byte) : (s.setRam a b).devs = s.devs := rfl
@[simp] theorem State.setRam_seqs (s : State) (a : Nat) (b : Byte) : (s.setRam a b).seqs = s.seqs := rfl
@[simp] theorem State.setRam_acc (s : State) (a : Nat) (b : Byte) : (s.setRam a b).acc = s.acc := rfl
@[simp] theorem State.setRam_px (s : State) (a : Nat) (b : Byte) : (s.setRam a b).px = s.px := rfl
@[simp] theorem State.setRam_cat (s : State) (a : Nat) (b : Byte) : (s.setRam a b).cat = s.cat := rfl
@[simp] theorem State.setRam_cu (s : State) (a : Nat) (b : Byte) : (s.setRam a b).cu = s.cu := rfl
@[simp] theorem State.setRam_cutoff (s : State) (a : Nat) (b : Byte) : (s.setRam a b).cutoff = s.cutoff := rfl
@[simp] theorem State.setRam_built (s : State) (a : Nat) (b : Byte) : (s.setRam a b).built = s.built := rfl
@[simp] theorem State.setRam_ga (s : State) (a : Nat) (b : Byte) : (s.setRam a b).ga = s.ga := rfl
@[simp] theorem State.setRam_work (s : State) (a : Nat) (b : Byte) : (s.setRam a b).work = s.work := rfl
@[simp] theorem State.setRam_stamps (s : State) (a : Nat) (b : Byte) : (s.setRam a b).stamps = s.stamps := rfl
@[simp] theorem State.setRam_owed (s : State) (a : Nat) (b : Byte) : (s.setRam a b).owed = s.owed := rfl
@[simp] theorem State.setRam_mv (s : State) (a : Nat) (b : Byte) : (s.setRam a b).mv = s.mv := rfl
@[simp] theorem State.setRam_mvLast (s : State) (a : Nat) (b : Byte) : (s.setRam a b).mvLast = s.mvLast := rfl
@[simp] theorem State.setRam_sp (s : State) (a : Nat) (b : Byte) : (s.setRam a b).sp = s.sp := rfl
@[simp] theorem State.setRam_tw (s : State) (a : Nat) (b : Byte) : (s.setRam a b).tw = s.tw := rfl
@[simp] theorem State.setRam_co (s : State) (a : Nat) (b : Byte) : (s.setRam a b).co = s.co := rfl
@[simp] theorem State.setRam_ch (s : State) (a : Nat) (b : Byte) : (s.setRam a b).ch = s.ch := rfl
@[simp] theorem State.setRam_fuses (s : State) (a : Nat) (b : Byte) : (s.setRam a b).fuses = s.fuses := rfl
@[simp] theorem State.setRam_jtag (s : State) (a : Nat) (b : Byte) : (s.setRam a b).jtag = s.jtag := rfl
@[simp] theorem State.ram_setRam_same (s : State) (a : Nat) (b : Byte) : (s.setRam a b).ram a = b := tget_tput_same ..
@[simp] theorem State.ram_setRam_other (s : State) {a i : Nat} (b : Byte) (h : i ≠ a) : (s.setRam a b).ram i = s.ram i := tget_tput_ne _ _ _ _ _ h

/-! ### An output put into the outbox -/

@[simp] theorem State.emit_regs (s : State) (x : Output) : (s.emit x).regs = s.regs := by unfold State.emit; split <;> rfl
@[simp] theorem State.emit_part (s : State) (x : Output) : (s.emit x).part = s.part := by unfold State.emit; split <;> rfl
@[simp] theorem State.emit_off (s : State) (x : Output) : (s.emit x).off = s.off := by unfold State.emit; split <;> rfl
@[simp] theorem State.emit_pending (s : State) (x : Output) : (s.emit x).pending = s.pending := by unfold State.emit; split <;> rfl
@[simp] theorem State.emit_caps (s : State) (x : Output) : (s.emit x).caps = s.caps := by unfold State.emit; split <;> rfl
@[simp] theorem State.emit_sram (s : State) (x : Output) : (s.emit x).sram = s.sram := by unfold State.emit; split <;> rfl
@[simp] theorem State.emit_flips (s : State) (x : Output) : (s.emit x).flips = s.flips := by unfold State.emit; split <;> rfl
@[simp] theorem State.emit_free (s : State) (x : Output) : (s.emit x).free = s.free := by unfold State.emit; split <;> rfl
@[simp] theorem State.emit_tk (s : State) (x : Output) : (s.emit x).tk = s.tk := by unfold State.emit; split <;> rfl
@[simp] theorem State.emit_ic (s : State) (x : Output) : (s.emit x).ic = s.ic := by unfold State.emit; split <;> rfl
@[simp] theorem State.emit_rg (s : State) (x : Output) : (s.emit x).rg = s.rg := by unfold State.emit; split <;> rfl
@[simp] theorem State.emit_fi (s : State) (x : Output) : (s.emit x).fi = s.fi := by unfold State.emit; split <;> rfl
@[simp] theorem State.emit_cn (s : State) (x : Output) : (s.emit x).cn = s.cn := by unfold State.emit; split <;> rfl
@[simp] theorem State.emit_pci (s : State) (x : Output) : (s.emit x).pci = s.pci := by unfold State.emit; split <;> rfl
@[simp] theorem State.emit_gp (s : State) (x : Output) : (s.emit x).gp = s.gp := by unfold State.emit; split <;> rfl
@[simp] theorem State.emit_devs (s : State) (x : Output) : (s.emit x).devs = s.devs := by unfold State.emit; split <;> rfl
@[simp] theorem State.emit_seqs (s : State) (x : Output) : (s.emit x).seqs = s.seqs := by unfold State.emit; split <;> rfl
@[simp] theorem State.emit_acc (s : State) (x : Output) : (s.emit x).acc = s.acc := by unfold State.emit; split <;> rfl
@[simp] theorem State.emit_px (s : State) (x : Output) : (s.emit x).px = s.px := by unfold State.emit; split <;> rfl
@[simp] theorem State.emit_cat (s : State) (x : Output) : (s.emit x).cat = s.cat := by unfold State.emit; split <;> rfl
@[simp] theorem State.emit_cu (s : State) (x : Output) : (s.emit x).cu = s.cu := by unfold State.emit; split <;> rfl
@[simp] theorem State.emit_cutoff (s : State) (x : Output) : (s.emit x).cutoff = s.cutoff := by unfold State.emit; split <;> rfl
@[simp] theorem State.emit_built (s : State) (x : Output) : (s.emit x).built = s.built := by unfold State.emit; split <;> rfl
@[simp] theorem State.emit_ga (s : State) (x : Output) : (s.emit x).ga = s.ga := by unfold State.emit; split <;> rfl
@[simp] theorem State.emit_work (s : State) (x : Output) : (s.emit x).work = s.work := by unfold State.emit; split <;> rfl
@[simp] theorem State.emit_stamps (s : State) (x : Output) : (s.emit x).stamps = s.stamps := by unfold State.emit; split <;> rfl
@[simp] theorem State.emit_owed (s : State) (x : Output) : (s.emit x).owed = s.owed := by unfold State.emit; split <;> rfl
@[simp] theorem State.emit_mv (s : State) (x : Output) : (s.emit x).mv = s.mv := by unfold State.emit; split <;> rfl
@[simp] theorem State.emit_mvLast (s : State) (x : Output) : (s.emit x).mvLast = s.mvLast := by unfold State.emit; split <;> rfl
@[simp] theorem State.emit_sp (s : State) (x : Output) : (s.emit x).sp = s.sp := by unfold State.emit; split <;> rfl
@[simp] theorem State.emit_tw (s : State) (x : Output) : (s.emit x).tw = s.tw := by unfold State.emit; split <;> rfl
@[simp] theorem State.emit_co (s : State) (x : Output) : (s.emit x).co = s.co := by unfold State.emit; split <;> rfl
@[simp] theorem State.emit_ch (s : State) (x : Output) : (s.emit x).ch = s.ch := by unfold State.emit; split <;> rfl
@[simp] theorem State.emit_fuses (s : State) (x : Output) : (s.emit x).fuses = s.fuses := by unfold State.emit; split <;> rfl
@[simp] theorem State.emit_jtag (s : State) (x : Output) : (s.emit x).jtag = s.jtag := by unfold State.emit; split <;> rfl
/-- An output goes out, unless the test access port holds its balls. -/
theorem State.emit_out (s : State) (x : Output) : (s.emit x).out = if s.jtag.holds && x.scanned then s.out else s.out ++ [x] := by
  unfold State.emit; split <;> rfl
@[simp] theorem State.emit_out_free (s : State) (x : Output) (h : s.jtag.holds = false) : (s.emit x).out = s.out ++ [x] := by
  simp [State.emit_out, h]
@[simp] theorem State.emit_out_plain (s : State) (x : Output) (h : x.scanned = false) : (s.emit x).out = s.out ++ [x] := by
  simp [State.emit_out, h]
@[simp] theorem State.emit_reg (s : State) (x : Output) (o : Nat) : (s.emit x).reg o = s.reg o := by unfold State.emit; split <;> rfl
@[simp] theorem State.setReg_ram (s : State) (o a : Nat) (w : Word) : (s.setReg o w).ram a = s.ram a := rfl
@[simp] theorem State.put_ram (s : State) (x : Field) (v a : Nat) : (s.put x v).ram a = s.ram a := rfl
@[simp] theorem State.setRam_reg (s : State) (a o : Nat) (b : Byte) : (s.setRam a b).reg o = s.reg o := rfl

/-! ### Reading a field after a field is set -/

theorem State.get_of_reg {s t : State} {f : Field} (h : t.reg f.off = s.reg f.off) : t.get f = s.get f := by simp only [State.get, h]

theorem State.flag_of_reg {s t : State} {f : Field} (h : t.reg f.off = s.reg f.off) : t.flag f = s.flag f := by
  simp only [State.flag, State.get_of_reg h]

theorem ins_testBit (f : Field) (w : Word) (v i : Nat) (hi : i < 32) :
    (f.ins w v).toNat.testBit i = if f.lo ≤ i ∧ i < f.lo + f.width then v.testBit (i - f.lo) else w.toNat.testBit i := by
  have hm : ∀ j, ((2 ^ f.width - 1) * 2 ^ f.lo).testBit j = (decide (f.lo ≤ j) && decide (j - f.lo < f.width)) := by
    intro j; rw [Nat.testBit_mul_two_pow, Nat.testBit_two_pow_sub_one]
  have hv : ∀ j, (v % 2 ^ f.width * 2 ^ f.lo).testBit j = (decide (f.lo ≤ j) && (decide (j - f.lo < f.width) && v.testBit (j - f.lo))) := by
    intro j; rw [Nat.testBit_mul_two_pow, Nat.testBit_mod_two_pow]
  unfold Field.ins Field.mask
  simp only [BitVec.testBit_toNat, BitVec.getLsbD_or, BitVec.getLsbD_and, BitVec.getLsbD_not, BitVec.getLsbD_ofNat, hm, hv, hi, decide_true, Bool.true_and]
  by_cases a : f.lo ≤ i
  · by_cases b : i < f.lo + f.width
    · have c : i - f.lo < f.width := by omega
      simp [a, b, c]
    · have c : ¬ i - f.lo < f.width := by omega
      simp [a, b, c]
  · simp [a]

theorem of_testBit (f : Field) (w : Word) (i : Nat) : (f.of w).testBit i = (decide (i < f.width) && w.toNat.testBit (i + f.lo)) := by
  unfold Field.of
  rw [Nat.testBit_mod_two_pow, Nat.testBit_div_two_pow]

theorem of_ins_same (f : Field) (w : Word) (v : Nat) (h : f.lo + f.width ≤ 32) : f.of (f.ins w v) = v % 2 ^ f.width := by
  apply Nat.eq_of_testBit_eq
  intro i
  rw [of_testBit, Nat.testBit_mod_two_pow]
  by_cases a : i < f.width
  · rw [ins_testBit _ _ _ _ (by omega)]
    simp [a, show f.lo ≤ i + f.lo by omega, show i + f.lo < f.lo + f.width by omega]
  · simp [a]

theorem of_ins_apart (f g : Field) (w : Word) (v : Nat) (h : g.lo + g.width ≤ 32) (d : g.lo + g.width ≤ f.lo ∨ f.lo + f.width ≤ g.lo) :
    g.of (f.ins w v) = g.of w := by
  apply Nat.eq_of_testBit_eq
  intro i
  rw [of_testBit, of_testBit]
  by_cases a : i < g.width
  · rw [ins_testBit _ _ _ _ (by omega), if_neg (by omega)]
  · simp [a]

/-- A field reads what was put into it, cut to its width. -/
theorem State.get_put_same (s : State) (f : Field) (v : Nat) (h : f.lo + f.width ≤ 32) : (s.put f v).get f = v % 2 ^ f.width := by
  simp only [State.get, State.put, State.reg_setReg_same, of_ins_same f _ v h]

/-- A field of another register is not touched by a put. -/
theorem State.get_put_ne (s : State) (f g : Field) (v : Nat) (h : g.off ≠ f.off) : (s.put f v).get g = s.get g := by
  apply State.get_of_reg; exact s.reg_setReg_ne _ _ _ h

/-- A field of the same register that shares no bit is not touched by a put. -/
theorem State.get_put_apart (s : State) (f g : Field) (v : Nat) (h : g.lo + g.width ≤ 32)
    (d : g.lo + g.width ≤ f.lo ∨ f.lo + f.width ≤ g.lo) : (s.put f v).get g = s.get g := by
  by_cases e : g.off = f.off
  · unfold State.get State.put
    rw [e, State.reg_setReg_same, of_ins_apart f g _ v h d]
  · exact s.get_put_ne f g v e

theorem State.reg_put_ne (s : State) (f : Field) (v o : Nat) (h : o ≠ f.off) : (s.put f v).reg o = s.reg o := s.reg_setReg_ne _ _ _ h

theorem State.reg_put_same (s : State) (f : Field) (v : Nat) : (s.put f v).reg f.off = f.ins (s.reg f.off) v := s.reg_setReg_same _ _

theorem State.raise_eq (s : State) (f : Field) : s.raise f = s.put f 1 := rfl
theorem State.putB_eq (s : State) (f : Field) (b : Bool) : s.putB f b = s.put f (b2n b) := rfl
theorem State.add_eq (s : State) (f : Field) (n : Nat) : s.add f n = s.put f (min (maxOf f.width) (s.get f + n)) := rfl
theorem State.bump_eq (s : State) (f : Field) : s.bump f = s.put f (min (maxOf f.width) (s.get f + 1)) := rfl
theorem State.wrap_eq (s : State) (f : Field) : s.wrap f = s.put f ((s.get f + 1) % 2 ^ f.width) := rfl

@[simp] theorem b2n_true : b2n true = 1 := rfl
@[simp] theorem b2n_false : b2n false = 0 := rfl

/-- The bytes of a word spell the word. -/
theorem leVal_leBytes (n x : Nat) : leVal (leBytes n x) = x % 256 ^ n := by
  induction n generalizing x with
  | zero => simp [leBytes, leVal, Nat.mod_one]
  | succ n ih =>
    simp only [leBytes, leVal, ih, BitVec.toNat_ofNat]
    rw [show (2 ^ 8 : Nat) = 256 from rfl, Nat.pow_succ', Nat.mod_mul]

@[simp] theorem leBytes_length (n x : Nat) : (leBytes n x).length = n := by
  induction n generalizing x with
  | zero => rfl
  | succ n ih => simp [leBytes, ih]

/-- SRAM outside the bytes written reads as before. -/
theorem State.ram_setRamBytes_outside (d : List Byte) : ∀ (s : State) (a i : Nat), i < a ∨ a + d.length ≤ i → (s.setRamBytes a d).ram i = s.ram i := by
  induction d with
  | nil => intros; rfl
  | cons b bs ih =>
    intro s a i h
    simp only [List.length_cons] at h
    rw [State.setRamBytes, ih _ _ _ (by omega), State.ram_setRam_other _ _ (by omega)]

/-- SRAM reads the bytes written. -/
theorem State.ram_setRamBytes_inside (d : List Byte) : ∀ (s : State) (a i : Nat), i < d.length → (s.setRamBytes a d).ram (a + i) = d.getD i 0 := by
  induction d with
  | nil => intro s a i h; simp at h
  | cons b bs ih =>
    intro s a i h
    rw [State.setRamBytes]
    cases i with
    | zero => rw [State.ram_setRamBytes_outside _ _ _ _ (by omega)]; simp
    | succ i =>
      rw [show a + (i + 1) = (a + 1) + i by omega, ih _ _ _ (by simpa using h)]; simp

end Sys2Proof.Machine
end

