-- ==== Sys2Proof/Laws/Settle.lean ====
section
/-! SUPPORT. What settling after a command leaves as it is, and the outcome of a command of a powered device. -/

namespace Sys2Proof.Machine

/-- A powered device answers a command with its effect, settled. -/
theorem act_awake {s : State} (f : State → State) (h : s.off = false) : act s f = .next (settle s (f s)) := by
  unfold act
  rw [h]
  rfl

/-- In Off a command does nothing. -/
theorem act_off {s : State} (f : State → State) (h : s.off = true) : act s f = .next s := by
  unfold act
  rw [h]
  rfl

/-- Settling touches only the MSI-X pending bits, CN_EVENTS, CH_EVENTS, the registers of a latch and SP_FAB_STATUS. -/
theorem settle_reg (s0 s : State) (off : Nat) (h : Nat.testBit 0x8250430000B60 (regPart off) = false) : (settle s0 s).reg off = s.reg off :=
  (settle_touch s0 s).reg off h

theorem settle_get (s0 s : State) (f : Field) (h : Nat.testBit 0x8250430000B60 (regPart f.off) = false) : (settle s0 s).get f = s.get f :=
  State.get_of_reg (settle_reg s0 s f.off h)

theorem settle_flag (s0 s : State) (f : Field) (h : Nat.testBit 0x8250430000B60 (regPart f.off) = false) : (settle s0 s).flag f = s.flag f :=
  State.flag_of_reg (settle_reg s0 s f.off h)

@[simp] theorem settle_part (s0 s : State) : (settle s0 s).part = s.part := (settle_touch s0 s).part (by decide)
@[simp] theorem settle_off (s0 s : State) : (settle s0 s).off = s.off := (settle_touch s0 s).off (by decide)
@[simp] theorem settle_pending (s0 s : State) : (settle s0 s).pending = s.pending := (settle_touch s0 s).pending (by decide)
@[simp] theorem settle_caps (s0 s : State) : (settle s0 s).caps = s.caps := (settle_touch s0 s).caps (by decide)
@[simp] theorem settle_sram (s0 s : State) : (settle s0 s).sram = s.sram := (settle_touch s0 s).sram (by decide)
@[simp] theorem settle_flips (s0 s : State) : (settle s0 s).flips = s.flips := (settle_touch s0 s).flips (by decide)
@[simp] theorem settle_tk (s0 s : State) : (settle s0 s).tk = s.tk := (settle_touch s0 s).tk (by decide)
@[simp] theorem settle_fi (s0 s : State) : (settle s0 s).fi = s.fi := (settle_touch s0 s).fi (by decide)
@[simp] theorem settle_pci (s0 s : State) : (settle s0 s).pci = s.pci := (settle_touch s0 s).pci (by decide)
@[simp] theorem settle_gp (s0 s : State) : (settle s0 s).gp = s.gp := (settle_touch s0 s).gp (by decide)
@[simp] theorem settle_devs (s0 s : State) : (settle s0 s).devs = s.devs := (settle_touch s0 s).devs (by decide)
@[simp] theorem settle_seqs (s0 s : State) : (settle s0 s).seqs = s.seqs := (settle_touch s0 s).seqs (by decide)
@[simp] theorem settle_acc (s0 s : State) : (settle s0 s).acc = s.acc := (settle_touch s0 s).acc (by decide)
@[simp] theorem settle_px (s0 s : State) : (settle s0 s).px = s.px := (settle_touch s0 s).px (by decide)
@[simp] theorem settle_cat (s0 s : State) : (settle s0 s).cat = s.cat := (settle_touch s0 s).cat (by decide)
@[simp] theorem settle_cu (s0 s : State) : (settle s0 s).cu = s.cu := (settle_touch s0 s).cu (by decide)
@[simp] theorem settle_cutoff (s0 s : State) : (settle s0 s).cutoff = s.cutoff := (settle_touch s0 s).cutoff (by decide)
@[simp] theorem settle_built (s0 s : State) : (settle s0 s).built = s.built := (settle_touch s0 s).built (by decide)
@[simp] theorem settle_ga (s0 s : State) : (settle s0 s).ga = s.ga := (settle_touch s0 s).ga (by decide)
@[simp] theorem settle_work (s0 s : State) : (settle s0 s).work = s.work := (settle_touch s0 s).work (by decide)
@[simp] theorem settle_stamps (s0 s : State) : (settle s0 s).stamps = s.stamps := (settle_touch s0 s).stamps (by decide)
@[simp] theorem settle_owed (s0 s : State) : (settle s0 s).owed = s.owed := (settle_touch s0 s).owed (by decide)
@[simp] theorem settle_mv (s0 s : State) : (settle s0 s).mv = s.mv := (settle_touch s0 s).mv (by decide)
@[simp] theorem settle_mvLast (s0 s : State) : (settle s0 s).mvLast = s.mvLast := (settle_touch s0 s).mvLast (by decide)
@[simp] theorem settle_co (s0 s : State) : (settle s0 s).co = s.co := (settle_touch s0 s).co (by decide)
@[simp] theorem settle_ch (s0 s : State) : (settle s0 s).ch = s.ch := (settle_touch s0 s).ch (by decide)
@[simp] theorem settle_fuses (s0 s : State) : (settle s0 s).fuses = s.fuses := (settle_touch s0 s).fuses (by decide)
@[simp] theorem settle_jtag (s0 s : State) : (settle s0 s).jtag = s.jtag := (settle_touch s0 s).jtag (by decide)

@[simp] theorem settle_ram (s0 s : State) (a : Nat) : (settle s0 s).ram a = s.ram a := by
  unfold State.ram
  rw [settle_sram]

end Sys2Proof.Machine
end

