-- ==== Sys2Proof/Laws/Commands.lean ====
section
/-! SUPPORT. The register a command writes: a request of the manager reaches the effect of that register's write, and nothing else. -/

namespace Sys2Proof.Machine

theorem State.speaker_manager {s : State} {q : Req} (h : s.managerReq q = true) (off : Nat) : s.speaker q off = some 0 := by
  unfold State.managerReq at h
  unfold State.speaker
  cases q with
  | none => rfl
  | some p =>
    have h' : s.pasidGal p = some 0 := eq_of_beq h
    simp only [h']

theorem State.touched_awake {s : State} (h : s.power < 2) : s.touched = s := by
  unfold State.touched
  rw [if_neg (by omega)]

theorem regRow_aligned {off : Nat} (h : (regRow off).isSome = true) : off % 4 = 0 := by
  by_cases e : off % 4 = 0
  · exact e
  · unfold regRow at h
    rw [if_pos e] at h
    cases h

/-- A manager's write of a register that the part has is that register's write. -/
theorem State.hostWrite_manager {s : State} {q : Req} {off : Nat} (w : Word) (h : s.Manages q) (hr : (regRow off).isSome = true)
    (ha : s.absent off = false) : s.hostWrite q off w = s.regWrite 0 off w := by
  obtain ⟨⟨_, hp⟩, hh, hm⟩ := h
  have h4 := regRow_aligned hr
  have hn : (regRow off).isNone = false := by cases e : regRow off with
    | none => rw [e] at hr; cases hr
    | some r => rfl
  unfold State.hostWrite State.bar0Write
  rw [if_neg (by omega)]
  simp only [leBytes_length, h4, decide_true, Bool.and_self, if_true, State.touched_awake hp, leVal_leBytes]
  unfold State.barWord
  simp only [State.speaker_manager hm, ha, hn, hh, Bool.or_self, Bool.false_eq_true, if_false, if_true]
  congr 1
  apply BitVec.eq_of_toNat_eq
  simp only [BitVec.toNat_ofNat]
  have := w.isLt
  omega

/-- A command of the manager that is a register write: its outcome. -/
theorem State.command_manager {s : State} {q : Req} {off : Nat} (w set clr : Word) (h : s.Manages q) (hr : (regRow off).isSome = true)
    (ha : s.absent off = false) :
    act s (fun s => s.command q off w set clr) = .next (settle s (s.regWrite 0 off ((w &&& ~~~ clr) ||| set))) := by
  rw [act_awake _ h.1.1]
  unfold State.command
  rw [State.hostWrite_manager _ h hr ha]

/-- A register outside the port pages 4 to 7, the Span ports 2 and 3 and the twin is on both parts. -/
theorem State.absent_low {s : State} {off : Nat} (h : off < 0x8110)
    (k : off ∉ [R.fiCfg 0x12, R.fiCnt 0x12, R.fiInjCtrl 0x12, R.fiInjAddr 0x12]) : s.absent off = false := by
  have e : [R.fiCfg 0x12, R.fiCnt 0x12, R.fiInjCtrl 0x12, R.fiInjAddr 0x12].contains off = false := by
    rw [← Bool.not_eq_true, List.contains_iff_mem]
    exact k
  unfold State.absent
  simp only [e, Bool.and_eq_false_iff, Bool.or_eq_false_iff, decide_eq_false_iff_not, and_true]
  right
  omega

theorem State.absent_port {s : State} {n off : Nat} (h : n < s.nPorts) (h1 : 0x20000 + 0x4000 * n ≤ off) (h2 : off < 0x24000 + 0x4000 * n) :
    s.absent off = false := by
  have e : [R.fiCfg 0x12, R.fiCnt 0x12, R.fiInjCtrl 0x12, R.fiInjAddr 0x12].contains off = false := by
    rw [← Bool.not_eq_true, List.contains_iff_mem]
    simp only [R.fiCfg, R.fiCnt, R.fiInjCtrl, R.fiInjAddr, List.mem_cons, List.not_mem_nil, or_false]
    omega
  unfold State.absent
  unfold State.nPorts at h
  cases p : s.part with
  | vx4880 => rfl
  | vx4840 =>
    simp only [p] at h
    simp only [e, Bool.and_eq_false_iff, Bool.or_eq_false_iff, decide_eq_false_iff_not, and_true]
    right
    omega

/-! ### The block of a register -/

/-- Only an injection point's instance, the summary enables, a trigger's source, a Span route, the shared source enables and a context's binding
select a port, link or source of the part (R3). -/
theorem State.partWord_eq (s : State) {off : Nat} (old x : Word)
    (h : off < 0x4000 ∨ (0x5000 ≤ off ∧ off < 0x5200) ∨ (0x5400 ≤ off ∧ off < 0xC400) ∨ (0xC500 ≤ off ∧ off < 0xE300) ∨
      (0xE318 ≤ off ∧ off < 0x40000) ∨ 0x80000 ≤ off) :
    s.partWord off old x = x := by
  unfold State.partWord
  split
  · rfl
  · rw [if_neg (by simp only [Bool.and_eq_true, decide_eq_true_eq]; omega), if_neg (by simp only [Bool.and_eq_true, decide_eq_true_eq]; omega),
      if_neg (by simp only [Bool.and_eq_true, decide_eq_true_eq]; omega), if_neg (by unfold R.fiSummaryEn; omega),
      if_neg (by simp only [Bool.and_eq_true, decide_eq_true_eq]; omega), if_neg (by simp only [Bool.and_eq_true, decide_eq_true_eq]; omega)]

/-- A part with every port keeps what is written. -/
theorem State.partWord_full {s : State} (off : Nat) (old x : Word) (h : s.part = .vx4880) : s.partWord off old x = x := by
  unfold State.partWord
  rw [h]
  rfl

theorem State.regWrite_tk (s : State) (who : Nat) {off : Nat} (w : Word) (h1 : 0x1000 ≤ off) (h2 : off < 0x2000) :
    s.regWrite who off w = s.writeTk off w (plainWord off (s.reg off) w) := by
  unfold State.regWrite
  dsimp only
  rw [s.partWord_eq _ _ (by omega)]
  rw [if_neg (show off ≠ R.idCtrl by unfold R.idCtrl; omega)]
  repeat' (first | rw [if_pos h2] | rw [if_neg (by omega)])

theorem State.regWrite_cn (s : State) (who : Nat) {off : Nat} (w : Word) (h1 : 0x2000 ≤ off) (h2 : off < 0x3000) :
    s.regWrite who off w = s.writeCn off w (plainWord off (s.reg off) w) := by
  unfold State.regWrite
  dsimp only
  rw [s.partWord_eq _ _ (by omega)]
  rw [if_neg (show off ≠ R.idCtrl by unfold R.idCtrl; omega)]
  repeat' (first | rw [if_pos h2] | rw [if_neg (by omega)])

theorem State.regWrite_ch (s : State) (who : Nat) {off : Nat} (w : Word) (h1 : 0x3000 ≤ off) (h2 : off < 0x4000) :
    s.regWrite who off w = (if off = R.chCtrl then s.writeChCtrl w else s.setReg off (plainWord off (s.reg off) w)) := by
  unfold State.regWrite
  dsimp only
  rw [s.partWord_eq _ _ (by omega)]
  rw [if_neg (show off ≠ R.idCtrl by unfold R.idCtrl; omega)]
  repeat' (first | rw [if_pos h2] | rw [if_neg (by omega)])

theorem State.regWrite_fi (s : State) (who : Nat) {off : Nat} (w : Word) (h1 : 0x4000 ≤ off) (h2 : off < 0x5000) :
    s.regWrite who off w = s.writeFi off w (s.partWord off (s.reg off) (plainWord off (s.reg off) w)) := by
  unfold State.regWrite
  dsimp only
  rw [if_neg (show off ≠ R.idCtrl by unfold R.idCtrl; omega)]
  repeat' (first | rw [if_pos h2] | rw [if_neg (by omega)])

theorem State.regWrite_rg (s : State) (who : Nat) {off : Nat} (w : Word) (h1 : 0x5000 ≤ off) (h2 : off < 0x6000) :
    s.regWrite who off w = s.writeRg off w (s.partWord off (s.reg off) (plainWord off (s.reg off) w)) := by
  unfold State.regWrite
  dsimp only
  rw [if_neg (show off ≠ R.idCtrl by unfold R.idCtrl; omega)]
  repeat' (first | rw [if_pos h2] | rw [if_neg (by omega)])

theorem State.regWrite_cu (s : State) (who : Nat) {off : Nat} (w : Word) (h1 : 0x8000 ≤ off) (h2 : off < 0x9000) :
    s.regWrite who off w = s.writeCu off w (plainWord off (s.reg off) w) := by
  unfold State.regWrite
  dsimp only
  rw [s.partWord_eq _ _ (by omega)]
  rw [if_neg (show off ≠ R.idCtrl by unfold R.idCtrl; omega)]
  repeat' (first | rw [if_pos h2] | rw [if_neg (by omega)])

theorem State.regWrite_mv (s : State) (who : Nat) {off : Nat} (w : Word) (h1 : 0x9000 ≤ off) (h2 : off < 0xa000) :
    s.regWrite who off w = s.writeMv off w (plainWord off (s.reg off) w) := by
  unfold State.regWrite
  dsimp only
  rw [s.partWord_eq _ _ (by omega)]
  rw [if_neg (show off ≠ R.idCtrl by unfold R.idCtrl; omega)]
  repeat' (first | rw [if_pos h2] | rw [if_neg (by omega)])

theorem State.regWrite_co (s : State) (who : Nat) {off : Nat} (w : Word) (h1 : 0xa000 ≤ off) (h2 : off < 0xc000) :
    s.regWrite who off w = s.writeCo off w (plainWord off (s.reg off) w) := by
  unfold State.regWrite
  dsimp only
  rw [s.partWord_eq _ _ (by omega)]
  rw [if_neg (show off ≠ R.idCtrl by unfold R.idCtrl; omega)]
  repeat' (first | rw [if_pos h2] | rw [if_neg (by omega)])

theorem State.regWrite_sp (s : State) (who : Nat) {off : Nat} (w : Word) (h1 : 0xc000 ≤ off) (h2 : off < 0xd000) :
    s.regWrite who off w = s.writeSp off w (s.partWord off (s.reg off) (plainWord off (s.reg off) w)) := by
  unfold State.regWrite
  dsimp only
  rw [if_neg (show off ≠ R.idCtrl by unfold R.idCtrl; omega)]
  repeat' (first | rw [if_pos h2] | rw [if_neg (by omega)])

theorem State.regWrite_tw (s : State) (who : Nat) {off : Nat} (w : Word) (h1 : 0xd000 ≤ off) (h2 : off < 0xe000) :
    s.regWrite who off w = s.writeTw off w (plainWord off (s.reg off) w) := by
  unfold State.regWrite
  dsimp only
  rw [s.partWord_eq _ _ (by omega)]
  rw [if_neg (show off ≠ R.idCtrl by unfold R.idCtrl; omega)]
  repeat' (first | rw [if_pos h2] | rw [if_neg (by omega)])

theorem State.regWrite_sh (s : State) (who : Nat) {off : Nat} (w : Word) (h1 : 0xe000 ≤ off) (h2 : off < 0xf000) :
    s.regWrite who off w = s.writeSh off w (s.partWord off (s.reg off) (plainWord off (s.reg off) w)) := by
  unfold State.regWrite
  dsimp only
  rw [if_neg (show off ≠ R.idCtrl by unfold R.idCtrl; omega)]
  repeat' (first | rw [if_pos h2] | rw [if_neg (by omega)])

theorem State.regWrite_ga (s : State) (who : Nat) {off : Nat} (w : Word) (h1 : 0x10000 ≤ off) (h2 : off < 0x20000) :
    s.regWrite who off w = s.writeGa (off / 0x1000 - 0x10) off who w (plainWord off (s.reg off) w) := by
  unfold State.regWrite
  dsimp only
  rw [s.partWord_eq _ _ (by omega)]
  rw [if_neg (show off ≠ R.idCtrl by unfold R.idCtrl; omega)]
  repeat' (first | rw [if_pos h2] | rw [if_neg (by omega)])

theorem State.regWrite_gp (s : State) (who : Nat) {off : Nat} (w : Word) (h1 : 0x20000 ≤ off) (h2 : off < 0x40000) :
    s.regWrite who off w = s.writeGp ((off - 0x20000) / 0x4000) off w (plainWord off (s.reg off) w) := by
  unfold State.regWrite
  dsimp only
  rw [s.partWord_eq _ _ (by omega)]
  rw [if_neg (show off ≠ R.idCtrl by unfold R.idCtrl; omega)]
  repeat' (first | rw [if_pos h2] | rw [if_neg (by omega)])

theorem State.regWrite_px (s : State) (who : Nat) {off : Nat} (w : Word) (h1 : 0x40000 ≤ off) (h2 : off < 0x80000) :
    s.regWrite who off w = s.writePx ((off - 0x40000) / 0x80) off w (s.partWord off (s.reg off) (plainWord off (s.reg off) w)) := by
  unfold State.regWrite
  dsimp only
  rw [if_neg (show off ≠ R.idCtrl by unfold R.idCtrl; omega)]
  repeat' (first | rw [if_pos h2] | rw [if_neg (by omega)])

/-- The registers of the rows that write one register of a set exist. -/
theorem regRow_port (n : Fin 8) :
    (regRow (R.gpLinkCtrl n)).isSome ∧ (regRow (R.gpCutRelease n)).isSome ∧ (regRow (R.gpAccCtrl n)).isSome ∧ (regRow (R.gpAccReset n)).isSome ∧
    (regRow (R.gpAccUnbind n)).isSome ∧ (regRow (R.gpAccRetry n)).isSome ∧ (regRow (R.gpCntClear n)).isSome ∧ (regRow (R.gpXactClear n)).isSome := by
  revert n
  decide +kernel

theorem regRow_context (c : Fin 2048) : (regRow (R.pxCtrl c)).isSome := by
  revert c
  decide +kernel

end Sys2Proof.Machine
end

