-- ==== Sys2Proof/Laws/FrameFaults.lean ====
section
/-! SUPPORT. What each operation of Machine/Faults.lean touches: the parts of its set (Laws/Touch.lean), and nothing else. -/

set_option linter.unusedSimpArgs false
set_option linter.unusedVariables false
set_option Elab.async false

namespace Sys2Proof.Machine

theorem State.disarm_touch (s : State) : Touch 0x3FFF00000000000 s (State.disarm s) := by
  unfold State.disarm
  try dsimp only
  repeat' first
    | (show sub _ _ = true; decide +kernel)
    | with_reducible assumption
    | with_reducible exact Touch.refl _
    | with_reducible apply Touch.to (State.put_touch ..)
    | with_reducible refine Touch.forEach ?_ (fun _ _ _ => ?_)
    | (refine up_4000 ?_ (by decide +kernel); simp only [F.fiInjCtrl_mode, R.fiInjCtrl]; omega)
    | dsimp only

theorem State.fiClearAll_touch (s : State) : Touch 0x3FFF00000000400 s (State.fiClearAll s) := by
  unfold State.fiClearAll
  try dsimp only
  repeat' first
    | (show sub _ _ = true; decide +kernel)
    | (show State.sizesOk _ = true → _; first | with_reducible exact id | (intro hz; simp only [State.sizesOk, listSet_length, List.length_map, List.length_replicate] at hz ⊢; first | exact hz | (rw [sizesOf_iff] at hz ⊢; and_intros <;> first | rfl | exact hz.1 | exact hz.2.1 | exact hz.2.2.1 | exact hz.2.2.2.1 | exact hz.2.2.2.2.1 | exact hz.2.2.2.2.2.1 | exact hz.2.2.2.2.2.2)))
    | (show _ ∧ _; and_intros <;> first | (apply Or.inl; decide +kernel) | (apply Or.inr; with_reducible rfl))
    | with_reducible assumption
    | with_reducible exact Touch.refl _
    | with_reducible apply Touch.to (State.setReg_touch ..)
    | with_reducible apply Touch.to (State.put_touch ..)
    | with_reducible refine Touch.forEach ?_ (fun _ _ _ => ?_)
    | (refine up_4000 ?_ (by decide +kernel); simp only [R.fiCnt, R.fiLog0]; omega)
    | dsimp only
    | with_reducible refine Touch.mk' ?_ rfl rfl ?_ ?_

theorem State.fiClearFirst_touch (s : State) : Touch 0x3FFF00000000000 s (State.fiClearFirst s) := by
  unfold State.fiClearFirst
  try dsimp only
  repeat' first
    | (show sub _ _ = true; decide +kernel)
    | with_reducible exact Touch.refl _
    | with_reducible apply Touch.setRegs
    | (first | (refine up_4000 ?_ (by decide +kernel); omega) | (intro j hj; refine up_4000 ?_ (by decide +kernel); refine Nat.le_trans ?_ hj; decide))
    | dsimp only

theorem State.fiLock_touch (s : State) : Touch 0x3FFF00000000400 s (State.fiLock s) := by
  unfold State.fiLock
  try dsimp only
  repeat' first
    | (show sub _ _ = true; decide +kernel)
    | (show State.sizesOk _ = true → _; first | with_reducible exact id | (intro hz; simp only [State.sizesOk, listSet_length, List.length_map, List.length_replicate] at hz ⊢; first | exact hz | (rw [sizesOf_iff] at hz ⊢; and_intros <;> first | rfl | exact hz.1 | exact hz.2.1 | exact hz.2.2.1 | exact hz.2.2.2.1 | exact hz.2.2.2.2.1 | exact hz.2.2.2.2.2.1 | exact hz.2.2.2.2.2.2)))
    | (show _ ∧ _; and_intros <;> first | (apply Or.inl; decide +kernel) | (apply Or.inr; with_reducible rfl))
    | with_reducible exact Touch.refl _
    | with_reducible apply Touch.to (State.put_touch ..)
    | with_reducible apply Touch.to (State.disarm_touch ..)
    | dsimp only
    | with_reducible refine Touch.mk' ?_ rfl rfl ?_ ?_

theorem State.fiRelease_touch (s : State) : Touch 0x100000000020 s (State.fiRelease s) := by
  unfold State.fiRelease
  try dsimp only
  repeat' first
    | (show sub _ _ = true; decide +kernel)
    | with_reducible exact Touch.refl _
    | with_reducible apply Touch.to (State.setReg_touch ..)
    | with_reducible apply Touch.to (State.emit_touch ..)
    | with_reducible refine Touch.ite ?_ ?_
    | split
    | dsimp only

theorem State.writeUnlock_touch (s : State) (w : Word) : Touch 0x3FFF00000000400 s (State.writeUnlock s w) := by
  unfold State.writeUnlock
  try dsimp only
  repeat' first
    | (show sub _ _ = true; decide +kernel)
    | (show State.sizesOk _ = true → _; first | with_reducible exact id | (intro hz; simp only [State.sizesOk, listSet_length, List.length_map, List.length_replicate] at hz ⊢; first | exact hz | (rw [sizesOf_iff] at hz ⊢; and_intros <;> first | rfl | exact hz.1 | exact hz.2.1 | exact hz.2.2.1 | exact hz.2.2.2.1 | exact hz.2.2.2.2.1 | exact hz.2.2.2.2.2.1 | exact hz.2.2.2.2.2.2)))
    | (show _ ∧ _; and_intros <;> first | (apply Or.inl; decide +kernel) | (apply Or.inr; with_reducible rfl))
    | with_reducible exact Touch.refl _
    | with_reducible apply Touch.to (State.fiLock_touch ..)
    | with_reducible apply Touch.to (State.put_touch ..)
    | with_reducible refine Touch.ite ?_ ?_
    | split
    | dsimp only
    | with_reducible refine Touch.mk' ?_ rfl rfl ?_ ?_

theorem State.writeInj_touch (s : State) (off : Nat) (plain : Word) : Touch 0x3FFFFFC00000000 s (State.writeInj s off plain) := by
  unfold State.writeInj
  try dsimp only
  repeat' first
    | (show sub _ _ = true; decide +kernel)
    | with_reducible exact Touch.refl _
    | with_reducible apply Touch.to (State.raise_touch ..)
    | with_reducible apply Touch.to (State.setReg_touch ..)
    | with_reducible refine Touch.ite ?_ ?_
    | (exact up_0 (Nat.zero_le _) (by decide +kernel))
    | split
    | dsimp only

theorem State.writeFi_touch (s : State) (off : Nat) (w : Word) (plain : Word) : Touch 0x3FFFFFC00000420 s (State.writeFi s off w plain) := by
  unfold State.writeFi
  try dsimp only
  repeat' first
    | (show sub _ _ = true; decide +kernel)
    | with_reducible exact Touch.refl _
    | with_reducible apply Touch.to (State.writeUnlock_touch ..)
    | with_reducible apply Touch.to (State.fiRelease_touch ..)
    | with_reducible apply Touch.to (State.fiClearAll_touch ..)
    | with_reducible apply Touch.to (State.fiClearFirst_touch ..)
    | with_reducible apply Touch.to (State.setReg_touch ..)
    | with_reducible apply Touch.to (State.writeInj_touch ..)
    | with_reducible refine Touch.ite ?_ ?_
    | (exact up_0 (Nat.zero_le _) (by decide +kernel))
    | split
    | dsimp only

theorem execHandshakeStall_touch (blk : Fin 24) (ring : Nat) (s : State) : ∃ u, execHandshakeStall blk ring s = .next u ∧ Touch 0x18350430000F60 s u := by
  unfold execHandshakeStall
  refine act_touch s _ (by decide +kernel) ?_
  try dsimp only
  repeat' first
    | (show sub _ _ = true; decide +kernel)
    | with_reducible exact Touch.refl _
    | with_reducible apply Touch.to (State.inject_touch ..)
    | with_reducible apply Touch.to (State.detect_touch ..)
    | with_reducible refine Touch.ite ?_ ?_
    | (show _ < 32; decide)
    | split
    | dsimp only

end Sys2Proof.Machine
end

