-- ==== Sys2Proof/Laws/FrameGliys.lean ====
section
/-! SUPPORT. What each operation of Machine/Gliys.lean touches: the parts of its set (Laws/Touch.lean), and nothing else. -/

set_option linter.unusedSimpArgs false
set_option linter.unusedVariables false
set_option Elab.async false

namespace Sys2Proof.Machine

theorem State.accPop_touch (s : State) : Touch 0x1000000010000 s (State.accPop s) := by
  unfold State.accPop
  try dsimp only
  repeat' first
    | (show sub _ _ = true; decide +kernel)
    | (show State.sizesOk _ = true → _; first | with_reducible exact id | (intro hz; simp only [State.sizesOk, listSet_length, List.length_map, List.length_replicate] at hz ⊢; first | exact hz | (rw [sizesOf_iff] at hz ⊢; and_intros <;> first | rfl | exact hz.1 | exact hz.2.1 | exact hz.2.2.1 | exact hz.2.2.2.1 | exact hz.2.2.2.2.1 | exact hz.2.2.2.2.2.1 | exact hz.2.2.2.2.2.2)))
    | (show _ ∧ _; and_intros <;> first | (apply Or.inl; decide +kernel) | (apply Or.inr; with_reducible rfl))
    | with_reducible exact Touch.refl _
    | with_reducible apply Touch.to (State.put_touch ..)
    | split
    | dsimp only
    | with_reducible refine Touch.mk' ?_ rfl rfl ?_ ?_

theorem State.accRecord_touch (s : State) (n : Nat) (addr : Nat) (kind : Nat) (parent : Nat) (pport : Nat) (time : Nat) (quality : Nat) (detail : Nat) : Touch 0x1000000010000 s (State.accRecord s n addr kind parent pport time quality detail) := by
  unfold State.accRecord
  try dsimp only
  repeat' first
    | (show sub _ _ = true; decide +kernel)
    | (show State.sizesOk _ = true → _; first | with_reducible exact id | (intro hz; simp only [State.sizesOk, listSet_length, List.length_map, List.length_replicate] at hz ⊢; first | exact hz | (rw [sizesOf_iff] at hz ⊢; and_intros <;> first | rfl | exact hz.1 | exact hz.2.1 | exact hz.2.2.1 | exact hz.2.2.2.1 | exact hz.2.2.2.2.1 | exact hz.2.2.2.2.2.1 | exact hz.2.2.2.2.2.2)))
    | (show _ ∧ _; and_intros <;> first | (apply Or.inl; decide +kernel) | (apply Or.inr; with_reducible rfl))
    | with_reducible exact Touch.refl _
    | with_reducible apply Touch.to (State.bump_touch ..)
    | with_reducible apply Touch.to (State.put_touch ..)
    | with_reducible refine Touch.ite ?_ ?_
    | split
    | dsimp only
    | with_reducible refine Touch.mk' ?_ rfl rfl ?_ ?_

theorem State.setSeq_touch (s : State) (n : Nat) (a : Nat) (p : Nat) (v : Nat) : Touch 0x8000 s (State.setSeq s n a p v) := by
  unfold State.setSeq
  try dsimp only
  repeat' first
    | (show sub _ _ = true; decide +kernel)
    | (show State.sizesOk _ = true → _; first | with_reducible exact id | (intro hz; simp only [State.sizesOk, listSet_length, List.length_map, List.length_replicate] at hz ⊢; first | exact hz | (rw [sizesOf_iff] at hz ⊢; and_intros <;> first | rfl | exact hz.1 | exact hz.2.1 | exact hz.2.2.1 | exact hz.2.2.2.1 | exact hz.2.2.2.2.1 | exact hz.2.2.2.2.2.1 | exact hz.2.2.2.2.2.2)))
    | (show _ ∧ _; and_intros <;> first | (apply Or.inl; decide +kernel) | (apply Or.inr; with_reducible rfl))
    | with_reducible exact Touch.refl _
    | dsimp only
    | with_reducible refine Touch.mk' ?_ rfl rfl ?_ ?_

theorem State.clearSeqs_touch (s : State) (n : Nat) (a : Nat) : Touch 0x8000 s (State.clearSeqs s n a) := by
  unfold State.clearSeqs
  try dsimp only
  repeat' first
    | (show sub _ _ = true; decide +kernel)
    | with_reducible assumption
    | with_reducible exact Touch.refl _
    | with_reducible apply Touch.to (State.setSeq_touch ..)
    | with_reducible refine Touch.forEach ?_ (fun _ _ _ => ?_)
    | dsimp only

theorem State.devRecord_touch (s : State) (n : Nat) (a : Nat) (kind : Nat) (detail : Nat) : Touch 0x1000000010000 s (State.devRecord s n a kind detail) := by
  unfold State.devRecord
  try dsimp only
  repeat' first
    | (show sub _ _ = true; decide +kernel)
    | with_reducible exact Touch.refl _
    | with_reducible apply Touch.to (State.accRecord_touch ..)
    | dsimp only

theorem State.dropCtl_touch (s : State) (n : Nat) (use : CtlFor) (a : Nat) : Touch 0x2000 s (State.dropCtl s n use a) := by
  unfold State.dropCtl
  try dsimp only
  repeat' first
    | (show sub _ _ = true; decide +kernel)
    | with_reducible exact Touch.refl _
    | with_reducible apply Touch.to (State.modPort_touch ..)
    | dsimp only

theorem State.sendAt_touch (s : State) (n : Nat) (d : Nat) (h : Hdr) (pl : List Byte) (good : Bool) (use : XUse) (room : Nat) (slot : Nat) : Touch 0x2020 s (State.sendAt s n d h pl good use room slot) := by
  unfold State.sendAt
  try dsimp only
  repeat' first
    | (show sub _ _ = true; decide +kernel)
    | with_reducible exact Touch.refl _
    | with_reducible apply Touch.to (State.modPort_touch ..)
    | with_reducible apply Touch.to (State.emit_touch ..)
    | with_reducible refine Touch.ite ?_ ?_
    | split
    | dsimp only

theorem State.sendNow_touch (s : State) (n : Nat) (h : Hdr) (pl : List Byte) (use : XUse) (room : Nat) (slot : Nat) (good : Bool) : Touch 0x2020 s (State.sendNow s n h pl use room slot good).2 := by
  unfold State.sendNow
  try dsimp only
  repeat' first
    | (show sub _ _ = true; decide +kernel)
    | with_reducible exact Touch.refl _
    | with_reducible apply Touch.to (State.sendAt_touch ..)
    | with_reducible refine Touch.ite ?_ ?_
    | split
    | dsimp only

theorem State.serve_touch (s : State) (n : Nat) (x : Svc) : Touch 0x2000 s (State.serve s n x) := by
  unfold State.serve
  try dsimp only
  repeat' first
    | (show sub _ _ = true; decide +kernel)
    | with_reducible exact Touch.refl _
    | with_reducible apply Touch.to (State.modPort_touch ..)
    | dsimp only

theorem State.startCtl_touch (s : State) (n : Nat) (a : Nat) (use : CtlFor) (setup : List Byte) : Touch 0x2000 s (State.startCtl s n a use setup) := by
  unfold State.startCtl
  try dsimp only
  repeat' first
    | (show sub _ _ = true; decide +kernel)
    | with_reducible exact Touch.refl _
    | with_reducible apply Touch.to (State.serve_touch ..)
    | with_reducible apply Touch.to (State.modPort_touch ..)
    | dsimp only

theorem State.setHubPort_touch (s : State) (n : Nat) (a : Nat) (p : Nat) (code : Nat) (use : CtlFor) : Touch 0x2000 s (State.setHubPort s n a p code use) := by
  unfold State.setHubPort
  try dsimp only
  repeat' first
    | (show sub _ _ = true; decide +kernel)
    | with_reducible exact Touch.refl _
    | with_reducible apply Touch.to (State.startCtl_touch ..)
    | dsimp only

end Sys2Proof.Machine
end

