-- ==== Sys2Proof/Laws/FrameDma.lean ====
section
/-! SUPPORT. What each operation of Machine/Dma.lean touches: the parts of its set (Laws/Touch.lean), and nothing else. -/

set_option linter.unusedSimpArgs false
set_option linter.unusedVariables false
set_option Elab.async false

namespace Sys2Proof.Machine

theorem State.aerLog_touch (s : State) (k : Nat) : Touch 0x1040 s (State.aerLog s k) := by
  unfold State.aerLog
  try dsimp only
  repeat' first
    | (show sub _ _ = true; decide +kernel)
    | (show State.sizesOk _ = true → _; first | with_reducible exact id | (intro hz; simp only [State.sizesOk, listSet_length, List.length_map, List.length_replicate] at hz ⊢; first | exact hz | (rw [sizesOf_iff] at hz ⊢; and_intros <;> first | rfl | exact hz.1 | exact hz.2.1 | exact hz.2.2.1 | exact hz.2.2.2.1 | exact hz.2.2.2.2.1 | exact hz.2.2.2.2.2.1 | exact hz.2.2.2.2.2.2)))
    | (show _ ∧ _; and_intros <;> first | (apply Or.inl; decide +kernel) | (apply Or.inr; with_reducible rfl))
    | with_reducible exact Touch.refl _
    | with_reducible apply Touch.to (State.drawBytes_touch ..)
    | with_reducible refine Touch.ite ?_ ?_
    | split
    | dsimp only
    | with_reducible refine Touch.mk' ?_ rfl rfl ?_ ?_

theorem State.postWrite_touch (s : State) (g : Nat) (tc : Nat) (a : Nat) (d : List Byte) : Touch 0x20 s (State.postWrite s g tc a d) := by
  unfold State.postWrite
  try dsimp only
  repeat' first
    | (show sub _ _ = true; decide +kernel)
    | with_reducible assumption
    | with_reducible exact Touch.refl _
    | with_reducible apply Touch.to (State.emit_touch ..)
    | with_reducible refine Touch.foldl ?_ (fun _ _ _ => ?_)
    | with_reducible refine Touch.foldl_fst ?_ (fun _ _ _ => ?_)
    | with_reducible refine Touch.foldl_snd ?_ (fun _ _ _ => ?_)
    | dsimp only

theorem State.issueRead_touch (s : State) (g : Nat) (tc : Nat) (who : Reader) (a : Nat) (len : Nat) : Touch 0x1020 s (State.issueRead s g tc who a len) := by
  unfold State.issueRead
  try dsimp only
  repeat' first
    | (show sub _ _ = true; decide +kernel)
    | (show State.sizesOk _ = true → _; first | with_reducible exact id | (intro hz; simp only [State.sizesOk, listSet_length, List.length_map, List.length_replicate] at hz ⊢; first | exact hz | (rw [sizesOf_iff] at hz ⊢; and_intros <;> first | rfl | exact hz.1 | exact hz.2.1 | exact hz.2.2.1 | exact hz.2.2.2.1 | exact hz.2.2.2.2.1 | exact hz.2.2.2.2.2.1 | exact hz.2.2.2.2.2.2)))
    | (show _ ∧ _; and_intros <;> first | (apply Or.inl; decide +kernel) | (apply Or.inr; with_reducible rfl))
    | with_reducible assumption
    | with_reducible exact Touch.refl _
    | with_reducible apply Touch.to (State.emit_touch ..)
    | with_reducible refine Touch.foldl ?_ (fun _ _ _ => ?_)
    | with_reducible refine Touch.foldl_fst ?_ (fun _ _ _ => ?_)
    | with_reducible refine Touch.foldl_snd ?_ (fun _ _ _ => ?_)
    | dsimp only
    | with_reducible refine Touch.mk' ?_ rfl rfl ?_ ?_

theorem State.hostOp_touch (s : State) (g : Nat) (a : Nat) (o : HostOp) : Touch 0x2001020 s (State.hostOp s g a o) := by
  unfold State.hostOp
  try dsimp only
  repeat' first
    | (show sub _ _ = true; decide +kernel)
    | (show State.sizesOk _ = true → _; first | with_reducible exact id | (intro hz; simp only [State.sizesOk, listSet_length, List.length_map, List.length_replicate] at hz ⊢; first | exact hz | (rw [sizesOf_iff] at hz ⊢; and_intros <;> first | rfl | exact hz.1 | exact hz.2.1 | exact hz.2.2.1 | exact hz.2.2.2.1 | exact hz.2.2.2.2.1 | exact hz.2.2.2.2.2.1 | exact hz.2.2.2.2.2.2)))
    | (show _ ∧ _; and_intros <;> first | (apply Or.inl; decide +kernel) | (apply Or.inr; with_reducible rfl))
    | with_reducible exact Touch.refl _
    | with_reducible apply Touch.to (State.postWrite_touch ..)
    | with_reducible apply Touch.to (State.issueRead_touch ..)
    | with_reducible refine Touch.ite ?_ ?_
    | split
    | dsimp only
    | with_reducible refine Touch.mk' ?_ rfl rfl ?_ ?_

theorem State.dmaRead_touch (s : State) (g : Nat) (tc : Nat) (who : Reader) (a : Nat) (len : Nat) : Touch 0x2001020 s (State.dmaRead s g tc who a len) := by
  unfold State.dmaRead
  try dsimp only
  repeat' first
    | (show sub _ _ = true; decide +kernel)
    | with_reducible exact Touch.refl _
    | with_reducible apply Touch.to (State.hostOp_touch ..)
    | dsimp only

theorem State.dmaWrite_touch (s : State) (g : Nat) (a : Nat) (d : List Byte) : Touch 0x2001020 s (State.dmaWrite s g a d) := by
  unfold State.dmaWrite
  try dsimp only
  repeat' first
    | (show sub _ _ = true; decide +kernel)
    | with_reducible exact Touch.refl _
    | with_reducible apply Touch.to (State.hostOp_touch ..)
    | dsimp only

theorem State.flushOwed_touch (s : State) : Touch 0x2001020 s (State.flushOwed s) := by
  unfold State.flushOwed
  try dsimp only
  repeat' first
    | (show sub _ _ = true; decide +kernel)
    | (show State.sizesOk _ = true → _; first | with_reducible exact id | (intro hz; simp only [State.sizesOk, listSet_length, List.length_map, List.length_replicate] at hz ⊢; first | exact hz | (rw [sizesOf_iff] at hz ⊢; and_intros <;> first | rfl | exact hz.1 | exact hz.2.1 | exact hz.2.2.1 | exact hz.2.2.2.1 | exact hz.2.2.2.2.1 | exact hz.2.2.2.2.2.1 | exact hz.2.2.2.2.2.2)))
    | (show _ ∧ _; and_intros <;> first | (apply Or.inl; decide +kernel) | (apply Or.inr; with_reducible rfl))
    | with_reducible assumption
    | with_reducible exact Touch.refl _
    | with_reducible apply Touch.to (State.hostOp_touch ..)
    | with_reducible refine Touch.ite ?_ ?_
    | with_reducible refine Touch.forEach ?_ (fun _ _ _ => ?_)
    | split
    | dsimp only
    | with_reducible refine Touch.mk' ?_ rfl rfl ?_ ?_

theorem State.readDone_touch (s : State) (who : Reader) : Touch 0x2001020 s (State.readDone s who) := by
  unfold State.readDone
  try dsimp only
  repeat' first
    | (show sub _ _ = true; decide +kernel)
    | (show State.sizesOk _ = true → _; first | with_reducible exact id | (intro hz; simp only [State.sizesOk, listSet_length, List.length_map, List.length_replicate] at hz ⊢; first | exact hz | (rw [sizesOf_iff] at hz ⊢; and_intros <;> first | rfl | exact hz.1 | exact hz.2.1 | exact hz.2.2.1 | exact hz.2.2.2.1 | exact hz.2.2.2.2.1 | exact hz.2.2.2.2.2.1 | exact hz.2.2.2.2.2.2)))
    | (show _ ∧ _; and_intros <;> first | (apply Or.inl; decide +kernel) | (apply Or.inr; with_reducible rfl))
    | with_reducible exact Touch.refl _
    | with_reducible apply Touch.to (State.flushOwed_touch ..)
    | dsimp only
    | with_reducible refine Touch.mk' ?_ rfl rfl ?_ ?_

theorem State.hostData_touch (s0 : State) (who : Reader) (kind : Nat) (r : HostRes) : Touch 0x10300012001E60 s0 (State.hostData s0 who kind r).2 := by
  unfold State.hostData
  try dsimp only
  repeat' first
    | (show sub _ _ = true; decide +kernel)
    | with_reducible exact Touch.refl _
    | with_reducible apply Touch.to (State.readDone_touch ..)
    | with_reducible apply Touch.to (State.aerLog_touch ..)
    | with_reducible apply Touch.to (State.inject_touch ..)
    | with_reducible apply Touch.to (State.detect_touch ..)
    | with_reducible refine Touch.ite ?_ ?_
    | (show _ < 32; decide)
    | split
    | dsimp only

theorem State.hostErr_touch (s : State) (g : Nat) : Touch 0x380000000000100 s (State.hostErr s g) := by
  unfold State.hostErr
  try dsimp only
  repeat' first
    | (show sub _ _ = true; decide +kernel)
    | with_reducible exact Touch.refl _
    | with_reducible apply Touch.to (State.privEvent_touch ..)
    | with_reducible apply Touch.to (State.bump_touch ..)
    | (refine up_10000 ?_ (by decide +kernel); simp only [F.gaStatus_host_err, R.gaStatus]; omega)
    | dsimp only

theorem State.lateData_touch (s : State) (who : Reader) (kind : Nat) (r : HostRes) : Touch 0x10300012001E60 s (State.lateData s who kind r).2 := by
  unfold State.lateData
  try dsimp only
  repeat' first
    | (show sub _ _ = true; decide +kernel)
    | with_reducible exact Touch.refl _
    | with_reducible apply Touch.to (State.hostData_touch ..)
    | with_reducible refine Touch.ite ?_ ?_
    | split
    | dsimp only

theorem State.violation_touch (s : State) (kind : Nat) (gal : Option Nat) (ring : Nat) (detail : Nat) (word1 : Nat) : Touch 0x380000000000100 s (State.violation s kind gal ring detail word1) := by
  unfold State.violation
  try dsimp only
  repeat' first
    | (show sub _ _ = true; decide +kernel)
    | with_reducible exact Touch.refl _
    | with_reducible apply Touch.to (State.bump_touch ..)
    | with_reducible apply Touch.setRegs
    | with_reducible apply Touch.to (State.privEvent_touch ..)
    | with_reducible apply Touch.to (State.put_touch ..)
    | with_reducible refine Touch.ite ?_ ?_
    | (first | (refine up_10000 ?_ (by decide +kernel); simp only [F.gaViolCnt_count, F.gaViolStatus_count, F.gaViolStatus_newest, F.gaViolStatus_total, R.gaViolCnt, R.gaViolLog0, R.gaViolStatus]; omega) | (intro j hj; refine up_10000 ?_ (by decide +kernel); refine Nat.le_trans ?_ hj; simp only [F.gaViolCnt_count, F.gaViolStatus_count, F.gaViolStatus_newest, F.gaViolStatus_total, R.gaViolCnt, R.gaViolLog0, R.gaViolStatus]; omega))
    | split
    | dsimp only

end Sys2Proof.Machine
end

