-- ==== Sys2Proof/Laws/FramePipes.lean ====
section
/-! SUPPORT. What each operation of Machine/Pipes.lean touches: the parts of its set (Laws/Touch.lean), and nothing else. -/

set_option linter.unusedSimpArgs false
set_option linter.unusedVariables false
set_option Elab.async false

namespace Sys2Proof.Machine

theorem State.setShed_touch (s : State) (i : Nat) (b : Bool) : Touch 0x3FF000000000000 s (State.setShed s i b) := by
  unfold State.setShed
  try dsimp only
  repeat' first
    | (show sub _ _ = true; decide +kernel)
    | with_reducible exact Touch.refl _
    | with_reducible apply Touch.to (State.setBit_touch ..)
    | with_reducible apply Touch.to (State.clrBit_touch ..)
    | with_reducible refine Touch.ite ?_ ?_
    | (refine up_8000 ?_ (by decide +kernel); simp only [R.cuShedMap]; omega)
    | split
    | dsimp only

theorem State.catDrop_touch (s : State) (i : Nat) : Touch 0x3FF000000040000 s (State.catDrop s i) := by
  unfold State.catDrop
  try dsimp only
  repeat' first
    | (show sub _ _ = true; decide +kernel)
    | (show State.sizesOk _ = true → _; first | with_reducible exact id | (intro hz; simp only [State.sizesOk, listSet_length, List.length_map, List.length_replicate] at hz ⊢; first | exact hz | (rw [sizesOf_iff] at hz ⊢; and_intros <;> first | rfl | exact hz.1 | exact hz.2.1 | exact hz.2.2.1 | exact hz.2.2.2.1 | exact hz.2.2.2.2.1 | exact hz.2.2.2.2.2.1 | exact hz.2.2.2.2.2.2)))
    | (show _ ∧ _; and_intros <;> first | (apply Or.inl; decide +kernel) | (apply Or.inr; with_reducible rfl))
    | with_reducible exact Touch.refl _
    | with_reducible apply Touch.to (State.setShed_touch ..)
    | dsimp only
    | with_reducible refine Touch.mk' ?_ rfl rfl ?_ ?_

theorem State.loadShow_touch (s : State) (n : Nat) : Touch 0x3FF000000000000 s (State.loadShow s n) := by
  unfold State.loadShow
  try dsimp only
  repeat' first
    | (show sub _ _ = true; decide +kernel)
    | with_reducible exact Touch.refl _
    | with_reducible apply Touch.to (State.put_touch ..)
    | (refine up_8000 ?_ (by decide +kernel); simp only [F.cuCatStatus_used, F.cuPortLate_shed, F.cuPortLoad_items_max, F.cuPortLoad_time_max, R.cuCatStatus, R.cuPortLate, R.cuPortLoad]; omega)
    | dsimp only

theorem State.catEffects_touch (s : State) : Touch 0x3FF000000040000 s (State.catEffects s) := by
  unfold State.catEffects
  try dsimp only
  repeat' first
    | (show sub _ _ = true; decide +kernel)
    | (show State.sizesOk _ = true → _; first | with_reducible exact id | (intro hz; simp only [State.sizesOk, listSet_length, List.length_map, List.length_replicate] at hz ⊢; first | exact hz | (rw [sizesOf_iff] at hz ⊢; and_intros <;> first | rfl | exact hz.1 | exact hz.2.1 | exact hz.2.2.1 | exact hz.2.2.2.1 | exact hz.2.2.2.2.1 | exact hz.2.2.2.2.2.1 | exact hz.2.2.2.2.2.2)))
    | (show _ ∧ _; and_intros <;> first | (apply Or.inl; decide +kernel) | (apply Or.inr; with_reducible rfl))
    | with_reducible assumption
    | with_reducible exact Touch.refl _
    | with_reducible apply Touch.to (State.catDrop_touch ..)
    | with_reducible apply Touch.to (State.loadShow_touch ..)
    | with_reducible refine Touch.forEach ?_ (fun _ _ _ => ?_)
    | split
    | dsimp only
    | with_reducible refine Touch.mk' ?_ rfl rfl ?_ ?_

theorem State.refuseEdit_touch (s : State) (n : Nat) : Touch 0x3FF000000000000 s (State.refuseEdit s n) := by
  unfold State.refuseEdit
  try dsimp only
  repeat' first
    | (show sub _ _ = true; decide +kernel)
    | with_reducible exact Touch.refl _
    | with_reducible apply Touch.to (State.bump_touch ..)
    | (refine up_8000 ?_ (by decide +kernel); simp only [F.cuCatStatus_refused, R.cuCatStatus]; omega)
    | dsimp only

theorem State.catPut_touch (s : State) (i : Nat) (e : CatEntry) : Touch 0x40000 s (State.catPut s i e) := by
  unfold State.catPut
  try dsimp only
  repeat' first
    | (show sub _ _ = true; decide +kernel)
    | (show State.sizesOk _ = true → _; first | with_reducible exact id | (intro hz; simp only [State.sizesOk, listSet_length, List.length_map, List.length_replicate] at hz ⊢; first | exact hz | (rw [sizesOf_iff] at hz ⊢; and_intros <;> first | rfl | exact hz.1 | exact hz.2.1 | exact hz.2.2.1 | exact hz.2.2.2.1 | exact hz.2.2.2.2.1 | exact hz.2.2.2.2.2.1 | exact hz.2.2.2.2.2.2)))
    | (show _ ∧ _; and_intros <;> first | (apply Or.inl; decide +kernel) | (apply Or.inr; with_reducible rfl))
    | with_reducible exact Touch.refl _
    | dsimp only
    | with_reducible refine Touch.mk' ?_ rfl rfl ?_ ?_

theorem State.catInsert_touch (s : State) (c : Nat) (d : CatSched) : Touch 0x3FF000000040000 s (State.catInsert s c d).2.2 := by
  unfold State.catInsert
  try dsimp only
  repeat' first
    | (show sub _ _ = true; decide +kernel)
    | with_reducible exact Touch.refl _
    | with_reducible apply Touch.to (State.refuseEdit_touch ..)
    | with_reducible apply Touch.to (State.loadShow_touch ..)
    | with_reducible apply Touch.to (State.catPut_touch ..)
    | with_reducible refine Touch.ite ?_ ?_
    | split
    | dsimp only

theorem State.catModify_touch (s : State) (i : Nat) (d : CatSched) : Touch 0x3FF000000040000 s (State.catModify s i d).2.2 := by
  unfold State.catModify
  try dsimp only
  repeat' first
    | (show sub _ _ = true; decide +kernel)
    | with_reducible exact Touch.refl _
    | with_reducible apply Touch.to (State.refuseEdit_touch ..)
    | with_reducible apply Touch.to (State.loadShow_touch ..)
    | with_reducible apply Touch.to (State.setShed_touch ..)
    | with_reducible apply Touch.to (State.catPut_touch ..)
    | with_reducible refine Touch.ite ?_ ?_
    | split
    | dsimp only

theorem State.catRemove_touch (s : State) (i : Nat) : Touch 0x3FF000000040000 s (State.catRemove s i).2.2 := by
  unfold State.catRemove
  try dsimp only
  repeat' first
    | (show sub _ _ = true; decide +kernel)
    | with_reducible exact Touch.refl _
    | with_reducible apply Touch.to (State.refuseEdit_touch ..)
    | with_reducible apply Touch.to (State.loadShow_touch ..)
    | with_reducible apply Touch.to (State.catPut_touch ..)
    | with_reducible refine Touch.ite ?_ ?_
    | split
    | dsimp only

theorem terase_wf {α : Type} [DecidableEq α] (d : Nat → α) (t : Tab α) (k : Nat) (h : Tab.wf d t = true) : Tab.wf d (terase t k) = true := by
  unfold Tab.wf at h ⊢
  simp only [Bool.and_eq_true] at h ⊢
  exact ⟨rising_none_terase h.1, List.all_eq_true.mpr fun p hp => List.all_eq_true.mp h.2 p (terase_absent t k p hp).2⟩

theorem State.eraseReg_touch (s : State) (off : Nat) : Touch (regBit off) s { s with regs := terase s.regs off } where
  mem h := State.memOk_of h (terase_wf _ _ _) id
  sizes := id
  reg i h := by
    have e : i ≠ off := fun e => by rw [e, testBit_regBit] at h; exact absurd h Bool.true_eq_false.mp
    exact (tget_terase _ _ _ _).trans (if_neg e)
  part _ := rfl
  off _ := rfl
  pending _ := rfl
  caps _ := rfl
  sram _ := rfl
  out _ := rfl
  free _ := rfl
  tk _ := rfl
  ic _ := rfl
  rg _ := rfl
  fi _ := rfl
  cn _ := rfl
  pci _ := rfl
  gp _ := rfl
  devs _ := rfl
  seqs _ := rfl
  acc _ := rfl
  px _ := rfl
  cat _ := rfl
  cu _ := rfl
  cutoff _ := rfl
  built _ := rfl
  ga _ := rfl
  work _ := rfl
  stamps _ := rfl
  owed _ := rfl
  mv _ := rfl
  mvLast _ := rfl
  sp _ := rfl
  tw _ := rfl
  co _ := rfl
  ch _ := rfl
  fuses _ := rfl
  jtag _ := rfl
  flips _ := rfl

theorem State.freeCtx_touch (s : State) (c : Nat) : Touch 0x3FF000000060000 s (s.freeCtx c) := by
  unfold State.freeCtx
  dsimp only
  repeat' first
    | (show sub _ _ = true; decide +kernel)
    | (show State.sizesOk _ = true → _; first | with_reducible exact id | (intro hz; simp only [State.sizesOk, listSet_length, List.length_map, List.length_replicate] at hz ⊢; first | exact hz | (rw [sizesOf_iff] at hz ⊢; and_intros <;> first | rfl | exact hz.1 | exact hz.2.1 | exact hz.2.2.1 | exact hz.2.2.2.1 | exact hz.2.2.2.2.1 | exact hz.2.2.2.2.2.1 | exact hz.2.2.2.2.2.2)))
      | (show _ ∧ _; and_intros <;> first | (apply Or.inl; decide +kernel) | (apply Or.inr; with_reducible rfl))
    | with_reducible assumption
    | with_reducible exact Touch.refl _
    | with_reducible apply Touch.to (State.catDrop_touch ..)
    | with_reducible apply Touch.to (State.loadShow_touch ..)
    | (with_reducible apply Touch.to (State.eraseReg_touch _ _))
    | (refine up_40000 ?_ (by decide +kernel); omega)
    | with_reducible refine Touch.ite ?_ ?_
    | with_reducible refine Touch.forEach ?_ (fun _ _ _ => ?_)
    | with_reducible refine Touch.foldl ?_ (fun _ _ _ => ?_)
    | split
    | dsimp only
    | with_reducible refine Touch.mk' ?_ rfl rfl ?_ ?_

theorem foldl_option {α β : Type} {P : β → Prop} {f : Option β → α → Option β} (hf : ∀ r x u, (∀ t, r = some t → P t) → f r x = some u → P u) :
    ∀ (xs : List α) (r : Option β), (∀ t, r = some t → P t) → ∀ t, xs.foldl f r = some t → P t
  | [], _, hr, t, ht => hr t ht
  | x :: xs, r, hr, t, ht => foldl_option hf xs (f r x) (fun u hu => hf r x u hr hu) t ht

theorem State.hubClaim_touch (s : State) (n a : Nat) (t : State) (h : s.hubClaim n a = some t) : Touch 0x3FF000000060000 s t := by
  unfold State.hubClaim at h
  split at h
  · cases h; exact Touch.refl s
  · split at h
    · cases h
    · rename_i c _
      refine foldl_option (P := Touch 0x3FF000000060000 s) ?_ _ _ (fun t e => by cases e) t h
      intro r p u hr hu
      cases r with
      | some x => exact hr u hu
      | none =>
        dsimp only at hu
        split at hu
        · cases hu
          refine Touch.to (State.catInsert_touch ..) (by decide +kernel) ?_
          refine Touch.to (State.modCtx_touch ..) (by decide +kernel) (Touch.to (State.put_touch ..) ?_ (Touch.to (State.setReg_touch ..) ?_ ((State.setReg_touch ..).weaken ?_)))
          · refine up_40000 ?_ (by decide +kernel); simp only [F.pxCtrl_gallery, R.pxCtrl]; omega
          · refine up_40000 ?_ (by decide +kernel); simp only [R.pxRegion]; omega
          · refine up_40000 ?_ (by decide +kernel); simp only [R.pxBind]; omega
        · cases hu

theorem State.hubFree_touch (s : State) (n : Nat) (a : Nat) : Touch 0x3FF000000060000 s (State.hubFree s n a) := by
  unfold State.hubFree
  try dsimp only
  repeat' first
    | (show sub _ _ = true; decide +kernel)
    | with_reducible exact Touch.refl _
    | with_reducible apply Touch.to (State.freeCtx_touch ..)
    | split
    | dsimp only

theorem State.pxClearHalt_touch (s : State) (c : Nat) : Touch 0x2000 s (State.pxClearHalt s c) := by
  unfold State.pxClearHalt
  try dsimp only
  repeat' first
    | (show sub _ _ = true; decide +kernel)
    | with_reducible exact Touch.refl _
    | with_reducible apply Touch.to (State.startCtl_touch ..)
    | with_reducible refine Touch.ite ?_ ?_
    | split
    | dsimp only

theorem State.pxCleared_touch (s : State) (n : Nat) (a : Nat) (p : Nat) (c : Nat) (ok : Bool) : Touch 0x200000000028000 s (State.pxCleared s n a p c ok) := by
  unfold State.pxCleared
  try dsimp only
  repeat' first
    | (show sub _ _ = true; decide +kernel)
    | with_reducible exact Touch.refl _
    | with_reducible apply Touch.to (State.modCtx_touch ..)
    | with_reducible apply Touch.to (State.setSeq_touch ..)
    | with_reducible apply Touch.to (State.bump_touch ..)
    | with_reducible refine Touch.ite ?_ ?_
    | (refine up_40000 ?_ (by decide +kernel); simp only [F.pxCntB_errors, R.pxCntB]; omega)
    | split
    | dsimp only

theorem State.pxCntClear_touch (s : State) (c : Nat) : Touch 0x200000000000000 s (State.pxCntClear s c) := by
  unfold State.pxCntClear
  try dsimp only
  repeat' first
    | (show sub _ _ = true; decide +kernel)
    | with_reducible exact Touch.refl _
    | with_reducible apply Touch.setRegs
    | (first | (refine up_40000 ?_ (by decide +kernel); simp only [R.pxCntA]; omega) | (intro j hj; refine up_40000 ?_ (by decide +kernel); refine Nat.le_trans ?_ hj; simp only [R.pxCntA]; omega))
    | dsimp only

theorem State.pxDisable_touch (s : State) (c : Nat) : Touch 0x20000 s (State.pxDisable s c) := by
  unfold State.pxDisable
  try dsimp only
  repeat' first
    | (show sub _ _ = true; decide +kernel)
    | with_reducible exact Touch.refl _
    | with_reducible apply Touch.to (State.modCtx_touch ..)
    | with_reducible refine Touch.ite ?_ ?_
    | split
    | dsimp only

theorem State.pxStart_touch (s : State) (c : Nat) : Touch 0x2021020 s (State.pxStart s c) := by
  unfold State.pxStart
  try dsimp only
  repeat' first
    | (show sub _ _ = true; decide +kernel)
    | with_reducible exact Touch.refl _
    | with_reducible apply Touch.to (State.modCtx_touch ..)
    | with_reducible apply Touch.to (State.dmaRead_touch ..)
    | with_reducible refine Touch.ite ?_ ?_
    | split
    | dsimp only

theorem State.pxEffect_touch (s : State) (c : Nat) : Touch 0x2021020 s (State.pxEffect s c) := by
  unfold State.pxEffect
  try dsimp only
  repeat' first
    | (show sub _ _ = true; decide +kernel)
    | with_reducible exact Touch.refl _
    | with_reducible apply Touch.to (State.modCtx_touch ..)
    | with_reducible apply Touch.to (State.pxStart_touch ..)
    | with_reducible refine Touch.ite ?_ ?_
    | split
    | dsimp only

theorem State.pxEffects_touch (s : State) : Touch 0x2021020 s (State.pxEffects s) := by
  unfold State.pxEffects
  try dsimp only
  repeat' first
    | (show sub _ _ = true; decide +kernel)
    | with_reducible assumption
    | with_reducible exact Touch.refl _
    | with_reducible apply Touch.to (State.modCtx_touch ..)
    | with_reducible apply Touch.to (State.pxEffect_touch ..)
    | with_reducible refine Touch.forEach ?_ (fun _ _ _ => ?_)
    | dsimp only

theorem State.pxEnable_touch (s : State) (c : Nat) : Touch 0x200000000020000 s (State.pxEnable s c) := by
  unfold State.pxEnable
  try dsimp only
  repeat' first
    | (show sub _ _ = true; decide +kernel)
    | with_reducible exact Touch.refl _
    | with_reducible apply Touch.to (State.put_touch ..)
    | with_reducible apply Touch.to (State.modCtx_touch ..)
    | with_reducible refine Touch.ite ?_ ?_
    | (refine up_40000 ?_ (by decide +kernel); simp only [F.pxCtrl_refuse, R.pxCtrl]; omega)
    | split
    | dsimp only

theorem State.pxHalt_touch (s : State) (c : Nat) : Touch 0x20000 s (State.pxHalt s c) := by
  unfold State.pxHalt
  try dsimp only
  repeat' first
    | (show sub _ _ = true; decide +kernel)
    | with_reducible exact Touch.refl _
    | with_reducible apply Touch.to (State.modCtx_touch ..)
    | with_reducible refine Touch.ite ?_ ?_
    | split
    | dsimp only

theorem State.pxIdentity_touch (s : State) (n : Nat) (a : Nat) (pipes : List (Nat × Nat × Nat)) : Touch 0x20000 s (State.pxIdentity s n a pipes).2 := by
  unfold State.pxIdentity
  try dsimp only
  repeat' first
    | (show sub _ _ = true; decide +kernel)
    | with_reducible assumption
    | with_reducible exact Touch.refl _
    | with_reducible apply Touch.to (State.modCtx_touch ..)
    | with_reducible refine Touch.ite ?_ ?_
    | with_reducible refine Touch.forEach ?_ (fun _ _ _ => ?_)
    | split
    | dsimp only

theorem State.pxRelease_touch (s : State) (c : Nat) : Touch 0x200000000020000 s (State.pxRelease s c) := by
  unfold State.pxRelease
  try dsimp only
  repeat' first
    | (show sub _ _ = true; decide +kernel)
    | with_reducible exact Touch.refl _
    | with_reducible apply Touch.to (State.modCtx_touch ..)
    | with_reducible apply Touch.to (State.put_touch ..)
    | with_reducible refine Touch.ite ?_ ?_
    | (refine up_40000 ?_ (by decide +kernel); simp only [F.pxCtrl_refuse, R.pxCtrl]; omega)
    | split
    | dsimp only

theorem State.rateCheck_touch (s : State) : Touch 0x1000000000000 s (State.rateCheck s) := by
  unfold State.rateCheck
  try dsimp only
  repeat' first
    | (show sub _ _ = true; decide +kernel)
    | with_reducible exact Touch.refl _
    | with_reducible apply Touch.to (State.put_touch ..)
    | with_reducible apply Touch.to (State.raise_touch ..)
    | with_reducible refine Touch.ite ?_ ?_
    | split
    | dsimp only

end Sys2Proof.Machine
end

