-- ==== Sys2Proof/Laws/FrameComplete.lean ====
section
/-! SUPPORT. What each operation of Machine/Complete.lean touches: the parts of its set (Laws/Touch.lean), and nothing else. -/

set_option linter.unusedSimpArgs false
set_option linter.unusedVariables false
set_option Elab.async false

namespace Sys2Proof.Machine

theorem State.postedError_touch (s : State) (src : Nat) (pl : List Byte) : Touch 0x3FC000000000100 s (State.postedError s src pl) := by
  unfold State.postedError
  try dsimp only
  repeat' first
    | (show sub _ _ = true; decide +kernel)
    | with_reducible exact Touch.refl _
    | with_reducible apply Touch.setRegs
    | with_reducible apply Touch.to (State.put_touch ..)
    | with_reducible apply Touch.to (State.raise_touch ..)
    | with_reducible apply Touch.to (State.privEvent_touch ..)
    | with_reducible apply Touch.to (State.bump_touch ..)
    | with_reducible refine Touch.ite ?_ ?_
    | (first | (refine up_a000 ?_ (by decide +kernel); simp only [R.coPwerrLog0]; omega) | (intro j hj; refine up_a000 ?_ (by decide +kernel); refine Nat.le_trans ?_ hj; simp only [R.coPwerrLog0]; omega))
    | split
    | dsimp only

theorem State.remoteEnd_touch (s : State) (w : Work) (body : List Byte) : Touch 0x3FC000050000100 s (State.remoteEnd s w body) := by
  unfold State.remoteEnd
  try dsimp only
  repeat' first
    | (show sub _ _ = true; decide +kernel)
    | (show State.sizesOk _ = true → _; first | with_reducible exact id | (intro hz; simp only [State.sizesOk, listSet_length, List.length_map, List.length_replicate] at hz ⊢; first | exact hz | (rw [sizesOf_iff] at hz ⊢; and_intros <;> first | rfl | exact hz.1 | exact hz.2.1 | exact hz.2.2.1 | exact hz.2.2.2.1 | exact hz.2.2.2.2.1 | exact hz.2.2.2.2.2.1 | exact hz.2.2.2.2.2.2)))
    | (show _ ∧ _; and_intros <;> first | (apply Or.inl; decide +kernel) | (apply Or.inr; with_reducible rfl))
    | with_reducible exact Touch.refl _
    | with_reducible apply Touch.to (State.postedError_touch ..)
    | with_reducible apply Touch.to (State.spanSend_touch ..)
    | with_reducible refine Touch.ite ?_ ?_
    | split
    | dsimp only
    | with_reducible refine Touch.mk' ?_ rfl rfl ?_ ?_

theorem State.writeStatus_touch (s : State) (g : Nat) (r : Nat) : Touch 0x2001020 s (State.writeStatus s g r) := by
  unfold State.writeStatus
  try dsimp only
  repeat' first
    | (show sub _ _ = true; decide +kernel)
    | with_reducible exact Touch.refl _
    | with_reducible apply Touch.to (State.dmaWrite_touch ..)
    | dsimp only

theorem State.tailReport_touch (s : State) (g : Nat) (r : Nat) : Touch 0x380000002001020 s (State.tailReport s g r) := by
  unfold State.tailReport
  try dsimp only
  repeat' first
    | (show sub _ _ = true; decide +kernel)
    | with_reducible exact Touch.refl _
    | with_reducible apply Touch.to (State.writeStatus_touch ..)
    | with_reducible apply Touch.to (State.put_touch ..)
    | with_reducible refine Touch.ite ?_ ?_
    | (refine up_10000 ?_ (by decide +kernel); simp only [F.gaRingPos_tail, R.gaRingPos]; omega)
    | split
    | dsimp only

theorem State.completeRing_touch (s : State) (w : Work) (body : List Byte) : Touch 0x380000042C01120 s (State.completeRing s w body) := by
  unfold State.completeRing
  try dsimp only
  repeat' first
    | (show sub _ _ = true; decide +kernel)
    | (show State.sizesOk _ = true → _; first | with_reducible exact id | (intro hz; simp only [State.sizesOk, listSet_length, List.length_map, List.length_replicate] at hz ⊢; first | exact hz | (rw [sizesOf_iff] at hz ⊢; and_intros <;> first | rfl | exact hz.1 | exact hz.2.1 | exact hz.2.2.1 | exact hz.2.2.2.1 | exact hz.2.2.2.2.1 | exact hz.2.2.2.2.2.1 | exact hz.2.2.2.2.2.2)))
    | (show _ ∧ _; and_intros <;> first | (apply Or.inl; decide +kernel) | (apply Or.inr; with_reducible rfl))
    | with_reducible exact Touch.refl _
    | with_reducible apply Touch.to (State.dmaWrite_touch ..)
    | with_reducible apply Touch.to (State.modRing_touch ..)
    | with_reducible apply Touch.to (State.dropWork_touch ..)
    | with_reducible apply Touch.to (State.tailReport_touch ..)
    | with_reducible apply Touch.to (State.wrap_touch ..)
    | with_reducible apply Touch.to (State.privEvent_touch ..)
    | with_reducible refine Touch.ite ?_ ?_
    | (refine up_10000 ?_ (by decide +kernel); simp only [F.gaRingCnt_completed, R.gaRingCnt]; omega)
    | split
    | dsimp only
    | with_reducible refine Touch.mk' ?_ rfl rfl ?_ ?_

theorem State.heldGo_touch (n : Nat) (s : State) : Touch 0x380000042C01120 s (State.heldGo n s) := by
  induction n generalizing s with
  | zero => exact Touch.refl _
  | succ n ih =>
    unfold State.heldGo
    try dsimp only
    repeat' first
      | (show sub _ _ = true; decide +kernel)
      | with_reducible assumption
      | with_reducible exact Touch.refl _
      | with_reducible apply Touch.to (State.completeRing_touch ..)
      | with_reducible apply Touch.to (ih ..)
      | with_reducible refine Touch.ite ?_ ?_
      | with_reducible refine Touch.forEach ?_ (fun _ _ _ => ?_)
      | split
      | dsimp only

theorem State.completeWith_touch (s : State) (w : Work) (body : List Byte) : Touch 0x3FC000052C01120 s (State.completeWith s w body) := by
  unfold State.completeWith
  try dsimp only
  repeat' first
    | (show sub _ _ = true; decide +kernel)
    | with_reducible exact Touch.refl _
    | with_reducible apply Touch.to (State.remoteEnd_touch ..)
    | with_reducible apply Touch.to (State.dropWork_touch ..)
    | with_reducible apply Touch.to (State.modWork_touch ..)
    | with_reducible apply Touch.to (State.heldGo_touch ..)
    | with_reducible apply Touch.to (State.completeRing_touch ..)
    | with_reducible refine Touch.ite ?_ ?_
    | split
    | dsimp only

theorem State.completeAt_touch (s : State) (w : Work) (status : Nat) (detail : Nat) (actual : Nat) (time : Nat) (quality : Nat) : Touch 0x3FC000052C01120 s (State.completeAt s w status detail actual time quality) := by
  unfold State.completeAt
  try dsimp only
  repeat' first
    | (show sub _ _ = true; decide +kernel)
    | with_reducible exact Touch.refl _
    | with_reducible apply Touch.to (State.completeWith_touch ..)
    | dsimp only

theorem State.complete_touch (s : State) (w : Work) (status : Nat) (detail : Nat) (actual : Nat) : Touch 0x3FC000052C01120 s (State.complete s w status detail actual) := by
  unfold State.complete
  try dsimp only
  repeat' first
    | (show sub _ _ = true; decide +kernel)
    | with_reducible exact Touch.refl _
    | with_reducible apply Touch.to (State.completeAt_touch ..)
    | dsimp only

theorem State.completeViolation_touch (s : State) (w : Work) (kind : Nat) : Touch 0x3FC000052C01120 s (State.completeViolation s w kind) := by
  unfold State.completeViolation
  try dsimp only
  repeat' first
    | (show sub _ _ = true; decide +kernel)
    | with_reducible exact Touch.refl _
    | with_reducible apply Touch.to (State.violation_touch ..)
    | with_reducible apply Touch.to (State.completeWith_touch ..)
    | with_reducible refine Touch.ite ?_ ?_
    | split
    | dsimp only

theorem State.ctlForget_touch (s : State) (n : Nat) (a : Nat) (g : Nat) (r : Nat) (i : Nat) : Touch 0x2000 s (State.ctlForget s n a g r i) := by
  unfold State.ctlForget
  try dsimp only
  repeat' first
    | (show sub _ _ = true; decide +kernel)
    | with_reducible exact Touch.refl _
    | with_reducible apply Touch.to (State.modPort_touch ..)
    | with_reducible refine Touch.ite ?_ ?_
    | split
    | dsimp only

theorem State.mvForget_touch (s : State) (g : Nat) (r : Nat) (i : Nat) : Touch 0x4000000 s (State.mvForget s g r i) := by
  unfold State.mvForget
  try dsimp only
  repeat' first
    | (show sub _ _ = true; decide +kernel)
    | (show State.sizesOk _ = true → _; first | with_reducible exact id | (intro hz; simp only [State.sizesOk, listSet_length, List.length_map, List.length_replicate] at hz ⊢; first | exact hz | (rw [sizesOf_iff] at hz ⊢; and_intros <;> first | rfl | exact hz.1 | exact hz.2.1 | exact hz.2.2.1 | exact hz.2.2.2.1 | exact hz.2.2.2.2.1 | exact hz.2.2.2.2.2.1 | exact hz.2.2.2.2.2.2)))
    | (show _ ∧ _; and_intros <;> first | (apply Or.inl; decide +kernel) | (apply Or.inr; with_reducible rfl))
    | with_reducible exact Touch.refl _
    | with_reducible refine Touch.ite ?_ ?_
    | split
    | dsimp only
    | with_reducible refine Touch.mk' ?_ rfl rfl ?_ ?_

theorem State.discard_touch (s : State) (g : Nat) (r : Nat) : Touch 0x380000046C01120 s (State.discard s g r) := by
  unfold State.discard
  try dsimp only
  repeat' first
    | (show sub _ _ = true; decide +kernel)
    | with_reducible assumption
    | with_reducible exact Touch.refl _
    | with_reducible apply Touch.to (State.heldGo_touch ..)
    | with_reducible apply Touch.to (State.dropWork_touch ..)
    | with_reducible apply Touch.to (State.mvForget_touch ..)
    | with_reducible refine Touch.forEach ?_ (fun _ _ _ => ?_)
    | dsimp only

theorem State.galleryHalt_touch (s : State) (g : Nat) : Touch 0x380000046C01120 s (State.galleryHalt s g) := by
  unfold State.galleryHalt
  try dsimp only
  repeat' first
    | (show sub _ _ = true; decide +kernel)
    | with_reducible assumption
    | with_reducible exact Touch.refl _
    | with_reducible apply Touch.to (State.put_touch ..)
    | with_reducible apply Touch.to (State.writeStatus_touch ..)
    | with_reducible apply Touch.to (State.discard_touch ..)
    | with_reducible apply Touch.to (State.modRing_touch ..)
    | with_reducible apply Touch.to (State.privEvent_touch ..)
    | with_reducible refine Touch.ite ?_ ?_
    | with_reducible refine Touch.forEach ?_ (fun _ _ _ => ?_)
    | (refine up_10000 ?_ (by decide +kernel); simp only [F.gaRingState_state, F.gaStatus_state, R.gaRingState, R.gaStatus]; omega)
    | split
    | dsimp only

theorem State.malformed_touch (s : State) (g : Nat) (r : Nat) (i : Nat) (op : Nat) (inj : Bool) : Touch 0x390300056C01F20 s (State.malformed s g r i op inj) := by
  unfold State.malformed
  try dsimp only
  repeat' first
    | (show sub _ _ = true; decide +kernel)
    | with_reducible exact Touch.refl _
    | with_reducible apply Touch.to (State.setReg_touch ..)
    | with_reducible apply Touch.to (State.put_touch ..)
    | with_reducible apply Touch.to (State.galleryHalt_touch ..)
    | with_reducible apply Touch.to (State.detectAt_touch ..)
    | (refine up_10000 ?_ (by decide +kernel); simp only [F.gaRingState_halt_source, R.gaRingHaltIdx, R.gaRingState]; omega)
    | (show _ < 32; decide)
    | dsimp only

theorem State.setResume_touch (s : State) (g : Nat) (r : Nat) (head : Nat) (cause : Nat) : Touch 0x380000000000000 s (State.setResume s g r head cause) := by
  unfold State.setResume
  try dsimp only
  repeat' first
    | (show sub _ _ = true; decide +kernel)
    | with_reducible exact Touch.refl _
    | with_reducible apply Touch.to (State.put_touch ..)
    | with_reducible refine Touch.ite ?_ ?_
    | (refine up_10000 ?_ (by decide +kernel); simp only [F.gaRingResume_cause, F.gaRingResume_head, F.gaRingResume_valid, R.gaRingResume]; omega)
    | split
    | dsimp only

theorem State.ringDone_touch (s : State) (g : Nat) (r : Nat) : Touch 0x380000002401020 s (State.ringDone s g r) := by
  unfold State.ringDone
  try dsimp only
  repeat' first
    | (show sub _ _ = true; decide +kernel)
    | with_reducible exact Touch.refl _
    | with_reducible apply Touch.to (State.put_touch ..)
    | with_reducible apply Touch.to (State.setResume_touch ..)
    | with_reducible apply Touch.to (State.writeStatus_touch ..)
    | with_reducible apply Touch.to (State.modRing_touch ..)
    | (refine up_10000 ?_ (by decide +kernel); simp only [F.gaRingCtrl_enable, F.gaRingPos_tail, F.gaRingStart_start, F.gaRingState_back_pressured, F.gaRingState_state, R.gaRingCtrl, R.gaRingPos, R.gaRingStart, R.gaRingState]; omega)
    | dsimp only

theorem State.ringStop_touch (s : State) (g : Nat) (r : Nat) (cause : Nat) : Touch 0x380000046C01120 s (State.ringStop s g r cause) := by
  unfold State.ringStop
  try dsimp only
  repeat' first
    | (show sub _ _ = true; decide +kernel)
    | with_reducible exact Touch.refl _
    | with_reducible apply Touch.to (State.discard_touch ..)
    | with_reducible apply Touch.to (State.modRing_touch ..)
    | with_reducible apply Touch.to (State.put_touch ..)
    | with_reducible refine Touch.ite ?_ ?_
    | (refine up_10000 ?_ (by decide +kernel); simp only [F.gaRingState_state, R.gaRingState]; omega)
    | split
    | dsimp only

theorem State.workKill_touch (s : State) (n : Nat) (a : Nat) (status : Nat) : Touch 0x3FC000056C03120 s (State.workKill s n a status) := by
  unfold State.workKill
  try dsimp only
  repeat' first
    | (show sub _ _ = true; decide +kernel)
    | with_reducible assumption
    | with_reducible exact Touch.refl _
    | with_reducible apply Touch.to (State.complete_touch ..)
    | with_reducible apply Touch.to (State.ctlForget_touch ..)
    | with_reducible apply Touch.to (State.mvForget_touch ..)
    | with_reducible apply Touch.to (State.setResume_touch ..)
    | with_reducible apply Touch.to (State.modPort_touch ..)
    | with_reducible refine Touch.ite ?_ ?_
    | with_reducible refine Touch.forEach ?_ (fun _ _ _ => ?_)
    | split
    | dsimp only

end Sys2Proof.Machine
end

