-- ==== Sys2Proof/Laws/FrameAccession.lean ====
section
/-! SUPPORT. What each operation of Machine/Accession.lean touches: the parts of its set (Laws/Touch.lean), and nothing else. -/

set_option linter.unusedSimpArgs false
set_option linter.unusedVariables false
set_option Elab.async false

namespace Sys2Proof.Machine

theorem State.clearTries_touch (s : State) (n : Nat) (parent : Nat) (pt : Nat) : Touch 0x2000 s (State.clearTries s n parent pt) := by
  unfold State.clearTries
  try dsimp only
  repeat' first
    | (show sub _ _ = true; decide +kernel)
    | with_reducible exact Touch.refl _
    | with_reducible apply Touch.to (State.modPort_touch ..)
    | dsimp only

theorem State.clearRange_touch (s : State) (n : Nat) (a : Nat) : Touch 0x3E0000000000000 s (State.clearRange s n a) := by
  unfold State.clearRange
  try dsimp only
  repeat' first
    | (show sub _ _ = true; decide +kernel)
    | with_reducible exact Touch.refl _
    | with_reducible apply Touch.setRegs
    | with_reducible apply Touch.to (State.put_touch ..)
    | with_reducible refine Touch.ite ?_ ?_
    | (first | (refine up_20000 ?_ (by decide +kernel); simp only [F.twHop_d_hop, F.twHop_valid, R.gpRangeDev0, R.twHop]; omega) | (intro j hj; refine up_20000 ?_ (by decide +kernel); refine Nat.le_trans ?_ hj; simp only [F.twHop_d_hop, F.twHop_valid, R.gpRangeDev0, R.twHop]; omega))
    | (first | (refine up_d000 ?_ (by decide +kernel); simp only [F.twHop_d_hop, F.twHop_valid, R.gpRangeDev0, R.twHop]; omega) | (intro j hj; refine up_d000 ?_ (by decide +kernel); refine Nat.le_trans ?_ hj; simp only [F.twHop_d_hop, F.twHop_valid, R.gpRangeDev0, R.twHop]; omega))
    | split
    | dsimp only

theorem State.attachKick_touch (s : State) (n : Nat) : Touch 0x300000000002000 s (State.attachKick s n) := by
  unfold State.attachKick
  try dsimp only
  repeat' first
    | (show sub _ _ = true; decide +kernel)
    | with_reducible exact Touch.refl _
    | with_reducible apply Touch.to (State.put_touch ..)
    | with_reducible apply Touch.to (State.modPort_touch ..)
    | with_reducible apply Touch.to (State.setHubPort_touch ..)
    | with_reducible refine Touch.ite ?_ ?_
    | (refine up_20000 ?_ (by decide +kernel); simp only [F.gpAccStatus_busy, R.gpAccStatus]; omega)
    | split
    | dsimp only

theorem State.dropAttach_touch (s : State) (n : Nat) (a : Nat) : Touch 0x300000000002000 s (State.dropAttach s n a) := by
  unfold State.dropAttach
  try dsimp only
  repeat' first
    | (show sub _ _ = true; decide +kernel)
    | with_reducible exact Touch.refl _
    | with_reducible apply Touch.to (State.modPort_touch ..)
    | with_reducible apply Touch.to (State.attachKick_touch ..)
    | with_reducible apply Touch.to (State.put_touch ..)
    | with_reducible refine Touch.ite ?_ ?_
    | (refine up_20000 ?_ (by decide +kernel); simp only [F.gpAccStatus_attach_addr, F.gpAccStatus_busy, R.gpAccStatus]; omega)
    | split
    | dsimp only

theorem State.dropService_touch (s : State) (n : Nat) (a : Nat) : Touch 0x2000 s (State.dropService s n a) := by
  unfold State.dropService
  try dsimp only
  repeat' first
    | (show sub _ _ = true; decide +kernel)
    | with_reducible exact Touch.refl _
    | with_reducible apply Touch.to (State.modPort_touch ..)
    | with_reducible refine Touch.ite ?_ ?_
    | split
    | dsimp only

theorem State.dropSweep_touch (s : State) (n : Nat) (a : Nat) : Touch 0x2800 s (State.dropSweep s n a) := by
  unfold State.dropSweep
  try dsimp only
  repeat' first
    | (show sub _ _ = true; decide +kernel)
    | with_reducible exact Touch.refl _
    | with_reducible apply Touch.to (State.modPort_touch ..)
    | with_reducible apply Touch.to (State.permitDrop_touch ..)
    | with_reducible apply Touch.to (State.permitReturn_touch ..)
    | with_reducible refine Touch.ite ?_ ?_
    | split
    | dsimp only

theorem State.leave_touch (s : State) (n : Nat) (a : Nat) (st : Nat) (status : Nat) (rec_ : Option (Nat × Nat × Nat)) : Touch 0x3FD000056C1F920 s (State.leave s n a st status rec_) := by
  unfold State.leave
  try dsimp only
  repeat' first
    | (show sub _ _ = true; decide +kernel)
    | with_reducible exact Touch.refl _
    | with_reducible apply Touch.to (State.put_touch ..)
    | with_reducible apply Touch.to (State.clearSeqs_touch ..)
    | with_reducible apply Touch.to (State.clearRange_touch ..)
    | with_reducible apply Touch.to (State.setDevSt_touch ..)
    | with_reducible apply Touch.to (State.modPort_touch ..)
    | with_reducible apply Touch.to (State.dropAttach_touch ..)
    | with_reducible apply Touch.to (State.dropService_touch ..)
    | with_reducible apply Touch.to (State.dropSweep_touch ..)
    | with_reducible apply Touch.to (State.modDev_touch ..)
    | with_reducible apply Touch.to (State.workKill_touch ..)
    | with_reducible apply Touch.to (State.accRecord_touch ..)
    | (refine up_20000 ?_ (by decide +kernel); simp only [F.gpDevState_wake_enabled, R.gpDevState]; omega)
    | split
    | dsimp only

theorem State.unbind_touch (s : State) (n : Nat) (a : Nat) : Touch 0x3FF000000064000 s (State.unbind s n a) := by
  unfold State.unbind
  try dsimp only
  repeat' first
    | (show sub _ _ = true; decide +kernel)
    | (show State.sizesOk _ = true → _; first | with_reducible exact id | (intro hz; simp only [State.sizesOk, listSet_length, List.length_map, List.length_replicate] at hz ⊢; first | exact hz | (rw [sizesOf_iff] at hz ⊢; and_intros <;> first | rfl | exact hz.1 | exact hz.2.1 | exact hz.2.2.1 | exact hz.2.2.2.1 | exact hz.2.2.2.2.1 | exact hz.2.2.2.2.2.1 | exact hz.2.2.2.2.2.2)))
    | (show _ ∧ _; and_intros <;> first | (apply Or.inl; decide +kernel) | (apply Or.inr; with_reducible rfl))
    | with_reducible exact Touch.refl _
    | with_reducible apply Touch.setRegs
    | with_reducible apply Touch.to (State.hubFree_touch ..)
    | (first | (refine up_20000 ?_ (by decide +kernel); simp only [R.gpDevId0, R.gpDevState]; omega) | (intro j hj; refine up_20000 ?_ (by decide +kernel); refine Nat.le_trans ?_ hj; simp only [R.gpDevId0, R.gpDevState]; omega))
    | dsimp only
    | with_reducible refine Touch.mk' ?_ rfl rfl ?_ ?_

theorem State.unchoose_touch (s : State) (n : Nat) (t : Attach) : Touch 0x3FF000056C7F920 s (State.unchoose s n t) := by
  unfold State.unchoose
  try dsimp only
  repeat' first
    | (show sub _ _ = true; decide +kernel)
    | with_reducible exact Touch.refl _
    | with_reducible apply Touch.to (State.leave_touch ..)
    | with_reducible apply Touch.to (State.unbind_touch ..)
    | with_reducible refine Touch.ite ?_ ?_
    | split
    | dsimp only

theorem State.enterLink_touch (s : State) (n : Nat) (st : Nat) : Touch 0x300000000000000 s (State.enterLink s n st) := by
  unfold State.enterLink
  try dsimp only
  repeat' first
    | (show sub _ _ = true; decide +kernel)
    | with_reducible exact Touch.refl _
    | with_reducible apply Touch.to (State.setLink_touch ..)
    | dsimp only

theorem State.portPulse_touch (s : State) (n : Nat) : Touch 0x300000000002800 s (State.portPulse s n) := by
  unfold State.portPulse
  try dsimp only
  repeat' first
    | (show sub _ _ = true; decide +kernel)
    | with_reducible exact Touch.refl _
    | with_reducible apply Touch.to (State.enterLink_touch ..)
    | with_reducible apply Touch.to (State.modPort_touch ..)
    | with_reducible apply Touch.to (State.put_touch ..)
    | with_reducible apply Touch.to (State.permitDrop_touch ..)
    | with_reducible apply Touch.to (State.permitReturn_touch ..)
    | with_reducible refine Touch.ite ?_ ?_
    | (refine up_20000 ?_ (by decide +kernel); simp only [F.gpLinkStatus_permit_wait, R.gpLinkStatus]; omega)
    | split
    | dsimp only

theorem State.detach_touch (s : State) (n : Nat) (as : List Nat) (t : Nat) (q : Nat) : Touch 0x3FD000056C1F920 s (State.detach s n as t q) := by
  unfold State.detach
  try dsimp only
  repeat' first
    | (show sub _ _ = true; decide +kernel)
    | with_reducible assumption
    | with_reducible exact Touch.refl _
    | with_reducible apply Touch.to (State.leave_touch ..)
    | with_reducible refine Touch.forEach ?_ (fun _ _ _ => ?_)
    | dsimp only

theorem State.detachTree_touch (s : State) (n : Nat) : Touch 0x3FD000056C1F920 s (State.detachTree s n) := by
  unfold State.detachTree
  try dsimp only
  repeat' first
    | (show sub _ _ = true; decide +kernel)
    | with_reducible exact Touch.refl _
    | with_reducible apply Touch.to (State.detach_touch ..)
    | dsimp only

theorem State.attachEnd_touch (s : State) (n : Nat) : Touch 0x300000000002000 s (State.attachEnd s n) := by
  unfold State.attachEnd
  try dsimp only
  repeat' first
    | (show sub _ _ = true; decide +kernel)
    | with_reducible exact Touch.refl _
    | with_reducible apply Touch.to (State.attachKick_touch ..)
    | with_reducible apply Touch.to (State.put_touch ..)
    | with_reducible apply Touch.to (State.modPort_touch ..)
    | (refine up_20000 ?_ (by decide +kernel); simp only [F.gpAccStatus_attach_addr, F.gpAccStatus_busy, R.gpAccStatus]; omega)
    | dsimp only

theorem State.attachReject_touch (s : State) (n : Nat) (t : Attach) (detail : Nat) : Touch 0x3FF000056C7F920 s (State.attachReject s n t detail) := by
  unfold State.attachReject
  try dsimp only
  repeat' first
    | (show sub _ _ = true; decide +kernel)
    | with_reducible exact Touch.refl _
    | with_reducible apply Touch.to (State.modPort_touch ..)
    | with_reducible apply Touch.to (State.clearTries_touch ..)
    | with_reducible apply Touch.to (State.unchoose_touch ..)
    | with_reducible apply Touch.to (State.portPulse_touch ..)
    | with_reducible apply Touch.to (State.detachTree_touch ..)
    | with_reducible apply Touch.to (State.put_touch ..)
    | with_reducible apply Touch.to (State.setHubPort_touch ..)
    | with_reducible apply Touch.to (State.raise_touch ..)
    | with_reducible apply Touch.to (State.accRecord_touch ..)
    | with_reducible apply Touch.to (State.attachEnd_touch ..)
    | with_reducible refine Touch.ite ?_ ?_
    | (refine up_20000 ?_ (by decide +kernel); simp only [F.gpAccEvents_rejected, F.gpLinkCtrl_enable, R.gpAccEvents, R.gpLinkCtrl]; omega)
    | split
    | dsimp only

theorem State.attachFail_touch (s : State) (n : Nat) (detail : Nat) : Touch 0x3FF000056C7F920 s (State.attachFail s n detail) := by
  unfold State.attachFail
  try dsimp only
  repeat' first
    | (show sub _ _ = true; decide +kernel)
    | with_reducible exact Touch.refl _
    | with_reducible apply Touch.to (State.attachReject_touch ..)
    | with_reducible apply Touch.to (State.modPort_touch ..)
    | with_reducible apply Touch.to (State.unchoose_touch ..)
    | with_reducible refine Touch.ite ?_ ?_
    | split
    | dsimp only

theorem State.getIdentity_touch (s : State) (n : Nat) (a : Nat) (use : CtlFor) : Touch 0x2000 s (State.getIdentity s n a use) := by
  unfold State.getIdentity
  try dsimp only
  repeat' first
    | (show sub _ _ = true; decide +kernel)
    | with_reducible exact Touch.refl _
    | with_reducible apply Touch.to (State.startCtl_touch ..)
    | dsimp only

theorem State.accFail_touch (s : State) (n : Nat) (c : Ctl) (lost : Bool) (stall : Bool) : Touch 0x3FF000056C7F920 s (State.accFail s n c lost stall) := by
  unfold State.accFail
  try dsimp only
  repeat' first
    | (show sub _ _ = true; decide +kernel)
    | with_reducible exact Touch.refl _
    | with_reducible apply Touch.to (State.attachFail_touch ..)
    | with_reducible apply Touch.to (State.getIdentity_touch ..)
    | with_reducible apply Touch.to (State.modPort_touch ..)
    | with_reducible refine Touch.ite ?_ ?_
    | split
    | dsimp only

theorem State.bind_touch (s : State) (n : Nat) (a : Nat) (d : List Byte) (parent : Nat) (pt : Nat) : Touch 0x300000000004000 s (State.bind s n a d parent pt) := by
  unfold State.bind
  try dsimp only
  repeat' first
    | (show sub _ _ = true; decide +kernel)
    | with_reducible exact Touch.refl _
    | with_reducible apply Touch.setRegs
    | with_reducible apply Touch.to (State.modDev_touch ..)
    | with_reducible refine Touch.ite ?_ ?_
    | (first | (refine up_20000 ?_ (by decide +kernel); simp only [R.gpDevId0, R.gpDevState]; omega) | (intro j hj; refine up_20000 ?_ (by decide +kernel); refine Nat.le_trans ?_ hj; simp only [R.gpDevId0, R.gpDevState]; omega))
    | split
    | dsimp only

theorem State.attachTake_touch (s : State) (n a : Nat) (t : Attach) (fresh : Bool) : Touch 0x3FF000056C7F920 s (s.attachTake n a t fresh) := by
  have base : Touch 0x3FF000056C7F920 s ((((if s.attached n a then s.leave n a 1 0x04 (some (0x04, s.now, s.chipQuality s.now)) else s).bind n a t.desc t.parent
      t.port).modPort n fun g => { g with attach := some { t with step := 4, addr := a, fresh := fresh } }).put (F.gpAccStatus_attach_addr n) a) := by
    repeat' first
      | (show sub _ _ = true; decide +kernel)
      | with_reducible exact Touch.refl _
      | with_reducible apply Touch.to (State.leave_touch ..)
      | with_reducible apply Touch.to (State.bind_touch ..)
      | with_reducible apply Touch.to (State.modPort_touch ..)
      | with_reducible apply Touch.to (State.put_touch ..)
      | with_reducible refine Touch.ite ?_ ?_
      | (refine up_20000 ?_ (by decide +kernel); simp only [F.gpAccStatus_attach_addr, R.gpAccStatus]; omega)
  have two : ∀ u : State, Touch 0x3FF000056C7F920 s u → Touch 0x3FF000056C7F920 s (match (if byteAt t.desc 2 = 1 then u.hubClaim n a else some u) with
      | none => u.attachReject n { t with step := 4, addr := a, fresh := fresh } 3
      | some s3 => s3.startCtl n 0 .setAddress (setupBytes false 0 2 a 0 0)) := by
    intro u hu
    split
    · exact Touch.to (State.attachReject_touch ..) (by decide +kernel) hu
    · rename_i x s3 h
      refine Touch.to (State.startCtl_touch ..) (by decide +kernel) ?_
      split at h
      · exact hu.trans ((State.hubClaim_touch _ _ _ _ h).weaken (by decide +kernel))
      · cases h; exact hu
  exact two _ base

theorem State.attachChoose_touch (s : State) (n : Nat) (t : Attach) : Touch 0x3FF000056C7F920 s (State.attachChoose s n t) := by
  unfold State.attachChoose
  try dsimp only
  repeat' first
    | (show sub _ _ = true; decide +kernel)
    | with_reducible exact Touch.refl _
    | with_reducible apply Touch.to (State.attachReject_touch ..)
    | with_reducible apply Touch.to (State.attachTake_touch ..)
    | with_reducible apply Touch.to (State.setHubPort_touch ..)
    | with_reducible apply Touch.to (State.raise_touch ..)
    | with_reducible apply Touch.to (State.accRecord_touch ..)
    | with_reducible apply Touch.to (State.attachEnd_touch ..)
    | with_reducible apply Touch.to (State.modPort_touch ..)
    | with_reducible apply Touch.to (State.unbind_touch ..)
    | with_reducible refine Touch.ite ?_ ?_
    | (refine up_20000 ?_ (by decide +kernel); simp only [F.gpAccEvents_unknown, R.gpAccEvents]; omega)
    | split
    | dsimp only

theorem State.sweepShow_touch (s : State) (n : Nat) : Touch 0x300000000000000 s (State.sweepShow s n) := by
  unfold State.sweepShow
  try dsimp only
  repeat' first
    | (show sub _ _ = true; decide +kernel)
    | with_reducible exact Touch.refl _
    | with_reducible apply Touch.to (State.put_touch ..)
    | (refine up_20000 ?_ (by decide +kernel); simp only [F.gpAccStatus_sweeps_pending, R.gpAccStatus]; omega)
    | dsimp only

theorem State.sweepKick_touch (s : State) (n : Nat) : Touch 0x30000002800 s (State.sweepKick s n) := by
  unfold State.sweepKick
  try dsimp only
  repeat' first
    | (show sub _ _ = true; decide +kernel)
    | with_reducible exact Touch.refl _
    | with_reducible apply Touch.to (State.modPort_touch ..)
    | with_reducible apply Touch.to (State.permitAsk_touch ..)
    | with_reducible refine Touch.ite ?_ ?_
    | split
    | dsimp only

theorem State.sweepAdd_touch (s : State) (n : Nat) (a : Nat) : Touch 0x2000 s (State.sweepAdd s n a) := by
  unfold State.sweepAdd
  try dsimp only
  repeat' first
    | (show sub _ _ = true; decide +kernel)
    | with_reducible exact Touch.refl _
    | with_reducible apply Touch.to (State.modPort_touch ..)
    | with_reducible refine Touch.ite ?_ ?_
    | split
    | dsimp only

theorem State.sweepQueue_touch (s : State) (n : Nat) (a : Nat) : Touch 0x300030000002800 s (State.sweepQueue s n a) := by
  unfold State.sweepQueue
  try dsimp only
  repeat' first
    | (show sub _ _ = true; decide +kernel)
    | with_reducible exact Touch.refl _
    | with_reducible apply Touch.to (State.sweepShow_touch ..)
    | with_reducible apply Touch.to (State.sweepKick_touch ..)
    | with_reducible apply Touch.to (State.sweepAdd_touch ..)
    | dsimp only

theorem State.attachDone_touch (s : State) (n : Nat) (t : Attach) : Touch 0x301030000036800 s (State.attachDone s n t) := by
  unfold State.attachDone
  try dsimp only
  repeat' first
    | (show sub _ _ = true; decide +kernel)
    | with_reducible exact Touch.refl _
    | with_reducible apply Touch.to (State.devRecord_touch ..)
    | with_reducible apply Touch.to (State.setDevSt_touch ..)
    | with_reducible apply Touch.to (State.pxIdentity_touch ..)
    | with_reducible apply Touch.to (State.sweepQueue_touch ..)
    | with_reducible apply Touch.to (State.clearTries_touch ..)
    | with_reducible apply Touch.to (State.modDev_touch ..)
    | with_reducible apply Touch.to (State.startCtl_touch ..)
    | with_reducible apply Touch.to (State.modPort_touch ..)
    | with_reducible apply Touch.to (State.attachEnd_touch ..)
    | with_reducible refine Touch.ite ?_ ?_
    | split
    | dsimp only

theorem State.attachPorts_touch (s : State) (n : Nat) (t : Attach) : Touch 0x300000000002000 s (State.attachPorts s n t) := by
  unfold State.attachPorts
  try dsimp only
  repeat' first
    | (show sub _ _ = true; decide +kernel)
    | with_reducible exact Touch.refl _
    | with_reducible apply Touch.to (State.attachEnd_touch ..)
    | with_reducible apply Touch.to (State.startCtl_touch ..)
    | with_reducible apply Touch.to (State.modPort_touch ..)
    | split
    | dsimp only

theorem State.placeBack_touch (s : State) (n : Nat) (parent : Nat) (pt : Nat) : Touch 0x2000 s (State.placeBack s n parent pt) := by
  unfold State.placeBack
  try dsimp only
  repeat' first
    | (show sub _ _ = true; decide +kernel)
    | with_reducible exact Touch.refl _
    | with_reducible apply Touch.to (State.modPort_touch ..)
    | dsimp only

theorem State.attachQueue_touch (s : State) (n : Nat) (parent : Nat) (pt : Nat) : Touch 0x300000000002000 s (State.attachQueue s n parent pt) := by
  unfold State.attachQueue
  try dsimp only
  repeat' first
    | (show sub _ _ = true; decide +kernel)
    | with_reducible exact Touch.refl _
    | with_reducible apply Touch.to (State.placeBack_touch ..)
    | with_reducible apply Touch.to (State.attachKick_touch ..)
    | with_reducible apply Touch.to (State.modPort_touch ..)
    | with_reducible refine Touch.ite ?_ ?_
    | split
    | dsimp only

theorem State.accOk_touch (s : State) (n : Nat) (c : Ctl) : Touch 0x3FF030056C7F920 s (State.accOk s n c) := by
  unfold State.accOk
  try dsimp only
  repeat' first
    | (show sub _ _ = true; decide +kernel)
    | with_reducible exact Touch.refl _
    | with_reducible apply Touch.to (State.modPort_touch ..)
    | with_reducible apply Touch.to (State.attachChoose_touch ..)
    | with_reducible apply Touch.to (State.attachFail_touch ..)
    | with_reducible apply Touch.to (State.getIdentity_touch ..)
    | with_reducible apply Touch.to (State.attachDone_touch ..)
    | with_reducible apply Touch.to (State.attachPorts_touch ..)
    | with_reducible apply Touch.to (State.attachQueue_touch ..)
    | with_reducible refine Touch.ite ?_ ?_
    | split
    | dsimp only

theorem State.endTraining_touch (s : State) (n : Nat) : Touch 0x300000000000800 s (State.endTraining s n) := by
  unfold State.endTraining
  try dsimp only
  repeat' first
    | (show sub _ _ = true; decide +kernel)
    | with_reducible exact Touch.refl _
    | with_reducible apply Touch.to (State.put_touch ..)
    | with_reducible apply Touch.to (State.permitDrop_touch ..)
    | with_reducible apply Touch.to (State.permitReturn_touch ..)
    | (refine up_20000 ?_ (by decide +kernel); simp only [F.gpLinkStatus_permit_wait, R.gpLinkStatus]; omega)
    | dsimp only

theorem State.toDetect_touch (s : State) (n : Nat) : Touch 0x300000000002800 s (State.toDetect s n) := by
  unfold State.toDetect
  try dsimp only
  repeat' first
    | (show sub _ _ = true; decide +kernel)
    | with_reducible exact Touch.refl _
    | with_reducible apply Touch.to (State.modPort_touch ..)
    | with_reducible apply Touch.to (State.endTraining_touch ..)
    | with_reducible apply Touch.to (State.enterLink_touch ..)
    | dsimp only

theorem State.portEnable_touch (s : State) (n : Nat) : Touch 0x300000000002800 s (State.portEnable s n) := by
  unfold State.portEnable
  try dsimp only
  repeat' first
    | (show sub _ _ = true; decide +kernel)
    | with_reducible exact Touch.refl _
    | with_reducible apply Touch.to (State.modPort_touch ..)
    | with_reducible apply Touch.to (State.placeBack_touch ..)
    | with_reducible apply Touch.to (State.put_touch ..)
    | with_reducible apply Touch.to (State.toDetect_touch ..)
    | with_reducible refine Touch.ite ?_ ?_
    | (refine up_20000 ?_ (by decide +kernel); simp only [F.gpLinkCtrl_enable, R.gpLinkCtrl]; omega)
    | split
    | dsimp only

theorem State.accRetry_touch (s : State) (n : Nat) (hub : Nat) (p : Nat) : Touch 0x300000000002800 s (State.accRetry s n hub p) := by
  unfold State.accRetry
  try dsimp only
  repeat' first
    | (show sub _ _ = true; decide +kernel)
    | with_reducible exact Touch.refl _
    | with_reducible apply Touch.to (State.clearTries_touch ..)
    | with_reducible apply Touch.to (State.modPort_touch ..)
    | with_reducible apply Touch.to (State.portEnable_touch ..)
    | with_reducible apply Touch.to (State.setHubPort_touch ..)
    | with_reducible apply Touch.to (State.attachQueue_touch ..)
    | with_reducible refine Touch.ite ?_ ?_
    | split
    | dsimp only

theorem State.askTraining_touch (s : State) (n : Nat) : Touch 0x300030000000800 s (State.askTraining s n) := by
  unfold State.askTraining
  try dsimp only
  repeat' first
    | (show sub _ _ = true; decide +kernel)
    | with_reducible exact Touch.refl _
    | with_reducible apply Touch.to (State.put_touch ..)
    | with_reducible apply Touch.to (State.permitAsk_touch ..)
    | (refine up_20000 ?_ (by decide +kernel); simp only [F.gpLinkStatus_permit_wait, R.gpLinkStatus]; omega)
    | dsimp only

theorem State.resetPlace_touch (s : State) (n : Nat) (parent : Nat) (pt : Nat) : Touch 0x3FD000056C1F920 s (State.resetPlace s n parent pt) := by
  unfold State.resetPlace
  try dsimp only
  repeat' first
    | (show sub _ _ = true; decide +kernel)
    | with_reducible exact Touch.refl _
    | with_reducible apply Touch.to (State.detachTree_touch ..)
    | with_reducible apply Touch.to (State.portPulse_touch ..)
    | with_reducible apply Touch.to (State.setHubPort_touch ..)
    | with_reducible refine Touch.ite ?_ ?_
    | split
    | dsimp only

theorem State.attachAgain_touch (s : State) (n : Nat) : Touch 0x3FD000056C1F920 s (State.attachAgain s n) := by
  unfold State.attachAgain
  try dsimp only
  repeat' first
    | (show sub _ _ = true; decide +kernel)
    | with_reducible exact Touch.refl _
    | with_reducible apply Touch.to (State.modPort_touch ..)
    | with_reducible apply Touch.to (State.attachEnd_touch ..)
    | with_reducible apply Touch.to (State.resetPlace_touch ..)
    | with_reducible apply Touch.to (State.attachKick_touch ..)
    | with_reducible refine Touch.ite ?_ ?_
    | split
    | dsimp only

theorem State.attachOn_touch (s : State) (n : Nat) : Touch 0x3FD000056C1F920 s (State.attachOn s n) := by
  unfold State.attachOn
  try dsimp only
  repeat' first
    | (show sub _ _ = true; decide +kernel)
    | with_reducible exact Touch.refl _
    | with_reducible apply Touch.to (State.attachAgain_touch ..)
    | with_reducible apply Touch.to (State.attachKick_touch ..)
    | with_reducible refine Touch.ite ?_ ?_
    | split
    | dsimp only

theorem State.attachWaited_touch (s : State) (n : Nat) : Touch 0x2000 s (State.attachWaited s n) := by
  unfold State.attachWaited
  try dsimp only
  repeat' first
    | (show sub _ _ = true; decide +kernel)
    | with_reducible exact Touch.refl _
    | with_reducible apply Touch.to (State.getIdentity_touch ..)
    | with_reducible apply Touch.to (State.modPort_touch ..)
    | with_reducible refine Touch.ite ?_ ?_
    | split
    | dsimp only

theorem State.deviceCut_touch (s : State) (n a : Nat) (ev : Field) (t q : Nat) (h : 0x20000 ≤ ev.off) :
    Touch 0x3FD000056C1F920 s (s.deviceCut n a ev t q) := by
  unfold State.deviceCut
  dsimp only
  repeat' first
    | (show sub _ _ = true; decide +kernel)
    | with_reducible exact Touch.refl _
    | with_reducible apply Touch.to (State.detach_touch ..)
    | with_reducible apply Touch.to (State.modPort_touch ..)
    | with_reducible apply Touch.to (State.raise_touch ..)
    | with_reducible apply Touch.to (State.setBit_touch ..)
    | with_reducible apply Touch.to (State.leave_touch ..)
    | exact up_20000 h (by decide +kernel)
    | (refine up_20000 ?_ (by decide +kernel); split <;> simp only [R.gpCutMapLo, R.gpCutMapHi] <;> omega)

theorem State.linkLost_touch (s : State) (n : Nat) : Touch 0x3FD000056C1F920 s (State.linkLost s n) := by
  unfold State.linkLost
  try dsimp only
  repeat' first
    | (show sub _ _ = true; decide +kernel)
    | with_reducible assumption
    | with_reducible exact Touch.refl _
    | with_reducible apply Touch.to (State.modPort_touch ..)
    | with_reducible apply Touch.to (State.put_touch ..)
    | with_reducible apply Touch.to (State.detachTree_touch ..)
    | with_reducible apply Touch.to (State.clearRange_touch ..)
    | with_reducible apply Touch.to (State.sweepShow_touch ..)
    | with_reducible apply Touch.to (State.dropSweep_touch ..)
    | with_reducible refine Touch.ite ?_ ?_
    | with_reducible refine Touch.forEach ?_ (fun _ _ _ => ?_)
    | (refine up_20000 ?_ (by decide +kernel); simp only [F.gpAccStatus_attach_addr, F.gpAccStatus_busy, F.gpAccStatus_suspended, R.gpAccStatus]; omega)
    | split
    | dsimp only

theorem State.portCut_touch (s : State) (n : Nat) : Touch 0x3FD000056C1F920 s (State.portCut s n) := by
  unfold State.portCut
  try dsimp only
  repeat' first
    | (show sub _ _ = true; decide +kernel)
    | with_reducible exact Touch.refl _
    | with_reducible apply Touch.to (State.endTraining_touch ..)
    | with_reducible apply Touch.to (State.raise_touch ..)
    | with_reducible apply Touch.to (State.enterLink_touch ..)
    | with_reducible apply Touch.to (State.deviceCut_touch ..)
    | with_reducible apply Touch.to (State.linkLost_touch ..)
    | (refine up_20000 ?_ (by decide +kernel); simp only [F.gpLinkEvents_cut, R.gpLinkEvents]; omega)
    | (show 0x20000 ≤ _; simp only [F.gpXactEvents_device_cut, F.gpXactEvents_hub_cut, R.gpXactEvents]; omega)
    | split
    | dsimp only

theorem State.babble_touch (s : State) (n : Nat) (who : Option Nat) (inj : Bool) : Touch 0x3FD300056C1FF20 s (State.babble s n who inj) := by
  unfold State.babble
  try dsimp only
  repeat' first
    | (show sub _ _ = true; decide +kernel)
    | with_reducible exact Touch.refl _
    | with_reducible apply Touch.to (State.raise_touch ..)
    | with_reducible apply Touch.to (State.detect_touch ..)
    | with_reducible apply Touch.to (State.setReg_touch ..)
    | with_reducible apply Touch.to (State.bump_touch ..)
    | with_reducible apply Touch.to (State.modPort_touch ..)
    | with_reducible apply Touch.to (State.portCut_touch ..)
    | with_reducible apply Touch.to (State.setHubPort_touch ..)
    | with_reducible refine Touch.ite ?_ ?_
    | (refine up_20000 ?_ (by decide +kernel); simp only [F.gpBabbleCnt_attributed, F.gpBabbleCnt_unattributed, F.gpXactEvents_babble, R.gpBabbleCnt, R.gpLastBabble, R.gpXactEvents]; omega)
    | (show _ < 32; decide)
    | split
    | dsimp only

theorem State.resume_touch (s : State) (n : Nat) (cause : Nat) : Touch 0x300000000002000 s (State.resume s n cause) := by
  unfold State.resume
  try dsimp only
  repeat' first
    | (show sub _ _ = true; decide +kernel)
    | with_reducible exact Touch.refl _
    | with_reducible apply Touch.to (State.modPort_touch ..)
    | with_reducible apply Touch.to (State.put_touch ..)
    | with_reducible apply Touch.to (State.enterLink_touch ..)
    | with_reducible refine Touch.ite ?_ ?_
    | (refine up_20000 ?_ (by decide +kernel); simp only [F.gpAccStatus_resume_cause, R.gpAccStatus]; omega)
    | split
    | dsimp only

theorem State.resetGo_touch (s : State) (n : Nat) (b : BusReset) : Touch 0x3FD000056C1F920 s (State.resetGo s n b) := by
  unfold State.resetGo
  try dsimp only
  repeat' first
    | (show sub _ _ = true; decide +kernel)
    | with_reducible assumption
    | with_reducible exact Touch.refl _
    | with_reducible apply Touch.to (State.leave_touch ..)
    | with_reducible apply Touch.to (State.modPort_touch ..)
    | with_reducible apply Touch.to (State.portPulse_touch ..)
    | with_reducible apply Touch.to (State.linkLost_touch ..)
    | with_reducible apply Touch.to (State.setHubPort_touch ..)
    | with_reducible refine Touch.ite ?_ ?_
    | with_reducible refine Touch.forEach ?_ (fun _ _ _ => ?_)
    | split
    | dsimp only

theorem State.busReset_touch (s : State) (n : Nat) (a : Nat) : Touch 0x3FD000056C1F920 s (State.busReset s n a) := by
  unfold State.busReset
  try dsimp only
  repeat' first
    | (show sub _ _ = true; decide +kernel)
    | with_reducible assumption
    | with_reducible exact Touch.refl _
    | with_reducible apply Touch.to (State.modPort_touch ..)
    | with_reducible apply Touch.to (State.put_touch ..)
    | with_reducible apply Touch.to (State.workKill_touch ..)
    | with_reducible apply Touch.to (State.dropService_touch ..)
    | with_reducible apply Touch.to (State.resume_touch ..)
    | with_reducible apply Touch.to (State.resetGo_touch ..)
    | with_reducible refine Touch.ite ?_ ?_
    | with_reducible refine Touch.forEach ?_ (fun _ _ _ => ?_)
    | (refine up_20000 ?_ (by decide +kernel); simp only [F.gpAccStatus_reset_active, R.gpAccStatus]; omega)
    | split
    | dsimp only

theorem State.suspendAsk_touch (s : State) (n : Nat) : Touch 0x2000 s (State.suspendAsk s n) := by
  unfold State.suspendAsk
  try dsimp only
  repeat' first
    | (show sub _ _ = true; decide +kernel)
    | with_reducible exact Touch.refl _
    | with_reducible apply Touch.to (State.modPort_touch ..)
    | with_reducible refine Touch.ite ?_ ?_
    | split
    | dsimp only

theorem State.closeAsk_touch (s : State) (n : Nat) : Touch 0x2800 s (State.closeAsk s n) := by
  unfold State.closeAsk
  try dsimp only
  repeat' first
    | (show sub _ _ = true; decide +kernel)
    | (show State.sizesOk _ = true → _; first | with_reducible exact id | (intro hz; simp only [State.sizesOk, listSet_length, List.length_map, List.length_replicate] at hz ⊢; first | exact hz | (rw [sizesOf_iff] at hz ⊢; and_intros <;> first | rfl | exact hz.1 | exact hz.2.1 | exact hz.2.2.1 | exact hz.2.2.2.1 | exact hz.2.2.2.2.1 | exact hz.2.2.2.2.2.1 | exact hz.2.2.2.2.2.2)))
    | (show _ ∧ _; and_intros <;> first | (apply Or.inl; decide +kernel) | (apply Or.inr; with_reducible rfl))
    | with_reducible exact Touch.refl _
    | with_reducible apply Touch.to (State.suspendAsk_touch ..)
    | with_reducible refine Touch.ite ?_ ?_
    | split
    | dsimp only
    | with_reducible refine Touch.mk' ?_ rfl rfl ?_ ?_

theorem State.cutAcked_touch (s : State) (n : Nat) (hub : Nat) (p : Nat) : Touch 0x3FD000056C1F920 s (State.cutAcked s n hub p) := by
  unfold State.cutAcked
  try dsimp only
  repeat' first
    | (show sub _ _ = true; decide +kernel)
    | with_reducible exact Touch.refl _
    | with_reducible apply Touch.to (State.deviceCut_touch ..)
    | with_reducible refine Touch.ite ?_ ?_
    | (show 0x20000 ≤ _; simp only [F.gpXactEvents_device_cut, F.gpXactEvents_hub_cut, R.gpXactEvents]; omega)
    | split
    | dsimp only

theorem State.uncut_touch (s : State) (n : Nat) (a : Nat) : Touch 0x300000000004000 s (State.uncut s n a) := by
  unfold State.uncut
  try dsimp only
  repeat' first
    | (show sub _ _ = true; decide +kernel)
    | with_reducible exact Touch.refl _
    | with_reducible apply Touch.to (State.modDev_touch ..)
    | with_reducible apply Touch.to (State.clrBit_touch ..)
    | with_reducible apply Touch.to (State.setDevSt_touch ..)
    | with_reducible refine Touch.ite ?_ ?_
    | (refine up_20000 ?_ (by decide +kernel); simp only [R.gpCutMapHi, R.gpCutMapLo]; omega)
    | split
    | dsimp only

theorem State.portCutRelease_touch (s : State) (n : Nat) : Touch 0x300000000006800 s (State.portCutRelease s n) := by
  unfold State.portCutRelease
  try dsimp only
  repeat' first
    | (show sub _ _ = true; decide +kernel)
    | with_reducible assumption
    | with_reducible exact Touch.refl _
    | with_reducible apply Touch.to (State.toDetect_touch ..)
    | with_reducible apply Touch.to (State.uncut_touch ..)
    | with_reducible refine Touch.ite ?_ ?_
    | with_reducible refine Touch.forEach ?_ (fun _ _ _ => ?_)
    | split
    | dsimp only

theorem State.cutRelease_touch (s : State) (n : Nat) (a : Nat) : Touch 0x300000000006800 s (State.cutRelease s n a) := by
  unfold State.cutRelease
  try dsimp only
  repeat' first
    | (show sub _ _ = true; decide +kernel)
    | with_reducible exact Touch.refl _
    | with_reducible apply Touch.to (State.portCutRelease_touch ..)
    | with_reducible apply Touch.to (State.uncut_touch ..)
    | with_reducible apply Touch.to (State.setHubPort_touch ..)
    | with_reducible refine Touch.ite ?_ ?_
    | split
    | dsimp only

theorem State.deviceLost_touch (s : State) (n : Nat) (a : Nat) : Touch 0x3FD000056C1F920 s (State.deviceLost s n a) := by
  unfold State.deviceLost
  try dsimp only
  repeat' first
    | (show sub _ _ = true; decide +kernel)
    | with_reducible exact Touch.refl _
    | with_reducible apply Touch.to (State.leave_touch ..)
    | with_reducible apply Touch.to (State.raise_touch ..)
    | with_reducible apply Touch.to (State.resetPlace_touch ..)
    | with_reducible apply Touch.to (State.detach_touch ..)
    | (refine up_20000 ?_ (by decide +kernel); simp only [F.gpXactEvents_device_lost, R.gpXactEvents]; omega)
    | dsimp only

theorem State.sweepOver_touch (s : State) (n : Nat) (a : Nat) : Touch 0x300030000002800 s (State.sweepOver s n a) := by
  unfold State.sweepOver
  try dsimp only
  repeat' first
    | (show sub _ _ = true; decide +kernel)
    | with_reducible exact Touch.refl _
    | with_reducible apply Touch.to (State.sweepShow_touch ..)
    | with_reducible apply Touch.to (State.sweepKick_touch ..)
    | with_reducible apply Touch.to (State.dropSweep_touch ..)
    | dsimp only

theorem State.sweepFail_touch (s : State) (n : Nat) (w : Sweep) : Touch 0x301030000012800 s (State.sweepFail s n w) := by
  unfold State.sweepFail
  try dsimp only
  repeat' first
    | (show sub _ _ = true; decide +kernel)
    | with_reducible exact Touch.refl _
    | with_reducible apply Touch.to (State.sweepOver_touch ..)
    | with_reducible apply Touch.to (State.raise_touch ..)
    | with_reducible apply Touch.to (State.devRecord_touch ..)
    | with_reducible apply Touch.to (State.serve_touch ..)
    | with_reducible apply Touch.to (State.modPort_touch ..)
    | with_reducible refine Touch.ite ?_ ?_
    | (refine up_20000 ?_ (by decide +kernel); simp only [F.gpAccEvents_sweep_failed, R.gpAccEvents]; omega)
    | split
    | dsimp only

theorem State.sweepOn_touch (s : State) (n : Nat) (w : Sweep) : Touch 0x301030000012800 s (State.sweepOn s n w) := by
  unfold State.sweepOn
  try dsimp only
  repeat' first
    | (show sub _ _ = true; decide +kernel)
    | with_reducible exact Touch.refl _
    | with_reducible apply Touch.to (State.serve_touch ..)
    | with_reducible apply Touch.to (State.modPort_touch ..)
    | with_reducible apply Touch.to (State.sweepFail_touch ..)
    | with_reducible refine Touch.ite ?_ ?_
    | split
    | dsimp only

theorem State.unrange_touch (s : State) (n : Nat) (a : Nat) : Touch 0x3E1030000016800 s (State.unrange s n a) := by
  unfold State.unrange
  try dsimp only
  repeat' first
    | (show sub _ _ = true; decide +kernel)
    | with_reducible exact Touch.refl _
    | with_reducible apply Touch.to (State.sweepQueue_touch ..)
    | with_reducible apply Touch.to (State.modDev_touch ..)
    | with_reducible apply Touch.to (State.clearRange_touch ..)
    | with_reducible apply Touch.to (State.devRecord_touch ..)
    | with_reducible apply Touch.to (State.raise_touch ..)
    | with_reducible apply Touch.to (State.setDevSt_touch ..)
    | with_reducible refine Touch.ite ?_ ?_
    | (refine up_20000 ?_ (by decide +kernel); simp only [F.gpLinkEvents_range_shift, R.gpLinkEvents]; omega)
    | split
    | dsimp only

theorem State.echoLost_touch (s : State) (n : Nat) (a : Nat) : Touch 0x3E1030000016800 s (State.echoLost s n a) := by
  unfold State.echoLost
  try dsimp only
  repeat' first
    | (show sub _ _ = true; decide +kernel)
    | with_reducible exact Touch.refl _
    | with_reducible apply Touch.to (State.sweepFail_touch ..)
    | with_reducible apply Touch.to (State.serve_touch ..)
    | with_reducible apply Touch.to (State.modPort_touch ..)
    | with_reducible apply Touch.to (State.sweepOn_touch ..)
    | with_reducible apply Touch.to (State.unrange_touch ..)
    | with_reducible apply Touch.to (State.modDev_touch ..)
    | with_reducible refine Touch.ite ?_ ?_
    | split
    | dsimp only

theorem State.signalSeen_touch (s : State) (n : Nat) (b : Bool) : Touch 0x300000000000000 s (State.signalSeen s n b) := by
  unfold State.signalSeen
  try dsimp only
  repeat' first
    | (show sub _ _ = true; decide +kernel)
    | with_reducible exact Touch.refl _
    | with_reducible apply Touch.to (State.putB_touch ..)
    | with_reducible refine Touch.ite ?_ ?_
    | (refine up_20000 ?_ (by decide +kernel); simp only [F.gpLinkStatus_signal_present, R.gpLinkStatus]; omega)
    | split
    | dsimp only

theorem State.gpBeacon_touch (s : State) (n : Nat) (t : Nat) (commas : Bool) : Touch 0x300030000002800 s (State.gpBeacon s n t commas) := by
  unfold State.gpBeacon
  try dsimp only
  repeat' first
    | (show sub _ _ = true; decide +kernel)
    | with_reducible exact Touch.refl _
    | with_reducible apply Touch.to (State.signalSeen_touch ..)
    | with_reducible apply Touch.to (State.modPort_touch ..)
    | with_reducible apply Touch.to (State.askTraining_touch ..)
    | with_reducible refine Touch.ite ?_ ?_
    | split
    | dsimp only

theorem State.gpBeaconLoss_touch (s : State) (n : Nat) : Touch 0x300000000002800 s (State.gpBeaconLoss s n) := by
  unfold State.gpBeaconLoss
  try dsimp only
  repeat' first
    | (show sub _ _ = true; decide +kernel)
    | with_reducible exact Touch.refl _
    | with_reducible apply Touch.to (State.modPort_touch ..)
    | with_reducible apply Touch.to (State.signalSeen_touch ..)
    | with_reducible apply Touch.to (State.endTraining_touch ..)
    | with_reducible refine Touch.ite ?_ ?_
    | split
    | dsimp only

theorem State.gpFastTimeout_touch (s : State) (n : Nat) : Touch 0x2000 s (State.gpFastTimeout s n) := by
  unfold State.gpFastTimeout
  try dsimp only
  repeat' first
    | (show sub _ _ = true; decide +kernel)
    | with_reducible exact Touch.refl _
    | with_reducible apply Touch.to (State.modPort_touch ..)
    | with_reducible refine Touch.ite ?_ ?_
    | split
    | dsimp only

theorem State.gpHit_touch (s : State) (n : Nat) : Touch 0x300000000002800 s (State.gpHit s n) := by
  unfold State.gpHit
  try dsimp only
  repeat' first
    | (show sub _ _ = true; decide +kernel)
    | with_reducible exact Touch.refl _
    | with_reducible apply Touch.to (State.modPort_touch ..)
    | with_reducible apply Touch.to (State.raise_touch ..)
    | with_reducible apply Touch.to (State.bump_touch ..)
    | with_reducible apply Touch.to (State.enterLink_touch ..)
    | with_reducible apply Touch.to (State.sweepShow_touch ..)
    | with_reducible apply Touch.to (State.sweepAdd_touch ..)
    | with_reducible apply Touch.to (State.dropSweep_touch ..)
    | with_reducible refine Touch.ite ?_ ?_
    | (refine up_20000 ?_ (by decide +kernel); simp only [F.gpHitCnt_hits, F.gpLinkEvents_hit, R.gpHitCnt, R.gpLinkEvents]; omega)
    | split
    | dsimp only

theorem State.gpHitTimeout_touch (s : State) (n : Nat) : Touch 0x3FD000056C1F920 s (State.gpHitTimeout s n) := by
  unfold State.gpHitTimeout
  try dsimp only
  repeat' first
    | (show sub _ _ = true; decide +kernel)
    | with_reducible exact Touch.refl _
    | with_reducible apply Touch.to (State.linkLost_touch ..)
    | with_reducible apply Touch.to (State.raise_touch ..)
    | with_reducible apply Touch.to (State.toDetect_touch ..)
    | with_reducible refine Touch.ite ?_ ?_
    | (refine up_20000 ?_ (by decide +kernel); simp only [F.gpLinkEvents_detached, R.gpLinkEvents]; omega)
    | split
    | dsimp only

theorem State.gpPermitRetry_touch (s : State) (n : Nat) : Touch 0x300030000000800 s (State.gpPermitRetry s n) := by
  unfold State.gpPermitRetry
  try dsimp only
  repeat' first
    | (show sub _ _ = true; decide +kernel)
    | with_reducible exact Touch.refl _
    | with_reducible apply Touch.to (State.askTraining_touch ..)
    | with_reducible refine Touch.ite ?_ ?_
    | split
    | dsimp only

theorem State.trainFailed_touch (s : State) (n : Nat) : Touch 0x3FD000056C1F920 s (State.trainFailed s n) := by
  unfold State.trainFailed
  try dsimp only
  repeat' first
    | (show sub _ _ = true; decide +kernel)
    | with_reducible exact Touch.refl _
    | with_reducible apply Touch.to (State.modPort_touch ..)
    | with_reducible apply Touch.to (State.raise_touch ..)
    | with_reducible apply Touch.to (State.bump_touch ..)
    | with_reducible apply Touch.to (State.toDetect_touch ..)
    | with_reducible apply Touch.to (State.linkLost_touch ..)
    | with_reducible refine Touch.ite ?_ ?_
    | (refine up_20000 ?_ (by decide +kernel); simp only [F.gpHitCnt_train_fail, F.gpLinkEvents_train_fail, R.gpHitCnt, R.gpLinkEvents]; omega)
    | split
    | dsimp only

theorem State.gpTrainTimeout_touch (s : State) (n : Nat) : Touch 0x3FD000056C1F920 s (State.gpTrainTimeout s n) := by
  unfold State.gpTrainTimeout
  try dsimp only
  repeat' first
    | (show sub _ _ = true; decide +kernel)
    | with_reducible exact Touch.refl _
    | with_reducible apply Touch.to (State.trainFailed_touch ..)
    | with_reducible refine Touch.ite ?_ ?_
    | split
    | dsimp only

theorem State.resync_touch (s : State) (n : Nat) (r : Nat) : Touch 0x300000000000000 s (State.resync s n r) := by
  unfold State.resync
  try dsimp only
  repeat' first
    | (show sub _ _ = true; decide +kernel)
    | with_reducible assumption
    | with_reducible exact Touch.refl _
    | with_reducible apply Touch.to (State.setDevSt_touch ..)
    | with_reducible refine Touch.forEach ?_ (fun _ _ _ => ?_)
    | dsimp only

theorem State.hubSweep_touch (s : State) (n : Nat) : Touch 0x300030000002800 s (State.hubSweep s n) := by
  unfold State.hubSweep
  try dsimp only
  repeat' first
    | (show sub _ _ = true; decide +kernel)
    | with_reducible assumption
    | with_reducible exact Touch.refl _
    | with_reducible apply Touch.to (State.sweepQueue_touch ..)
    | with_reducible refine Touch.forEach ?_ (fun _ _ _ => ?_)
    | dsimp only

theorem State.gpTrainedTo_touch (s : State) (n : Nat) (role : Nat) : Touch 0x3FD030056C1F920 s (State.gpTrainedTo s n role) := by
  unfold State.gpTrainedTo
  try dsimp only
  repeat' first
    | (show sub _ _ = true; decide +kernel)
    | with_reducible exact Touch.refl _
    | with_reducible apply Touch.to (State.put_touch ..)
    | with_reducible apply Touch.to (State.raise_touch ..)
    | with_reducible apply Touch.to (State.modPort_touch ..)
    | with_reducible apply Touch.to (State.enterLink_touch ..)
    | with_reducible apply Touch.to (State.resync_touch ..)
    | with_reducible apply Touch.to (State.attachOn_touch ..)
    | with_reducible apply Touch.to (State.sweepKick_touch ..)
    | with_reducible apply Touch.to (State.signalSeen_touch ..)
    | with_reducible apply Touch.to (State.bump_touch ..)
    | with_reducible apply Touch.to (State.trainFailed_touch ..)
    | with_reducible apply Touch.to (State.endTraining_touch ..)
    | with_reducible apply Touch.to (State.attachQueue_touch ..)
    | with_reducible apply Touch.to (State.hubSweep_touch ..)
    | with_reducible refine Touch.ite ?_ ?_
    | (refine up_20000 ?_ (by decide +kernel); simp only [F.gpHitCnt_train_fail, F.gpLinkEvents_attached, F.gpLinkEvents_hit_recovered, F.gpLinkEvents_train_fail, F.gpLinkStatus_partner_role, R.gpHitCnt, R.gpLinkEvents, R.gpLinkStatus]; omega)
    | split
    | dsimp only

theorem State.gpTrained_touch (s : State) (n : Nat) (role : Nat) : Touch 0x3FD030056C1F920 s (State.gpTrained s n role) := by
  unfold State.gpTrained
  try dsimp only
  repeat' first
    | (show sub _ _ = true; decide +kernel)
    | with_reducible exact Touch.refl _
    | with_reducible apply Touch.to (State.closeAsk_touch ..)
    | with_reducible apply Touch.to (State.gpTrainedTo_touch ..)
    | dsimp only

theorem State.placeLeft_touch (s : State) (n : Nat) (a : Nat) (p : Nat) : Touch 0x2000 s (State.placeLeft s n a p) := by
  unfold State.placeLeft
  try dsimp only
  repeat' first
    | (show sub _ _ = true; decide +kernel)
    | with_reducible exact Touch.refl _
    | with_reducible apply Touch.to (State.modPort_touch ..)
    | with_reducible refine Touch.ite ?_ ?_
    | split
    | dsimp only

theorem State.hubReport_touch (s : State) (n : Nat) (a : Nat) (b : List Byte) : Touch 0x3FD000056C1F920 s (State.hubReport s n a b) := by
  unfold State.hubReport
  try dsimp only
  repeat' first
    | (show sub _ _ = true; decide +kernel)
    | with_reducible exact Touch.refl _
    | with_reducible apply Touch.to (State.raise_touch ..)
    | with_reducible apply Touch.to (State.deviceCut_touch ..)
    | with_reducible apply Touch.to (State.detach_touch ..)
    | with_reducible apply Touch.to (State.placeLeft_touch ..)
    | with_reducible apply Touch.to (State.resync_touch ..)
    | with_reducible apply Touch.to (State.attachQueue_touch ..)
    | with_reducible refine Touch.ite ?_ ?_
    | (refine up_20000 ?_ (by decide +kernel); simp only [F.gpXactEvents_hub_cut, F.gpXactEvents_owner_changed, R.gpXactEvents]; omega)
    | (show 0x20000 ≤ _; simp only [F.gpXactEvents_device_cut, F.gpXactEvents_hub_cut, R.gpXactEvents]; omega)
    | split
    | dsimp only

theorem State.resetDone_touch (s : State) (n : Nat) (b : BusReset) : Touch 0x301000000012000 s (State.resetDone s n b) := by
  unfold State.resetDone
  try dsimp only
  repeat' first
    | (show sub _ _ = true; decide +kernel)
    | with_reducible exact Touch.refl _
    | with_reducible apply Touch.to (State.modPort_touch ..)
    | with_reducible apply Touch.to (State.raise_touch ..)
    | with_reducible apply Touch.to (State.accRecord_touch ..)
    | with_reducible apply Touch.to (State.put_touch ..)
    | (refine up_20000 ?_ (by decide +kernel); simp only [F.gpAccEvents_reset_done, F.gpAccStatus_reset_active, R.gpAccEvents, R.gpAccStatus]; omega)
    | dsimp only

theorem State.resetCheck_touch (s : State) (n : Nat) : Touch 0x301000000012000 s (State.resetCheck s n) := by
  unfold State.resetCheck
  try dsimp only
  repeat' first
    | (show sub _ _ = true; decide +kernel)
    | with_reducible assumption
    | with_reducible exact Touch.refl _
    | with_reducible apply Touch.to (State.resetDone_touch ..)
    | with_reducible refine Touch.ite ?_ ?_
    | with_reducible refine Touch.forEach ?_ (fun _ _ _ => ?_)
    | split
    | dsimp only

theorem State.twinDerive_touch (s : State) (n : Nat) (a : Nat) : Touch 0x300000000000000 s (State.twinDerive s n a) := by
  unfold State.twinDerive
  try dsimp only
  repeat' first
    | (show sub _ _ = true; decide +kernel)
    | with_reducible exact Touch.refl _
    | with_reducible apply Touch.to (State.put_touch ..)
    | with_reducible refine Touch.ite ?_ ?_
    | (refine up_20000 ?_ (by decide +kernel); simp only [F.gpRangeDev2_l_rt, F.gpRangeDev3_rtt, R.gpRangeDev2, R.gpRangeDev3]; omega)
    | split
    | dsimp only

theorem State.twinDeriveAll_touch (s : State) (n : Nat) : Touch 0x300000000000000 s (State.twinDeriveAll s n) := by
  unfold State.twinDeriveAll
  try dsimp only
  repeat' first
    | (show sub _ _ = true; decide +kernel)
    | with_reducible assumption
    | with_reducible exact Touch.refl _
    | with_reducible apply Touch.to (State.twinDerive_touch ..)
    | with_reducible refine Touch.forEach ?_ (fun _ _ _ => ?_)
    | dsimp only

theorem State.storeRange_touch (s : State) (n : Nat) (a : Nat) (lrt : Int) (rd : Nat) (ru : Nat) (tt : Nat) : Touch 0x3E0000000000000 s (State.storeRange s n a lrt rd ru tt) := by
  unfold State.storeRange
  try dsimp only
  repeat' first
    | (show sub _ _ = true; decide +kernel)
    | with_reducible exact Touch.refl _
    | with_reducible apply Touch.setRegs
    | with_reducible apply Touch.to (State.put_touch ..)
    | with_reducible apply Touch.to (State.twinDeriveAll_touch ..)
    | with_reducible refine Touch.ite ?_ ?_
    | (first | (refine up_20000 ?_ (by decide +kernel); simp only [F.twHop_d_hop, F.twHop_valid, R.gpRangeDev0, R.twHop]; omega) | (intro j hj; refine up_20000 ?_ (by decide +kernel); refine Nat.le_trans ?_ hj; simp only [F.twHop_d_hop, F.twHop_valid, R.gpRangeDev0, R.twHop]; omega))
    | (first | (refine up_d000 ?_ (by decide +kernel); simp only [F.twHop_d_hop, F.twHop_valid, R.gpRangeDev0, R.twHop]; omega) | (intro j hj; refine up_d000 ?_ (by decide +kernel); refine Nat.le_trans ?_ hj; simp only [F.twHop_d_hop, F.twHop_valid, R.gpRangeDev0, R.twHop]; omega))
    | split
    | dsimp only

theorem State.maintain_touch (s : State) (n : Nat) (a : Nat) (lrt : Int) (rd : Nat) (ru : Nat) (tt : Nat) : Touch 0x3E1030000016800 s (State.maintain s n a lrt rd ru tt) := by
  unfold State.maintain
  try dsimp only
  repeat' first
    | (show sub _ _ = true; decide +kernel)
    | with_reducible exact Touch.refl _
    | with_reducible apply Touch.to (State.modDev_touch ..)
    | with_reducible apply Touch.to (State.resetCheck_touch ..)
    | with_reducible apply Touch.to (State.setDevSt_touch ..)
    | with_reducible apply Touch.to (State.storeRange_touch ..)
    | with_reducible apply Touch.to (State.unrange_touch ..)
    | with_reducible apply Touch.to (State.bump_touch ..)
    | with_reducible refine Touch.ite ?_ ?_
    | (refine up_20000 ?_ (by decide +kernel); simp only [F.gpRangeCfg_excursions, R.gpRangeCfg]; omega)
    | split
    | dsimp only

theorem State.portDisable_touch (s : State) (n : Nat) : Touch 0x3FD000056C1F920 s (State.portDisable s n) := by
  unfold State.portDisable
  try dsimp only
  repeat' first
    | (show sub _ _ = true; decide +kernel)
    | with_reducible exact Touch.refl _
    | with_reducible apply Touch.to (State.endTraining_touch ..)
    | with_reducible apply Touch.to (State.enterLink_touch ..)
    | with_reducible apply Touch.to (State.put_touch ..)
    | with_reducible apply Touch.to (State.modPort_touch ..)
    | with_reducible apply Touch.to (State.linkLost_touch ..)
    | with_reducible apply Touch.to (State.raise_touch ..)
    | with_reducible refine Touch.ite ?_ ?_
    | (refine up_20000 ?_ (by decide +kernel); simp only [F.gpLinkCtrl_enable, F.gpLinkEvents_detached, R.gpLinkCtrl, R.gpLinkEvents]; omega)
    | split
    | dsimp only

theorem State.portRetrain_touch (s : State) (n : Nat) : Touch 0x3FD000056C1F920 s (State.portRetrain s n) := by
  unfold State.portRetrain
  try dsimp only
  repeat' first
    | (show sub _ _ = true; decide +kernel)
    | with_reducible exact Touch.refl _
    | with_reducible apply Touch.to (State.modPort_touch ..)
    | with_reducible apply Touch.to (State.toDetect_touch ..)
    | with_reducible apply Touch.to (State.linkLost_touch ..)
    | with_reducible apply Touch.to (State.raise_touch ..)
    | with_reducible refine Touch.ite ?_ ?_
    | (refine up_20000 ?_ (by decide +kernel); simp only [F.gpLinkEvents_detached, R.gpLinkEvents]; omega)
    | split
    | dsimp only

theorem State.pulseEnd_touch (s : State) (n : Nat) : Touch 0x300000000002800 s (State.pulseEnd s n) := by
  unfold State.pulseEnd
  try dsimp only
  repeat' first
    | (show sub _ _ = true; decide +kernel)
    | with_reducible exact Touch.refl _
    | with_reducible apply Touch.to (State.modPort_touch ..)
    | with_reducible apply Touch.to (State.toDetect_touch ..)
    | with_reducible refine Touch.ite ?_ ?_
    | split
    | dsimp only

theorem State.sweepEcho_touch (s : State) (n : Nat) (w : Sweep) (lrt : Int) (rd : Nat) (ru : Nat) (tt : Nat) : Touch 0x3E1030000016800 s (State.sweepEcho s n w lrt rd ru tt) := by
  unfold State.sweepEcho
  try dsimp only
  repeat' first
    | (show sub _ _ = true; decide +kernel)
    | with_reducible exact Touch.refl _
    | with_reducible apply Touch.to (State.sweepFail_touch ..)
    | with_reducible apply Touch.to (State.sweepOver_touch ..)
    | with_reducible apply Touch.to (State.storeRange_touch ..)
    | with_reducible apply Touch.to (State.devRecord_touch ..)
    | with_reducible apply Touch.to (State.setDevSt_touch ..)
    | with_reducible apply Touch.to (State.raise_touch ..)
    | with_reducible apply Touch.to (State.resetCheck_touch ..)
    | with_reducible apply Touch.to (State.modDev_touch ..)
    | with_reducible apply Touch.to (State.sweepOn_touch ..)
    | with_reducible refine Touch.ite ?_ ?_
    | (refine up_20000 ?_ (by decide +kernel); simp only [F.gpAccEvents_ranged, R.gpAccEvents]; omega)
    | split
    | dsimp only

theorem State.rangingEcho_touch (s : State) (n : Nat) (a : Nat) (rtt : Nat) (rd : Nat) (ru : Nat) (tt : Nat) : Touch 0x3E1030000016800 s (State.rangingEcho s n a rtt rd ru tt) := by
  unfold State.rangingEcho
  try dsimp only
  repeat' first
    | (show sub _ _ = true; decide +kernel)
    | with_reducible exact Touch.refl _
    | with_reducible apply Touch.to (State.sweepEcho_touch ..)
    | with_reducible apply Touch.to (State.maintain_touch ..)
    | with_reducible refine Touch.ite ?_ ?_
    | split
    | dsimp only

theorem State.resetRetrain_touch (s : State) (n : Nat) : Touch 0x301000000012800 s (State.resetRetrain s n) := by
  unfold State.resetRetrain
  try dsimp only
  repeat' first
    | (show sub _ _ = true; decide +kernel)
    | with_reducible exact Touch.refl _
    | with_reducible apply Touch.to (State.modPort_touch ..)
    | with_reducible apply Touch.to (State.resetCheck_touch ..)
    | with_reducible apply Touch.to (State.pulseEnd_touch ..)
    | with_reducible refine Touch.ite ?_ ?_
    | split
    | dsimp only

theorem State.resetTimeout_touch (s : State) (n : Nat) : Touch 0x301000000012080 s (State.resetTimeout s n) := by
  unfold State.resetTimeout
  try dsimp only
  repeat' first
    | (show sub _ _ = true; decide +kernel)
    | with_reducible exact Touch.refl _
    | with_reducible apply Touch.to (State.resetDone_touch ..)
    | with_reducible apply Touch.to (State.advanceTo_touch ..)
    | split
    | dsimp only

theorem State.unpark_touch (s : State) (n : Nat) : Touch 0x3FD000056C1F920 s (State.unpark s n) := by
  unfold State.unpark
  try dsimp only
  repeat' first
    | (show sub _ _ = true; decide +kernel)
    | with_reducible exact Touch.refl _
    | with_reducible apply Touch.to (State.modPort_touch ..)
    | with_reducible apply Touch.to (State.startCtl_touch ..)
    | with_reducible apply Touch.to (State.put_touch ..)
    | with_reducible apply Touch.to (State.resetPlace_touch ..)
    | with_reducible refine Touch.ite ?_ ?_
    | (refine up_20000 ?_ (by decide +kernel); simp only [F.gpAccStatus_attach_addr, F.gpAccStatus_busy, R.gpAccStatus]; omega)
    | split
    | dsimp only

theorem State.resumed_touch (s : State) (n : Nat) : Touch 0x3FD030056C1F920 s (State.resumed s n) := by
  unfold State.resumed
  try dsimp only
  repeat' first
    | (show sub _ _ = true; decide +kernel)
    | with_reducible assumption
    | with_reducible exact Touch.refl _
    | with_reducible apply Touch.to (State.modPort_touch ..)
    | with_reducible apply Touch.to (State.setDevSt_touch ..)
    | with_reducible apply Touch.to (State.raise_touch ..)
    | with_reducible apply Touch.to (State.put_touch ..)
    | with_reducible apply Touch.to (State.unpark_touch ..)
    | with_reducible apply Touch.to (State.resetGo_touch ..)
    | with_reducible apply Touch.to (State.sweepShow_touch ..)
    | with_reducible apply Touch.to (State.attachOn_touch ..)
    | with_reducible apply Touch.to (State.sweepKick_touch ..)
    | with_reducible refine Touch.ite ?_ ?_
    | with_reducible refine Touch.forEach ?_ (fun _ _ _ => ?_)
    | (refine up_20000 ?_ (by decide +kernel); simp only [F.gpAccEvents_resumed, F.gpAccStatus_suspended, R.gpAccEvents, R.gpAccStatus]; omega)
    | split
    | dsimp only

theorem State.sendProbe_touch (s : State) (n : Nat) (a : Nat) (dset : Nat) : Touch 0x2020 s (State.sendProbe s n a dset).2 := by
  unfold State.sendProbe
  try dsimp only
  repeat' first
    | (show sub _ _ = true; decide +kernel)
    | with_reducible exact Touch.refl _
    | with_reducible apply Touch.to (State.sendNow_touch ..)
    | with_reducible apply Touch.to (State.modPort_touch ..)
    | with_reducible refine Touch.ite ?_ ?_
    | split
    | dsimp only

theorem State.sendSweep_touch (s : State) (n : Nat) (a : Nat) : Touch 0x2020 s (State.sendSweep s n a).2 := by
  unfold State.sendSweep
  try dsimp only
  repeat' first
    | (show sub _ _ = true; decide +kernel)
    | with_reducible exact Touch.refl _
    | with_reducible apply Touch.to (State.sendProbe_touch ..)
    | with_reducible apply Touch.to (State.modPort_touch ..)
    | with_reducible refine Touch.ite ?_ ?_
    | split
    | dsimp only

theorem State.suspendSend_touch (s : State) (n : Nat) : Touch 0x2020 s (State.suspendSend s n) := by
  unfold State.suspendSend
  try dsimp only
  repeat' first
    | (show sub _ _ = true; decide +kernel)
    | with_reducible exact Touch.refl _
    | with_reducible apply Touch.to (State.emit_touch ..)
    | with_reducible apply Touch.to (State.modPort_touch ..)
    | with_reducible refine Touch.ite ?_ ?_
    | split
    | dsimp only

theorem State.suspended_touch (s : State) (n : Nat) : Touch 0x3FF000056C7F920 s (State.suspended s n) := by
  unfold State.suspended
  try dsimp only
  repeat' first
    | (show sub _ _ = true; decide +kernel)
    | with_reducible assumption
    | with_reducible exact Touch.refl _
    | with_reducible apply Touch.to (State.modPort_touch ..)
    | with_reducible apply Touch.to (State.unchoose_touch ..)
    | with_reducible apply Touch.to (State.sweepAdd_touch ..)
    | with_reducible apply Touch.to (State.dropSweep_touch ..)
    | with_reducible apply Touch.to (State.setDevSt_touch ..)
    | with_reducible apply Touch.to (State.modDev_touch ..)
    | with_reducible apply Touch.to (State.enterLink_touch ..)
    | with_reducible apply Touch.to (State.sweepShow_touch ..)
    | with_reducible apply Touch.to (State.raise_touch ..)
    | with_reducible apply Touch.to (State.put_touch ..)
    | with_reducible refine Touch.ite ?_ ?_
    | with_reducible refine Touch.forEach ?_ (fun _ _ _ => ?_)
    | (refine up_20000 ?_ (by decide +kernel); simp only [F.gpAccEvents_suspended, F.gpAccStatus_attach_addr, F.gpAccStatus_busy, F.gpAccStatus_suspended, R.gpAccEvents, R.gpAccStatus]; omega)
    | split
    | dsimp only

theorem State.sweepGranted_touch (s : State) (n : Nat) (a : Nat) : Touch 0x2000 s (State.sweepGranted s n a) := by
  unfold State.sweepGranted
  try dsimp only
  repeat' first
    | (show sub _ _ = true; decide +kernel)
    | with_reducible exact Touch.refl _
    | with_reducible apply Touch.to (State.serve_touch ..)
    | dsimp only

theorem State.trainingGranted_touch (s : State) (n : Nat) : Touch 0x300000000000000 s (State.trainingGranted s n) := by
  unfold State.trainingGranted
  try dsimp only
  repeat' first
    | (show sub _ _ = true; decide +kernel)
    | with_reducible exact Touch.refl _
    | with_reducible apply Touch.to (State.put_touch ..)
    | with_reducible apply Touch.to (State.enterLink_touch ..)
    | with_reducible refine Touch.ite ?_ ?_
    | (refine up_20000 ?_ (by decide +kernel); simp only [F.gpLinkStatus_permit_wait, R.gpLinkStatus]; omega)
    | split
    | dsimp only

theorem State.wakeEvent_touch (s : State) (n : Nat) (a : Nat) (b : List Byte) : Touch 0x301000000010000 s (State.wakeEvent s n a b) := by
  unfold State.wakeEvent
  try dsimp only
  repeat' first
    | (show sub _ _ = true; decide +kernel)
    | with_reducible exact Touch.refl _
    | with_reducible apply Touch.to (State.raise_touch ..)
    | with_reducible apply Touch.to (State.accRecord_touch ..)
    | with_reducible refine Touch.ite ?_ ?_
    | (refine up_20000 ?_ (by decide +kernel); simp only [F.gpAccEvents_wake_collided, R.gpAccEvents]; omega)
    | split
    | dsimp only

end Sys2Proof.Machine
end

