-- ==== Sys2Proof/Laws/FrameRegistrar.lean ====
section
/-! SUPPORT. What each operation of Machine/Registrar.lean touches: the parts of its set (Laws/Touch.lean), and nothing else. -/

set_option linter.unusedSimpArgs false
set_option linter.unusedVariables false
set_option Elab.async false

namespace Sys2Proof.Machine

theorem State.pulseRegistrar_touch (s : State) (ch : Nat) (tag : Nat) (ok : Bool) : Touch 0x200000000A20 s (State.pulseRegistrar s ch tag ok) := by
  unfold State.pulseRegistrar
  try dsimp only
  repeat' first
    | (show sub _ _ = true; decide +kernel)
    | with_reducible exact Touch.refl _
    | with_reducible apply Touch.to (State.takeEvent_touch ..)
    | split
    | dsimp only

theorem State.recDrop_touch (s : State) : Touch 0x600000000000 s (State.recDrop s) := by
  unfold State.recDrop
  try dsimp only
  repeat' first
    | (show sub _ _ = true; decide +kernel)
    | with_reducible exact Touch.refl _
    | with_reducible apply Touch.to (State.raise_touch ..)
    | with_reducible apply Touch.to (State.bump_touch ..)
    | with_reducible refine Touch.ite ?_ ?_
    | split
    | dsimp only

theorem State.recEqual_touch (s : State) (r : RecReq) : Touch 0x10300010000E20 s (State.recEqual s r).2 := by
  unfold State.recEqual
  try dsimp only
  repeat' first
    | (show sub _ _ = true; decide +kernel)
    | with_reducible exact Touch.refl _
    | with_reducible apply Touch.to (State.ramRead_touch ..)
    | split
    | dsimp only

theorem State.recUpdate_touch (s : State) (o : Nat) : Touch 0x400200000000210 s (State.recUpdate s o) := by
  unfold State.recUpdate
  try dsimp only
  repeat' first
    | (show sub _ _ = true; decide +kernel)
    | (show State.sizesOk _ = true → _; first | with_reducible exact id | (intro hz; simp only [State.sizesOk, listSet_length, List.length_map, List.length_replicate] at hz ⊢; first | exact hz | (rw [sizesOf_iff] at hz ⊢; and_intros <;> first | rfl | exact hz.1 | exact hz.2.1 | exact hz.2.2.1 | exact hz.2.2.2.1 | exact hz.2.2.2.2.1 | exact hz.2.2.2.2.2.1 | exact hz.2.2.2.2.2.2)))
    | (show _ ∧ _; and_intros <;> first | (apply Or.inl; decide +kernel) | (apply Or.inr; with_reducible rfl))
    | with_reducible exact Touch.refl _
    | with_reducible apply Touch.to (State.setRamBytes_touch ..)
    | with_reducible apply Touch.to (State.setRam_touch ..)
    | with_reducible apply Touch.to (State.raise_touch ..)
    | with_reducible refine Touch.ite ?_ ?_
    | split
    | dsimp only
    | with_reducible refine Touch.mk' ?_ rfl rfl ?_ ?_

theorem State.recWrite_touch (s : State) (r : RecReq) : Touch 0x400600000000210 s (State.recWrite s r) := by
  unfold State.recWrite
  try dsimp only
  repeat' first
    | (show sub _ _ = true; decide +kernel)
    | (show State.sizesOk _ = true → _; first | with_reducible exact id | (intro hz; simp only [State.sizesOk, listSet_length, List.length_map, List.length_replicate] at hz ⊢; first | exact hz | (rw [sizesOf_iff] at hz ⊢; and_intros <;> first | rfl | exact hz.1 | exact hz.2.1 | exact hz.2.2.1 | exact hz.2.2.2.1 | exact hz.2.2.2.2.1 | exact hz.2.2.2.2.2.1 | exact hz.2.2.2.2.2.2)))
    | (show _ ∧ _; and_intros <;> first | (apply Or.inl; decide +kernel) | (apply Or.inr; with_reducible rfl))
    | with_reducible exact Touch.refl _
    | with_reducible apply Touch.to (State.setRamBytes_touch ..)
    | with_reducible apply Touch.to (State.bump_touch ..)
    | with_reducible apply Touch.to (State.put_touch ..)
    | with_reducible apply Touch.to (State.raise_touch ..)
    | dsimp only
    | with_reducible refine Touch.mk' ?_ rfl rfl ?_ ?_

theorem State.recOne_touch (s : State) (r : RecReq) : Touch 0x410700010000E30 s (State.recOne s r) := by
  unfold State.recOne
  try dsimp only
  repeat' first
    | (show sub _ _ = true; decide +kernel)
    | with_reducible exact Touch.refl _
    | with_reducible apply Touch.to (State.recEqual_touch ..)
    | with_reducible apply Touch.to (State.recUpdate_touch ..)
    | with_reducible apply Touch.to (State.recDrop_touch ..)
    | with_reducible apply Touch.to (State.recWrite_touch ..)
    | with_reducible refine Touch.ite ?_ ?_
    | split
    | dsimp only

theorem State.storeClear_touch (s : State) : Touch 0x600000000200 s (State.storeClear s) := by
  unfold State.storeClear
  try dsimp only
  repeat' first
    | (show sub _ _ = true; decide +kernel)
    | (show State.sizesOk _ = true → _; first | with_reducible exact id | (intro hz; simp only [State.sizesOk, listSet_length, List.length_map, List.length_replicate] at hz ⊢; first | exact hz | (rw [sizesOf_iff] at hz ⊢; and_intros <;> first | rfl | exact hz.1 | exact hz.2.1 | exact hz.2.2.1 | exact hz.2.2.2.1 | exact hz.2.2.2.2.1 | exact hz.2.2.2.2.2.1 | exact hz.2.2.2.2.2.2)))
    | (show _ ∧ _; and_intros <;> first | (apply Or.inl; decide +kernel) | (apply Or.inr; with_reducible rfl))
    | with_reducible exact Touch.refl _
    | with_reducible apply Touch.to (State.put_touch ..)
    | dsimp only
    | with_reducible refine Touch.mk' ?_ rfl rfl ?_ ?_

theorem State.recordDone_touch (s : State) : Touch 0x410700010000E30 s (State.recordDone s) := by
  unfold State.recordDone
  try dsimp only
  repeat' first
    | (show sub _ _ = true; decide +kernel)
    | (show State.sizesOk _ = true → _; first | with_reducible exact id | (intro hz; simp only [State.sizesOk, listSet_length, List.length_map, List.length_replicate] at hz ⊢; first | exact hz | (rw [sizesOf_iff] at hz ⊢; and_intros <;> first | rfl | exact hz.1 | exact hz.2.1 | exact hz.2.2.1 | exact hz.2.2.2.1 | exact hz.2.2.2.2.1 | exact hz.2.2.2.2.2.1 | exact hz.2.2.2.2.2.2)))
    | (show _ ∧ _; and_intros <;> first | (apply Or.inl; decide +kernel) | (apply Or.inr; with_reducible rfl))
    | with_reducible exact Touch.refl _
    | with_reducible apply Touch.to (State.recOne_touch ..)
    | with_reducible apply Touch.to (State.vitRelease_touch ..)
    | with_reducible apply Touch.to (State.storeClear_touch ..)
    | with_reducible refine Touch.ite ?_ ?_
    | split
    | dsimp only
    | with_reducible refine Touch.mk' ?_ rfl rfl ?_ ?_

theorem State.takeOutEnd_touch (s : State) : Touch 0x2A0 s (State.takeOutEnd s) := by
  unfold State.takeOutEnd
  try dsimp only
  repeat' first
    | (show sub _ _ = true; decide +kernel)
    | (show State.sizesOk _ = true → _; first | with_reducible exact id | (intro hz; simp only [State.sizesOk, listSet_length, List.length_map, List.length_replicate] at hz ⊢; first | exact hz | (rw [sizesOf_iff] at hz ⊢; and_intros <;> first | rfl | exact hz.1 | exact hz.2.1 | exact hz.2.2.1 | exact hz.2.2.2.1 | exact hz.2.2.2.2.1 | exact hz.2.2.2.2.2.1 | exact hz.2.2.2.2.2.2)))
    | (show _ ∧ _; and_intros <;> first | (apply Or.inl; decide +kernel) | (apply Or.inr; with_reducible rfl))
    | with_reducible exact Touch.refl _
    | with_reducible apply Touch.to (State.emit_touch ..)
    | with_reducible apply Touch.to (State.advanceTo_touch ..)
    | with_reducible refine Touch.ite ?_ ?_
    | split
    | dsimp only
    | with_reducible refine Touch.mk' ?_ rfl rfl ?_ ?_

theorem State.writeRgCtrl_touch (s : State) (w : Word) : Touch 0x10600010000A20 s (State.writeRgCtrl s w) := by
  unfold State.writeRgCtrl
  try dsimp only
  repeat' first
    | (show sub _ _ = true; decide +kernel)
    | (show State.sizesOk _ = true → _; first | with_reducible exact id | (intro hz; simp only [State.sizesOk, listSet_length, List.length_map, List.length_replicate] at hz ⊢; first | exact hz | (rw [sizesOf_iff] at hz ⊢; and_intros <;> first | rfl | exact hz.1 | exact hz.2.1 | exact hz.2.2.1 | exact hz.2.2.2.1 | exact hz.2.2.2.2.1 | exact hz.2.2.2.2.2.1 | exact hz.2.2.2.2.2.2)))
    | (show _ ∧ _; and_intros <;> first | (apply Or.inl; decide +kernel) | (apply Or.inr; with_reducible rfl))
    | with_reducible exact Touch.refl _
    | with_reducible apply Touch.to (State.setReg_touch ..)
    | with_reducible apply Touch.to (State.vitRelease_touch ..)
    | with_reducible apply Touch.to (State.storeClear_touch ..)
    | with_reducible apply Touch.to (State.raise_touch ..)
    | with_reducible apply Touch.to (State.put_touch ..)
    | with_reducible apply Touch.to (State.take_touch ..)
    | with_reducible refine Touch.ite ?_ ?_
    | split
    | dsimp only
    | with_reducible refine Touch.mk' ?_ rfl rfl ?_ ?_

theorem State.writeRg_touch (s : State) (off : Nat) (w : Word) (plain : Word) : Touch 0x3FFFFFC10000A20 s (State.writeRg s off w plain) := by
  unfold State.writeRg
  try dsimp only
  repeat' first
    | (show sub _ _ = true; decide +kernel)
    | (show State.sizesOk _ = true → _; first | with_reducible exact id | (intro hz; simp only [State.sizesOk, listSet_length, List.length_map, List.length_replicate] at hz ⊢; first | exact hz | (rw [sizesOf_iff] at hz ⊢; and_intros <;> first | rfl | exact hz.1 | exact hz.2.1 | exact hz.2.2.1 | exact hz.2.2.2.1 | exact hz.2.2.2.2.1 | exact hz.2.2.2.2.2.1 | exact hz.2.2.2.2.2.2)))
    | (show _ ∧ _; and_intros <;> first | (apply Or.inl; decide +kernel) | (apply Or.inr; with_reducible rfl))
    | with_reducible exact Touch.refl _
    | with_reducible apply Touch.to (State.writeRgCtrl_touch ..)
    | with_reducible apply Touch.to (State.setReg_touch ..)
    | with_reducible refine Touch.ite ?_ ?_
    | (exact up_0 (Nat.zero_le _) (by decide +kernel))
    | split
    | dsimp only
    | with_reducible refine Touch.mk' ?_ rfl rfl ?_ ?_

theorem execRecordWriteDone_touch (s : State) : ∃ u, execRecordWriteDone s = .next u ∧ Touch 0x418750430000F70 s u := by
  unfold execRecordWriteDone
  refine act_touch s _ (by decide +kernel) ?_
  try dsimp only
  repeat' first
    | (show sub _ _ = true; decide +kernel)
    | with_reducible exact Touch.refl _
    | with_reducible apply Touch.to (State.recordDone_touch ..)
    | dsimp only

theorem execTakeInEdge_touch (t : Nat) (rise : Bool) (s : State) : ∃ u, execTakeInEdge t rise s = .next u ∧ Touch 0x18250430000BE0 s u := by
  unfold execTakeInEdge
  refine act_touch s _ (by decide +kernel) ?_
  try dsimp only
  repeat' first
    | (show sub _ _ = true; decide +kernel)
    | with_reducible exact Touch.refl _
    | with_reducible apply Touch.to (State.advanceTo_touch ..)
    | with_reducible apply Touch.to (State.take_touch ..)
    | with_reducible refine Touch.ite ?_ ?_
    | split
    | dsimp only

theorem execTakeOutPulseEnd_touch (s : State) : ∃ u, execTakeOutPulseEnd s = .next u ∧ Touch 0x8250430000BE0 s u := by
  unfold execTakeOutPulseEnd
  refine act_touch s _ (by decide +kernel) ?_
  try dsimp only
  repeat' first
    | (show sub _ _ = true; decide +kernel)
    | with_reducible exact Touch.refl _
    | with_reducible apply Touch.to (State.takeOutEnd_touch ..)
    | dsimp only

end Sys2Proof.Machine
end

