-- ==== Sys2Proof/Laws/FrameMovers.lean ====
section
/-! SUPPORT. What each operation of Machine/Movers.lean touches: the parts of its set (Laws/Touch.lean), and nothing else. -/

set_option linter.unusedSimpArgs false
set_option linter.unusedVariables false
set_option Elab.async false

namespace Sys2Proof.Machine

theorem State.copyWords_touch (s : State) (d : Desc) (off n : Nat) : Touch 0x400000000000010 s (s.copyWords d off n) := by
  induction n generalizing s off with
  | zero => exact Touch.refl _
  | succ n ih =>
    unfold State.copyWords
    try dsimp only
    repeat' first
      | (show sub _ _ = true; decide +kernel)
      | with_reducible assumption
      | with_reducible exact Touch.refl _
      | with_reducible apply Touch.to (State.setRamBytes_touch ..)
      | with_reducible apply Touch.to (ih ..)
      | with_reducible refine Touch.ite ?_ ?_
      | with_reducible refine Touch.forEach ?_ (fun _ _ _ => ?_)
      | with_reducible refine Touch.foldl ?_ (fun _ _ _ => ?_)
      | split
      | dsimp only

theorem State.itemReadHalt_touch (s : State) (lo : Nat) (len : Nat) (g : Nat) : Touch 0x790300056C01F60 s (State.itemReadHalt s lo len g).2 := by
  unfold State.itemReadHalt
  try dsimp only
  repeat' first
    | (show sub _ _ = true; decide +kernel)
    | with_reducible exact Touch.refl _
    | with_reducible apply Touch.to (State.itemRead_touch ..)
    | with_reducible apply Touch.to (State.galleryHalt_touch ..)
    | with_reducible refine Touch.ite ?_ ?_
    | split
    | dsimp only

theorem State.modChan_touch (s : State) (c : Nat) (f : Mv → Mv) : Touch 0x4000000 s (State.modChan s c f) := by
  unfold State.modChan
  try dsimp only
  repeat' first
    | (show sub _ _ = true; decide +kernel)
    | (show State.sizesOk _ = true → _; first | with_reducible exact id | (intro hz; simp only [State.sizesOk, listSet_length, List.length_map, List.length_replicate] at hz ⊢; first | exact hz | (rw [sizesOf_iff] at hz ⊢; and_intros <;> first | rfl | exact hz.1 | exact hz.2.1 | exact hz.2.2.1 | exact hz.2.2.2.1 | exact hz.2.2.2.2.1 | exact hz.2.2.2.2.2.1 | exact hz.2.2.2.2.2.2)))
    | (show _ ∧ _; and_intros <;> first | (apply Or.inl; decide +kernel) | (apply Or.inr; with_reducible rfl))
    | with_reducible exact Touch.refl _
    | dsimp only
    | with_reducible refine Touch.mk' ?_ rfl rfl ?_ ?_

theorem State.mvBadDesc_touch (s : State) (c : Nat) : Touch 0x3FE000056C01120 s (State.mvBadDesc s c) := by
  unfold State.mvBadDesc
  try dsimp only
  repeat' first
    | (show sub _ _ = true; decide +kernel)
    | with_reducible exact Touch.refl _
    | with_reducible apply Touch.to (State.put_touch ..)
    | with_reducible apply Touch.to (State.complete_touch ..)
    | with_reducible apply Touch.to (State.modChan_touch ..)
    | (refine up_9000 ?_ (by decide +kernel); simp only [F.mvChState_chain_err, F.mvChState_state, R.mvChState]; omega)
    | split
    | dsimp only

theorem State.mvIssue_touch (n : Nat) (s : State) (c : Nat) : Touch 0x6001020 s (State.mvIssue n s c) := by
  induction n generalizing s with
  | zero => exact Touch.refl _
  | succ n ih =>
    unfold State.mvIssue
    try dsimp only
    repeat' first
      | (show sub _ _ = true; decide +kernel)
      | with_reducible assumption
      | with_reducible exact Touch.refl _
      | with_reducible apply Touch.to (State.modChan_touch ..)
      | with_reducible apply Touch.to (State.dmaRead_touch ..)
      | with_reducible apply Touch.to (ih ..)
      | with_reducible refine Touch.ite ?_ ?_
      | with_reducible refine Touch.forEach ?_ (fun _ _ _ => ?_)
      | with_reducible refine Touch.foldl ?_ (fun _ _ _ => ?_)
      | split
      | dsimp only

theorem State.ramReadHalt_touch (s : State) (a : Nat) (len : Nat) (g : Nat) : Touch 0x390300056C01F20 s (State.ramReadHalt s a len g).2 := by
  unfold State.ramReadHalt
  try dsimp only
  repeat' first
    | (show sub _ _ = true; decide +kernel)
    | with_reducible exact Touch.refl _
    | with_reducible apply Touch.to (State.ramRead_touch ..)
    | with_reducible apply Touch.to (State.galleryHalt_touch ..)
    | with_reducible refine Touch.ite ?_ ?_
    | split
    | dsimp only

theorem State.stageRead_touch (s : State) (w : Work) (a : Nat) (len : Nat) : Touch 0x390300056C01F20 s (State.stageRead s w a len).2 := by
  unfold State.stageRead
  try dsimp only
  repeat' first
    | (show sub _ _ = true; decide +kernel)
    | with_reducible exact Touch.refl _
    | with_reducible apply Touch.to (State.ramReadHalt_touch ..)
    | with_reducible apply Touch.to (State.ramRead_touch ..)
    | with_reducible refine Touch.ite ?_ ?_
    | split
    | dsimp only

theorem State.takeStaged_touch (n : Nat) (s : State) (w : Work) (off len : Nat) :
    Touch 0x790300056C01F30 s (State.takeStaged n s w off len).2.2 := by
  induction n generalizing s off len with
  | zero => exact Touch.refl _
  | succ n ih =>
    unfold State.takeStaged
    dsimp only
    repeat' first
      | (show sub _ _ = true; decide +kernel)
      | with_reducible exact Touch.refl _
      | with_reducible refine Touch.ite ?_ ?_
      | with_reducible apply Touch.to (State.stageRead_touch ..)
      | with_reducible apply Touch.to (State.setRamBytes_touch ..)
      | with_reducible apply Touch.to (ih ..)
      | split
      | dsimp only

theorem State.padFree_touch (s : State) (n : Nat) (bs : List Byte) : Touch 0x40 s (State.padFree s n bs).2 := by
  unfold State.padFree
  try dsimp only
  repeat' first
    | (show sub _ _ = true; decide +kernel)
    | with_reducible exact Touch.refl _
    | with_reducible apply Touch.to (State.draw_touch ..)
    | with_reducible refine Touch.ite ?_ ?_
    | split
    | dsimp only

theorem State.mvSource_touch (s : State) (c : Nat) (d : Desc) : Touch 0x790300056C01F70 s (State.mvSource s c d).2.2 := by
  unfold State.mvSource
  try dsimp only
  repeat' first
    | (show sub _ _ = true; decide +kernel)
    | with_reducible exact Touch.refl _
    | with_reducible apply Touch.to (State.ramRead_touch ..)
    | with_reducible apply Touch.to (State.takeStaged_touch ..)
    | with_reducible apply Touch.to (State.padFree_touch ..)
    | with_reducible refine Touch.ite ?_ ?_
    | split
    | dsimp only

theorem State.stageDone_touch (s : State) (g : Nat) (r : Nat) (i : Nat) : Touch 0x3FC000052C01120 s (State.stageDone s g r i) := by
  unfold State.stageDone
  try dsimp only
  repeat' first
    | (show sub _ _ = true; decide +kernel)
    | with_reducible exact Touch.refl _
    | with_reducible apply Touch.to (State.modWork_touch ..)
    | with_reducible apply Touch.to (State.completeAt_touch ..)
    | with_reducible refine Touch.ite ?_ ?_
    | split
    | dsimp only

theorem State.mvTake_touch (s : State) (c : Nat) (w : Work) : Touch 0x3FE00000C800040 s (State.mvTake s c w) := by
  unfold State.mvTake
  try dsimp only
  repeat' first
    | (show sub _ _ = true; decide +kernel)
    | (show State.sizesOk _ = true → _; first | with_reducible exact id | (intro hz; simp only [State.sizesOk, listSet_length, List.length_map, List.length_replicate] at hz ⊢; first | exact hz | (rw [sizesOf_iff] at hz ⊢; and_intros <;> first | rfl | exact hz.1 | exact hz.2.1 | exact hz.2.2.1 | exact hz.2.2.2.1 | exact hz.2.2.2.2.1 | exact hz.2.2.2.2.2.1 | exact hz.2.2.2.2.2.2)))
    | (show _ ∧ _; and_intros <;> first | (apply Or.inl; decide +kernel) | (apply Or.inr; with_reducible rfl))
    | with_reducible exact Touch.refl _
    | with_reducible apply Touch.to (State.modWork_touch ..)
    | with_reducible apply Touch.to (State.draw_touch ..)
    | with_reducible apply Touch.to (State.modChan_touch ..)
    | with_reducible apply Touch.to (State.put_touch ..)
    | with_reducible refine Touch.ite ?_ ?_
    | (refine up_9000 ?_ (by decide +kernel); simp only [F.mvChState_state, R.mvChState]; omega)
    | split
    | dsimp only
    | with_reducible refine Touch.mk' ?_ rfl rfl ?_ ?_

theorem State.mvKick_touch (n : Nat) (s : State) : Touch 0x3FE00005EC01160 s (State.mvKick n s) := by
  induction n generalizing s with
  | zero => exact Touch.refl _
  | succ n ih =>
    unfold State.mvKick
    try dsimp only
    repeat' first
      | (show sub _ _ = true; decide +kernel)
      | with_reducible assumption
      | with_reducible exact Touch.refl _
      | with_reducible apply Touch.to (State.modWork_touch ..)
      | with_reducible apply Touch.to (State.stageDone_touch ..)
      | with_reducible apply Touch.to (State.mvTake_touch ..)
      | with_reducible apply Touch.to (ih ..)
      | with_reducible refine Touch.ite ?_ ?_
      | with_reducible refine Touch.forEach ?_ (fun _ _ _ => ?_)
      | split
      | dsimp only

theorem State.mvNext_touch (s : State) (c : Nat) (d : Desc) : Touch 0x3FE00005EC01160 s (State.mvNext s c d) := by
  unfold State.mvNext
  try dsimp only
  repeat' first
    | (show sub _ _ = true; decide +kernel)
    | with_reducible exact Touch.refl _
    | with_reducible apply Touch.to (State.modChan_touch ..)
    | with_reducible apply Touch.to (State.put_touch ..)
    | with_reducible apply Touch.to (State.mvKick_touch ..)
    | with_reducible refine Touch.ite ?_ ?_
    | (refine up_9000 ?_ (by decide +kernel); simp only [F.mvChState_chain_err, F.mvChState_desc, F.mvChState_state, F.mvChState_stopped, R.mvChState]; omega)
    | split
    | dsimp only

theorem State.mvPulse_touch (s : State) (c : Nat) (status : Nat) : Touch 0x3FC000056C01120 s (State.mvPulse s c status) := by
  unfold State.mvPulse
  try dsimp only
  repeat' first
    | (show sub _ _ = true; decide +kernel)
    | with_reducible exact Touch.refl _
    | with_reducible apply Touch.to (State.modChan_touch ..)
    | with_reducible apply Touch.to (State.stageDone_touch ..)
    | with_reducible apply Touch.to (State.complete_touch ..)
    | with_reducible refine Touch.ite ?_ ?_
    | split
    | dsimp only

theorem State.mvEnd_touch (s : State) (c : Nat) (d : Desc) (status : Nat) (moved : Nat) : Touch 0x7FE20005EC01B70 s (State.mvEnd s c d status moved) := by
  unfold State.mvEnd
  try dsimp only
  repeat' first
    | (show sub _ _ = true; decide +kernel)
    | with_reducible exact Touch.refl _
    | with_reducible apply Touch.to (State.modChan_touch ..)
    | with_reducible apply Touch.to (State.bump_touch ..)
    | with_reducible apply Touch.to (State.setReg_touch ..)
    | with_reducible apply Touch.to (State.setRamBytes_touch ..)
    | with_reducible apply Touch.to (State.mvNext_touch ..)
    | with_reducible apply Touch.to (State.pulseRegistrar_touch ..)
    | with_reducible apply Touch.to (State.mvPulse_touch ..)
    | with_reducible refine Touch.ite ?_ ?_
    | (refine up_9000 ?_ (by decide +kernel); simp only [F.mvChCnt_bad, F.mvChCnt_ok, R.mvChCnt, R.mvChLast]; omega)
    | split
    | dsimp only

theorem State.mvPost_touch (s : State) (c : Nat) (d : Desc) (bytes : List Byte) : Touch 0x2001020 s (State.mvPost s c d bytes) := by
  unfold State.mvPost
  try dsimp only
  repeat' first
    | (show sub _ _ = true; decide +kernel)
    | with_reducible assumption
    | with_reducible exact Touch.refl _
    | with_reducible apply Touch.to (State.dmaWrite_touch ..)
    | with_reducible refine Touch.ite ?_ ?_
    | with_reducible refine Touch.foldl ?_ (fun _ _ _ => ?_)
    | with_reducible refine Touch.foldl_fst ?_ (fun _ _ _ => ?_)
    | with_reducible refine Touch.foldl_snd ?_ (fun _ _ _ => ?_)
    | split
    | dsimp only

theorem State.mvStart_touch (s : State) (c : Nat) (d : Desc) : Touch 0x7FE30005EC01F70 s (State.mvStart s c d) := by
  unfold State.mvStart
  try dsimp only
  repeat' first
    | (show sub _ _ = true; decide +kernel)
    | with_reducible exact Touch.refl _
    | with_reducible apply Touch.to (State.modChan_touch ..)
    | with_reducible apply Touch.to (State.mvIssue_touch ..)
    | with_reducible apply Touch.to (State.mvSource_touch ..)
    | with_reducible apply Touch.to (State.modWork_touch ..)
    | with_reducible apply Touch.to (State.mvEnd_touch ..)
    | with_reducible apply Touch.to (State.mvPost_touch ..)
    | with_reducible apply Touch.to (State.copyWords_touch ..)
    | with_reducible apply Touch.to (State.dmaRead_touch ..)
    | with_reducible refine Touch.ite ?_ ?_
    | split
    | dsimp only

theorem State.mvDescriptor_touch (s : State) (c : Nat) : Touch 0x7FE30005EC01F70 s (State.mvDescriptor s c) := by
  unfold State.mvDescriptor
  try dsimp only
  repeat' first
    | (show sub _ _ = true; decide +kernel)
    | with_reducible exact Touch.refl _
    | with_reducible apply Touch.to (State.ramRead_touch ..)
    | with_reducible apply Touch.to (State.put_touch ..)
    | with_reducible apply Touch.to (State.mvStart_touch ..)
    | with_reducible apply Touch.to (State.mvEnd_touch ..)
    | with_reducible apply Touch.to (State.mvNext_touch ..)
    | with_reducible apply Touch.to (State.ramReadHalt_touch ..)
    | with_reducible apply Touch.to (State.modChan_touch ..)
    | with_reducible apply Touch.to (State.mvBadDesc_touch ..)
    | with_reducible refine Touch.ite ?_ ?_
    | (refine up_9000 ?_ (by decide +kernel); simp only [F.mvChState_chain_err, F.mvChState_state, R.mvChState]; omega)
    | split
    | dsimp only

theorem State.putStaged_touch (n : Nat) (s : State) (w : Work) (off : Nat) (bs : List Byte) :
    Touch 0x400000000000010 s (State.putStaged n s w off bs) := by
  induction n generalizing s off bs with
  | zero => exact Touch.refl _
  | succ n ih =>
    unfold State.putStaged
    dsimp only
    repeat' first
      | (show sub _ _ = true; decide +kernel)
      | with_reducible exact Touch.refl _
      | with_reducible refine Touch.ite ?_ ?_
      | with_reducible apply Touch.to (State.setRamBytes_touch ..)
      | with_reducible apply Touch.to (ih ..)
      | split
      | dsimp only

theorem State.putSide_touch (s : State) (base off : Nat) (fixed : Bool) (n : Nat) (bs : List Byte) :
    Touch 0x400000000000010 s (s.putSide base off fixed n bs) := by
  induction n generalizing s off bs with
  | zero => exact Touch.refl _
  | succ n ih =>
    unfold State.putSide
    try dsimp only
    repeat' first
      | (show sub _ _ = true; decide +kernel)
      | with_reducible assumption
      | with_reducible exact Touch.refl _
      | with_reducible apply Touch.to (State.setRamBytes_touch ..)
      | with_reducible apply Touch.to (ih ..)
      | with_reducible refine Touch.ite ?_ ?_
      | with_reducible refine Touch.forEach ?_ (fun _ _ _ => ?_)
      | with_reducible refine Touch.foldl ?_ (fun _ _ _ => ?_)
      | split
      | dsimp only

theorem State.mvHostRead_touch (s : State) (c : Nat) (r : HostRes) : Touch 0x7FE30005EC01F70 s (State.mvHostRead s c r) := by
  unfold State.mvHostRead
  try dsimp only
  repeat' first
    | (show sub _ _ = true; decide +kernel)
    | with_reducible exact Touch.refl _
    | with_reducible apply Touch.to (State.mvIssue_touch ..)
    | with_reducible apply Touch.to (State.modChan_touch ..)
    | with_reducible apply Touch.to (State.hostData_touch ..)
    | with_reducible apply Touch.to (State.mvEnd_touch ..)
    | with_reducible apply Touch.to (State.putStaged_touch ..)
    | with_reducible apply Touch.to (State.modWork_touch ..)
    | with_reducible apply Touch.to (State.putSide_touch ..)
    | with_reducible refine Touch.ite ?_ ?_
    | split
    | dsimp only

theorem State.mvReadback_touch (s : State) (c : Nat) (r : HostRes) : Touch 0x7FE30005EC01F70 s (State.mvReadback s c r) := by
  unfold State.mvReadback
  try dsimp only
  repeat' first
    | (show sub _ _ = true; decide +kernel)
    | with_reducible exact Touch.refl _
    | with_reducible apply Touch.to (State.hostData_touch ..)
    | with_reducible apply Touch.to (State.mvEnd_touch ..)
    | with_reducible apply Touch.to (State.stageRead_touch ..)
    | with_reducible apply Touch.to (State.ramRead_touch ..)
    | with_reducible refine Touch.ite ?_ ?_
    | split
    | dsimp only

theorem State.seatDraw_touch (s : State) (w : Work) : Touch 0x800040 s (State.seatDraw s w) := by
  unfold State.seatDraw
  try dsimp only
  repeat' first
    | (show sub _ _ = true; decide +kernel)
    | (show State.sizesOk _ = true → _; first | with_reducible exact id | (intro hz; simp only [State.sizesOk, listSet_length, List.length_map, List.length_replicate] at hz ⊢; first | exact hz | (rw [sizesOf_iff] at hz ⊢; and_intros <;> first | rfl | exact hz.1 | exact hz.2.1 | exact hz.2.2.1 | exact hz.2.2.2.1 | exact hz.2.2.2.2.1 | exact hz.2.2.2.2.2.1 | exact hz.2.2.2.2.2.2)))
    | (show _ ∧ _; and_intros <;> first | (apply Or.inl; decide +kernel) | (apply Or.inr; with_reducible rfl))
    | with_reducible exact Touch.refl _
    | with_reducible apply Touch.to (State.modWork_touch ..)
    | dsimp only
    | with_reducible refine Touch.mk' ?_ rfl rfl ?_ ?_

theorem State.writeMvCtrl_touch (s : State) (c : Nat) (w : Word) : Touch 0x3FE00005EC01160 s (State.writeMvCtrl s c w) := by
  unfold State.writeMvCtrl
  try dsimp only
  repeat' first
    | (show sub _ _ = true; decide +kernel)
    | with_reducible exact Touch.refl _
    | with_reducible apply Touch.to (State.mvKick_touch ..)
    | with_reducible apply Touch.to (State.put_touch ..)
    | with_reducible apply Touch.to (State.modChan_touch ..)
    | with_reducible refine Touch.ite ?_ ?_
    | (refine up_9000 ?_ (by decide +kernel); simp only [F.mvChCtrl_owner, F.mvChState_chain_err, F.mvChState_desc, F.mvChState_state, F.mvChState_stopped, R.mvChCtrl, R.mvChState]; omega)
    | split
    | dsimp only

theorem State.writeMv_touch (s : State) (off : Nat) (w : Word) (plain : Word) : Touch 0x3FFFFFC5EC01160 s (State.writeMv s off w plain) := by
  unfold State.writeMv
  try dsimp only
  repeat' first
    | (show sub _ _ = true; decide +kernel)
    | with_reducible assumption
    | with_reducible exact Touch.refl _
    | with_reducible apply Touch.to (State.setReg_touch ..)
    | with_reducible apply Touch.to (State.writeMvCtrl_touch ..)
    | with_reducible refine Touch.ite ?_ ?_
    | with_reducible refine Touch.forEach ?_ (fun _ _ _ => ?_)
    | (refine up_9000 ?_ (by decide +kernel); simp only [R.mvChCnt]; omega)
    | (exact up_0 (Nat.zero_le _) (by decide +kernel))
    | split
    | dsimp only

theorem execDescriptorReadDone_touch (c : Fin 8) (s : State) : ∃ u, execDescriptorReadDone c s = .next u ∧ Touch 0x7FE35047EC01F70 s u := by
  unfold execDescriptorReadDone
  refine act_touch s _ (by decide +kernel) ?_
  try dsimp only
  repeat' first
    | (show sub _ _ = true; decide +kernel)
    | with_reducible exact Touch.refl _
    | with_reducible apply Touch.to (State.mvDescriptor_touch ..)
    | dsimp only

theorem execMoverHostReadDone_touch (c : Fin 8) (d : HostRes) (s : State) : ∃ u, execMoverHostReadDone c d s = .next u ∧ Touch 0x7FE35047EC01F70 s u := by
  unfold execMoverHostReadDone
  refine act_touch s _ (by decide +kernel) ?_
  try dsimp only
  repeat' first
    | (show sub _ _ = true; decide +kernel)
    | with_reducible exact Touch.refl _
    | with_reducible apply Touch.to (State.mvHostRead_touch ..)
    | dsimp only

theorem execMoverReadbackDone_touch (c : Fin 8) (d : HostRes) (s : State) : ∃ u, execMoverReadbackDone c d s = .next u ∧ Touch 0x7FE35047EC01F70 s u := by
  unfold execMoverReadbackDone
  refine act_touch s _ (by decide +kernel) ?_
  try dsimp only
  repeat' first
    | (show sub _ _ = true; decide +kernel)
    | with_reducible exact Touch.refl _
    | with_reducible apply Touch.to (State.mvReadback_touch ..)
    | dsimp only

end Sys2Proof.Machine
end

