-- ==== Sys2Proof/Laws/FrameWork.lean ====
section
/-! SUPPORT. What each operation of Machine/Work.lean touches: the parts of its set (Laws/Touch.lean), and nothing else. -/

set_option linter.unusedSimpArgs false
set_option linter.unusedVariables false
set_option Elab.async false

namespace Sys2Proof.Machine

theorem State.stageBegin_touch (s : State) (w : Work) : Touch 0x3FE00005EC01160 s (State.stageBegin s w) := by
  unfold State.stageBegin
  try dsimp only
  repeat' first
    | (show sub _ _ = true; decide +kernel)
    | with_reducible exact Touch.refl _
    | with_reducible apply Touch.to (State.dmaRead_touch ..)
    | with_reducible apply Touch.to (State.modWork_touch ..)
    | with_reducible apply Touch.to (State.mvKick_touch ..)
    | with_reducible refine Touch.ite ?_ ?_
    | split
    | dsimp only

theorem State.bulkEnter_touch (s : State) (w : Work) : Touch 0x3FE00005FC01160 s (State.bulkEnter s w) := by
  unfold State.bulkEnter
  try dsimp only
  repeat' first
    | (show sub _ _ = true; decide +kernel)
    | (show State.sizesOk _ = true → _; first | with_reducible exact id | (intro hz; simp only [State.sizesOk, listSet_length, List.length_map, List.length_replicate] at hz ⊢; first | exact hz | (rw [sizesOf_iff] at hz ⊢; and_intros <;> first | rfl | exact hz.1 | exact hz.2.1 | exact hz.2.2.1 | exact hz.2.2.2.1 | exact hz.2.2.2.2.1 | exact hz.2.2.2.2.2.1 | exact hz.2.2.2.2.2.2)))
    | (show _ ∧ _; and_intros <;> first | (apply Or.inl; decide +kernel) | (apply Or.inr; with_reducible rfl))
    | with_reducible exact Touch.refl _
    | with_reducible apply Touch.to (State.modWork_touch ..)
    | with_reducible apply Touch.to (State.seatDraw_touch ..)
    | with_reducible apply Touch.to (State.stageBegin_touch ..)
    | with_reducible refine Touch.ite ?_ ?_
    | split
    | dsimp only
    | with_reducible refine Touch.mk' ?_ rfl rfl ?_ ?_

theorem State.editGone_touch (s : State) (w : Work) : Touch 0x3FC000052C01120 s (State.editGone s w) := by
  unfold State.editGone
  try dsimp only
  repeat' first
    | (show sub _ _ = true; decide +kernel)
    | with_reducible exact Touch.refl _
    | with_reducible apply Touch.to (State.completeWith_touch ..)
    | with_reducible refine Touch.ite ?_ ?_
    | split
    | dsimp only

theorem State.editDone_touch {m : Nat} {b s : State} {w : Work} {x : Nat × Nat × State} (h : Touch m b x.2.2) (e : sub 0x3FC000052C01120 m = true) :
    Touch m b (s.editDone w x) := Touch.to (State.completeWith_touch ..) e h

theorem State.workReach_touch (s : State) (w : Work) : Touch 0x3FF00005FC41160 s (State.workReach s w) := by
  unfold State.workReach
  try dsimp only
  repeat' first
    | (show sub _ _ = true; decide +kernel)
    | (show State.sizesOk _ = true → _; first | with_reducible exact id | (intro hz; simp only [State.sizesOk, listSet_length, List.length_map, List.length_replicate] at hz ⊢; first | exact hz | (rw [sizesOf_iff] at hz ⊢; and_intros <;> first | rfl | exact hz.1 | exact hz.2.1 | exact hz.2.2.1 | exact hz.2.2.2.1 | exact hz.2.2.2.2.1 | exact hz.2.2.2.2.2.1 | exact hz.2.2.2.2.2.2)))
    | (show _ ∧ _; and_intros <;> first | (apply Or.inl; decide +kernel) | (apply Or.inr; with_reducible rfl))
    | with_reducible exact Touch.refl _
    | with_reducible apply Touch.to (State.completeViolation_touch ..)
    | with_reducible apply Touch.to (State.modWork_touch ..)
    | with_reducible apply Touch.to (State.seatDraw_touch ..)
    | with_reducible apply Touch.to (State.stageBegin_touch ..)
    | with_reducible apply Touch.to (State.setResume_touch ..)
    | with_reducible apply Touch.to (State.complete_touch ..)
    | with_reducible apply Touch.to (State.bulkEnter_touch ..)
    | with_reducible apply Touch.to (State.editGone_touch ..)
    | with_reducible apply State.editDone_touch
    | with_reducible apply Touch.to (State.catInsert_touch ..)
    | with_reducible apply Touch.to (State.catRemove_touch ..)
    | with_reducible apply Touch.to (State.catModify_touch ..)
    | with_reducible refine Touch.ite ?_ ?_
    | split
    | dsimp only
    | with_reducible refine Touch.mk' ?_ rfl rfl ?_ ?_

theorem State.delayRun_touch (n : Nat) (s : State) (l : Nat) : Touch 0x3FF00005FC41160 s (State.delayRun n s l) := by
  induction n generalizing s with
  | zero => exact Touch.refl _
  | succ n ih =>
    unfold State.delayRun
    try dsimp only
    repeat' first
      | (show sub _ _ = true; decide +kernel)
      | with_reducible assumption
      | with_reducible exact Touch.refl _
      | with_reducible apply Touch.to (State.modWork_touch ..)
      | with_reducible apply Touch.to (State.workReach_touch ..)
      | with_reducible apply Touch.to (State.bump_touch ..)
      | with_reducible apply Touch.to (State.raise_touch ..)
      | with_reducible apply Touch.to (ih ..)
      | with_reducible refine Touch.ite ?_ ?_
      | with_reducible refine Touch.forEach ?_ (fun _ _ _ => ?_)
      | with_reducible refine Touch.foldl ?_ (fun _ _ _ => ?_)
      | split
      | dsimp only

theorem State.delaysRun_touch (s : State) : Touch 0x3FF00005FC41160 s (State.delaysRun s) := by
  unfold State.delaysRun
  try dsimp only
  repeat' first
    | (show sub _ _ = true; decide +kernel)
    | with_reducible assumption
    | with_reducible exact Touch.refl _
    | with_reducible apply Touch.to (State.delayRun_touch ..)
    | with_reducible refine Touch.forEach ?_ (fun _ _ _ => ?_)
    | dsimp only

theorem State.entryRead_touch (s : State) (g : Nat) (r : Nat) : Touch 0x2401020 s (State.entryRead s g r) := by
  unfold State.entryRead
  try dsimp only
  repeat' first
    | (show sub _ _ = true; decide +kernel)
    | with_reducible exact Touch.refl _
    | with_reducible apply Touch.to (State.dmaRead_touch ..)
    | with_reducible apply Touch.to (State.modRing_touch ..)
    | dsimp only

theorem State.modEv_touch (s : State) (g : Nat) (f : EvRing → EvRing) : Touch 0x400000 s (State.modEv s g f) := by
  unfold State.modEv
  try dsimp only
  repeat' first
    | (show sub _ _ = true; decide +kernel)
    | with_reducible exact Touch.refl _
    | with_reducible apply Touch.to (State.modGa_touch ..)
    | dsimp only

theorem State.evDrop_touch (s : State) (g : Nat) (t : Nat) : Touch 0x380000000400000 s (State.evDrop s g t) := by
  unfold State.evDrop
  try dsimp only
  repeat' first
    | (show sub _ _ = true; decide +kernel)
    | with_reducible exact Touch.refl _
    | with_reducible apply Touch.to (State.modEv_touch ..)
    | with_reducible apply Touch.to (State.bump_touch ..)
    | (refine up_10000 ?_ (by decide +kernel); simp only [F.gaEvtStatus_lost, R.gaEvtStatus]; omega)
    | dsimp only

theorem State.evShed_touch (s : State) (g : Nat) : Touch 0x380000000400000 s (State.evShed s g) := by
  unfold State.evShed
  try dsimp only
  repeat' first
    | (show sub _ _ = true; decide +kernel)
    | with_reducible assumption
    | with_reducible exact Touch.refl _
    | with_reducible apply Touch.to (State.modEv_touch ..)
    | with_reducible apply Touch.to (State.evDrop_touch ..)
    | with_reducible refine Touch.forEach ?_ (fun _ _ _ => ?_)
    | dsimp only

theorem State.evDisable_touch (s : State) (g : Nat) : Touch 0x380000000400000 s (State.evDisable s g) := by
  unfold State.evDisable
  try dsimp only
  repeat' first
    | (show sub _ _ = true; decide +kernel)
    | with_reducible exact Touch.refl _
    | with_reducible apply Touch.to (State.evShed_touch ..)
    | with_reducible apply Touch.to (State.modEv_touch ..)
    | with_reducible apply Touch.to (State.put_touch ..)
    | (refine up_10000 ?_ (by decide +kernel); simp only [F.gaEvtCtrl_enable, F.gaEvtStatus_full, F.gaEvtStatus_running, R.gaEvtCtrl, R.gaEvtStatus]; omega)
    | dsimp only

theorem State.evKick_touch (s : State) (g : Nat) : Touch 0x2401020 s (State.evKick s g) := by
  unfold State.evKick
  try dsimp only
  repeat' first
    | (show sub _ _ = true; decide +kernel)
    | with_reducible exact Touch.refl _
    | with_reducible apply Touch.to (State.dmaRead_touch ..)
    | with_reducible apply Touch.to (State.modEv_touch ..)
    | with_reducible refine Touch.ite ?_ ?_
    | split
    | dsimp only

theorem State.evEnable_touch (s : State) (g : Nat) : Touch 0x380000002401020 s (State.evEnable s g) := by
  unfold State.evEnable
  try dsimp only
  repeat' first
    | (show sub _ _ = true; decide +kernel)
    | with_reducible exact Touch.refl _
    | with_reducible apply Touch.to (State.put_touch ..)
    | with_reducible apply Touch.to (State.setReg_touch ..)
    | with_reducible apply Touch.to (State.evKick_touch ..)
    | with_reducible apply Touch.to (State.modEv_touch ..)
    | with_reducible refine Touch.ite ?_ ?_
    | (refine up_10000 ?_ (by decide +kernel); simp only [F.gaEvtCtrl_enable, F.gaEvtStatus_refused, R.gaEvtCtrl, R.gaEvtStatus]; omega)
    | split
    | dsimp only

theorem State.evHeadRead_touch (s : State) (g : Nat) : Touch 0x2401020 s (State.evHeadRead s g) := by
  unfold State.evHeadRead
  try dsimp only
  repeat' first
    | (show sub _ _ = true; decide +kernel)
    | with_reducible exact Touch.refl _
    | with_reducible apply Touch.to (State.dmaRead_touch ..)
    | with_reducible apply Touch.to (State.modEv_touch ..)
    | with_reducible refine Touch.ite ?_ ?_
    | split
    | dsimp only

theorem State.evWrite_touch (s : State) (g : Nat) (body : List Byte) : Touch 0x380000002401120 s (State.evWrite s g body) := by
  unfold State.evWrite
  try dsimp only
  repeat' first
    | (show sub _ _ = true; decide +kernel)
    | with_reducible exact Touch.refl _
    | with_reducible apply Touch.to (State.dmaWrite_touch ..)
    | with_reducible apply Touch.to (State.put_touch ..)
    | with_reducible apply Touch.to (State.privEvent_touch ..)
    | with_reducible apply Touch.to (State.evHeadRead_touch ..)
    | with_reducible refine Touch.ite ?_ ?_
    | (refine up_10000 ?_ (by decide +kernel); simp only [F.gaEvtPos_index, R.gaEvtPos]; omega)
    | split
    | dsimp only

theorem State.evPump_touch (n : Nat) (s : State) (g : Nat) : Touch 0x380000002401120 s (State.evPump n s g) := by
  induction n generalizing s with
  | zero => exact Touch.refl _
  | succ n ih =>
    unfold State.evPump
    try dsimp only
    repeat' first
      | (show sub _ _ = true; decide +kernel)
      | with_reducible assumption
      | with_reducible exact Touch.refl _
      | with_reducible apply Touch.to (State.modEv_touch ..)
      | with_reducible apply Touch.to (State.evShed_touch ..)
      | with_reducible apply Touch.to (State.evWrite_touch ..)
      | with_reducible apply Touch.to (State.evHeadRead_touch ..)
      | with_reducible apply Touch.to (ih ..)
      | with_reducible refine Touch.ite ?_ ?_
      | with_reducible refine Touch.forEach ?_ (fun _ _ _ => ?_)
      | with_reducible refine Touch.foldl ?_ (fun _ _ _ => ?_)
      | split
      | dsimp only

theorem State.evHead_touch (s : State) (g : Nat) (d : HostRes) : Touch 0x390300012401F60 s (State.evHead s g d) := by
  unfold State.evHead
  try dsimp only
  repeat' first
    | (show sub _ _ = true; decide +kernel)
    | with_reducible exact Touch.refl _
    | with_reducible apply Touch.to (State.hostData_touch ..)
    | with_reducible apply Touch.to (State.modEv_touch ..)
    | with_reducible apply Touch.to (State.hostErr_touch ..)
    | with_reducible apply Touch.to (State.evShed_touch ..)
    | with_reducible apply Touch.to (State.put_touch ..)
    | with_reducible apply Touch.to (State.privEvent_touch ..)
    | with_reducible apply Touch.to (State.evPump_touch ..)
    | with_reducible refine Touch.ite ?_ ?_
    | (refine up_10000 ?_ (by decide +kernel); simp only [F.gaEvtPos_head, F.gaEvtStatus_full, R.gaEvtPos, R.gaEvtStatus]; omega)
    | split
    | dsimp only

theorem State.evOffer_touch (s : State) (g : Nat) (e : Event) (always : Bool) (t : Nat) : Touch 0x380000002401120 s (State.evOffer s g e always t) := by
  unfold State.evOffer
  try dsimp only
  repeat' first
    | (show sub _ _ = true; decide +kernel)
    | with_reducible exact Touch.refl _
    | with_reducible apply Touch.to (State.evDrop_touch ..)
    | with_reducible apply Touch.to (State.evPump_touch ..)
    | with_reducible apply Touch.to (State.modEv_touch ..)
    | with_reducible refine Touch.ite ?_ ?_
    | split
    | dsimp only

theorem State.evTail_touch (s : State) (g : Nat) (d : HostRes) : Touch 0x390300012401F60 s (State.evTail s g d) := by
  unfold State.evTail
  try dsimp only
  repeat' first
    | (show sub _ _ = true; decide +kernel)
    | with_reducible exact Touch.refl _
    | with_reducible apply Touch.to (State.hostData_touch ..)
    | with_reducible apply Touch.to (State.modEv_touch ..)
    | with_reducible apply Touch.to (State.hostErr_touch ..)
    | with_reducible apply Touch.to (State.put_touch ..)
    | with_reducible apply Touch.to (State.evPump_touch ..)
    | with_reducible refine Touch.ite ?_ ?_
    | (refine up_10000 ?_ (by decide +kernel); simp only [F.gaEvtPos_head, F.gaEvtPos_index, F.gaEvtStatus_full, R.gaEvtPos, R.gaEvtStatus]; omega)
    | split
    | dsimp only

theorem State.fetchNext_touch (s : State) (g : Nat) (r : Nat) : Touch 0x380000000000000 s (State.fetchNext s g r) := by
  unfold State.fetchNext
  try dsimp only
  repeat' first
    | (show sub _ _ = true; decide +kernel)
    | with_reducible exact Touch.refl _
    | with_reducible apply Touch.to (State.put_touch ..)
    | (refine up_10000 ?_ (by decide +kernel); simp only [F.gaRingPos_fetch, R.gaRingPos]; omega)
    | dsimp only

theorem State.fragTable_touch (s : State) (g : Nat) (r : Nat) (i : Nat) (d : HostRes) : Touch 0x3FE30005EC01F60 s (State.fragTable s g r i d) := by
  unfold State.fragTable
  try dsimp only
  repeat' first
    | (show sub _ _ = true; decide +kernel)
    | with_reducible exact Touch.refl _
    | with_reducible apply Touch.to (State.lateData_touch ..)
    | with_reducible apply Touch.to (State.hostData_touch ..)
    | with_reducible apply Touch.to (State.complete_touch ..)
    | with_reducible apply Touch.to (State.mvKick_touch ..)
    | with_reducible apply Touch.to (State.modWork_touch ..)
    | with_reducible refine Touch.ite ?_ ?_
    | split
    | dsimp only

theorem State.ringOwed_touch (s : State) (g : Nat) (r : Nat) : Touch 0x380000002401120 s (State.ringOwed s g r) := by
  unfold State.ringOwed
  try dsimp only
  repeat' first
    | (show sub _ _ = true; decide +kernel)
    | with_reducible assumption
    | with_reducible exact Touch.refl _
    | with_reducible apply Touch.to (State.modRing_touch ..)
    | with_reducible apply Touch.to (State.dmaWrite_touch ..)
    | with_reducible apply Touch.to (State.wrap_touch ..)
    | with_reducible apply Touch.to (State.privEvent_touch ..)
    | with_reducible refine Touch.ite ?_ ?_
    | with_reducible refine Touch.forEach ?_ (fun _ _ _ => ?_)
    | (refine up_10000 ?_ (by decide +kernel); simp only [F.gaRingCnt_completed, R.gaRingCnt]; omega)
    | split
    | dsimp only

theorem State.ringEnable_touch (s : State) (g : Nat) (r : Nat) : Touch 0x380000002401120 s (State.ringEnable s g r) := by
  unfold State.ringEnable
  try dsimp only
  repeat' first
    | (show sub _ _ = true; decide +kernel)
    | with_reducible exact Touch.refl _
    | with_reducible apply Touch.to (State.put_touch ..)
    | with_reducible apply Touch.to (State.setReg_touch ..)
    | with_reducible apply Touch.to (State.writeStatus_touch ..)
    | with_reducible apply Touch.to (State.ringOwed_touch ..)
    | with_reducible apply Touch.to (State.modRing_touch ..)
    | with_reducible refine Touch.ite ?_ ?_
    | (refine up_10000 ?_ (by decide +kernel); simp only [F.gaRingCtrl_enable, F.gaRingResume_valid, F.gaRingState_refused, R.gaRingCnt, R.gaRingCtrl, R.gaRingHaltIdx, R.gaRingPos, R.gaRingResume, R.gaRingState]; omega)
    | split
    | dsimp only

theorem State.ringPoll_touch (s : State) (g : Nat) (r : Nat) : Touch 0x2401020 s (State.ringPoll s g r) := by
  unfold State.ringPoll
  try dsimp only
  repeat' first
    | (show sub _ _ = true; decide +kernel)
    | with_reducible exact Touch.refl _
    | with_reducible apply Touch.to (State.entryRead_touch ..)
    | with_reducible refine Touch.ite ?_ ?_
    | split
    | dsimp only

theorem State.ringStopped_touch (s : State) (g : Nat) (r : Nat) : Touch 0x380000002401020 s (State.ringStopped s g r) := by
  unfold State.ringStopped
  try dsimp only
  repeat' first
    | (show sub _ _ = true; decide +kernel)
    | with_reducible exact Touch.refl _
    | with_reducible apply Touch.to (State.ringDone_touch ..)
    | with_reducible refine Touch.ite ?_ ?_
    | split
    | dsimp only

theorem State.workTake_touch (s : State) (w : Work) : Touch 0x3FC000052C01120 s (State.workTake s w) := by
  unfold State.workTake
  try dsimp only
  repeat' first
    | (show sub _ _ = true; decide +kernel)
    | with_reducible exact Touch.refl _
    | with_reducible apply Touch.to (State.completeViolation_touch ..)
    | with_reducible apply Touch.to (State.complete_touch ..)
    | with_reducible apply Touch.to (State.modWork_touch ..)
    | with_reducible refine Touch.ite ?_ ?_
    | split
    | dsimp only

theorem State.workFresh_touch (s : State) (g : Nat) (r : Nat) (i : Nat) (ent : List Byte) : Touch 0x3FC300056C01F20 s (State.workFresh s g r i ent) := by
  unfold State.workFresh
  try dsimp only
  repeat' first
    | (show sub _ _ = true; decide +kernel)
    | (show State.sizesOk _ = true → _; first | with_reducible exact id | (intro hz; simp only [State.sizesOk, listSet_length, List.length_map, List.length_replicate] at hz ⊢; first | exact hz | (rw [sizesOf_iff] at hz ⊢; and_intros <;> first | rfl | exact hz.1 | exact hz.2.1 | exact hz.2.2.1 | exact hz.2.2.2.1 | exact hz.2.2.2.2.1 | exact hz.2.2.2.2.2.1 | exact hz.2.2.2.2.2.2)))
    | (show _ ∧ _; and_intros <;> first | (apply Or.inl; decide +kernel) | (apply Or.inr; with_reducible rfl))
    | with_reducible exact Touch.refl _
    | with_reducible apply Touch.to (State.inject_touch ..)
    | with_reducible apply Touch.to (State.malformed_touch ..)
    | with_reducible apply Touch.to (State.entryRead_touch ..)
    | with_reducible apply Touch.to (State.tailReport_touch ..)
    | with_reducible apply Touch.to (State.put_touch ..)
    | with_reducible apply Touch.to (State.wrap_touch ..)
    | with_reducible apply Touch.to (State.fetchNext_touch ..)
    | with_reducible apply Touch.to (State.bump_touch ..)
    | with_reducible apply Touch.to (State.writeStatus_touch ..)
    | with_reducible apply Touch.to (State.modRing_touch ..)
    | with_reducible apply Touch.to (State.workTake_touch ..)
    | with_reducible refine Touch.ite ?_ ?_
    | (refine up_10000 ?_ (by decide +kernel); simp only [F.gaRingCnt_completed, F.gaRingCnt_held_polls, F.gaRingState_back_pressured, R.gaRingCnt, R.gaRingState]; omega)
    | (show _ < 32; decide)
    | split
    | dsimp only
    | with_reducible refine Touch.mk' ?_ rfl rfl ?_ ?_

theorem State.workEntry_touch (s : State) (g : Nat) (r : Nat) (d : HostRes) : Touch 0x7FC300056C01F60 s (State.workEntry s g r d) := by
  unfold State.workEntry
  try dsimp only
  repeat' first
    | (show sub _ _ = true; decide +kernel)
    | with_reducible exact Touch.refl _
    | with_reducible apply Touch.to (State.hostData_touch ..)
    | with_reducible apply Touch.to (State.modRing_touch ..)
    | with_reducible apply Touch.to (State.hostErr_touch ..)
    | with_reducible apply Touch.to (State.itemReadHalt_touch ..)
    | with_reducible apply Touch.to (State.workFresh_touch ..)
    | with_reducible refine Touch.ite ?_ ?_
    | split
    | dsimp only

theorem State.workGo_touch (s : State) (g : Nat) (r : Nat) (i : Nat) (op : Nat) : Touch 0x3FF00005FC41160 s (State.workGo s g r i op) := by
  unfold State.workGo
  try dsimp only
  repeat' first
    | (show sub _ _ = true; decide +kernel)
    | with_reducible exact Touch.refl _
    | with_reducible apply Touch.to (State.workReach_touch ..)
    | with_reducible refine Touch.ite ?_ ?_
    | split
    | dsimp only

theorem State.writeEvt_touch (s : State) (g : Nat) (off : Nat) (w : Word) (plain : Word) : Touch 0x3FFFFFC02401020 s (State.writeEvt s g off w plain) := by
  unfold State.writeEvt
  try dsimp only
  repeat' first
    | (show sub _ _ = true; decide +kernel)
    | with_reducible exact Touch.refl _
    | with_reducible apply Touch.to (State.setReg_touch ..)
    | with_reducible apply Touch.to (State.evEnable_touch ..)
    | with_reducible apply Touch.to (State.evDisable_touch ..)
    | with_reducible refine Touch.ite ?_ ?_
    | (exact up_0 (Nat.zero_le _) (by decide +kernel))
    | split
    | dsimp only

theorem State.writeRing_touch (s : State) (g : Nat) (r : Nat) (off : Nat) (w : Word) (plain : Word) : Touch 0x3FFFFFC46C01120 s (State.writeRing s g r off w plain) := by
  unfold State.writeRing
  try dsimp only
  repeat' first
    | (show sub _ _ = true; decide +kernel)
    | with_reducible exact Touch.refl _
    | with_reducible apply Touch.to (State.setReg_touch ..)
    | with_reducible apply Touch.to (State.ringEnable_touch ..)
    | with_reducible apply Touch.to (State.put_touch ..)
    | with_reducible apply Touch.to (State.ringStop_touch ..)
    | with_reducible refine Touch.ite ?_ ?_
    | (refine up_10000 ?_ (by decide +kernel); simp only [F.gaRingResume_valid, R.gaRingResume]; omega)
    | (exact up_0 (Nat.zero_le _) (by decide +kernel))
    | split
    | dsimp only

theorem execBulkIn_touch (g : Fin 16) (r : Fin 8) (i : BitVec 16) (s : State) : ∃ u, execBulkIn g r i s = .next u ∧ Touch 0x3FF25047FC41B60 s u := by
  unfold execBulkIn
  refine act_touch s _ (by decide +kernel) ?_
  try dsimp only
  repeat' first
    | (show sub _ _ = true; decide +kernel)
    | with_reducible exact Touch.refl _
    | with_reducible apply Touch.to (State.workGo_touch ..)
    | dsimp only

theorem execBulkOut_touch (g : Fin 16) (r : Fin 8) (i : BitVec 16) (s : State) : ∃ u, execBulkOut g r i s = .next u ∧ Touch 0x3FF25047FC41B60 s u := by
  unfold execBulkOut
  refine act_touch s _ (by decide +kernel) ?_
  try dsimp only
  repeat' first
    | (show sub _ _ = true; decide +kernel)
    | with_reducible exact Touch.refl _
    | with_reducible apply Touch.to (State.workGo_touch ..)
    | dsimp only

theorem execCatInsert_touch (g : Fin 16) (r : Fin 8) (i : BitVec 16) (s : State) : ∃ u, execCatInsert g r i s = .next u ∧ Touch 0x3FF25047FC41B60 s u := by
  unfold execCatInsert
  refine act_touch s _ (by decide +kernel) ?_
  try dsimp only
  repeat' first
    | (show sub _ _ = true; decide +kernel)
    | with_reducible exact Touch.refl _
    | with_reducible apply Touch.to (State.workGo_touch ..)
    | dsimp only

theorem execCatModify_touch (g : Fin 16) (r : Fin 8) (i : BitVec 16) (s : State) : ∃ u, execCatModify g r i s = .next u ∧ Touch 0x3FF25047FC41B60 s u := by
  unfold execCatModify
  refine act_touch s _ (by decide +kernel) ?_
  try dsimp only
  repeat' first
    | (show sub _ _ = true; decide +kernel)
    | with_reducible exact Touch.refl _
    | with_reducible apply Touch.to (State.workGo_touch ..)
    | dsimp only

theorem execCatRemove_touch (g : Fin 16) (r : Fin 8) (i : BitVec 16) (s : State) : ∃ u, execCatRemove g r i s = .next u ∧ Touch 0x3FF25047FC41B60 s u := by
  unfold execCatRemove
  refine act_touch s _ (by decide +kernel) ?_
  try dsimp only
  repeat' first
    | (show sub _ _ = true; decide +kernel)
    | with_reducible exact Touch.refl _
    | with_reducible apply Touch.to (State.workGo_touch ..)
    | dsimp only

theorem execControl_touch (g : Fin 16) (r : Fin 8) (i : BitVec 16) (s : State) : ∃ u, execControl g r i s = .next u ∧ Touch 0x3FF25047FC41B60 s u := by
  unfold execControl
  refine act_touch s _ (by decide +kernel) ?_
  try dsimp only
  repeat' first
    | (show sub _ _ = true; decide +kernel)
    | with_reducible exact Touch.refl _
    | with_reducible apply Touch.to (State.workGo_touch ..)
    | dsimp only

theorem execEventHeadReadDone_touch (g : Fin 16) (d : HostRes) (s : State) : ∃ u, execEventHeadReadDone g d s = .next u ∧ Touch 0x398350432401F60 s u := by
  unfold execEventHeadReadDone
  refine act_touch s _ (by decide +kernel) ?_
  try dsimp only
  repeat' first
    | (show sub _ _ = true; decide +kernel)
    | with_reducible exact Touch.refl _
    | with_reducible apply Touch.to (State.evHead_touch ..)
    | dsimp only

theorem execEventTailReadDone_touch (g : Fin 16) (d : HostRes) (s : State) : ∃ u, execEventTailReadDone g d s = .next u ∧ Touch 0x398350432401F60 s u := by
  unfold execEventTailReadDone
  refine act_touch s _ (by decide +kernel) ?_
  try dsimp only
  repeat' first
    | (show sub _ _ = true; decide +kernel)
    | with_reducible exact Touch.refl _
    | with_reducible apply Touch.to (State.evTail_touch ..)
    | dsimp only

theorem execFragmentTableReadDone_touch (g : Fin 16) (r : Fin 8) (i : BitVec 16) (d : HostRes) (s : State) : ∃ u, execFragmentTableReadDone g r i d s = .next u ∧ Touch 0x3FE35047EC01F60 s u := by
  unfold execFragmentTableReadDone
  refine act_touch s _ (by decide +kernel) ?_
  try dsimp only
  repeat' first
    | (show sub _ _ = true; decide +kernel)
    | with_reducible exact Touch.refl _
    | with_reducible apply Touch.to (State.fragTable_touch ..)
    | dsimp only

theorem execMark_touch (g : Fin 16) (r : Fin 8) (i : BitVec 16) (s : State) : ∃ u, execMark g r i s = .next u ∧ Touch 0x3FF25047FC41B60 s u := by
  unfold execMark
  refine act_touch s _ (by decide +kernel) ?_
  try dsimp only
  repeat' first
    | (show sub _ _ = true; decide +kernel)
    | with_reducible exact Touch.refl _
    | with_reducible apply Touch.to (State.workGo_touch ..)
    | dsimp only

theorem execRingPoll_touch (g : Fin 16) (r : Fin 8) (s : State) : ∃ u, execRingPoll g r s = .next u ∧ Touch 0x8250432401B60 s u := by
  unfold execRingPoll
  refine act_touch s _ (by decide +kernel) ?_
  try dsimp only
  repeat' first
    | (show sub _ _ = true; decide +kernel)
    | with_reducible exact Touch.refl _
    | with_reducible apply Touch.to (State.ringPoll_touch ..)
    | dsimp only

theorem execRingStopDone_touch (g : Fin 16) (r : Fin 8) (s : State) : ∃ u, execRingStopDone g r s = .next u ∧ Touch 0x388250432401B60 s u := by
  unfold execRingStopDone
  refine act_touch s _ (by decide +kernel) ?_
  try dsimp only
  repeat' first
    | (show sub _ _ = true; decide +kernel)
    | with_reducible exact Touch.refl _
    | with_reducible apply Touch.to (State.ringStopped_touch ..)
    | dsimp only

theorem execWorkEntryRead_touch (g : Fin 16) (r : Fin 8) (d : HostRes) (s : State) : ∃ u, execWorkEntryRead g r d s = .next u ∧ Touch 0x7FC350476C01F60 s u := by
  unfold execWorkEntryRead
  refine act_touch s _ (by decide +kernel) ?_
  try dsimp only
  repeat' first
    | (show sub _ _ = true; decide +kernel)
    | with_reducible exact Touch.refl _
    | with_reducible apply Touch.to (State.workEntry_touch ..)
    | dsimp only

end Sys2Proof.Machine
end

