-- ==== Sys2Proof/Laws/FrameStreams.lean ====
section
/-! SUPPORT. What each operation of Machine/Streams.lean touches: the parts of its set (Laws/Touch.lean), and nothing else. -/

set_option linter.unusedSimpArgs false
set_option linter.unusedVariables false
set_option Elab.async false

namespace Sys2Proof.Machine

theorem State.lateIndex_touch (s : State) (c : Nat) (who : Reader) (r : HostRes) : Touch 0x390300012001F60 s (State.lateIndex s c who r) := by
  unfold State.lateIndex
  try dsimp only
  repeat' first
    | (show sub _ _ = true; decide +kernel)
    | with_reducible exact Touch.refl _
    | with_reducible apply Touch.to (State.lateData_touch ..)
    | with_reducible apply Touch.to (State.hostErr_touch ..)
    | with_reducible refine Touch.ite ?_ ?_
    | split
    | dsimp only

theorem State.slotGap_touch (s : State) (c : Nat) : Touch 0x200000000020000 s (State.slotGap s c) := by
  unfold State.slotGap
  try dsimp only
  repeat' first
    | (show sub _ _ = true; decide +kernel)
    | with_reducible exact Touch.refl _
    | with_reducible apply Touch.to (State.modCtx_touch ..)
    | with_reducible apply Touch.to (State.bump_touch ..)
    | (refine up_40000 ?_ (by decide +kernel); simp only [F.pxCntA_gaps, R.pxCntA]; omega)
    | dsimp only

theorem State.stageOut_touch (s : State) (c : Nat) (k : Nat) (b : List Byte) : Touch 0x410300010000E30 s (State.stageOut s c k b).2 := by
  unfold State.stageOut
  try dsimp only
  repeat' first
    | (show sub _ _ = true; decide +kernel)
    | with_reducible exact Touch.refl _
    | with_reducible apply Touch.to (State.setRam_touch ..)
    | with_reducible apply Touch.to (State.ramRead_touch ..)
    | with_reducible refine Touch.ite ?_ ?_
    | split
    | dsimp only

theorem State.writeDevWord_touch (s : State) (c : Nat) : Touch 0x20 s (State.writeDevWord s c) := by
  unfold State.writeDevWord
  try dsimp only
  repeat' first
    | (show sub _ _ = true; decide +kernel)
    | with_reducible exact Touch.refl _
    | with_reducible apply Touch.to (State.postWrite_touch ..)
    | with_reducible refine Touch.ite ?_ ?_
    | split
    | dsimp only

theorem State.slotOut_touch (s : State) (c : Nat) (k : Nat) (b : List Byte) (lap : Bool) : Touch 0x610300010020E30 s (State.slotOut s c k b lap) := by
  unfold State.slotOut
  try dsimp only
  repeat' first
    | (show sub _ _ = true; decide +kernel)
    | with_reducible exact Touch.refl _
    | with_reducible apply Touch.to (State.slotGap_touch ..)
    | with_reducible apply Touch.to (State.stageOut_touch ..)
    | with_reducible apply Touch.to (State.postWrite_touch ..)
    | with_reducible apply Touch.to (State.bump_touch ..)
    | with_reducible apply Touch.to (State.writeDevWord_touch ..)
    | with_reducible apply Touch.to (State.modCtx_touch ..)
    | with_reducible apply Touch.to (State.setReg_touch ..)
    | with_reducible refine Touch.ite ?_ ?_
    | (refine up_40000 ?_ (by decide +kernel); simp only [F.pxCntA_laps, R.pxCntA, R.pxDevIdx]; omega)
    | split
    | dsimp only

theorem State.slotFull_touch (s : State) (c : Nat) (k : Nat) (b : List Byte) : Touch 0x610300010020E30 s (State.slotFull s c k b) := by
  unfold State.slotFull
  try dsimp only
  repeat' first
    | (show sub _ _ = true; decide +kernel)
    | with_reducible exact Touch.refl _
    | with_reducible apply Touch.to (State.slotOut_touch ..)
    | with_reducible apply Touch.to (State.slotGap_touch ..)
    | with_reducible refine Touch.ite ?_ ?_
    | split
    | dsimp only

theorem State.slotsGo_touch (s : State) (c : Nat) : Touch 0x610300010020E30 s (State.slotsGo s c) := by
  unfold State.slotsGo
  try dsimp only
  repeat' first
    | (show sub _ _ = true; decide +kernel)
    | with_reducible assumption
    | with_reducible exact Touch.refl _
    | with_reducible apply Touch.to (State.modCtx_touch ..)
    | with_reducible apply Touch.to (State.slotFull_touch ..)
    | with_reducible apply Touch.to (State.slotOut_touch ..)
    | with_reducible refine Touch.ite ?_ ?_
    | with_reducible refine Touch.forEach ?_ (fun _ _ _ => ?_)
    | split
    | dsimp only

theorem State.indexRead_touch (s : State) (c : Nat) (dev : Bool) : Touch 0x2021020 s (State.indexRead s c dev) := by
  unfold State.indexRead
  try dsimp only
  repeat' first
    | (show sub _ _ = true; decide +kernel)
    | with_reducible exact Touch.refl _
    | with_reducible apply Touch.to (State.dmaRead_touch ..)
    | with_reducible apply Touch.to (State.modCtx_touch ..)
    | with_reducible refine Touch.ite ?_ ?_
    | split
    | dsimp only

theorem State.outSlotRead_touch (s : State) (c : Nat) (f : Nat) : Touch 0x2021020 s (State.outSlotRead s c f) := by
  unfold State.outSlotRead
  try dsimp only
  repeat' first
    | (show sub _ _ = true; decide +kernel)
    | with_reducible exact Touch.refl _
    | with_reducible apply Touch.to (State.dmaRead_touch ..)
    | with_reducible apply Touch.to (State.modCtx_touch ..)
    | dsimp only

theorem State.indexDone_touch (s : State) (c : Nat) (r : HostRes) : Touch 0x790300012021F70 s (State.indexDone s c r) := by
  unfold State.indexDone
  try dsimp only
  repeat' first
    | (show sub _ _ = true; decide +kernel)
    | with_reducible assumption
    | with_reducible exact Touch.refl _
    | with_reducible apply Touch.to (State.lateIndex_touch ..)
    | with_reducible apply Touch.to (State.hostData_touch ..)
    | with_reducible apply Touch.to (State.modCtx_touch ..)
    | with_reducible apply Touch.to (State.hostErr_touch ..)
    | with_reducible apply Touch.to (State.slotGap_touch ..)
    | with_reducible apply Touch.to (State.slotsGo_touch ..)
    | with_reducible apply Touch.to (State.setReg_touch ..)
    | with_reducible apply Touch.to (State.indexRead_touch ..)
    | with_reducible apply Touch.to (State.outSlotRead_touch ..)
    | with_reducible refine Touch.ite ?_ ?_
    | with_reducible refine Touch.forEach ?_ (fun _ _ _ => ?_)
    | (refine up_40000 ?_ (by decide +kernel); simp only [R.pxDevIdx, R.pxSwIdx]; omega)
    | split
    | dsimp only

theorem State.outPut_touch (s : State) (c : Nat) (j : Nat) : Touch 0x400000000000010 s (State.outPut s c j) := by
  unfold State.outPut
  try dsimp only
  repeat' first
    | (show sub _ _ = true; decide +kernel)
    | with_reducible exact Touch.refl _
    | with_reducible apply Touch.to (State.setRamBytes_touch ..)
    | split
    | dsimp only

theorem State.outPop_touch (s : State) (c : Nat) : Touch 0x400000000020010 s (State.outPop s c) := by
  unfold State.outPop
  try dsimp only
  repeat' first
    | (show sub _ _ = true; decide +kernel)
    | with_reducible exact Touch.refl _
    | with_reducible apply Touch.to (State.outPut_touch ..)
    | with_reducible apply Touch.to (State.modCtx_touch ..)
    | dsimp only

theorem State.outSlotDone_touch (s : State) (c : Nat) (r : HostRes) : Touch 0x790300012021F70 s (State.outSlotDone s c r) := by
  unfold State.outSlotDone
  try dsimp only
  repeat' first
    | (show sub _ _ = true; decide +kernel)
    | with_reducible exact Touch.refl _
    | with_reducible apply Touch.to (State.lateIndex_touch ..)
    | with_reducible apply Touch.to (State.hostData_touch ..)
    | with_reducible apply Touch.to (State.modCtx_touch ..)
    | with_reducible apply Touch.to (State.hostErr_touch ..)
    | with_reducible apply Touch.to (State.outPut_touch ..)
    | with_reducible refine Touch.ite ?_ ?_
    | split
    | dsimp only

theorem State.stageSlot_touch (s : State) (c : Nat) (b : List Byte) : Touch 0x400000000020010 s (State.stageSlot s c b) := by
  unfold State.stageSlot
  try dsimp only
  repeat' first
    | (show sub _ _ = true; decide +kernel)
    | with_reducible exact Touch.refl _
    | with_reducible apply Touch.to (State.setRamBytes_touch ..)
    | with_reducible apply Touch.to (State.modCtx_touch ..)
    | with_reducible refine Touch.ite ?_ ?_
    | split
    | dsimp only

theorem State.slotIn_touch (s : State) (c : Nat) (b : List Byte) : Touch 0x610300012021E30 s (State.slotIn s c b) := by
  unfold State.slotIn
  try dsimp only
  repeat' first
    | (show sub _ _ = true; decide +kernel)
    | with_reducible exact Touch.refl _
    | with_reducible apply Touch.to (State.stageSlot_touch ..)
    | with_reducible apply Touch.to (State.slotGap_touch ..)
    | with_reducible apply Touch.to (State.indexRead_touch ..)
    | with_reducible apply Touch.to (State.modCtx_touch ..)
    | with_reducible apply Touch.to (State.slotOut_touch ..)
    | with_reducible refine Touch.ite ?_ ?_
    | split
    | dsimp only

theorem State.slotNew_touch (s : State) (c : Nat) (time : Nat) (quality : Nat) (flags : Nat) (pl : List Byte) : Touch 0x610300012021E30 s (State.slotNew s c time quality flags pl) := by
  unfold State.slotNew
  try dsimp only
  repeat' first
    | (show sub _ _ = true; decide +kernel)
    | with_reducible exact Touch.refl _
    | with_reducible apply Touch.to (State.bump_touch ..)
    | with_reducible apply Touch.to (State.slotIn_touch ..)
    | with_reducible refine Touch.ite ?_ ?_
    | (refine up_40000 ?_ (by decide +kernel); simp only [F.pxCntD_unqualified, R.pxCntD]; omega)
    | split
    | dsimp only

theorem State.slotMissed_touch (s : State) (c : Nat) : Touch 0x610300012021E30 s (State.slotMissed s c) := by
  unfold State.slotMissed
  try dsimp only
  repeat' first
    | (show sub _ _ = true; decide +kernel)
    | with_reducible exact Touch.refl _
    | with_reducible apply Touch.to (State.bump_touch ..)
    | with_reducible apply Touch.to (State.slotNew_touch ..)
    | with_reducible refine Touch.ite ?_ ?_
    | (refine up_40000 ?_ (by decide +kernel); simp only [F.pxCntB_missed, R.pxCntB]; omega)
    | split
    | dsimp only

theorem execSwIndexReadDone_touch (c : Fin 2048) (r : HostRes) (s : State) : ∃ u, execSwIndexReadDone c r s = .next u ∧ Touch 0x798350432021F70 s u := by
  unfold execSwIndexReadDone
  refine act_touch s _ (by decide +kernel) ?_
  try dsimp only
  repeat' first
    | (show sub _ _ = true; decide +kernel)
    | with_reducible exact Touch.refl _
    | with_reducible apply Touch.to (State.indexDone_touch ..)
    | dsimp only

end Sys2Proof.Machine
end

