-- ==== Sys2Proof/Laws/FramePlans.lean ====
section
/-! SUPPORT. What each operation of Machine/Plans.lean touches: the parts of its set (Laws/Touch.lean), and nothing else. -/

set_option linter.unusedSimpArgs false
set_option linter.unusedVariables false
set_option Elab.async false

namespace Sys2Proof.Machine

theorem State.consume_touch (s : State) (c : Nat) : Touch 0x200000000000020 s (State.consume s c) := by
  unfold State.consume
  try dsimp only
  repeat' first
    | (show sub _ _ = true; decide +kernel)
    | with_reducible exact Touch.refl _
    | with_reducible apply Touch.to (State.writeDevWord_touch ..)
    | with_reducible apply Touch.to (State.setReg_touch ..)
    | (refine up_40000 ?_ (by decide +kernel); simp only [R.pxDevIdx]; omega)
    | dsimp only

theorem State.dropSlots_touch (f n : Nat) (s : State) (c : Nat) : Touch 0x600000000020030 s (State.dropSlots f n s c) := by
  induction n generalizing s with
  | zero => exact Touch.refl _
  | succ n ih =>
    unfold State.dropSlots
    try dsimp only
    repeat' first
      | (show sub _ _ = true; decide +kernel)
      | with_reducible assumption
      | with_reducible exact Touch.refl _
      | with_reducible apply Touch.to (State.modCtx_touch ..)
      | with_reducible apply Touch.to (State.outPop_touch ..)
      | with_reducible apply Touch.to (State.bump_touch ..)
      | with_reducible apply Touch.to (State.consume_touch ..)
      | with_reducible apply Touch.to (ih ..)
      | with_reducible refine Touch.ite ?_ ?_
      | with_reducible refine Touch.forEach ?_ (fun _ _ _ => ?_)
      | with_reducible refine Touch.foldl ?_ (fun _ _ _ => ?_)
      | (refine up_40000 ?_ (by decide +kernel); simp only [F.pxCntD_discarded, R.pxCntD]; omega)
      | split
      | dsimp only

theorem State.outLost_touch (s : State) (c : Nat) : Touch 0x200000000000000 s (State.outLost s c) := by
  unfold State.outLost
  try dsimp only
  repeat' first
    | (show sub _ _ = true; decide +kernel)
    | with_reducible exact Touch.refl _
    | with_reducible apply Touch.to (State.bump_touch ..)
    | (refine up_40000 ?_ (by decide +kernel); simp only [F.pxCntB_errors, F.pxCntB_missed, R.pxCntB]; omega)
    | dsimp only

theorem State.holdVal_touch (s : State) (c : Nat) (f : Nat) (it : PlanItem) (rep : Bool) : Touch 0x210300010000E20 s (State.holdVal s c f it rep).2 := by
  unfold State.holdVal
  try dsimp only
  repeat' first
    | (show sub _ _ = true; decide +kernel)
    | with_reducible exact Touch.refl _
    | with_reducible apply Touch.to (State.ramRead_touch ..)
    | with_reducible apply Touch.to (State.outLost_touch ..)
    | with_reducible refine Touch.ite ?_ ?_
    | split
    | dsimp only

theorem State.chooseVal_touch (s : State) (c : Nat) (f : Nat) (it : PlanItem) : Touch 0x610300010020E30 s (State.chooseVal s c f it).2 := by
  unfold State.chooseVal
  try dsimp only
  repeat' first
    | (show sub _ _ = true; decide +kernel)
    | with_reducible exact Touch.refl _
    | with_reducible apply Touch.to (State.dropSlots_touch ..)
    | with_reducible apply Touch.to (State.ramRead_touch ..)
    | with_reducible apply Touch.to (State.outPop_touch ..)
    | with_reducible apply Touch.to (State.consume_touch ..)
    | with_reducible apply Touch.to (State.outLost_touch ..)
    | with_reducible apply Touch.to (State.holdVal_touch ..)
    | with_reducible refine Touch.ite ?_ ?_
    | split
    | dsimp only

theorem State.slotBack_touch (s : State) (c : Nat) (v : OutVal) : Touch 0x400000000020010 s (State.slotBack s c v) := by
  unfold State.slotBack
  try dsimp only
  repeat' first
    | (show sub _ _ = true; decide +kernel)
    | with_reducible exact Touch.refl _
    | with_reducible apply Touch.to (State.outPut_touch ..)
    | with_reducible apply Touch.to (State.modCtx_touch ..)
    | with_reducible refine Touch.ite ?_ ?_
    | split
    | dsimp only

theorem State.outDisplaced_touch (s : State) (c : Nat) (v : OutVal) : Touch 0x600000000020010 s (State.outDisplaced s c v) := by
  unfold State.outDisplaced
  try dsimp only
  repeat' first
    | (show sub _ _ = true; decide +kernel)
    | with_reducible exact Touch.refl _
    | with_reducible apply Touch.to (State.bump_touch ..)
    | with_reducible apply Touch.to (State.slotBack_touch ..)
    | with_reducible apply Touch.to (State.modCtx_touch ..)
    | with_reducible refine Touch.ite ?_ ?_
    | (refine up_40000 ?_ (by decide +kernel); simp only [F.pxCntC_displaced, R.pxCntC]; omega)
    | split
    | dsimp only

theorem State.closeItem_touch (s : State) (f : Nat) (late : Bool) (rep : Bool) (items : List PlanItem) (it : PlanItem) : Touch 0x610300010020E30 s (State.closeItem s f late rep items it).2 := by
  unfold State.closeItem
  try dsimp only
  repeat' first
    | (show sub _ _ = true; decide +kernel)
    | with_reducible exact Touch.refl _
    | with_reducible apply Touch.to (State.holdVal_touch ..)
    | with_reducible apply Touch.to (State.chooseVal_touch ..)
    | with_reducible apply Touch.to (State.outDisplaced_touch ..)
    | with_reducible refine Touch.ite ?_ ?_
    | split
    | dsimp only

theorem State.mirrorWaiting_touch (s : State) (c : Nat) : Touch 0x30000000 s (State.mirrorWaiting s c) := by
  unfold State.mirrorWaiting
  try dsimp only
  repeat' first
    | (show sub _ _ = true; decide +kernel)
    | with_reducible exact Touch.refl _
    | with_reducible apply Touch.to (State.mirrorItem_touch ..)
    | with_reducible refine Touch.ite ?_ ?_
    | split
    | dsimp only

theorem State.mirrorPlacement_touch (s : State) (r : ReflexOut) : Touch 0x30000000 s (State.mirrorPlacement s r) := by
  unfold State.mirrorPlacement
  try dsimp only
  repeat' first
    | (show sub _ _ = true; decide +kernel)
    | with_reducible exact Touch.refl _
    | with_reducible apply Touch.to (State.mirrorItem_touch ..)
    | with_reducible refine Touch.ite ?_ ?_
    | split
    | dsimp only

theorem State.reflexMove_touch (s : State) (n : Nat) (f : Nat) (r : ReflexOut) : Touch 0x30080000 s (State.reflexMove s n f r) := by
  unfold State.reflexMove
  try dsimp only
  repeat' first
    | (show sub _ _ = true; decide +kernel)
    | with_reducible assumption
    | with_reducible exact Touch.refl _
    | with_reducible apply Touch.to (State.mirrorWaiting_touch ..)
    | with_reducible apply Touch.to (State.modCu_touch ..)
    | with_reducible apply Touch.to (State.mirrorPlacement_touch ..)
    | with_reducible refine Touch.forEach ?_ (fun _ _ _ => ?_)
    | dsimp only

theorem State.reflexesInto_touch (s : State) (n : Nat) (f : Nat) (late : Bool) (items : List PlanItem) : Touch 0x420000030080010 s (State.reflexesInto s n f late items).2 := by
  unfold State.reflexesInto
  try dsimp only
  repeat' first
    | (show sub _ _ = true; decide +kernel)
    | with_reducible assumption
    | with_reducible exact Touch.refl _
    | with_reducible apply Touch.to (State.modCu_touch ..)
    | with_reducible apply Touch.to (State.reflexMove_touch ..)
    | with_reducible apply Touch.to (State.bump_touch ..)
    | with_reducible apply Touch.to (State.setRamBytes_touch ..)
    | with_reducible refine Touch.ite ?_ ?_
    | with_reducible refine Touch.foldl ?_ (fun _ _ _ => ?_)
    | with_reducible refine Touch.foldl_fst ?_ (fun _ _ _ => ?_)
    | with_reducible refine Touch.foldl_snd ?_ (fun _ _ _ => ?_)
    | split
    | dsimp only

theorem State.closeItems_touch (s : State) (n : Nat) (f : Nat) (late : Bool) (items : List PlanItem) : Touch 0x6303000300A0E30 s (State.closeItems s n f late items).2 := by
  unfold State.closeItems
  try dsimp only
  repeat' first
    | (show sub _ _ = true; decide +kernel)
    | with_reducible assumption
    | with_reducible exact Touch.refl _
    | with_reducible apply Touch.to (State.reflexesInto_touch ..)
    | with_reducible apply Touch.to (State.closeItem_touch ..)
    | with_reducible refine Touch.foldl ?_ (fun _ _ _ => ?_)
    | with_reducible refine Touch.foldl_fst ?_ (fun _ _ _ => ?_)
    | with_reducible refine Touch.foldl_snd ?_ (fun _ _ _ => ?_)
    | dsimp only

theorem State.reflexDrop_touch (s : State) (cause : Nat) (chip : Nat) (port : Nat) (addr : Nat) (pipe : Nat) : Touch 0x4000000000000 s (State.reflexDrop s cause chip port addr pipe) := by
  unfold State.reflexDrop
  try dsimp only
  repeat' first
    | (show sub _ _ = true; decide +kernel)
    | with_reducible exact Touch.refl _
    | with_reducible apply Touch.to (State.raise_touch ..)
    | with_reducible apply Touch.to (State.setReg_touch ..)
    | with_reducible apply Touch.to (State.bump_touch ..)
    | dsimp only

theorem State.reflexLost_touch (s : State) (n : Nat) (c : Nat) : Touch 0x4000000000000 s (State.reflexLost s n c) := by
  unfold State.reflexLost
  try dsimp only
  repeat' first
    | (show sub _ _ = true; decide +kernel)
    | with_reducible exact Touch.refl _
    | with_reducible apply Touch.to (State.reflexDrop_touch ..)
    | with_reducible refine Touch.ite ?_ ?_
    | split
    | dsimp only

theorem State.planLate_touch (s : State) (f : Nat) (n : Nat) (inj : Bool) : Touch 0x7FF3300300A0E30 s (State.planLate s f n inj) := by
  unfold State.planLate
  try dsimp only
  repeat' first
    | (show sub _ _ = true; decide +kernel)
    | with_reducible exact Touch.refl _
    | with_reducible apply Touch.to (State.forceUp_touch ..)
    | with_reducible apply Touch.to (State.detect_touch ..)
    | with_reducible apply Touch.to (State.raise_touch ..)
    | with_reducible apply Touch.to (State.bump_touch ..)
    | with_reducible apply Touch.to (State.closeItems_touch ..)
    | with_reducible apply Touch.to (State.modCu_touch ..)
    | with_reducible refine Touch.ite ?_ ?_
    | (refine up_8000 ?_ (by decide +kernel); simp only [F.cuPortLate_late_frames, R.cuPortLate]; omega)
    | (show _ < 32; decide)
    | split
    | dsimp only

theorem State.closePort_touch (s : State) (f : Nat) (n : Nat) : Touch 0x7FF3300300A0E30 s (State.closePort s f n) := by
  unfold State.closePort
  try dsimp only
  repeat' first
    | (show sub _ _ = true; decide +kernel)
    | with_reducible assumption
    | with_reducible exact Touch.refl _
    | with_reducible apply Touch.to (State.modCu_touch ..)
    | with_reducible apply Touch.to (State.reflexLost_touch ..)
    | with_reducible apply Touch.to (State.reflexesInto_touch ..)
    | with_reducible apply Touch.to (State.inject_touch ..)
    | with_reducible apply Touch.to (State.planLate_touch ..)
    | with_reducible apply Touch.to (State.closeItems_touch ..)
    | with_reducible refine Touch.ite ?_ ?_
    | with_reducible refine Touch.forEach ?_ (fun _ _ _ => ?_)
    | (show _ < 32; decide)
    | split
    | dsimp only

theorem State.lastUse_touch (s : State) (c : Nat) (t : Nat) : Touch 0x200000000000000 s (State.lastUse s c t) := by
  unfold State.lastUse
  try dsimp only
  repeat' first
    | (show sub _ _ = true; decide +kernel)
    | with_reducible exact Touch.refl _
    | with_reducible apply Touch.to (State.setReg_touch ..)
    | with_reducible apply Touch.setReg64
    | (refine up_40000 ?_ (by decide +kernel); simp only [R.pxLastFrame, R.pxLastTimeLo]; omega)
    | dsimp only

theorem State.mirrorHold_touch (s : State) (c : Nat) (v : OutVal) : Touch 0x30000000 s (State.mirrorHold s c v) := by
  unfold State.mirrorHold
  try dsimp only
  repeat' first
    | (show sub _ _ = true; decide +kernel)
    | with_reducible exact Touch.refl _
    | with_reducible apply Touch.to (State.mirrorItem_touch ..)
    | with_reducible refine Touch.ite ?_ ?_
    | split
    | dsimp only

theorem State.outNext_touch (s : State) (c : Nat) (f : Nat) : Touch 0x2021020 s (State.outNext s c f) := by
  unfold State.outNext
  try dsimp only
  repeat' first
    | (show sub _ _ = true; decide +kernel)
    | with_reducible exact Touch.refl _
    | with_reducible apply Touch.to (State.indexRead_touch ..)
    | with_reducible apply Touch.to (State.outSlotRead_touch ..)
    | with_reducible refine Touch.ite ?_ ?_
    | split
    | dsimp only

theorem State.outPurge_touch (s : State) (c : Nat) : Touch 0x600000000020030 s (State.outPurge s c) := by
  unfold State.outPurge
  try dsimp only
  repeat' first
    | (show sub _ _ = true; decide +kernel)
    | with_reducible exact Touch.refl _
    | with_reducible apply Touch.to (State.dropSlots_touch ..)
    | split
    | dsimp only

theorem State.outRingDone_touch (s : State) (c : Nat) (r : HostRes) : Touch 0x790300012021F70 s (State.outRingDone s c r) := by
  unfold State.outRingDone
  try dsimp only
  repeat' first
    | (show sub _ _ = true; decide +kernel)
    | with_reducible exact Touch.refl _
    | with_reducible apply Touch.to (State.outSlotDone_touch ..)
    | with_reducible apply Touch.to (State.outPurge_touch ..)
    | with_reducible apply Touch.to (State.outNext_touch ..)
    | with_reducible refine Touch.ite ?_ ?_
    | split
    | dsimp only

theorem State.outRingRead_touch (s : State) (c : Nat) (f : Nat) : Touch 0x600000002021030 s (State.outRingRead s c f) := by
  unfold State.outRingRead
  try dsimp only
  repeat' first
    | (show sub _ _ = true; decide +kernel)
    | with_reducible exact Touch.refl _
    | with_reducible apply Touch.to (State.outNext_touch ..)
    | with_reducible apply Touch.to (State.outPurge_touch ..)
    | with_reducible refine Touch.ite ?_ ?_
    | split
    | dsimp only

theorem State.reflexRead_touch (s : State) (c : Nat) (v : OutVal) : Touch 0x410300010000E30 s (State.reflexRead s c v).2 := by
  unfold State.reflexRead
  try dsimp only
  repeat' first
    | (show sub _ _ = true; decide +kernel)
    | with_reducible exact Touch.refl _
    | with_reducible apply Touch.to (State.setRamBytes_touch ..)
    | with_reducible apply Touch.to (State.ramRead_touch ..)
    | with_reducible refine Touch.ite ?_ ?_
    | split
    | dsimp only

theorem State.toHold_touch (s : State) (c : Nat) (v : OutVal) : Touch 0x400000000000010 s (State.toHold s c v) := by
  unfold State.toHold
  try dsimp only
  repeat' first
    | (show sub _ _ = true; decide +kernel)
    | with_reducible exact Touch.refl _
    | with_reducible apply Touch.to (State.setRamBytes_touch ..)
    | dsimp only

theorem State.sendOut_touch (s : State) (n : Nat) (d : Nat) (c : Nat) (v : OutVal) (reflex : Bool) : Touch 0x610300030002E30 s (State.sendOut s n d c v reflex) := by
  unfold State.sendOut
  try dsimp only
  repeat' first
    | (show sub _ _ = true; decide +kernel)
    | with_reducible exact Touch.refl _
    | with_reducible apply Touch.to (State.reflexRead_touch ..)
    | with_reducible apply Touch.to (State.sendAt_touch ..)
    | with_reducible apply Touch.to (State.toHold_touch ..)
    | with_reducible apply Touch.to (State.consume_touch ..)
    | with_reducible apply Touch.to (State.mirrorWaiting_touch ..)
    | with_reducible apply Touch.to (State.mirrorHold_touch ..)
    | with_reducible apply Touch.to (State.lastUse_touch ..)
    | with_reducible refine Touch.ite ?_ ?_
    | split
    | dsimp only

theorem State.sendToken_touch (s : State) (n : Nat) (d : Nat) (c : Nat) (use : XUse) : Touch 0x2020 s (State.sendToken s n d c use) := by
  unfold State.sendToken
  try dsimp only
  repeat' first
    | (show sub _ _ = true; decide +kernel)
    | with_reducible exact Touch.refl _
    | with_reducible apply Touch.to (State.sendAt_touch ..)
    | with_reducible refine Touch.ite ?_ ?_
    | split
    | dsimp only

theorem State.periodicIssue_touch (s : State) (n : Nat) : Touch 0x6143000320A3EB0 s (State.periodicIssue s n) := by
  unfold State.periodicIssue
  try dsimp only
  repeat' first
    | (show sub _ _ = true; decide +kernel)
    | with_reducible exact Touch.refl _
    | with_reducible apply Touch.to (State.advanceTo_touch ..)
    | with_reducible apply Touch.to (State.modCu_touch ..)
    | with_reducible apply Touch.to (State.slotMissed_touch ..)
    | with_reducible apply Touch.to (State.sendOut_touch ..)
    | with_reducible apply Touch.to (State.reflexLost_touch ..)
    | with_reducible apply Touch.to (State.slotBack_touch ..)
    | with_reducible apply Touch.to (State.sendToken_touch ..)
    | with_reducible refine Touch.ite ?_ ?_
    | split
    | dsimp only

theorem State.reachLost_touch (s : State) (n : Nat) (f : Nat) : Touch 0x3FF000000000000 s (State.reachLost s n f) := by
  unfold State.reachLost
  try dsimp only
  repeat' first
    | (show sub _ _ = true; decide +kernel)
    | with_reducible assumption
    | with_reducible exact Touch.refl _
    | with_reducible apply Touch.to (State.put_touch ..)
    | with_reducible apply Touch.to (State.bump_touch ..)
    | with_reducible apply Touch.to (State.raise_touch ..)
    | with_reducible refine Touch.ite ?_ ?_
    | with_reducible refine Touch.forEach ?_ (fun _ _ _ => ?_)
    | (refine up_8000 ?_ (by decide +kernel); simp only [F.cuPortReach_count, F.cuPortReach_last_addr, R.cuPortReach]; omega)
    | split
    | dsimp only

theorem State.planBuild_touch (s : State) (n : Nat) : Touch 0x3FF000000280000 s (State.planBuild s n) := by
  unfold State.planBuild
  try dsimp only
  repeat' first
    | (show sub _ _ = true; decide +kernel)
    | (show State.sizesOk _ = true → _; first | with_reducible exact id | (intro hz; simp only [State.sizesOk, listSet_length, List.length_map, List.length_replicate] at hz ⊢; first | exact hz | (rw [sizesOf_iff] at hz ⊢; and_intros <;> first | rfl | exact hz.1 | exact hz.2.1 | exact hz.2.2.1 | exact hz.2.2.2.1 | exact hz.2.2.2.2.1 | exact hz.2.2.2.2.2.1 | exact hz.2.2.2.2.2.2)))
    | (show _ ∧ _; and_intros <;> first | (apply Or.inl; decide +kernel) | (apply Or.inr; with_reducible rfl))
    | with_reducible exact Touch.refl _
    | with_reducible apply Touch.to (State.reachLost_touch ..)
    | with_reducible apply Touch.to (State.modCu_touch ..)
    | with_reducible refine Touch.ite ?_ ?_
    | split
    | dsimp only
    | with_reducible refine Touch.mk' ?_ rfl rfl ?_ ?_

theorem State.planCutoff_touch (s : State) : Touch 0x7FF3300303A0EB0 s (State.planCutoff s) := by
  unfold State.planCutoff
  try dsimp only
  repeat' first
    | (show sub _ _ = true; decide +kernel)
    | (show State.sizesOk _ = true → _; first | with_reducible exact id | (intro hz; simp only [State.sizesOk, listSet_length, List.length_map, List.length_replicate] at hz ⊢; first | exact hz | (rw [sizesOf_iff] at hz ⊢; and_intros <;> first | rfl | exact hz.1 | exact hz.2.1 | exact hz.2.2.1 | exact hz.2.2.2.1 | exact hz.2.2.2.2.1 | exact hz.2.2.2.2.2.1 | exact hz.2.2.2.2.2.2)))
    | (show _ ∧ _; and_intros <;> first | (apply Or.inl; decide +kernel) | (apply Or.inr; with_reducible rfl))
    | with_reducible assumption
    | with_reducible exact Touch.refl _
    | with_reducible apply Touch.to (State.advanceTo_touch ..)
    | with_reducible apply Touch.to (State.closePort_touch ..)
    | with_reducible apply Touch.to (State.put_touch ..)
    | with_reducible refine Touch.ite ?_ ?_
    | with_reducible refine Touch.forEach ?_ (fun _ _ _ => ?_)
    | split
    | dsimp only
    | with_reducible refine Touch.mk' ?_ rfl rfl ?_ ?_

theorem State.plansAgain_touch (s : State) (n : Nat) : Touch 0x80000 s (State.plansAgain s n) := by
  unfold State.plansAgain
  try dsimp only
  repeat' first
    | (show sub _ _ = true; decide +kernel)
    | with_reducible exact Touch.refl _
    | with_reducible apply Touch.to (State.modCu_touch ..)
    | dsimp only

theorem State.readmit_touch (s : State) (n : Nat) : Touch 0x3FF000000080000 s (State.readmit s n) := by
  unfold State.readmit
  try dsimp only
  repeat' first
    | (show sub _ _ = true; decide +kernel)
    | with_reducible assumption
    | with_reducible exact Touch.refl _
    | with_reducible apply Touch.to (State.setShed_touch ..)
    | with_reducible apply Touch.to (State.raise_touch ..)
    | with_reducible apply Touch.to (State.loadShow_touch ..)
    | with_reducible apply Touch.to (State.modCu_touch ..)
    | with_reducible refine Touch.ite ?_ ?_
    | with_reducible refine Touch.forEach ?_ (fun _ _ _ => ?_)
    | split
    | dsimp only

theorem State.readmitAll_touch (s : State) : Touch 0x3FF000000080000 s (State.readmitAll s) := by
  unfold State.readmitAll
  try dsimp only
  repeat' first
    | (show sub _ _ = true; decide +kernel)
    | with_reducible assumption
    | with_reducible exact Touch.refl _
    | with_reducible apply Touch.to (State.readmit_touch ..)
    | with_reducible refine Touch.forEach ?_ (fun _ _ _ => ?_)
    | dsimp only

theorem State.reflexPlace_touch (s : State) (r : ReflexOut) : Touch 0x400000030080010 s (State.reflexPlace s r) := by
  unfold State.reflexPlace
  try dsimp only
  repeat' first
    | (show sub _ _ = true; decide +kernel)
    | with_reducible exact Touch.refl _
    | with_reducible apply Touch.to (State.modCu_touch ..)
    | with_reducible apply Touch.to (State.setRamBytes_touch ..)
    | with_reducible apply Touch.to (State.mirrorWaiting_touch ..)
    | with_reducible apply Touch.to (State.mirrorPlacement_touch ..)
    | with_reducible refine Touch.ite ?_ ?_
    | split
    | dsimp only

theorem execOutRingReadDone_touch (c : Fin 2048) (r : HostRes) (s : State) : ∃ u, execOutRingReadDone c r s = .next u ∧ Touch 0x798350432021F70 s u := by
  unfold execOutRingReadDone
  refine act_touch s _ (by decide +kernel) ?_
  try dsimp only
  repeat' first
    | (show sub _ _ = true; decide +kernel)
    | with_reducible exact Touch.refl _
    | with_reducible apply Touch.to (State.outRingDone_touch ..)
    | dsimp only

theorem execPeriodicIssue_touch (n : Fin 8) (s : State) : ∃ u, execPeriodicIssue n s = .next u ∧ Touch 0x61C3504320A3FF0 s u := by
  unfold execPeriodicIssue
  refine act_touch s _ (by decide +kernel) ?_
  try dsimp only
  repeat' first
    | (show sub _ _ = true; decide +kernel)
    | with_reducible exact Touch.refl _
    | with_reducible apply Touch.to (State.periodicIssue_touch ..)
    | dsimp only

theorem execPlanBuildDone_touch (n : Fin 8) (s : State) : ∃ u, execPlanBuildDone n s = .next u ∧ Touch 0x3FF250430280B60 s u := by
  unfold execPlanBuildDone
  refine act_touch s _ (by decide +kernel) ?_
  try dsimp only
  repeat' first
    | (show sub _ _ = true; decide +kernel)
    | with_reducible exact Touch.refl _
    | with_reducible apply Touch.to (State.planBuild_touch ..)
    | dsimp only

theorem execPlanCutoff_touch (s : State) : ∃ u, execPlanCutoff s = .next u ∧ Touch 0x7FF3704303A0FF0 s u := by
  unfold execPlanCutoff
  refine act_touch s _ (by decide +kernel) ?_
  try dsimp only
  repeat' first
    | (show sub _ _ = true; decide +kernel)
    | with_reducible exact Touch.refl _
    | with_reducible apply Touch.to (State.planCutoff_touch ..)
    | dsimp only

end Sys2Proof.Machine
end

