-- ==== Sys2Proof/Laws/FrameCourier.lean ====
section
/-! SUPPORT. What each operation of Machine/Courier.lean touches: the parts of its set (Laws/Touch.lean), and nothing else. -/

set_option linter.unusedSimpArgs false
set_option linter.unusedVariables false
set_option Elab.async false

namespace Sys2Proof.Machine

theorem State.assemble_touch (s : State) (x : SpanPkt) : Touch 0x40000000 s (State.assemble s x).2 := by
  unfold State.assemble
  try dsimp only
  repeat' first
    | (show sub _ _ = true; decide +kernel)
    | (show State.sizesOk _ = true → _; first | with_reducible exact id | (intro hz; simp only [State.sizesOk, listSet_length, List.length_map, List.length_replicate] at hz ⊢; first | exact hz | (rw [sizesOf_iff] at hz ⊢; and_intros <;> first | rfl | exact hz.1 | exact hz.2.1 | exact hz.2.2.1 | exact hz.2.2.2.1 | exact hz.2.2.2.2.1 | exact hz.2.2.2.2.2.1 | exact hz.2.2.2.2.2.2)))
    | (show _ ∧ _; and_intros <;> first | (apply Or.inl; decide +kernel) | (apply Or.inr; with_reducible rfl))
    | with_reducible exact Touch.refl _
    | with_reducible refine Touch.ite ?_ ?_
    | split
    | dsimp only
    | with_reducible refine Touch.mk' ?_ rfl rfl ?_ ?_

theorem State.deny_touch (s : State) (q : Request) : Touch 0x4000000000000 s (State.deny s q).2 := by
  unfold State.deny
  try dsimp only
  repeat' first
    | (show sub _ _ = true; decide +kernel)
    | with_reducible exact Touch.refl _
    | with_reducible apply Touch.to (State.raise_touch ..)
    | with_reducible apply Touch.to (State.put_touch ..)
    | with_reducible apply Touch.to (State.bump_touch ..)
    | dsimp only

theorem State.dropTicket_touch (s : State) (k : Nat) : Touch 0x40000000 s (State.dropTicket s k) := by
  unfold State.dropTicket
  try dsimp only
  repeat' first
    | (show sub _ _ = true; decide +kernel)
    | (show State.sizesOk _ = true → _; first | with_reducible exact id | (intro hz; simp only [State.sizesOk, listSet_length, List.length_map, List.length_replicate] at hz ⊢; first | exact hz | (rw [sizesOf_iff] at hz ⊢; and_intros <;> first | rfl | exact hz.1 | exact hz.2.1 | exact hz.2.2.1 | exact hz.2.2.2.1 | exact hz.2.2.2.2.1 | exact hz.2.2.2.2.2.1 | exact hz.2.2.2.2.2.2)))
    | (show _ ∧ _; and_intros <;> first | (apply Or.inl; decide +kernel) | (apply Or.inr; with_reducible rfl))
    | with_reducible exact Touch.refl _
    | dsimp only
    | with_reducible refine Touch.mk' ?_ rfl rfl ?_ ?_

theorem State.setRoute_touch (s : State) (i : Nat) (ws : List Nat) : Touch 0x40000000 s (State.setRoute s i ws) := by
  unfold State.setRoute
  try dsimp only
  repeat' first
    | (show sub _ _ = true; decide +kernel)
    | (show State.sizesOk _ = true → _; first | with_reducible exact id | (intro hz; simp only [State.sizesOk, listSet_length, List.length_map, List.length_replicate] at hz ⊢; first | exact hz | (rw [sizesOf_iff] at hz ⊢; and_intros <;> first | rfl | exact hz.1 | exact hz.2.1 | exact hz.2.2.1 | exact hz.2.2.2.1 | exact hz.2.2.2.2.1 | exact hz.2.2.2.2.2.1 | exact hz.2.2.2.2.2.2)))
    | (show _ ∧ _; and_intros <;> first | (apply Or.inl; decide +kernel) | (apply Or.inr; with_reducible rfl))
    | with_reducible exact Touch.refl _
    | dsimp only
    | with_reducible refine Touch.mk' ?_ rfl rfl ?_ ?_

theorem State.routeClear_touch (s : State) (i : Nat) : Touch 0x40000000 s (State.routeClear s i) := by
  unfold State.routeClear
  try dsimp only
  repeat' first
    | (show sub _ _ = true; decide +kernel)
    | with_reducible exact Touch.refl _
    | with_reducible apply Touch.to (State.setRoute_touch ..)
    | dsimp only

theorem State.tableRead_touch (s : State) : Touch 0x410300050000E60 s (State.tableRead s) := by
  unfold State.tableRead
  try dsimp only
  repeat' first
    | (show sub _ _ = true; decide +kernel)
    | with_reducible exact Touch.refl _
    | with_reducible apply Touch.to (State.itemRead_touch ..)
    | with_reducible apply Touch.to (State.draw_touch ..)
    | with_reducible apply Touch.to (State.routeClear_touch ..)
    | with_reducible refine Touch.ite ?_ ?_
    | split
    | dsimp only

theorem State.reflexLocal_touch (s : State) (chip : Nat) (n : Nat) (a : Nat) (p : Nat) (ts : Nat) (pl : List Byte) : Touch 0x404000030080010 s (State.reflexLocal s chip n a p ts pl) := by
  unfold State.reflexLocal
  try dsimp only
  repeat' first
    | (show sub _ _ = true; decide +kernel)
    | with_reducible exact Touch.refl _
    | with_reducible apply Touch.to (State.reflexDrop_touch ..)
    | with_reducible apply Touch.to (State.bump_touch ..)
    | with_reducible apply Touch.to (State.reflexPlace_touch ..)
    | with_reducible refine Touch.ite ?_ ?_
    | split
    | dsimp only

theorem State.reflexSend_touch (s : State) (chip : Nat) (n : Nat) (a : Nat) (p : Nat) (k : EvKey) (pl : List Byte) : Touch 0x414000030080010 s (State.reflexSend s chip n a p k pl) := by
  unfold State.reflexSend
  try dsimp only
  repeat' first
    | (show sub _ _ = true; decide +kernel)
    | with_reducible exact Touch.refl _
    | with_reducible apply Touch.to (State.toPartner_touch ..)
    | with_reducible apply Touch.to (State.reflexLocal_touch ..)
    | with_reducible apply Touch.to (State.reflexDrop_touch ..)
    | with_reducible apply Touch.to (State.spanSend_touch ..)
    | with_reducible refine Touch.ite ?_ ?_
    | split
    | dsimp only

theorem State.takeRoute_touch (s : State) (chip : Nat) : Touch 0x10200010000A20 s (State.takeRoute s chip) := by
  unfold State.takeRoute
  try dsimp only
  repeat' first
    | (show sub _ _ = true; decide +kernel)
    | with_reducible exact Touch.refl _
    | with_reducible apply Touch.to (State.bump_touch ..)
    | with_reducible apply Touch.to (State.spanSend_touch ..)
    | with_reducible apply Touch.to (State.takeLocal_touch ..)
    | with_reducible refine Touch.ite ?_ ?_
    | split
    | dsimp only

theorem State.lookup_touch (s0 : State) (k : EvKey) (own : Bool) : Touch 0x414300070080E70 s0 (State.lookup s0 k own).2 := by
  unfold State.lookup
  try dsimp only
  repeat' first
    | (show sub _ _ = true; decide +kernel)
    | with_reducible assumption
    | with_reducible exact Touch.refl _
    | with_reducible apply Touch.to (State.tableRead_touch ..)
    | with_reducible apply Touch.to (State.raise_touch ..)
    | with_reducible apply Touch.to (State.add_touch ..)
    | with_reducible apply Touch.to (State.reflexSend_touch ..)
    | with_reducible apply Touch.to (State.takeRoute_touch ..)
    | with_reducible refine Touch.ite ?_ ?_
    | with_reducible refine Touch.foldl ?_ (fun _ _ _ => ?_)
    | with_reducible refine Touch.foldl_fst ?_ (fun _ _ _ => ?_)
    | with_reducible refine Touch.foldl_snd ?_ (fun _ _ _ => ?_)
    | split
    | dsimp only

theorem State.forwardIn_touch (s : State) (g : Nat) (k : EvKey) (msg : List Byte) : Touch 0x380000002401120 s (State.forwardIn s g k msg) := by
  unfold State.forwardIn
  try dsimp only
  repeat' first
    | (show sub _ _ = true; decide +kernel)
    | with_reducible exact Touch.refl _
    | with_reducible apply Touch.to (State.evOffer_touch ..)
    | dsimp only

theorem State.forwardGo_touch (s : State) (chip : Nat) (g : Nat) (k : EvKey) (msg : List Byte) : Touch 0x394000012401120 s (State.forwardGo s chip g k msg) := by
  unfold State.forwardGo
  try dsimp only
  repeat' first
    | (show sub _ _ = true; decide +kernel)
    | with_reducible exact Touch.refl _
    | with_reducible apply Touch.to (State.forwardIn_touch ..)
    | with_reducible apply Touch.to (State.spanSend_touch ..)
    | with_reducible apply Touch.to (State.bump_touch ..)
    | with_reducible refine Touch.ite ?_ ?_
    | split
    | dsimp only

theorem State.forwardsGo_touch (s : State) (e : Event) : Touch 0x394000012401120 s (State.forwardsGo s e) := by
  unfold State.forwardsGo
  try dsimp only
  repeat' first
    | (show sub _ _ = true; decide +kernel)
    | with_reducible assumption
    | with_reducible exact Touch.refl _
    | with_reducible apply Touch.to (State.forwardGo_touch ..)
    | with_reducible refine Touch.forEach ?_ (fun _ _ _ => ?_)
    | dsimp only

theorem State.eventIn_touch (s : State) (c : Nat) (e : Event) : Touch 0x794300072481F70 s (State.eventIn s c e) := by
  unfold State.eventIn
  try dsimp only
  repeat' first
    | (show sub _ _ = true; decide +kernel)
    | (show State.sizesOk _ = true → _; first | with_reducible exact id | (intro hz; simp only [State.sizesOk, listSet_length, List.length_map, List.length_replicate] at hz ⊢; first | exact hz | (rw [sizesOf_iff] at hz ⊢; and_intros <;> first | rfl | exact hz.1 | exact hz.2.1 | exact hz.2.2.1 | exact hz.2.2.2.1 | exact hz.2.2.2.2.1 | exact hz.2.2.2.2.2.1 | exact hz.2.2.2.2.2.2)))
    | (show _ ∧ _; and_intros <;> first | (apply Or.inl; decide +kernel) | (apply Or.inr; with_reducible rfl))
    | with_reducible exact Touch.refl _
    | with_reducible apply Touch.to (State.lookup_touch ..)
    | with_reducible apply Touch.to (State.evDrop_touch ..)
    | with_reducible apply Touch.to (State.modEv_touch ..)
    | with_reducible apply Touch.to (State.dmaRead_touch ..)
    | with_reducible apply Touch.to (State.forwardsGo_touch ..)
    | with_reducible apply Touch.to (State.evPump_touch ..)
    | with_reducible refine Touch.ite ?_ ?_
    | split
    | dsimp only
    | with_reducible refine Touch.mk' ?_ rfl rfl ?_ ?_

theorem State.flushEnd_touch (s : State) (g : Nat) (v : Event) : Touch 0x394000012401120 s (State.flushEnd s g v) := by
  unfold State.flushEnd
  try dsimp only
  repeat' first
    | (show sub _ _ = true; decide +kernel)
    | with_reducible exact Touch.refl _
    | with_reducible apply Touch.to (State.modEv_touch ..)
    | with_reducible apply Touch.to (State.forwardsGo_touch ..)
    | with_reducible apply Touch.to (State.evShed_touch ..)
    | with_reducible apply Touch.to (State.evPump_touch ..)
    | with_reducible refine Touch.ite ?_ ?_
    | split
    | dsimp only

theorem State.flushNext_touch (n : Nat) (s : State) (c : Nat) : Touch 0x394000012401120 s (State.flushNext n s c) := by
  induction n generalizing s with
  | zero => exact Touch.refl _
  | succ n ih =>
    unfold State.flushNext
    repeat' first
      | (show sub _ _ = true; decide +kernel)
      | with_reducible exact Touch.refl _
      | with_reducible apply Touch.to (State.flushEnd_touch ..)
      | with_reducible apply Touch.to (ih ..)
      | split
      | dsimp only

theorem State.flushDone_touch (s : State) (c : Nat) (r : HostRes) : Touch 0x394300012401F60 s (State.flushDone s c r) := by
  unfold State.flushDone
  try dsimp only
  repeat' first
    | (show sub _ _ = true; decide +kernel)
    | with_reducible exact Touch.refl _
    | with_reducible apply Touch.to (State.lateIndex_touch ..)
    | with_reducible apply Touch.to (State.hostData_touch ..)
    | with_reducible apply Touch.to (State.hostErr_touch ..)
    | with_reducible apply Touch.to (State.flushNext_touch ..)
    | with_reducible apply Touch.to (State.flushEnd_touch ..)
    | with_reducible refine Touch.ite ?_ ?_
    | split
    | dsimp only

theorem State.spanTake_touch (s : State) (m : Nat) (p : SpanPkt → Bool) (x : SpanPkt) (t : State) (h : s.spanTake m p = some (x, t)) :
    Touch 0x10000000 s t := by
  unfold State.spanTake at h
  split at h
  · cases h
  · cases h; exact State.setSpanPort_touch ..

theorem State.forwardMessage_touch (s : State) (m : Nat) : Touch 0x794300072481F70 s (State.forwardMessage s m) := by
  unfold State.forwardMessage
  try dsimp only
  repeat' first
    | (show sub _ _ = true; decide +kernel)
    | with_reducible exact Touch.refl _
    | (apply Touch.weaken; apply State.spanTake_touch; assumption)
    | with_reducible apply Touch.to (State.lookup_touch ..)
    | with_reducible apply Touch.to (State.forwardIn_touch ..)
    | split
    | dsimp only

theorem State.modRem_touch (s : State) (tag : Nat) (f : Rem → Rem) : Touch 0x40000000 s (State.modRem s tag f) := by
  unfold State.modRem
  try dsimp only
  repeat' first
    | (show sub _ _ = true; decide +kernel)
    | (show State.sizesOk _ = true → _; first | with_reducible exact id | (intro hz; simp only [State.sizesOk, listSet_length, List.length_map, List.length_replicate] at hz ⊢; first | exact hz | (rw [sizesOf_iff] at hz ⊢; and_intros <;> first | rfl | exact hz.1 | exact hz.2.1 | exact hz.2.2.1 | exact hz.2.2.2.1 | exact hz.2.2.2.2.1 | exact hz.2.2.2.2.2.1 | exact hz.2.2.2.2.2.2)))
    | (show _ ∧ _; and_intros <;> first | (apply Or.inl; decide +kernel) | (apply Or.inr; with_reducible rfl))
    | with_reducible exact Touch.refl _
    | with_reducible refine Touch.ite ?_ ?_
    | split
    | dsimp only
    | with_reducible refine Touch.mk' ?_ rfl rfl ?_ ?_

theorem State.reflexMessage_touch (s : State) (m : Nat) : Touch 0x404000030080010 s (State.reflexMessage s m) := by
  unfold State.reflexMessage
  try dsimp only
  repeat' first
    | (show sub _ _ = true; decide +kernel)
    | with_reducible exact Touch.refl _
    | (apply Touch.weaken; apply State.spanTake_touch; assumption)
    | with_reducible apply Touch.to (State.reflexDrop_touch ..)
    | with_reducible apply Touch.to (State.toPartner_touch ..)
    | with_reducible apply Touch.to (State.reflexLocal_touch ..)
    | with_reducible refine Touch.ite ?_ ?_
    | split
    | dsimp only

theorem State.remoteData_touch (s : State) (w : Work) : Touch 0x790300056C01F30 s (State.remoteData s w).2.2 := by
  unfold State.remoteData
  try dsimp only
  repeat' first
    | (show sub _ _ = true; decide +kernel)
    | with_reducible exact Touch.refl _
    | with_reducible apply Touch.to (State.takeStaged_touch ..)
    | with_reducible refine Touch.ite ?_ ?_
    | split
    | dsimp only

theorem State.remoteErr_touch (s : State) (w : Work) (detail : Nat) : Touch 0x3FC000052C01120 s (State.remoteErr s w detail) := by
  unfold State.remoteErr
  try dsimp only
  repeat' first
    | (show sub _ _ = true; decide +kernel)
    | with_reducible exact Touch.refl _
    | with_reducible apply Touch.to (State.bump_touch ..)
    | with_reducible apply Touch.to (State.complete_touch ..)
    | with_reducible apply Touch.to (State.raise_touch ..)
    | with_reducible refine Touch.ite ?_ ?_
    | split
    | dsimp only

theorem State.remoteSeat_touch (s : State) (g : Nat) (r : Nat) (i : Nat) : Touch 0x400000000800050 s (State.remoteSeat s g r i) := by
  unfold State.remoteSeat
  try dsimp only
  repeat' first
    | (show sub _ _ = true; decide +kernel)
    | with_reducible exact Touch.refl _
    | with_reducible apply Touch.to (State.seatDraw_touch ..)
    | with_reducible apply Touch.to (State.putStaged_touch ..)
    | split
    | dsimp only

theorem State.remoteTake_touch (s : State) (q : Request) (lg : Nat) : Touch 0x404000041800050 s (State.remoteTake s q lg).2 := by
  unfold State.remoteTake
  try dsimp only
  repeat' first
    | (show sub _ _ = true; decide +kernel)
    | (show State.sizesOk _ = true → _; first | with_reducible exact id | (intro hz; simp only [State.sizesOk, listSet_length, List.length_map, List.length_replicate] at hz ⊢; first | exact hz | (rw [sizesOf_iff] at hz ⊢; and_intros <;> first | rfl | exact hz.1 | exact hz.2.1 | exact hz.2.2.1 | exact hz.2.2.2.1 | exact hz.2.2.2.2.1 | exact hz.2.2.2.2.2.1 | exact hz.2.2.2.2.2.2)))
    | (show _ ∧ _; and_intros <;> first | (apply Or.inl; decide +kernel) | (apply Or.inr; with_reducible rfl))
    | with_reducible exact Touch.refl _
    | with_reducible apply Touch.to (State.deny_touch ..)
    | with_reducible apply Touch.to (State.remoteSeat_touch ..)
    | with_reducible refine Touch.ite ?_ ?_
    | split
    | dsimp only
    | with_reducible refine Touch.mk' ?_ rfl rfl ?_ ?_

theorem State.remoteServe_touch (s : State) (q : Request) : Touch 0x404000041800050 s (State.remoteServe s q).2 := by
  unfold State.remoteServe
  try dsimp only
  repeat' first
    | (show sub _ _ = true; decide +kernel)
    | with_reducible exact Touch.refl _
    | with_reducible apply Touch.to (State.deny_touch ..)
    | with_reducible apply Touch.to (State.remoteTake_touch ..)
    | with_reducible apply Touch.to (State.dropTicket_touch ..)
    | with_reducible refine Touch.ite ?_ ?_
    | split
    | dsimp only

theorem State.remoteExhausted_touch (s : State) (w : Work) (inj : Bool) : Touch 0x3FC300052C01F20 s (State.remoteExhausted s w inj) := by
  unfold State.remoteExhausted
  try dsimp only
  repeat' first
    | (show sub _ _ = true; decide +kernel)
    | with_reducible exact Touch.refl _
    | with_reducible apply Touch.to (State.remoteErr_touch ..)
    | with_reducible apply Touch.to (State.detect_touch ..)
    | (show _ < 32; decide)
    | dsimp only

theorem State.remoteAnswered_touch (s : State) (x : Rem) (w : Work) (a : Answer) : Touch 0x7FE30005EC01F70 s (State.remoteAnswered s x w a) := by
  unfold State.remoteAnswered
  try dsimp only
  repeat' first
    | (show sub _ _ = true; decide +kernel)
    | with_reducible exact Touch.refl _
    | with_reducible apply Touch.to (State.setResume_touch ..)
    | with_reducible apply Touch.to (State.completeAt_touch ..)
    | with_reducible apply Touch.to (State.modWork_touch ..)
    | with_reducible apply Touch.to (State.stageBegin_touch ..)
    | with_reducible apply Touch.to (State.putStaged_touch ..)
    | with_reducible apply Touch.to (State.complete_touch ..)
    | with_reducible apply Touch.to (State.remoteExhausted_touch ..)
    | with_reducible apply Touch.to (State.modRem_touch ..)
    | with_reducible apply Touch.to (State.remoteErr_touch ..)
    | with_reducible apply Touch.to (State.completeViolation_touch ..)
    | with_reducible refine Touch.ite ?_ ?_
    | split
    | dsimp only

theorem State.sendRequest_touch (s : State) (dst : Nat) (q : Request) : Touch 0x10000010000000 s (State.sendRequest s dst q) := by
  unfold State.sendRequest
  try dsimp only
  repeat' first
    | (show sub _ _ = true; decide +kernel)
    | with_reducible assumption
    | with_reducible exact Touch.refl _
    | with_reducible apply Touch.to (State.spanSend_touch ..)
    | with_reducible refine Touch.forEach ?_ (fun _ _ _ => ?_)
    | dsimp only

theorem State.remoteGo_touch (s0 : State) (x : Rem) (w : Work) : Touch 0x7FE30005FC01F70 s0 (State.remoteGo s0 x w) := by
  unfold State.remoteGo
  try dsimp only
  repeat' first
    | (show sub _ _ = true; decide +kernel)
    | with_reducible exact Touch.refl _
    | with_reducible apply Touch.to (State.remoteData_touch ..)
    | with_reducible apply Touch.to (State.remoteErr_touch ..)
    | with_reducible apply Touch.to (State.remoteServe_touch ..)
    | with_reducible apply Touch.to (State.remoteAnswered_touch ..)
    | with_reducible apply Touch.to (State.sendRequest_touch ..)
    | with_reducible refine Touch.ite ?_ ?_
    | split
    | dsimp only

theorem State.remoteAgain_touch (s : State) (tag : Nat) : Touch 0x7FE30005FC01F70 s (State.remoteAgain s tag) := by
  unfold State.remoteAgain
  try dsimp only
  repeat' first
    | (show sub _ _ = true; decide +kernel)
    | with_reducible exact Touch.refl _
    | with_reducible apply Touch.to (State.remoteGo_touch ..)
    | with_reducible apply Touch.to (State.modRem_touch ..)
    | with_reducible refine Touch.ite ?_ ?_
    | split
    | dsimp only

theorem State.remoteLate_touch (s : State) (tag : Nat) : Touch 0x3FC000052C01120 s (State.remoteLate s tag) := by
  unfold State.remoteLate
  try dsimp only
  repeat' first
    | (show sub _ _ = true; decide +kernel)
    | with_reducible exact Touch.refl _
    | with_reducible apply Touch.to (State.remoteErr_touch ..)
    | with_reducible refine Touch.ite ?_ ?_
    | split
    | dsimp only

theorem State.sendAnswer_touch (s : State) (dst : Nat) (tag : Nat) (a : Answer) : Touch 0x10000010000000 s (State.sendAnswer s dst tag a) := by
  unfold State.sendAnswer
  try dsimp only
  repeat' first
    | (show sub _ _ = true; decide +kernel)
    | with_reducible assumption
    | with_reducible exact Touch.refl _
    | with_reducible apply Touch.to (State.spanSend_touch ..)
    | with_reducible refine Touch.forEach ?_ (fun _ _ _ => ?_)
    | dsimp only

theorem State.remoteRequest_touch (s : State) (m : Nat) : Touch 0x414000051800050 s (State.remoteRequest s m) := by
  unfold State.remoteRequest
  try dsimp only
  repeat' first
    | (show sub _ _ = true; decide +kernel)
    | with_reducible exact Touch.refl _
    | (apply Touch.weaken; apply State.spanTake_touch; assumption)
    | with_reducible apply Touch.to (State.assemble_touch ..)
    | with_reducible apply Touch.to (State.remoteServe_touch ..)
    | with_reducible apply Touch.to (State.sendAnswer_touch ..)
    | split
    | dsimp only

theorem State.remoteResponse_touch (s : State) (m : Nat) : Touch 0x7FE30005EC01F70 s (State.remoteResponse s m) := by
  unfold State.remoteResponse
  try dsimp only
  repeat' first
    | (show sub _ _ = true; decide +kernel)
    | with_reducible exact Touch.refl _
    | (apply Touch.weaken; apply State.spanTake_touch; assumption)
    | with_reducible apply Touch.to (State.assemble_touch ..)
    | with_reducible apply Touch.to (State.remoteAnswered_touch ..)
    | with_reducible refine Touch.ite ?_ ?_
    | split
    | dsimp only

theorem State.remoteSend_touch (s : State) (g : Nat) (r : Nat) (i : Nat) : Touch 0x7FE30005FC01F70 s (State.remoteSend s g r i) := by
  unfold State.remoteSend
  try dsimp only
  repeat' first
    | (show sub _ _ = true; decide +kernel)
    | (show State.sizesOk _ = true → _; first | with_reducible exact id | (intro hz; simp only [State.sizesOk, listSet_length, List.length_map, List.length_replicate] at hz ⊢; first | exact hz | (rw [sizesOf_iff] at hz ⊢; and_intros <;> first | rfl | exact hz.1 | exact hz.2.1 | exact hz.2.2.1 | exact hz.2.2.2.1 | exact hz.2.2.2.2.1 | exact hz.2.2.2.2.2.1 | exact hz.2.2.2.2.2.2)))
    | (show _ ∧ _; and_intros <;> first | (apply Or.inl; decide +kernel) | (apply Or.inr; with_reducible rfl))
    | with_reducible exact Touch.refl _
    | with_reducible apply Touch.to (State.remoteErr_touch ..)
    | with_reducible apply Touch.to (State.modWork_touch ..)
    | with_reducible apply Touch.to (State.inject_touch ..)
    | with_reducible apply Touch.to (State.remoteExhausted_touch ..)
    | with_reducible apply Touch.to (State.remoteGo_touch ..)
    | with_reducible refine Touch.ite ?_ ?_
    | (show _ < 32; decide)
    | split
    | dsimp only
    | with_reducible refine Touch.mk' ?_ rfl rfl ?_ ?_

theorem State.routeRead_touch (s : State) : Touch 0x3FC000000000000 s (State.routeRead s) := by
  unfold State.routeRead
  try dsimp only
  repeat' first
    | (show sub _ _ = true; decide +kernel)
    | with_reducible exact Touch.refl _
    | with_reducible apply Touch.setRegs
    | (first | (refine up_a000 ?_ (by decide +kernel); simp only [R.coRouteData]; omega) | (intro j hj; refine up_a000 ?_ (by decide +kernel); refine Nat.le_trans ?_ hj; simp only [R.coRouteData]; omega))
    | dsimp only

theorem State.routeWrite_touch (s : State) : Touch 0x4000040000000 s (State.routeWrite s) := by
  unfold State.routeWrite
  try dsimp only
  repeat' first
    | (show sub _ _ = true; decide +kernel)
    | with_reducible exact Touch.refl _
    | with_reducible apply Touch.to (State.put_touch ..)
    | with_reducible apply Touch.to (State.setRoute_touch ..)
    | with_reducible refine Touch.ite ?_ ?_
    | split
    | dsimp only

theorem State.ticketDiscard_touch (s : State) (k : Nat) : Touch 0x4000040000000 s (State.ticketDiscard s k) := by
  unfold State.ticketDiscard
  try dsimp only
  repeat' first
    | (show sub _ _ = true; decide +kernel)
    | with_reducible exact Touch.refl _
    | with_reducible apply Touch.to (State.raise_touch ..)
    | with_reducible apply Touch.to (State.bump_touch ..)
    | with_reducible apply Touch.to (State.dropTicket_touch ..)
    | with_reducible refine Touch.ite ?_ ?_
    | split
    | dsimp only

theorem State.writeCo_touch (s : State) (off : Nat) (w : Word) (plain : Word) : Touch 0x3FFFFFC40000000 s (State.writeCo s off w plain) := by
  unfold State.writeCo
  try dsimp only
  repeat' first
    | (show sub _ _ = true; decide +kernel)
    | with_reducible exact Touch.refl _
    | with_reducible apply Touch.to (State.routeWrite_touch ..)
    | with_reducible apply Touch.to (State.routeClear_touch ..)
    | with_reducible apply Touch.to (State.routeRead_touch ..)
    | with_reducible apply Touch.to (State.put_touch ..)
    | with_reducible apply Touch.to (State.setReg_touch ..)
    | with_reducible apply Touch.setRegs
    | with_reducible refine Touch.ite ?_ ?_
    | (first | (refine up_a000 ?_ (by decide +kernel); simp only [R.coPwerrLog0]; omega) | (intro j hj; refine up_a000 ?_ (by decide +kernel); refine Nat.le_trans ?_ hj; simp only [R.coPwerrLog0]; omega))
    | (exact up_0 (Nat.zero_le _) (by decide +kernel))
    | split
    | dsimp only

theorem State.writeErrorMessage_touch (s : State) (m : Nat) : Touch 0x3FC000010000100 s (State.writeErrorMessage s m) := by
  unfold State.writeErrorMessage
  try dsimp only
  repeat' first
    | (show sub _ _ = true; decide +kernel)
    | with_reducible exact Touch.refl _
    | (apply Touch.weaken; apply State.spanTake_touch; assumption)
    | with_reducible apply Touch.to (State.postedError_touch ..)
    | split
    | dsimp only

theorem execFlushReadDone_touch (c : Fin 2048) (r : HostRes) (s : State) : ∃ u, execFlushReadDone c r s = .next u ∧ Touch 0x39C350432401F60 s u := by
  unfold execFlushReadDone
  refine act_touch s _ (by decide +kernel) ?_
  try dsimp only
  repeat' first
    | (show sub _ _ = true; decide +kernel)
    | with_reducible exact Touch.refl _
    | with_reducible apply Touch.to (State.flushDone_touch ..)
    | dsimp only

theorem execForwardMessage_touch (m : Fin 4) (s : State) : ∃ u, execForwardMessage m s = .next u ∧ Touch 0x79C350472481F70 s u := by
  unfold execForwardMessage
  refine act_touch s _ (by decide +kernel) ?_
  try dsimp only
  repeat' first
    | (show sub _ _ = true; decide +kernel)
    | with_reducible exact Touch.refl _
    | with_reducible apply Touch.to (State.forwardMessage_touch ..)
    | dsimp only

theorem execReflexMessage_touch (m : Fin 4) (s : State) : ∃ u, execReflexMessage m s = .next u ∧ Touch 0x40C250430080B70 s u := by
  unfold execReflexMessage
  refine act_touch s _ (by decide +kernel) ?_
  try dsimp only
  repeat' first
    | (show sub _ _ = true; decide +kernel)
    | with_reducible exact Touch.refl _
    | with_reducible apply Touch.to (State.reflexMessage_touch ..)
    | dsimp only

theorem execRemoteRequest_touch (m : Fin 4) (s : State) : ∃ u, execRemoteRequest m s = .next u ∧ Touch 0x41C250471800B70 s u := by
  unfold execRemoteRequest
  refine act_touch s _ (by decide +kernel) ?_
  try dsimp only
  repeat' first
    | (show sub _ _ = true; decide +kernel)
    | with_reducible exact Touch.refl _
    | with_reducible apply Touch.to (State.remoteRequest_touch ..)
    | dsimp only

theorem execRemoteResponse_touch (m : Fin 4) (s : State) : ∃ u, execRemoteResponse m s = .next u ∧ Touch 0x7FE35047EC01F70 s u := by
  unfold execRemoteResponse
  refine act_touch s _ (by decide +kernel) ?_
  try dsimp only
  repeat' first
    | (show sub _ _ = true; decide +kernel)
    | with_reducible exact Touch.refl _
    | with_reducible apply Touch.to (State.remoteResponse_touch ..)
    | dsimp only

theorem execRemoteSend_touch (g : Fin 16) (r : Fin 8) (i : BitVec 16) (s : State) : ∃ u, execRemoteSend g r i s = .next u ∧ Touch 0x7FE35047FC01F70 s u := by
  unfold execRemoteSend
  refine act_touch s _ (by decide +kernel) ?_
  try dsimp only
  repeat' first
    | (show sub _ _ = true; decide +kernel)
    | with_reducible exact Touch.refl _
    | with_reducible apply Touch.to (State.remoteSend_touch ..)
    | dsimp only

theorem execRemoteTimeout_touch (tag : Fin 1024) (s : State) : ∃ u, execRemoteTimeout tag s = .next u ∧ Touch 0x3FC250472C01B60 s u := by
  unfold execRemoteTimeout
  refine act_touch s _ (by decide +kernel) ?_
  try dsimp only
  repeat' first
    | (show sub _ _ = true; decide +kernel)
    | with_reducible exact Touch.refl _
    | with_reducible apply Touch.to (State.remoteLate_touch ..)
    | dsimp only

theorem execRetryBackoffExpire_touch (tag : Fin 1024) (s : State) : ∃ u, execRetryBackoffExpire tag s = .next u ∧ Touch 0x7FE35047FC01F70 s u := by
  unfold execRetryBackoffExpire
  refine act_touch s _ (by decide +kernel) ?_
  try dsimp only
  repeat' first
    | (show sub _ _ = true; decide +kernel)
    | with_reducible exact Touch.refl _
    | with_reducible apply Touch.to (State.remoteAgain_touch ..)
    | dsimp only

theorem execTicketDiscard_touch (k : Fin 256) (s : State) : ∃ u, execTicketDiscard k s = .next u ∧ Touch 0xC250470000B60 s u := by
  unfold execTicketDiscard
  refine act_touch s _ (by decide +kernel) ?_
  try dsimp only
  repeat' first
    | (show sub _ _ = true; decide +kernel)
    | with_reducible exact Touch.refl _
    | with_reducible apply Touch.to (State.ticketDiscard_touch ..)
    | dsimp only

theorem execWriteErrorMessage_touch (m : Fin 4) (s : State) : ∃ u, execWriteErrorMessage m s = .next u ∧ Touch 0x3FC250430000B60 s u := by
  unfold execWriteErrorMessage
  refine act_touch s _ (by decide +kernel) ?_
  try dsimp only
  repeat' first
    | (show sub _ _ = true; decide +kernel)
    | with_reducible exact Touch.refl _
    | with_reducible apply Touch.to (State.writeErrorMessage_touch ..)
    | dsimp only

end Sys2Proof.Machine
end

