-- ==== Sys2Proof/Laws/FramePortEngine.lean ====
section
/-! SUPPORT. What each operation of Machine/PortEngine.lean touches: the parts of its set (Laws/Touch.lean), and nothing else. -/

set_option linter.unusedSimpArgs false
set_option linter.unusedVariables false
set_option Elab.async false

namespace Sys2Proof.Machine

theorem State.agePromote_touch (s : State) (n : Nat) (g : Nat) (r : Nat) (i : Nat) : Touch 0x3FF000001800000 s (State.agePromote s n g r i) := by
  unfold State.agePromote
  try dsimp only
  repeat' first
    | (show sub _ _ = true; decide +kernel)
    | (show State.sizesOk _ = true → _; first | with_reducible exact id | (intro hz; simp only [State.sizesOk, listSet_length, List.length_map, List.length_replicate] at hz ⊢; first | exact hz | (rw [sizesOf_iff] at hz ⊢; and_intros <;> first | rfl | exact hz.1 | exact hz.2.1 | exact hz.2.2.1 | exact hz.2.2.2.1 | exact hz.2.2.2.2.1 | exact hz.2.2.2.2.2.1 | exact hz.2.2.2.2.2.2)))
    | (show _ ∧ _; and_intros <;> first | (apply Or.inl; decide +kernel) | (apply Or.inr; with_reducible rfl))
    | with_reducible exact Touch.refl _
    | with_reducible apply Touch.to (State.modWork_touch ..)
    | with_reducible apply Touch.to (State.bump_touch ..)
    | with_reducible refine Touch.ite ?_ ?_
    | (refine up_8000 ?_ (by decide +kernel); simp only [F.cuPortBulk_promotions, R.cuPortBulk]; omega)
    | split
    | dsimp only
    | with_reducible refine Touch.mk' ?_ rfl rfl ?_ ?_

theorem State.babbleSeen_touch (s : State) (n : Nat) (a : Nat) : Touch 0x3FD300056C1FF20 s (State.babbleSeen s n a) := by
  unfold State.babbleSeen
  try dsimp only
  repeat' first
    | (show sub _ _ = true; decide +kernel)
    | with_reducible exact Touch.refl _
    | with_reducible apply Touch.to (State.babble_touch ..)
    | with_reducible refine Touch.ite ?_ ?_
    | split
    | dsimp only

theorem tryEach_touch {m : Nat} {α : Type} {b : State} {f : State → α → Bool × State} {xs : List α} {s : State} (h : Touch m b s)
    (hf : ∀ a x, Touch m b a → Touch m b (f a x).2) : Touch m b (tryEach f xs s).2 := by
  induction xs generalizing s with
  | nil => exact h
  | cons x xs ih =>
    unfold tryEach
    dsimp only
    split
    · exact hf s x h
    · exact ih (hf s x h)

theorem State.poolTag_touch (s : State) (n : Nat) : Touch 0x2000 s (State.poolTag s n) := by
  unfold State.poolTag
  try dsimp only
  repeat' first
    | (show sub _ _ = true; decide +kernel)
    | with_reducible exact Touch.refl _
    | with_reducible apply Touch.to (State.modPort_touch ..)
    | with_reducible refine Touch.ite ?_ ?_
    | split
    | dsimp only

theorem State.modCtl_touch (s : State) (n : Nat) (use : CtlFor) (a : Nat) (f : Ctl → Ctl) : Touch 0x2000 s (State.modCtl s n use a f) := by
  unfold State.modCtl
  try dsimp only
  repeat' first
    | (show sub _ _ = true; decide +kernel)
    | with_reducible exact Touch.refl _
    | with_reducible apply Touch.to (State.modPort_touch ..)
    | with_reducible refine Touch.ite ?_ ?_
    | split
    | dsimp only

theorem State.serviceGo_touch (s : State) (n : Nat) (v : Svc) : Touch 0x300000000002020 s (State.serviceGo s n v).2 := by
  unfold State.serviceGo
  try dsimp only
  repeat' first
    | (show sub _ _ = true; decide +kernel)
    | with_reducible exact Touch.refl _
    | with_reducible apply Touch.to (State.modPort_touch ..)
    | with_reducible apply Touch.to (State.sendNow_touch ..)
    | with_reducible apply Touch.to (State.poolTag_touch ..)
    | with_reducible apply Touch.to (State.modCtl_touch ..)
    | with_reducible apply Touch.to (State.bump_touch ..)
    | with_reducible apply Touch.to (State.sendProbe_touch ..)
    | with_reducible apply Touch.to (State.sendSweep_touch ..)
    | with_reducible refine Touch.ite ?_ ?_
    | (refine up_20000 ?_ (by decide +kernel); simp only [F.gpAccStatus_probe_skips, R.gpAccStatus]; omega)
    | split
    | dsimp only

theorem State.serviceTry_touch (s : State) (n : Nat) (v : Svc) : Touch 0x790300056C03F60 s (State.serviceTry s n v).2 := by
  unfold State.serviceTry
  try dsimp only
  repeat' first
    | (show sub _ _ = true; decide +kernel)
    | with_reducible exact Touch.refl _
    | with_reducible apply Touch.to (State.itemReadHalt_touch ..)
    | with_reducible apply Touch.to (State.serviceGo_touch ..)
    | with_reducible refine Touch.ite ?_ ?_
    | split
    | dsimp only

theorem State.standbyBoundary_touch (s : State) (n : Nat) : Touch 0x790300056C03F60 s (State.standbyBoundary s n) := by
  unfold State.standbyBoundary
  try dsimp only
  repeat' first
    | (show sub _ _ = true; decide +kernel)
    | with_reducible assumption
    | with_reducible exact Touch.refl _
    | with_reducible refine tryEach_touch ?_ (fun _ _ _ => ?_)
    | with_reducible apply Touch.to (State.serviceTry_touch ..)
    | split
    | dsimp only

theorem State.bulkSweep1_touch (s : State) (n : Nat) : Touch 0x3FC000056C03120 s (State.bulkSweep1 s n) := by
  unfold State.bulkSweep1
  try dsimp only
  repeat' first
    | (show sub _ _ = true; decide +kernel)
    | with_reducible assumption
    | with_reducible exact Touch.refl _
    | with_reducible apply Touch.to (State.completeViolation_touch ..)
    | with_reducible apply Touch.to (State.complete_touch ..)
    | with_reducible apply Touch.to (State.ctlForget_touch ..)
    | with_reducible apply Touch.to (State.mvForget_touch ..)
    | with_reducible apply Touch.to (State.setResume_touch ..)
    | with_reducible refine Touch.ite ?_ ?_
    | with_reducible refine Touch.forEach ?_ (fun _ _ _ => ?_)
    | split
    | dsimp only

theorem State.bulkSweep_touch (k : Nat) (s : State) (n : Nat) : Touch 0x3FC000056C03120 s (State.bulkSweep k s n) := by
  induction k generalizing s with
  | zero => exact Touch.refl _
  | succ k ih =>
    unfold State.bulkSweep
    try dsimp only
    repeat' first
      | (show sub _ _ = true; decide +kernel)
      | with_reducible assumption
      | with_reducible exact Touch.refl _
      | with_reducible apply Touch.to (State.bulkSweep1_touch ..)
      | with_reducible apply Touch.to (ih ..)
      | with_reducible refine Touch.ite ?_ ?_
      | with_reducible refine Touch.forEach ?_ (fun _ _ _ => ?_)
      | split
      | dsimp only

theorem State.urgentDefer_touch (s : State) (n : Nat) (key : Nat × Nat × Nat) : Touch 0x3FF000000080000 s (State.urgentDefer s n key) := by
  unfold State.urgentDefer
  try dsimp only
  repeat' first
    | (show sub _ _ = true; decide +kernel)
    | with_reducible exact Touch.refl _
    | with_reducible apply Touch.to (State.modCu_touch ..)
    | with_reducible apply Touch.to (State.bump_touch ..)
    | (refine up_8000 ?_ (by decide +kernel); simp only [F.cuPortUrgent_deferred, R.cuPortUrgent]; omega)
    | dsimp only

theorem State.urgentReflex_touch (s : State) (n : Nat) (a2 : ReflexOut) : Touch 0x7FF300030082E30 s (State.urgentReflex s n a2).2 := by
  unfold State.urgentReflex
  try dsimp only
  repeat' first
    | (show sub _ _ = true; decide +kernel)
    | with_reducible exact Touch.refl _
    | with_reducible apply Touch.to (State.reflexLost_touch ..)
    | with_reducible apply Touch.to (State.modCu_touch ..)
    | with_reducible apply Touch.to (State.urgentDefer_touch ..)
    | with_reducible apply Touch.to (State.sendOut_touch ..)
    | with_reducible refine Touch.ite ?_ ?_
    | split
    | dsimp only

theorem State.packetRead_touch (s : State) (w : Work) (off : Nat) (pl : List Byte) : Touch 0x790300056C01F30 s (State.packetRead s w off pl).2.2 := by
  unfold State.packetRead
  try dsimp only
  repeat' first
    | (show sub _ _ = true; decide +kernel)
    | with_reducible exact Touch.refl _
    | with_reducible apply Touch.to (State.takeStaged_touch ..)
    | with_reducible refine Touch.ite ?_ ?_
    | split
    | dsimp only

theorem State.bulkSend_touch (s : State) (n : Nat) (w : Work) (pool : Bool) : Touch 0x790300056C03F70 s (State.bulkSend s n w pool).2 := by
  unfold State.bulkSend
  try dsimp only
  repeat' first
    | (show sub _ _ = true; decide +kernel)
    | with_reducible exact Touch.refl _
    | with_reducible apply Touch.to (State.itemReadHalt_touch ..)
    | with_reducible apply Touch.to (State.packetRead_touch ..)
    | with_reducible apply Touch.to (State.modWork_touch ..)
    | with_reducible apply Touch.to (State.sendNow_touch ..)
    | with_reducible apply Touch.to (State.modPort_touch ..)
    | with_reducible apply Touch.to (State.poolTag_touch ..)
    | with_reducible refine Touch.ite ?_ ?_
    | split
    | dsimp only

theorem State.urgentBulk_touch (s : State) (n : Nat) (w : Work) : Touch 0x7FF300056C83F70 s (State.urgentBulk s n w).2 := by
  unfold State.urgentBulk
  try dsimp only
  repeat' first
    | (show sub _ _ = true; decide +kernel)
    | with_reducible exact Touch.refl _
    | with_reducible apply Touch.to (State.urgentDefer_touch ..)
    | with_reducible apply Touch.to (State.bulkSend_touch ..)
    | with_reducible apply Touch.to (State.modCu_touch ..)
    | with_reducible refine Touch.ite ?_ ?_
    | split
    | dsimp only

theorem State.urgentGo_touch (s : State) (n : Nat) : Touch 0x7FF300076C83F70 s (State.urgentGo s n).2 := by
  unfold State.urgentGo
  try dsimp only
  repeat' first
    | (show sub _ _ = true; decide +kernel)
    | with_reducible assumption
    | with_reducible exact Touch.refl _
    | with_reducible refine tryEach_touch ?_ (fun _ _ _ => ?_)
    | with_reducible apply Touch.to (State.urgentReflex_touch ..)
    | with_reducible apply Touch.to (State.urgentBulk_touch ..)
    | with_reducible refine Touch.ite ?_ ?_
    | split
    | dsimp only

theorem State.bulkBoundary_touch (s : State) (n : Nat) : Touch 0x7FF300076C83F70 s (State.bulkBoundary s n) := by
  unfold State.bulkBoundary
  try dsimp only
  repeat' first
    | (show sub _ _ = true; decide +kernel)
    | with_reducible assumption
    | with_reducible exact Touch.refl _
    | with_reducible apply Touch.to (State.standbyBoundary_touch ..)
    | with_reducible apply Touch.to (State.bulkSweep_touch ..)
    | with_reducible apply Touch.to (State.urgentGo_touch ..)
    | with_reducible refine tryEach_touch ?_ (fun _ _ _ => ?_)
    | with_reducible apply Touch.to (State.serviceTry_touch ..)
    | with_reducible apply Touch.to (State.bulkSend_touch ..)
    | with_reducible refine Touch.ite ?_ ?_
    | split
    | dsimp only

theorem State.workFail_touch (s : State) (w : Work) (status : Nat) (detail : Nat) : Touch 0x3FC000052C01120 s (State.workFail s w status detail) := by
  unfold State.workFail
  try dsimp only
  repeat' first
    | (show sub _ _ = true; decide +kernel)
    | with_reducible exact Touch.refl _
    | with_reducible apply Touch.to (State.completeAt_touch ..)
    | dsimp only

theorem State.bulkError_touch (s : State) (n : Nat) (w : Work) (cause : Nat) : Touch 0x3FC000052C01120 s (State.bulkError s n w cause) := by
  unfold State.bulkError
  try dsimp only
  repeat' first
    | (show sub _ _ = true; decide +kernel)
    | with_reducible exact Touch.refl _
    | with_reducible apply Touch.to (State.workFail_touch ..)
    | with_reducible apply Touch.to (State.modWork_touch ..)
    | with_reducible refine Touch.ite ?_ ?_
    | split
    | dsimp only

theorem State.workEnd_touch (s : State) (w : Work) (status : Nat) (detail : Nat) (t : Nat) : Touch 0x3FE00005EC01160 s (State.workEnd s w status detail t) := by
  unfold State.workEnd
  try dsimp only
  repeat' first
    | (show sub _ _ = true; decide +kernel)
    | with_reducible exact Touch.refl _
    | with_reducible apply Touch.to (State.stageBegin_touch ..)
    | with_reducible apply Touch.to (State.modWork_touch ..)
    | with_reducible apply Touch.to (State.completeAt_touch ..)
    | with_reducible refine Touch.ite ?_ ?_
    | split
    | dsimp only

theorem State.bulkResp_touch (s : State) (n : Nat) (w : Work) (x : Xact) (r : Resp) (t : Nat) : Touch 0x7FF00005EC29170 s (State.bulkResp s n w x r t) := by
  unfold State.bulkResp
  try dsimp only
  repeat' first
    | (show sub _ _ = true; decide +kernel)
    | with_reducible exact Touch.refl _
    | with_reducible apply Touch.to (State.bulkError_touch ..)
    | with_reducible apply Touch.to (State.workFail_touch ..)
    | with_reducible apply Touch.to (State.pxHalt_touch ..)
    | with_reducible apply Touch.to (State.bump_touch ..)
    | with_reducible apply Touch.to (State.modWork_touch ..)
    | with_reducible apply Touch.to (State.setReg_touch ..)
    | with_reducible apply Touch.to (State.setSeq_touch ..)
    | with_reducible apply Touch.to (State.workEnd_touch ..)
    | with_reducible apply Touch.to (State.putStaged_touch ..)
    | with_reducible refine Touch.ite ?_ ?_
    | (refine up_40000 ?_ (by decide +kernel); simp only [F.cuPortBulk_naks, R.cuPortBulk, R.pxLastFrame]; omega)
    | (refine up_8000 ?_ (by decide +kernel); simp only [F.cuPortBulk_naks, R.cuPortBulk, R.pxLastFrame]; omega)
    | split
    | dsimp only

theorem State.closeXact_touch (s : State) (n : Nat) (tag : Nat) : Touch 0x2000 s (State.closeXact s n tag) := by
  unfold State.closeXact
  try dsimp only
  repeat' first
    | (show sub _ _ = true; decide +kernel)
    | with_reducible exact Touch.refl _
    | with_reducible apply Touch.to (State.modPort_touch ..)
    | dsimp only

theorem State.ctlWorkEnd_touch (s : State) (n : Nat) (c : Ctl) (g : Nat) (r : Nat) (i : Nat) (status : Nat) (detail : Nat) (t : Nat) : Touch 0x3FE00005EC0B160 s (State.ctlWorkEnd s n c g r i status detail t) := by
  unfold State.ctlWorkEnd
  try dsimp only
  repeat' first
    | (show sub _ _ = true; decide +kernel)
    | with_reducible exact Touch.refl _
    | with_reducible apply Touch.to (State.dropCtl_touch ..)
    | with_reducible apply Touch.to (State.setSeq_touch ..)
    | with_reducible apply Touch.to (State.put_touch ..)
    | with_reducible apply Touch.to (State.modWork_touch ..)
    | with_reducible apply Touch.to (State.workEnd_touch ..)
    | with_reducible apply Touch.to (State.workFail_touch ..)
    | with_reducible refine Touch.ite ?_ ?_
    | (refine up_20000 ?_ (by decide +kernel); simp only [F.gpDevState_wake_enabled, R.gpDevState]; omega)
    | split
    | dsimp only

theorem State.ctlDone_touch (s : State) (n : Nat) (c : Ctl) (t : Nat) : Touch 0x3FF03005EC7F960 s (State.ctlDone s n c t) := by
  unfold State.ctlDone
  try dsimp only
  repeat' first
    | (show sub _ _ = true; decide +kernel)
    | with_reducible exact Touch.refl _
    | with_reducible apply Touch.to (State.ctlWorkEnd_touch ..)
    | with_reducible apply Touch.to (State.pxCleared_touch ..)
    | with_reducible apply Touch.to (State.dropCtl_touch ..)
    | with_reducible apply Touch.to (State.accOk_touch ..)
    | split
    | dsimp only

theorem State.treeDropped_touch (s : State) (n : Nat) : Touch 0x3FC000056C03920 s (State.treeDropped s n) := by
  unfold State.treeDropped
  try dsimp only
  repeat' first
    | (show sub _ _ = true; decide +kernel)
    | with_reducible assumption
    | with_reducible exact Touch.refl _
    | with_reducible apply Touch.to (State.workKill_touch ..)
    | with_reducible apply Touch.to (State.dropService_touch ..)
    | with_reducible apply Touch.to (State.dropSweep_touch ..)
    | with_reducible apply Touch.to (State.modPort_touch ..)
    | with_reducible apply Touch.to (State.put_touch ..)
    | with_reducible refine Touch.forEach ?_ (fun _ _ _ => ?_)
    | (refine up_20000 ?_ (by decide +kernel); simp only [F.gpAccStatus_attach_addr, F.gpAccStatus_busy, F.gpAccStatus_reset_active, R.gpAccStatus]; omega)
    | dsimp only

theorem State.splitTree_touch (s : State) (n : Nat) : Touch 0x3FC000076C03920 s (State.splitTree s n) := by
  unfold State.splitTree
  try dsimp only
  repeat' first
    | (show sub _ _ = true; decide +kernel)
    | (show State.sizesOk _ = true → _; first | with_reducible exact id | (intro hz; simp only [State.sizesOk, listSet_length, List.length_map, List.length_replicate] at hz ⊢; first | exact hz | (rw [sizesOf_iff] at hz ⊢; and_intros <;> first | rfl | exact hz.1 | exact hz.2.1 | exact hz.2.2.1 | exact hz.2.2.2.1 | exact hz.2.2.2.2.1 | exact hz.2.2.2.2.2.1 | exact hz.2.2.2.2.2.2)))
    | (show _ ∧ _; and_intros <;> first | (apply Or.inl; decide +kernel) | (apply Or.inr; with_reducible rfl))
    | with_reducible exact Touch.refl _
    | with_reducible apply Touch.to (State.raise_touch ..)
    | with_reducible apply Touch.to (State.put_touch ..)
    | with_reducible apply Touch.to (State.treeDropped_touch ..)
    | dsimp only
    | with_reducible refine Touch.mk' ?_ rfl rfl ?_ ?_

theorem State.ctlFail_touch (s : State) (n : Nat) (c : Ctl) (status : Nat) (detail : Nat) (lost : Bool) : Touch 0x3FF00007EC7F960 s (State.ctlFail s n c status detail lost) := by
  unfold State.ctlFail
  try dsimp only
  repeat' first
    | (show sub _ _ = true; decide +kernel)
    | with_reducible exact Touch.refl _
    | with_reducible apply Touch.to (State.ctlWorkEnd_touch ..)
    | with_reducible apply Touch.to (State.pxCleared_touch ..)
    | with_reducible apply Touch.to (State.dropCtl_touch ..)
    | with_reducible apply Touch.to (State.splitTree_touch ..)
    | with_reducible apply Touch.to (State.accFail_touch ..)
    | with_reducible refine Touch.ite ?_ ?_
    | split
    | dsimp only

theorem State.ctlError_touch (s : State) (n : Nat) (c : Ctl) (cause : Nat) : Touch 0x3FF00007EC7F960 s (State.ctlError s n c cause) := by
  unfold State.ctlError
  try dsimp only
  repeat' first
    | (show sub _ _ = true; decide +kernel)
    | with_reducible exact Touch.refl _
    | with_reducible apply Touch.to (State.ctlFail_touch ..)
    | with_reducible apply Touch.to (State.modCtl_touch ..)
    | with_reducible refine Touch.ite ?_ ?_
    | split
    | dsimp only

theorem State.ctlExpire_touch (s : State) (n : Nat) (a : Nat) : Touch 0x3FF00007EC7F9E0 s (State.ctlExpire s n a) := by
  unfold State.ctlExpire
  try dsimp only
  repeat' first
    | (show sub _ _ = true; decide +kernel)
    | with_reducible exact Touch.refl _
    | with_reducible apply Touch.to (State.modPort_touch ..)
    | with_reducible apply Touch.to (State.advanceTo_touch ..)
    | with_reducible apply Touch.to (State.ctlFail_touch ..)
    | with_reducible refine Touch.ite ?_ ?_
    | split
    | dsimp only

theorem State.setupAcked_touch (s : State) (n : Nat) (c : Ctl) : Touch 0x3FD000076C1F920 s (State.setupAcked s n c) := by
  unfold State.setupAcked
  try dsimp only
  repeat' first
    | (show sub _ _ = true; decide +kernel)
    | (show State.sizesOk _ = true → _; first | with_reducible exact id | (intro hz; simp only [State.sizesOk, listSet_length, List.length_map, List.length_replicate] at hz ⊢; first | exact hz | (rw [sizesOf_iff] at hz ⊢; and_intros <;> first | rfl | exact hz.1 | exact hz.2.1 | exact hz.2.2.1 | exact hz.2.2.2.1 | exact hz.2.2.2.2.1 | exact hz.2.2.2.2.2.1 | exact hz.2.2.2.2.2.2)))
    | (show _ ∧ _; and_intros <;> first | (apply Or.inl; decide +kernel) | (apply Or.inr; with_reducible rfl))
    | with_reducible exact Touch.refl _
    | with_reducible apply Touch.to (State.modCtl_touch ..)
    | with_reducible apply Touch.to (State.raise_touch ..)
    | with_reducible apply Touch.to (State.cutAcked_touch ..)
    | with_reducible refine Touch.ite ?_ ?_
    | split
    | dsimp only
    | with_reducible refine Touch.mk' ?_ rfl rfl ?_ ?_

theorem State.ctlStage_touch (s : State) (c : Ctl) (pl : List Byte) : Touch 0x790300056C01F70 s (State.ctlStage s c pl).2 := by
  unfold State.ctlStage
  try dsimp only
  repeat' first
    | (show sub _ _ = true; decide +kernel)
    | with_reducible exact Touch.refl _
    | with_reducible apply Touch.to (State.putStaged_touch ..)
    | with_reducible apply Touch.to (State.itemReadHalt_touch ..)
    | with_reducible refine Touch.ite ?_ ?_
    | split
    | dsimp only

theorem State.ctlResp_touch (s : State) (n : Nat) (c : Ctl) (r : Resp) (t : Nat) : Touch 0x7FF33007EC7FF70 s (State.ctlResp s n c r t) := by
  unfold State.ctlResp
  try dsimp only
  repeat' first
    | (show sub _ _ = true; decide +kernel)
    | with_reducible exact Touch.refl _
    | with_reducible apply Touch.to (State.ctlError_touch ..)
    | with_reducible apply Touch.to (State.ctlFail_touch ..)
    | with_reducible apply Touch.to (State.modCtl_touch ..)
    | with_reducible apply Touch.to (State.bump_touch ..)
    | with_reducible apply Touch.to (State.setupAcked_touch ..)
    | with_reducible apply Touch.to (State.ctlDone_touch ..)
    | with_reducible apply Touch.to (State.ctlStage_touch ..)
    | with_reducible refine Touch.ite ?_ ?_
    | (refine up_8000 ?_ (by decide +kernel); simp only [F.cuPortBulk_naks, R.cuPortBulk]; omega)
    | split
    | dsimp only

theorem State.heard_touch (s : State) (n : Nat) (a : Nat) (ok : Bool) : Touch 0x3FD000056C1F920 s (State.heard s n a ok) := by
  unfold State.heard
  try dsimp only
  repeat' first
    | (show sub _ _ = true; decide +kernel)
    | with_reducible exact Touch.refl _
    | with_reducible apply Touch.to (State.modDev_touch ..)
    | with_reducible apply Touch.to (State.deviceLost_touch ..)
    | with_reducible refine Touch.ite ?_ ?_
    | split
    | dsimp only

theorem State.inResp_touch (s : State) (n : Nat) (c : Nat) (r : Resp) (t : Nat) : Touch 0x610300012021E30 s (State.inResp s n c r t) := by
  unfold State.inResp
  try dsimp only
  repeat' first
    | (show sub _ _ = true; decide +kernel)
    | with_reducible exact Touch.refl _
    | with_reducible apply Touch.to (State.lastUse_touch ..)
    | with_reducible apply Touch.to (State.slotNew_touch ..)
    | with_reducible apply Touch.to (State.slotMissed_touch ..)
    | with_reducible apply Touch.to (State.pxHalt_touch ..)
    | with_reducible apply Touch.to (State.bump_touch ..)
    | with_reducible refine Touch.ite ?_ ?_
    | (refine up_40000 ?_ (by decide +kernel); simp only [F.pxCntB_errors, R.pxCntB]; omega)
    | split
    | dsimp only

theorem State.outResp_touch (s : State) (c : Nat) (r : Resp) : Touch 0x200000000020000 s (State.outResp s c r) := by
  unfold State.outResp
  try dsimp only
  repeat' first
    | (show sub _ _ = true; decide +kernel)
    | with_reducible exact Touch.refl _
    | with_reducible apply Touch.to (State.bump_touch ..)
    | with_reducible apply Touch.to (State.pxHalt_touch ..)
    | with_reducible refine Touch.ite ?_ ?_
    | (refine up_40000 ?_ (by decide +kernel); simp only [F.pxCntB_errors, F.pxCntB_missed, F.pxCntC_late, R.pxCntB, R.pxCntC]; omega)
    | split
    | dsimp only

theorem State.eventStage_touch (s : State) (c : Nat) (b : List Byte) : Touch 0x790300056C21F70 s (State.eventStage s c b).2 := by
  unfold State.eventStage
  try dsimp only
  repeat' first
    | (show sub _ _ = true; decide +kernel)
    | with_reducible exact Touch.refl _
    | with_reducible apply Touch.to (State.itemReadHalt_touch ..)
    | with_reducible apply Touch.to (State.ramRead_touch ..)
    | with_reducible apply Touch.to (State.stageSlot_touch ..)
    | with_reducible refine Touch.ite ?_ ?_
    | split
    | dsimp only

theorem State.eventTake_touch (s : State) (n : Nat) (c : Nat) (h : Hdr) (pl : List Byte) : Touch 0x7FD300076CBFF70 s (State.eventTake s n c h pl) := by
  unfold State.eventTake
  try dsimp only
  repeat' first
    | (show sub _ _ = true; decide +kernel)
    | with_reducible exact Touch.refl _
    | with_reducible apply Touch.to (State.lastUse_touch ..)
    | with_reducible apply Touch.to (State.setSeq_touch ..)
    | with_reducible apply Touch.to (State.raise_touch ..)
    | with_reducible apply Touch.to (State.bump_touch ..)
    | with_reducible apply Touch.to (State.mirrorItem_touch ..)
    | with_reducible apply Touch.to (State.eventStage_touch ..)
    | with_reducible apply Touch.to (State.eventIn_touch ..)
    | with_reducible apply Touch.to (State.wakeEvent_touch ..)
    | with_reducible apply Touch.to (State.hubReport_touch ..)
    | with_reducible refine Touch.ite ?_ ?_
    | (refine up_40000 ?_ (by decide +kernel); simp only [F.pxCntB_errors, R.pxCntB]; omega)
    | split
    | dsimp only

theorem State.evtResp_touch (s : State) (n : Nat) (c : Nat) (x : Xact) (r : Resp) : Touch 0x7FD300076CBFF70 s (State.evtResp s n c x r) := by
  unfold State.evtResp
  try dsimp only
  repeat' first
    | (show sub _ _ = true; decide +kernel)
    | with_reducible exact Touch.refl _
    | with_reducible apply Touch.to (State.eventTake_touch ..)
    | with_reducible apply Touch.to (State.pxHalt_touch ..)
    | with_reducible apply Touch.to (State.bump_touch ..)
    | with_reducible refine Touch.ite ?_ ?_
    | (refine up_40000 ?_ (by decide +kernel); simp only [F.pxCntB_errors, R.pxCntB]; omega)
    | split
    | dsimp only

theorem State.outcome_touch (s : State) (n : Nat) (x : Xact) (r : Resp) (t : Nat) : Touch 0x7FF33007ECFFF70 s (State.outcome s n x r t) := by
  unfold State.outcome
  try dsimp only
  repeat' first
    | (show sub _ _ = true; decide +kernel)
    | with_reducible exact Touch.refl _
    | with_reducible apply Touch.to (State.inResp_touch ..)
    | with_reducible apply Touch.to (State.outResp_touch ..)
    | with_reducible apply Touch.to (State.evtResp_touch ..)
    | with_reducible apply Touch.to (State.bulkResp_touch ..)
    | with_reducible apply Touch.to (State.ctlResp_touch ..)
    | with_reducible apply Touch.to (State.rangingEcho_touch ..)
    | with_reducible apply Touch.to (State.echoLost_touch ..)
    | with_reducible refine Touch.ite ?_ ?_
    | split
    | dsimp only

theorem State.respTimeout_touch (s : State) (n : Nat) (x : Xact) (inj : Bool) : Touch 0x7FF33007ECFFFF0 s (State.respTimeout s n x inj) := by
  unfold State.respTimeout
  try dsimp only
  repeat' first
    | (show sub _ _ = true; decide +kernel)
    | with_reducible exact Touch.refl _
    | with_reducible apply Touch.to (State.closeXact_touch ..)
    | with_reducible apply Touch.to (State.advanceTo_touch ..)
    | with_reducible apply Touch.to (State.detect_touch ..)
    | with_reducible apply Touch.to (State.raise_touch ..)
    | with_reducible apply Touch.to (State.bump_touch ..)
    | with_reducible apply Touch.to (State.modPort_touch ..)
    | with_reducible apply Touch.to (State.heard_touch ..)
    | with_reducible apply Touch.to (State.outcome_touch ..)
    | (refine up_20000 ?_ (by decide +kernel); simp only [F.gpXactCnt_timeouts, F.gpXactEvents_timeout, R.gpXactCnt, R.gpXactEvents]; omega)
    | (show _ < 32; decide)
    | dsimp only

theorem State.keepTag_touch (s : State) (n : Nat) (x : Xact) : Touch 0x2000 s (State.keepTag s n x) := by
  unfold State.keepTag
  try dsimp only
  repeat' first
    | (show sub _ _ = true; decide +kernel)
    | with_reducible exact Touch.refl _
    | with_reducible apply Touch.to (State.modPort_touch ..)
    | dsimp only

theorem State.rxErr_touch (s0 : State) (n : Nat) (r : RxResult) (inj : Bool) : Touch 0x310300010000E20 s0 (State.rxErr s0 n r inj) := by
  unfold State.rxErr
  try dsimp only
  repeat' first
    | (show sub _ _ = true; decide +kernel)
    | with_reducible exact Touch.refl _
    | with_reducible apply Touch.to (State.add_touch ..)
    | with_reducible apply Touch.to (State.detect_touch ..)
    | with_reducible apply Touch.to (State.bump_touch ..)
    | (refine up_20000 ?_ (by decide +kernel); simp only [F.gpArmCorr_bytes, F.gpArmFail_blocks, F.gpCrcErr_header, F.gpCrcErr_payload, R.gpArmCorr, R.gpArmFail, R.gpCrcErr]; omega)
    | (show _ < 32; decide)
    | split
    | dsimp only

theorem State.slotOverrun_touch (s : State) (n : Nat) (a : Option Nat) (inj : Bool) : Touch 0x3FD300056C1FF20 s (State.slotOverrun s n a inj) := by
  unfold State.slotOverrun
  try dsimp only
  repeat' first
    | (show sub _ _ = true; decide +kernel)
    | with_reducible exact Touch.refl _
    | with_reducible apply Touch.to (State.babble_touch ..)
    | with_reducible apply Touch.to (State.detect_touch ..)
    | with_reducible apply Touch.to (State.raise_touch ..)
    | with_reducible apply Touch.to (State.bump_touch ..)
    | (refine up_20000 ?_ (by decide +kernel); simp only [F.gpXactCnt_overruns, F.gpXactEvents_overrun, R.gpXactCnt, R.gpXactEvents]; omega)
    | (show _ < 32; decide)
    | dsimp only

theorem State.echoGiven_touch (s : State) (n : Nat) (a : Nat) (rtt : Nat) (rd : Nat) (ru : Nat) (tt : Nat) : Touch 0x7FF33007ECFFFF0 s (State.echoGiven s n a rtt rd ru tt) := by
  unfold State.echoGiven
  try dsimp only
  repeat' first
    | (show sub _ _ = true; decide +kernel)
    | with_reducible exact Touch.refl _
    | with_reducible apply Touch.to (State.inject_touch ..)
    | with_reducible apply Touch.to (State.respTimeout_touch ..)
    | with_reducible apply Touch.to (State.keepTag_touch ..)
    | with_reducible apply Touch.to (State.closeXact_touch ..)
    | with_reducible apply Touch.to (State.advanceTo_touch ..)
    | with_reducible apply Touch.to (State.echoLost_touch ..)
    | with_reducible apply Touch.to (State.rxErr_touch ..)
    | with_reducible apply Touch.to (State.slotOverrun_touch ..)
    | with_reducible apply Touch.to (State.rangingEcho_touch ..)
    | with_reducible apply Touch.to (State.heard_touch ..)
    | with_reducible refine Touch.ite ?_ ?_
    | (show _ < 32; decide)
    | split
    | dsimp only

theorem State.echoMissed_touch (s : State) (n : Nat) (a : Nat) : Touch 0x7FF33007ECFFFF0 s (State.echoMissed s n a) := by
  unfold State.echoMissed
  try dsimp only
  repeat' first
    | (show sub _ _ = true; decide +kernel)
    | with_reducible exact Touch.refl _
    | with_reducible apply Touch.to (State.respTimeout_touch ..)
    | split
    | dsimp only

theorem State.rxJudge_touch (s : State) (n : Nat) (p : RxPacket) : Touch 0x100000000000 s (State.rxJudge s n p).2.2 := by
  unfold State.rxJudge
  try dsimp only
  repeat' first
    | (show sub _ _ = true; decide +kernel)
    | with_reducible exact Touch.refl _
    | with_reducible apply Touch.to (State.inject_touch ..)
    | with_reducible refine Touch.ite ?_ ?_
    | (show _ < 32; decide)
    | split
    | dsimp only

theorem State.rxCount_touch (s : State) (n : Nat) (p : RxPacket) (r : RxResult) (inj : Bool) : Touch 0x310300010000E20 s (State.rxCount s n p r inj) := by
  unfold State.rxCount
  try dsimp only
  repeat' first
    | (show sub _ _ = true; decide +kernel)
    | with_reducible exact Touch.refl _
    | with_reducible apply Touch.to (State.rxErr_touch ..)
    | with_reducible apply Touch.to (State.add_touch ..)
    | (refine up_20000 ?_ (by decide +kernel); simp only [F.gpSymErr_code, F.gpSymErr_disparity, R.gpSymErr]; omega)
    | dsimp only

theorem State.rxTake_touch (s : State) (n : Nat) (x : Xact) (p : RxPacket) : Touch 0x7FF33007ECFFFF0 s (State.rxTake s n x p) := by
  unfold State.rxTake
  try dsimp only
  repeat' first
    | (show sub _ _ = true; decide +kernel)
    | with_reducible exact Touch.refl _
    | with_reducible apply Touch.to (State.rxJudge_touch ..)
    | with_reducible apply Touch.to (State.rxCount_touch ..)
    | with_reducible apply Touch.to (State.keepTag_touch ..)
    | with_reducible apply Touch.to (State.closeXact_touch ..)
    | with_reducible apply Touch.to (State.advanceTo_touch ..)
    | with_reducible apply Touch.to (State.modPort_touch ..)
    | with_reducible apply Touch.to (State.inject_touch ..)
    | with_reducible apply Touch.to (State.slotOverrun_touch ..)
    | with_reducible apply Touch.to (State.babble_touch ..)
    | with_reducible apply Touch.to (State.heard_touch ..)
    | with_reducible apply Touch.to (State.outcome_touch ..)
    | with_reducible refine Touch.ite ?_ ?_
    | (show _ < 32; decide)
    | split
    | dsimp only

theorem State.receive_touch (s : State) (n : Nat) (p : RxPacket) : Touch 0x7FF33007ECFFFF0 s (State.receive s n p) := by
  unfold State.receive
  try dsimp only
  repeat' first
    | (show sub _ _ = true; decide +kernel)
    | with_reducible exact Touch.refl _
    | with_reducible apply Touch.to (State.rxJudge_touch ..)
    | with_reducible apply Touch.to (State.babble_touch ..)
    | with_reducible apply Touch.to (State.rxCount_touch ..)
    | with_reducible apply Touch.to (State.advanceTo_touch ..)
    | with_reducible apply Touch.to (State.inject_touch ..)
    | with_reducible apply Touch.to (State.respTimeout_touch ..)
    | with_reducible apply Touch.to (State.rxTake_touch ..)
    | with_reducible refine Touch.ite ?_ ?_
    | (show _ < 32; decide)
    | split
    | dsimp only

theorem State.tagTimeout_touch (s : State) (n : Nat) (tag : Nat) : Touch 0x7FF33007ECFFFF0 s (State.tagTimeout s n tag) := by
  unfold State.tagTimeout
  try dsimp only
  repeat' first
    | (show sub _ _ = true; decide +kernel)
    | with_reducible exact Touch.refl _
    | with_reducible apply Touch.to (State.respTimeout_touch ..)
    | split
    | dsimp only

theorem execAgeingPromotion_touch (n : Fin 8) (g : Fin 16) (r : Fin 8) (i : BitVec 16) (s : State) : ∃ u, execAgeingPromotion n g r i s = .next u ∧ Touch 0x3FF250431800B60 s u := by
  unfold execAgeingPromotion
  refine act_touch s _ (by decide +kernel) ?_
  try dsimp only
  repeat' first
    | (show sub _ _ = true; decide +kernel)
    | with_reducible exact Touch.refl _
    | with_reducible apply Touch.to (State.agePromote_touch ..)
    | dsimp only

theorem execBabbleObservation_touch (n : Fin 8) (addr : Fin 64) (s : State) : ∃ u, execBabbleObservation n addr s = .next u ∧ Touch 0x3FD350476C1FF60 s u := by
  unfold execBabbleObservation
  refine act_touch s _ (by decide +kernel) ?_
  try dsimp only
  repeat' first
    | (show sub _ _ = true; decide +kernel)
    | with_reducible exact Touch.refl _
    | with_reducible apply Touch.to (State.babbleSeen_touch ..)
    | dsimp only

theorem execBulkPacketBoundary_touch (n : Fin 8) (s : State) : ∃ u, execBulkPacketBoundary n s = .next u ∧ Touch 0x7FF350476C83F70 s u := by
  unfold execBulkPacketBoundary
  refine act_touch s _ (by decide +kernel) ?_
  try dsimp only
  repeat' first
    | (show sub _ _ = true; decide +kernel)
    | with_reducible exact Touch.refl _
    | with_reducible apply Touch.to (State.bulkBoundary_touch ..)
    | dsimp only

theorem execControlTimeout_touch (n : Fin 8) (addr : Fin 64) (s : State) : ∃ u, execControlTimeout n addr s = .next u ∧ Touch 0x3FF25047EC7FBE0 s u := by
  unfold execControlTimeout
  refine act_touch s _ (by decide +kernel) ?_
  try dsimp only
  repeat' first
    | (show sub _ _ = true; decide +kernel)
    | with_reducible exact Touch.refl _
    | with_reducible apply Touch.to (State.ctlExpire_touch ..)
    | dsimp only

theorem execEchoLost_touch (n : Fin 8) (addr : Fin 64) (s : State) : ∃ u, execEchoLost n addr s = .next u ∧ Touch 0x7FF37047ECFFFF0 s u := by
  unfold execEchoLost
  refine act_touch s _ (by decide +kernel) ?_
  try dsimp only
  repeat' first
    | (show sub _ _ = true; decide +kernel)
    | with_reducible exact Touch.refl _
    | with_reducible apply Touch.to (State.echoMissed_touch ..)
    | dsimp only

theorem execRangingEcho_touch (n : Fin 8) (addr : Fin 64) (rtt : Nat) (rd : Nat) (ru : Nat) (tt : Nat) (s : State) : ∃ u, execRangingEcho n addr rtt rd ru tt s = .next u ∧ Touch 0x7FF37047ECFFFF0 s u := by
  unfold execRangingEcho
  refine act_touch s _ (by decide +kernel) ?_
  try dsimp only
  repeat' first
    | (show sub _ _ = true; decide +kernel)
    | with_reducible exact Touch.refl _
    | with_reducible apply Touch.to (State.echoGiven_touch ..)
    | dsimp only

theorem execResponseReceive_touch (n : Fin 8) (x : RxPacket) (s : State) : ∃ u, execResponseReceive n x s = .next u ∧ Touch 0x7FF37047ECFFFF0 s u := by
  unfold execResponseReceive
  refine act_touch s _ (by decide +kernel) ?_
  try dsimp only
  repeat' first
    | (show sub _ _ = true; decide +kernel)
    | with_reducible exact Touch.refl _
    | with_reducible apply Touch.to (State.receive_touch ..)
    | dsimp only

theorem execResponseTimeout_touch (n : Fin 8) (tag : Fin 1024) (s : State) : ∃ u, execResponseTimeout n tag s = .next u ∧ Touch 0x7FF37047ECFFFF0 s u := by
  unfold execResponseTimeout
  refine act_touch s _ (by decide +kernel) ?_
  try dsimp only
  repeat' first
    | (show sub _ _ = true; decide +kernel)
    | with_reducible exact Touch.refl _
    | with_reducible apply Touch.to (State.tagTimeout_touch ..)
    | dsimp only

end Sys2Proof.Machine
end

