-- ==== Sys2Proof/Laws/FrameSpan.lean ====
section
/-! SUPPORT. What each operation of Machine/Span.lean touches: the parts of its set (Laws/Touch.lean), and nothing else. -/

set_option linter.unusedSimpArgs false
set_option linter.unusedVariables false
set_option Elab.async false

namespace Sys2Proof.Machine

theorem State.heartbeatDue_touch (s : State) (m : Nat) : Touch 0x30000000 s (State.heartbeatDue s m) := by
  unfold State.heartbeatDue
  try dsimp only
  repeat' first
    | (show sub _ _ = true; decide +kernel)
    | (show State.sizesOk _ = true → _; first | with_reducible exact id | (intro hz; simp only [State.sizesOk, listSet_length, List.length_map, List.length_replicate] at hz ⊢; first | exact hz | (rw [sizesOf_iff] at hz ⊢; and_intros <;> first | rfl | exact hz.1 | exact hz.2.1 | exact hz.2.2.1 | exact hz.2.2.2.1 | exact hz.2.2.2.2.1 | exact hz.2.2.2.2.2.1 | exact hz.2.2.2.2.2.2)))
    | (show _ ∧ _; and_intros <;> first | (apply Or.inl; decide +kernel) | (apply Or.inr; with_reducible rfl))
    | with_reducible exact Touch.refl _
    | with_reducible apply Touch.to (State.spanReady_touch ..)
    | with_reducible refine Touch.ite ?_ ?_
    | split
    | dsimp only
    | with_reducible refine Touch.mk' ?_ rfl rfl ?_ ?_

theorem State.modSpan_touch (s : State) (m : Nat) (f : SpanPort → SpanPort) : Touch 0x10000000 s (State.modSpan s m f) := by
  unfold State.modSpan
  try dsimp only
  repeat' first
    | (show sub _ _ = true; decide +kernel)
    | with_reducible exact Touch.refl _
    | with_reducible apply Touch.to (State.setSpanPort_touch ..)
    | dsimp only

theorem State.spanEnter_touch (s : State) (m : Nat) (st : Nat) : Touch 0x3F8030010000800 s (State.spanEnter s m st) := by
  unfold State.spanEnter
  try dsimp only
  repeat' first
    | (show sub _ _ = true; decide +kernel)
    | with_reducible exact Touch.refl _
    | with_reducible apply Touch.to (State.put_touch ..)
    | with_reducible apply Touch.to (State.parentLost_touch ..)
    | with_reducible apply Touch.to (State.discAsk_touch ..)
    | with_reducible refine Touch.ite ?_ ?_
    | (refine up_c010 ?_ (by decide +kernel); simp only [F.spPStatus_state, R.spPStatus]; omega)
    | split
    | dsimp only

theorem State.spanSweepEnd_touch (s : State) (m : Nat) : Touch 0x10000800 s (State.spanSweepEnd s m) := by
  unfold State.spanSweepEnd
  try dsimp only
  repeat' first
    | (show sub _ _ = true; decide +kernel)
    | with_reducible exact Touch.refl _
    | with_reducible apply Touch.to (State.permitDrop_touch ..)
    | with_reducible apply Touch.to (State.permitReturn_touch ..)
    | with_reducible apply Touch.to (State.modSpan_touch ..)
    | dsimp only

theorem State.spanHit_touch (s : State) (m : Nat) : Touch 0x3F8030010000800 s (State.spanHit s m) := by
  unfold State.spanHit
  try dsimp only
  repeat' first
    | (show sub _ _ = true; decide +kernel)
    | with_reducible exact Touch.refl _
    | with_reducible apply Touch.to (State.modSpan_touch ..)
    | with_reducible apply Touch.to (State.raise_touch ..)
    | with_reducible apply Touch.to (State.spanEnter_touch ..)
    | with_reducible apply Touch.to (State.spanSweepEnd_touch ..)
    | with_reducible refine Touch.ite ?_ ?_
    | (refine up_c010 ?_ (by decide +kernel); simp only [F.spPEvents_hit, R.spPEvents]; omega)
    | split
    | dsimp only

theorem State.replayExhausted_touch (s : State) (m : Nat) (inj : Bool) : Touch 0x3F8330010000E20 s (State.replayExhausted s m inj) := by
  unfold State.replayExhausted
  try dsimp only
  repeat' first
    | (show sub _ _ = true; decide +kernel)
    | with_reducible exact Touch.refl _
    | with_reducible apply Touch.to (State.spanHit_touch ..)
    | with_reducible apply Touch.to (State.detect_touch ..)
    | with_reducible apply Touch.to (State.raise_touch ..)
    | (refine up_c010 ?_ (by decide +kernel); simp only [F.spPEvents_replay_exhausted, R.spPEvents]; omega)
    | (show _ < 32; decide)
    | dsimp only

theorem State.linkIn_touch (s : State) (m : Nat) (x : SpanPkt) : Touch 0x3F8330010000E20 s (State.linkIn s m x) := by
  unfold State.linkIn
  try dsimp only
  repeat' first
    | (show sub _ _ = true; decide +kernel)
    | with_reducible exact Touch.refl _
    | with_reducible apply Touch.to (State.modSpan_touch ..)
    | with_reducible apply Touch.to (State.replayExhausted_touch ..)
    | with_reducible refine Touch.ite ?_ ?_
    | split
    | dsimp only

theorem State.oweCredit_touch (s : State) (m : Nat) (vc : Nat) : Touch 0x10000000 s (State.oweCredit s m vc) := by
  unfold State.oweCredit
  try dsimp only
  repeat' first
    | (show sub _ _ = true; decide +kernel)
    | with_reducible exact Touch.refl _
    | with_reducible apply Touch.to (State.modSpan_touch ..)
    | dsimp only

theorem State.placementsLost_touch (s : State) (m : Nat) : Touch 0x20000000 s (State.placementsLost s m) := by
  unfold State.placementsLost
  try dsimp only
  repeat' first
    | (show sub _ _ = true; decide +kernel)
    | (show State.sizesOk _ = true → _; first | with_reducible exact id | (intro hz; simp only [State.sizesOk, listSet_length, List.length_map, List.length_replicate] at hz ⊢; first | exact hz | (rw [sizesOf_iff] at hz ⊢; and_intros <;> first | rfl | exact hz.1 | exact hz.2.1 | exact hz.2.2.1 | exact hz.2.2.2.1 | exact hz.2.2.2.2.1 | exact hz.2.2.2.2.2.1 | exact hz.2.2.2.2.2.2)))
    | (show _ ∧ _; and_intros <;> first | (apply Or.inl; decide +kernel) | (apply Or.inr; with_reducible rfl))
    | with_reducible exact Touch.refl _
    | with_reducible refine Touch.ite ?_ ?_
    | split
    | dsimp only
    | with_reducible refine Touch.mk' ?_ rfl rfl ?_ ?_

theorem State.sendAgain_touch (s : State) (m : Nat) (seq : Nat) (x : SpanPkt) : Touch 0x3F0000010000020 s (State.sendAgain s m seq x) := by
  unfold State.sendAgain
  try dsimp only
  repeat' first
    | (show sub _ _ = true; decide +kernel)
    | with_reducible exact Touch.refl _
    | with_reducible apply Touch.to (State.modSpan_touch ..)
    | with_reducible apply Touch.to (State.bump_touch ..)
    | with_reducible apply Touch.to (State.emit_touch ..)
    | with_reducible refine Touch.ite ?_ ?_
    | (refine up_c010 ?_ (by decide +kernel); simp only [F.spPErr_replays, R.spPErr]; omega)
    | split
    | dsimp only

theorem State.sendDisc_touch (s : State) (m : Nat) (r : DiscRec) : Touch 0x10000820 s (State.sendDisc s m r) := by
  unfold State.sendDisc
  try dsimp only
  repeat' first
    | (show sub _ _ = true; decide +kernel)
    | with_reducible exact Touch.refl _
    | with_reducible apply Touch.to (State.modSpan_touch ..)
    | with_reducible apply Touch.to (State.emit_touch ..)
    | with_reducible apply Touch.to (State.permitReturn_touch ..)
    | with_reducible refine Touch.ite ?_ ?_
    | split
    | dsimp only

theorem State.sendPlain_touch (s : State) (m : Nat) (typ : Nat) (tsd : List Byte) (pl : List Byte) : Touch 0x20 s (State.sendPlain s m typ tsd pl) := by
  unfold State.sendPlain
  try dsimp only
  repeat' first
    | (show sub _ _ = true; decide +kernel)
    | with_reducible exact Touch.refl _
    | with_reducible apply Touch.to (State.emit_touch ..)
    | dsimp only

theorem State.sendEcho_touch (s : State) (m : Nat) (no : Nat) (eop : Nat) : Touch 0x10000020 s (State.sendEcho s m no eop) := by
  unfold State.sendEcho
  try dsimp only
  repeat' first
    | (show sub _ _ = true; decide +kernel)
    | with_reducible exact Touch.refl _
    | with_reducible apply Touch.to (State.modSpan_touch ..)
    | with_reducible apply Touch.to (State.sendPlain_touch ..)
    | dsimp only

theorem State.sendFresh_touch (s : State) (m : Nat) (x : SpanPkt) : Touch 0x3F8330010000E20 s (State.sendFresh s m x) := by
  unfold State.sendFresh
  try dsimp only
  repeat' first
    | (show sub _ _ = true; decide +kernel)
    | with_reducible assumption
    | with_reducible exact Touch.refl _
    | with_reducible apply Touch.to (State.emit_touch ..)
    | with_reducible apply Touch.to (State.modSpan_touch ..)
    | with_reducible apply Touch.to (State.inject_touch ..)
    | with_reducible apply Touch.to (State.replayExhausted_touch ..)
    | with_reducible apply Touch.to (State.add_touch ..)
    | with_reducible refine Touch.ite ?_ ?_
    | with_reducible refine Touch.forEach ?_ (fun _ _ _ => ?_)
    | (refine up_c010 ?_ (by decide +kernel); simp only [F.spPErr_replays, R.spPErr]; omega)
    | (show _ < 32; decide)
    | split
    | dsimp only

theorem State.sendLink_touch (s : State) (m : Nat) : Touch 0x10000020 s (State.sendLink s m) := by
  unfold State.sendLink
  try dsimp only
  repeat' first
    | (show sub _ _ = true; decide +kernel)
    | with_reducible exact Touch.refl _
    | with_reducible apply Touch.to (State.modSpan_touch ..)
    | with_reducible apply Touch.to (State.sendPlain_touch ..)
    | dsimp only

theorem State.sendRest_touch (s : State) (m : Nat) (x : SpanPkt) : Touch 0x7F8330030000E60 s (State.sendRest s m x) := by
  unfold State.sendRest
  try dsimp only
  repeat' first
    | (show sub _ _ = true; decide +kernel)
    | (show State.sizesOk _ = true → _; first | with_reducible exact id | (intro hz; simp only [State.sizesOk, listSet_length, List.length_map, List.length_replicate] at hz ⊢; first | exact hz | (rw [sizesOf_iff] at hz ⊢; and_intros <;> first | rfl | exact hz.1 | exact hz.2.1 | exact hz.2.2.1 | exact hz.2.2.2.1 | exact hz.2.2.2.2.1 | exact hz.2.2.2.2.2.1 | exact hz.2.2.2.2.2.2)))
    | (show _ ∧ _; and_intros <;> first | (apply Or.inl; decide +kernel) | (apply Or.inr; with_reducible rfl))
    | with_reducible exact Touch.refl _
    | with_reducible apply Touch.to (State.itemRead_touch ..)
    | with_reducible apply Touch.to (State.put_touch ..)
    | with_reducible apply Touch.to (State.sendFresh_touch ..)
    | with_reducible refine Touch.ite ?_ ?_
    | split
    | dsimp only
    | with_reducible refine Touch.mk' ?_ rfl rfl ?_ ?_

theorem State.sendSpanProbe_touch (s : State) (m : Nat) : Touch 0x10000020 s (State.sendSpanProbe s m) := by
  unfold State.sendSpanProbe
  try dsimp only
  repeat' first
    | (show sub _ _ = true; decide +kernel)
    | with_reducible exact Touch.refl _
    | with_reducible apply Touch.to (State.modSpan_touch ..)
    | with_reducible apply Touch.to (State.sendPlain_touch ..)
    | dsimp only

theorem State.spanAsk_touch (s : State) (m : Nat) : Touch 0x3F0030000000800 s (State.spanAsk s m) := by
  unfold State.spanAsk
  try dsimp only
  repeat' first
    | (show sub _ _ = true; decide +kernel)
    | with_reducible exact Touch.refl _
    | with_reducible apply Touch.to (State.put_touch ..)
    | with_reducible apply Touch.to (State.permitAsk_touch ..)
    | (refine up_c010 ?_ (by decide +kernel); simp only [F.spPStatus_permit_wait, R.spPStatus]; omega)
    | dsimp only

theorem State.spanSweepFail_touch (s : State) (m : Nat) (w : Sweep) : Touch 0x10000800 s (State.spanSweepFail s m w) := by
  unfold State.spanSweepFail
  try dsimp only
  repeat' first
    | (show sub _ _ = true; decide +kernel)
    | with_reducible exact Touch.refl _
    | with_reducible apply Touch.to (State.spanSweepEnd_touch ..)
    | with_reducible apply Touch.to (State.modSpan_touch ..)
    | with_reducible refine Touch.ite ?_ ?_
    | split
    | dsimp only

theorem State.spanStore_touch (s : State) (m : Nat) (l : Int) : Touch 0x3F0000010000000 s (State.spanStore s m l) := by
  unfold State.spanStore
  try dsimp only
  repeat' first
    | (show sub _ _ = true; decide +kernel)
    | with_reducible exact Touch.refl _
    | with_reducible apply Touch.to (State.put_touch ..)
    | with_reducible apply Touch.to (State.modSpan_touch ..)
    | (refine up_c010 ?_ (by decide +kernel); simp only [F.spPRange_d_link, F.spPRange_valid, F.spPStatus_ranged, R.spPRange, R.spPStatus]; omega)
    | dsimp only

theorem State.spanSweepOn_touch (s : State) (m : Nat) (w : Sweep) : Touch 0x3F0000010000800 s (State.spanSweepOn s m w) := by
  unfold State.spanSweepOn
  try dsimp only
  repeat' first
    | (show sub _ _ = true; decide +kernel)
    | with_reducible exact Touch.refl _
    | with_reducible apply Touch.to (State.modSpan_touch ..)
    | with_reducible apply Touch.to (State.spanSweepFail_touch ..)
    | with_reducible apply Touch.to (State.spanStore_touch ..)
    | with_reducible apply Touch.to (State.spanSweepEnd_touch ..)
    | with_reducible refine Touch.ite ?_ ?_
    | split
    | dsimp only

theorem State.spanSweepAsk_touch (s : State) (m : Nat) : Touch 0x30000000800 s (State.spanSweepAsk s m) := by
  unfold State.spanSweepAsk
  try dsimp only
  repeat' first
    | (show sub _ _ = true; decide +kernel)
    | with_reducible exact Touch.refl _
    | with_reducible apply Touch.to (State.permitAsk_touch ..)
    | with_reducible refine Touch.ite ?_ ?_
    | split
    | dsimp only

theorem State.spanUnrange_touch (s : State) (m : Nat) : Touch 0x3F8030010000800 s (State.spanUnrange s m) := by
  unfold State.spanUnrange
  try dsimp only
  repeat' first
    | (show sub _ _ = true; decide +kernel)
    | with_reducible exact Touch.refl _
    | with_reducible apply Touch.to (State.raise_touch ..)
    | with_reducible apply Touch.to (State.put_touch ..)
    | with_reducible apply Touch.to (State.setReg_touch ..)
    | with_reducible apply Touch.to (State.parentLost_touch ..)
    | with_reducible apply Touch.to (State.spanSweepAsk_touch ..)
    | with_reducible apply Touch.to (State.modSpan_touch ..)
    | with_reducible refine Touch.ite ?_ ?_
    | (refine up_c010 ?_ (by decide +kernel); simp only [F.spPEvents_range_shift, F.spPStatus_ranged, R.spPEvents, R.spPRange, R.spPStatus]; omega)
    | split
    | dsimp only

theorem State.spanEcho_touch (s : State) (m : Nat) (rtt : Nat) (tt : Nat) : Touch 0x3F8030010000800 s (State.spanEcho s m rtt tt) := by
  unfold State.spanEcho
  try dsimp only
  repeat' first
    | (show sub _ _ = true; decide +kernel)
    | with_reducible exact Touch.refl _
    | with_reducible apply Touch.to (State.spanSweepOn_touch ..)
    | with_reducible apply Touch.to (State.modSpan_touch ..)
    | with_reducible apply Touch.to (State.spanStore_touch ..)
    | with_reducible apply Touch.to (State.spanUnrange_touch ..)
    | with_reducible apply Touch.to (State.bump_touch ..)
    | with_reducible refine Touch.ite ?_ ?_
    | (refine up_c010 ?_ (by decide +kernel); simp only [F.spPTraffic_excursions, R.spPTraffic]; omega)
    | split
    | dsimp only

theorem State.spanAt_touch (s : State) (m : Nat) (t : Nat) (fin : Nat) (x : SpanPkt) : Touch 0x3F8330010000E20 s (State.spanAt s m t fin x) := by
  unfold State.spanAt
  try dsimp only
  repeat' first
    | (show sub _ _ = true; decide +kernel)
    | with_reducible exact Touch.refl _
    | with_reducible apply Touch.to (State.linkIn_touch ..)
    | with_reducible apply Touch.to (State.modSpan_touch ..)
    | with_reducible apply Touch.to (State.spanEcho_touch ..)
    | with_reducible refine Touch.ite ?_ ?_
    | split
    | dsimp only

theorem State.spanBeacon_touch (s : State) (m : Nat) (t : Nat) (commas : Bool) : Touch 0x3F0030010000800 s (State.spanBeacon s m t commas) := by
  unfold State.spanBeacon
  try dsimp only
  repeat' first
    | (show sub _ _ = true; decide +kernel)
    | with_reducible exact Touch.refl _
    | with_reducible apply Touch.to (State.modSpan_touch ..)
    | with_reducible apply Touch.to (State.spanAsk_touch ..)
    | with_reducible refine Touch.ite ?_ ?_
    | split
    | dsimp only

theorem State.spanEndTraining_touch (s : State) (m : Nat) : Touch 0x3F0000000000800 s (State.spanEndTraining s m) := by
  unfold State.spanEndTraining
  try dsimp only
  repeat' first
    | (show sub _ _ = true; decide +kernel)
    | with_reducible exact Touch.refl _
    | with_reducible apply Touch.to (State.put_touch ..)
    | with_reducible apply Touch.to (State.permitDrop_touch ..)
    | with_reducible apply Touch.to (State.permitReturn_touch ..)
    | (refine up_c010 ?_ (by decide +kernel); simp only [F.spPStatus_permit_wait, R.spPStatus]; omega)
    | dsimp only

theorem State.spanBeaconLoss_touch (s : State) (m : Nat) : Touch 0x3F0000010000800 s (State.spanBeaconLoss s m) := by
  unfold State.spanBeaconLoss
  try dsimp only
  repeat' first
    | (show sub _ _ = true; decide +kernel)
    | with_reducible exact Touch.refl _
    | with_reducible apply Touch.to (State.modSpan_touch ..)
    | with_reducible apply Touch.to (State.spanEndTraining_touch ..)
    | with_reducible refine Touch.ite ?_ ?_
    | split
    | dsimp only

theorem State.spanProbeLost_touch (s : State) (m : Nat) : Touch 0x3F8030010000800 s (State.spanProbeLost s m) := by
  unfold State.spanProbeLost
  try dsimp only
  repeat' first
    | (show sub _ _ = true; decide +kernel)
    | with_reducible exact Touch.refl _
    | with_reducible apply Touch.to (State.spanSweepOn_touch ..)
    | with_reducible apply Touch.to (State.spanUnrange_touch ..)
    | with_reducible apply Touch.to (State.modSpan_touch ..)
    | with_reducible refine Touch.ite ?_ ?_
    | split
    | dsimp only

theorem State.spanBoundary_touch (s : State) (m : Nat) : Touch 0x7F8330030000E60 s (State.spanBoundary s m) := by
  unfold State.spanBoundary
  try dsimp only
  repeat' first
    | (show sub _ _ = true; decide +kernel)
    | with_reducible exact Touch.refl _
    | with_reducible apply Touch.to (State.heartbeatDue_touch ..)
    | with_reducible apply Touch.to (State.spanProbeLost_touch ..)
    | with_reducible apply Touch.to (State.sendLink_touch ..)
    | with_reducible apply Touch.to (State.modSpan_touch ..)
    | with_reducible apply Touch.to (State.sendPlain_touch ..)
    | with_reducible apply Touch.to (State.sendEcho_touch ..)
    | with_reducible apply Touch.to (State.sendSpanProbe_touch ..)
    | with_reducible apply Touch.to (State.sendAgain_touch ..)
    | with_reducible apply Touch.to (State.sendFresh_touch ..)
    | with_reducible apply Touch.to (State.sendRest_touch ..)
    | with_reducible apply Touch.to (State.sendDisc_touch ..)
    | with_reducible refine Touch.ite ?_ ?_
    | split
    | dsimp only

theorem State.spanBroadcast_touch (s : State) (m : Nat) (x : SpanPkt) : Touch 0x3F0000010000000 s (State.spanBroadcast s m x) := by
  unfold State.spanBroadcast
  try dsimp only
  repeat' first
    | (show sub _ _ = true; decide +kernel)
    | with_reducible assumption
    | with_reducible exact Touch.refl _
    | with_reducible apply Touch.to (State.modSpan_touch ..)
    | with_reducible apply Touch.to (State.bump_touch ..)
    | with_reducible apply Touch.to (State.spanReady_touch ..)
    | with_reducible refine Touch.ite ?_ ?_
    | with_reducible refine Touch.forEach ?_ (fun _ _ _ => ?_)
    | (refine up_c010 ?_ (by decide +kernel); simp only [F.spPTraffic_lost, R.spPTraffic]; omega)
    | split
    | dsimp only

theorem State.spanLost_touch (s : State) (m : Nat) : Touch 0x3F0000030000800 s (State.spanLost s m) := by
  unfold State.spanLost
  try dsimp only
  repeat' first
    | (show sub _ _ = true; decide +kernel)
    | with_reducible exact Touch.refl _
    | with_reducible apply Touch.to (State.spanSweepEnd_touch ..)
    | with_reducible apply Touch.to (State.add_touch ..)
    | with_reducible apply Touch.to (State.placementsLost_touch ..)
    | with_reducible apply Touch.to (State.put_touch ..)
    | with_reducible apply Touch.to (State.setReg_touch ..)
    | with_reducible apply Touch.to (State.permitReturn_touch ..)
    | with_reducible apply Touch.to (State.modSpan_touch ..)
    | with_reducible refine Touch.ite ?_ ?_
    | (refine up_c010 ?_ (by decide +kernel); simp only [F.spPStatus_partner_chip, F.spPStatus_ranged, F.spPTraffic_lost, R.spPRange, R.spPStatus, R.spPTraffic]; omega)
    | split
    | dsimp only

theorem State.spanDetect_touch (s : State) (m : Nat) : Touch 0x3F8030030000800 s (State.spanDetect s m) := by
  unfold State.spanDetect
  try dsimp only
  repeat' first
    | (show sub _ _ = true; decide +kernel)
    | with_reducible exact Touch.refl _
    | with_reducible apply Touch.to (State.modSpan_touch ..)
    | with_reducible apply Touch.to (State.spanLost_touch ..)
    | with_reducible apply Touch.to (State.spanEndTraining_touch ..)
    | with_reducible apply Touch.to (State.spanEnter_touch ..)
    | dsimp only

theorem State.spanDrop_touch (s : State) (m : Nat) (x : SpanPkt) : Touch 0x3F4000000000000 s (State.spanDrop s m x) := by
  unfold State.spanDrop
  try dsimp only
  repeat' first
    | (show sub _ _ = true; decide +kernel)
    | with_reducible exact Touch.refl _
    | with_reducible apply Touch.to (State.bump_touch ..)
    | with_reducible apply Touch.to (State.reflexDrop_touch ..)
    | with_reducible refine Touch.ite ?_ ?_
    | (refine up_c010 ?_ (by decide +kernel); simp only [F.spPTraffic_lost, R.spPTraffic]; omega)
    | split
    | dsimp only

theorem State.spanFastTimeout_touch (s : State) (m : Nat) : Touch 0x10000000 s (State.spanFastTimeout s m) := by
  unfold State.spanFastTimeout
  try dsimp only
  repeat' first
    | (show sub _ _ = true; decide +kernel)
    | with_reducible exact Touch.refl _
    | with_reducible apply Touch.to (State.modSpan_touch ..)
    | with_reducible refine Touch.ite ?_ ?_
    | split
    | dsimp only

theorem State.spanForward_touch (s : State) (m : Nat) (x : SpanPkt) : Touch 0x3F4000010000000 s (State.spanForward s m x) := by
  unfold State.spanForward
  try dsimp only
  repeat' first
    | (show sub _ _ = true; decide +kernel)
    | with_reducible exact Touch.refl _
    | with_reducible apply Touch.to (State.oweCredit_touch ..)
    | with_reducible apply Touch.to (State.spanDrop_touch ..)
    | with_reducible apply Touch.to (State.spanReady_touch ..)
    | with_reducible refine Touch.ite ?_ ?_
    | split
    | dsimp only

theorem State.spanHitTimeout_touch (s : State) (m : Nat) : Touch 0x3F8030030000800 s (State.spanHitTimeout s m) := by
  unfold State.spanHitTimeout
  try dsimp only
  repeat' first
    | (show sub _ _ = true; decide +kernel)
    | with_reducible exact Touch.refl _
    | with_reducible apply Touch.to (State.raise_touch ..)
    | with_reducible apply Touch.to (State.spanDetect_touch ..)
    | with_reducible refine Touch.ite ?_ ?_
    | (refine up_c010 ?_ (by decide +kernel); simp only [F.spPEvents_detached, R.spPEvents]; omega)
    | split
    | dsimp only

theorem State.spanOff_touch (s : State) (m : Nat) : Touch 0x3F8030030000800 s (State.spanOff s m) := by
  unfold State.spanOff
  try dsimp only
  repeat' first
    | (show sub _ _ = true; decide +kernel)
    | with_reducible exact Touch.refl _
    | with_reducible apply Touch.to (State.modSpan_touch ..)
    | with_reducible apply Touch.to (State.spanLost_touch ..)
    | with_reducible apply Touch.to (State.spanEndTraining_touch ..)
    | with_reducible apply Touch.to (State.spanEnter_touch ..)
    | with_reducible apply Touch.to (State.put_touch ..)
    | (refine up_c010 ?_ (by decide +kernel); simp only [F.spPCtrl_enable, R.spPCtrl]; omega)
    | dsimp only

theorem State.spanOn_touch (s : State) (m : Nat) : Touch 0x3F8030030000800 s (State.spanOn s m) := by
  unfold State.spanOn
  try dsimp only
  repeat' first
    | (show sub _ _ = true; decide +kernel)
    | with_reducible exact Touch.refl _
    | with_reducible apply Touch.to (State.modSpan_touch ..)
    | with_reducible apply Touch.to (State.put_touch ..)
    | with_reducible apply Touch.to (State.spanDetect_touch ..)
    | with_reducible refine Touch.ite ?_ ?_
    | (refine up_c010 ?_ (by decide +kernel); simp only [F.spPCtrl_enable, R.spPCtrl]; omega)
    | split
    | dsimp only

theorem State.spanPermitRetry_touch (s : State) (m : Nat) : Touch 0x3F0030000000800 s (State.spanPermitRetry s m) := by
  unfold State.spanPermitRetry
  try dsimp only
  repeat' first
    | (show sub _ _ = true; decide +kernel)
    | with_reducible exact Touch.refl _
    | with_reducible apply Touch.to (State.spanAsk_touch ..)
    | with_reducible refine Touch.ite ?_ ?_
    | split
    | dsimp only

theorem State.spanTakeIn_touch (s : State) (m : Nat) (seq : Nat) (x : SpanPkt) : Touch 0x3F4000010000000 s (State.spanTakeIn s m seq x) := by
  unfold State.spanTakeIn
  try dsimp only
  repeat' first
    | (show sub _ _ = true; decide +kernel)
    | with_reducible exact Touch.refl _
    | with_reducible apply Touch.to (State.modSpan_touch ..)
    | with_reducible apply Touch.to (State.spanBroadcast_touch ..)
    | with_reducible apply Touch.to (State.spanForward_touch ..)
    | with_reducible refine Touch.ite ?_ ?_
    | split
    | dsimp only

theorem State.spanReceive_touch (s : State) (m : Nat) (x : SpanRx) : Touch 0x7FC330010000EE0 s (State.spanReceive s m x) := by
  unfold State.spanReceive
  try dsimp only
  repeat' first
    | (show sub _ _ = true; decide +kernel)
    | with_reducible exact Touch.refl _
    | with_reducible apply Touch.to (State.advanceTo_touch ..)
    | with_reducible apply Touch.to (State.modSpan_touch ..)
    | with_reducible apply Touch.to (State.detect_touch ..)
    | with_reducible apply Touch.to (State.bump_touch ..)
    | with_reducible apply Touch.to (State.inject_touch ..)
    | with_reducible apply Touch.to (State.spanAt_touch ..)
    | with_reducible apply Touch.to (State.itemRead_touch ..)
    | with_reducible apply Touch.to (State.spanTakeIn_touch ..)
    | with_reducible refine Touch.ite ?_ ?_
    | (refine up_c010 ?_ (by decide +kernel); simp only [F.spPErr_crc, R.spPErr]; omega)
    | (show _ < 32; decide)
    | split
    | dsimp only

theorem State.spanRetrain_touch (s : State) (m : Nat) : Touch 0x3F8030030000800 s (State.spanRetrain s m) := by
  unfold State.spanRetrain
  try dsimp only
  repeat' first
    | (show sub _ _ = true; decide +kernel)
    | with_reducible exact Touch.refl _
    | with_reducible apply Touch.to (State.spanDetect_touch ..)
    | with_reducible apply Touch.to (State.modSpan_touch ..)
    | with_reducible refine Touch.ite ?_ ?_
    | split
    | dsimp only

theorem State.spanSweepGranted_touch (s : State) (m : Nat) : Touch 0x10000800 s (State.spanSweepGranted s m) := by
  unfold State.spanSweepGranted
  try dsimp only
  repeat' first
    | (show sub _ _ = true; decide +kernel)
    | with_reducible exact Touch.refl _
    | with_reducible apply Touch.to (State.modSpan_touch ..)
    | with_reducible apply Touch.to (State.permitReturn_touch ..)
    | with_reducible refine Touch.ite ?_ ?_
    | split
    | dsimp only

theorem State.spanTrainFailed_touch (s : State) (m : Nat) : Touch 0x3F8030030000800 s (State.spanTrainFailed s m) := by
  unfold State.spanTrainFailed
  try dsimp only
  repeat' first
    | (show sub _ _ = true; decide +kernel)
    | with_reducible exact Touch.refl _
    | with_reducible apply Touch.to (State.modSpan_touch ..)
    | with_reducible apply Touch.to (State.spanDetect_touch ..)
    | with_reducible apply Touch.to (State.raise_touch ..)
    | (refine up_c010 ?_ (by decide +kernel); simp only [F.spPEvents_train_fail, R.spPEvents]; omega)
    | dsimp only

theorem State.spanTrainGranted_touch (s : State) (m : Nat) : Touch 0x3F8030010000800 s (State.spanTrainGranted s m) := by
  unfold State.spanTrainGranted
  try dsimp only
  repeat' first
    | (show sub _ _ = true; decide +kernel)
    | with_reducible exact Touch.refl _
    | with_reducible apply Touch.to (State.put_touch ..)
    | with_reducible apply Touch.to (State.spanEnter_touch ..)
    | with_reducible refine Touch.ite ?_ ?_
    | (refine up_c010 ?_ (by decide +kernel); simp only [F.spPStatus_permit_wait, R.spPStatus]; omega)
    | split
    | dsimp only

theorem State.spanTrainTimeout_touch (s : State) (m : Nat) : Touch 0x3F8030030000800 s (State.spanTrainTimeout s m) := by
  unfold State.spanTrainTimeout
  try dsimp only
  repeat' first
    | (show sub _ _ = true; decide +kernel)
    | with_reducible exact Touch.refl _
    | with_reducible apply Touch.to (State.spanTrainFailed_touch ..)
    | with_reducible refine Touch.ite ?_ ?_
    | split
    | dsimp only

theorem State.spanTrained_touch (s : State) (m : Nat) (role : Nat) (partner : Nat) (pport : Nat) : Touch 0x3F8030030000800 s (State.spanTrained s m role partner pport) := by
  unfold State.spanTrained
  try dsimp only
  repeat' first
    | (show sub _ _ = true; decide +kernel)
    | with_reducible exact Touch.refl _
    | with_reducible apply Touch.to (State.put_touch ..)
    | with_reducible apply Touch.to (State.modSpan_touch ..)
    | with_reducible apply Touch.to (State.spanEnter_touch ..)
    | with_reducible apply Touch.to (State.raise_touch ..)
    | with_reducible apply Touch.to (State.spanSweepAsk_touch ..)
    | with_reducible apply Touch.to (State.spanEndTraining_touch ..)
    | with_reducible apply Touch.to (State.spanTrainFailed_touch ..)
    | with_reducible refine Touch.ite ?_ ?_
    | (refine up_c010 ?_ (by decide +kernel); simp only [F.spPEvents_attached, F.spPEvents_hit_recovered, F.spPEvents_train_fail, F.spPStatus_partner_port, R.spPEvents, R.spPStatus]; omega)
    | split
    | dsimp only

theorem execHeartbeatSend_touch (s : State) : ∃ u, execHeartbeatSend s = .next u ∧ Touch 0x7F8370430000F60 s u := by
  unfold execHeartbeatSend
  refine act_touch s _ (by decide +kernel) ?_
  try dsimp only
  repeat' first
    | (show sub _ _ = true; decide +kernel)
    | with_reducible exact Touch.refl _
    | with_reducible apply Touch.to (State.spanBoundary_touch ..)
    | with_reducible refine Touch.ite ?_ ?_
    | split
    | dsimp only

theorem execLinkPacket_touch (m : Fin 4) (x : SpanRx) (s : State) : ∃ u, execLinkPacket m x s = .next u ∧ Touch 0x7FC370430000FE0 s u := by
  unfold execLinkPacket
  refine act_touch s _ (by decide +kernel) ?_
  try dsimp only
  repeat' first
    | (show sub _ _ = true; decide +kernel)
    | with_reducible exact Touch.refl _
    | with_reducible apply Touch.to (State.spanReceive_touch ..)
    | with_reducible refine Touch.ite ?_ ?_
    | split
    | dsimp only

theorem execSpanMaintenanceProbe_touch (m : Fin 4) (s : State) : ∃ u, execSpanMaintenanceProbe m s = .next u ∧ Touch 0x3F8270430000B60 s u := by
  unfold execSpanMaintenanceProbe
  refine act_touch s _ (by decide +kernel) ?_
  try dsimp only
  repeat' first
    | (show sub _ _ = true; decide +kernel)
    | with_reducible exact Touch.refl _
    | with_reducible apply Touch.to (State.spanProbeLost_touch ..)
    | with_reducible apply Touch.to (State.modSpan_touch ..)
    | with_reducible apply Touch.to (State.spanSweepAsk_touch ..)
    | with_reducible refine Touch.ite ?_ ?_
    | split
    | dsimp only

theorem execSpanPacketBoundary_touch (m : Fin 4) (s : State) : ∃ u, execSpanPacketBoundary m s = .next u ∧ Touch 0x7F8370430000F60 s u := by
  unfold execSpanPacketBoundary
  refine act_touch s _ (by decide +kernel) ?_
  try dsimp only
  repeat' first
    | (show sub _ _ = true; decide +kernel)
    | with_reducible exact Touch.refl _
    | with_reducible apply Touch.to (State.spanBoundary_touch ..)
    | dsimp only

theorem execSpanPacketReceive_touch (m : Fin 4) (x : SpanRx) (s : State) : ∃ u, execSpanPacketReceive m x s = .next u ∧ Touch 0x7FC370430000FE0 s u := by
  unfold execSpanPacketReceive
  refine act_touch s _ (by decide +kernel) ?_
  try dsimp only
  repeat' first
    | (show sub _ _ = true; decide +kernel)
    | with_reducible exact Touch.refl _
    | with_reducible apply Touch.to (State.spanReceive_touch ..)
    | dsimp only

theorem execSpanRangingEcho_touch (m : Fin 4) (rtt : Nat) (tt : Nat) (s : State) : ∃ u, execSpanRangingEcho m rtt tt s = .next u ∧ Touch 0x3F8270430000B60 s u := by
  unfold execSpanRangingEcho
  refine act_touch s _ (by decide +kernel) ?_
  try dsimp only
  repeat' first
    | (show sub _ _ = true; decide +kernel)
    | with_reducible exact Touch.refl _
    | with_reducible apply Touch.to (State.spanEcho_touch ..)
    | with_reducible refine Touch.ite ?_ ?_
    | split
    | dsimp only

end Sys2Proof.Machine
end

