-- ==== Sys2Proof/Laws/FrameDiscovery.lean ====
section
/-! SUPPORT. What each operation of Machine/Discovery.lean touches: the parts of its set (Laws/Touch.lean), and nothing else. -/

set_option linter.unusedSimpArgs false
set_option linter.unusedVariables false
set_option Elab.async false

namespace Sys2Proof.Machine

theorem State.alignSample_touch (s : State) (t : Nat) (frame : Nat) (rate : Nat) : Touch 0x18000010000000 s (State.alignSample s t frame rate) := by
  unfold State.alignSample
  try dsimp only
  repeat' first
    | (show sub _ _ = true; decide +kernel)
    | (show State.sizesOk _ = true → _; first | with_reducible exact id | (intro hz; simp only [State.sizesOk, listSet_length, List.length_map, List.length_replicate] at hz ⊢; first | exact hz | (rw [sizesOf_iff] at hz ⊢; and_intros <;> first | rfl | exact hz.1 | exact hz.2.1 | exact hz.2.2.1 | exact hz.2.2.2.1 | exact hz.2.2.2.2.1 | exact hz.2.2.2.2.2.1 | exact hz.2.2.2.2.2.2)))
    | (show _ ∧ _; and_intros <;> first | (apply Or.inl; decide +kernel) | (apply Or.inr; with_reducible rfl))
    | with_reducible exact Touch.refl _
    | with_reducible apply Touch.to (State.raise_touch ..)
    | with_reducible apply Touch.to (State.put_touch ..)
    | with_reducible refine Touch.ite ?_ ?_
    | split
    | dsimp only
    | with_reducible refine Touch.mk' ?_ rfl rfl ?_ ?_

theorem State.chainOut_touch (n : Nat) (s : State) : Touch 0x20 s (State.chainOut n s) := by
  induction n generalizing s with
  | zero => exact Touch.refl _
  | succ n ih =>
    unfold State.chainOut
    try dsimp only
    repeat' first
      | (show sub _ _ = true; decide +kernel)
      | with_reducible assumption
      | with_reducible exact Touch.refl _
      | with_reducible apply Touch.to (State.emit_touch ..)
      | with_reducible apply Touch.to (ih ..)
      | with_reducible refine Touch.ite ?_ ?_
      | with_reducible refine Touch.forEach ?_ (fun _ _ _ => ?_)
      | with_reducible refine Touch.foldl ?_ (fun _ _ _ => ?_)
      | split
      | dsimp only

theorem State.chainPulse_touch (s : State) : Touch 0x10000000 s (State.chainPulse s) := by
  unfold State.chainPulse
  try dsimp only
  repeat' first
    | (show sub _ _ = true; decide +kernel)
    | (show State.sizesOk _ = true → _; first | with_reducible exact id | (intro hz; simp only [State.sizesOk, listSet_length, List.length_map, List.length_replicate] at hz ⊢; first | exact hz | (rw [sizesOf_iff] at hz ⊢; and_intros <;> first | rfl | exact hz.1 | exact hz.2.1 | exact hz.2.2.1 | exact hz.2.2.2.1 | exact hz.2.2.2.2.1 | exact hz.2.2.2.2.2.1 | exact hz.2.2.2.2.2.2)))
    | (show _ ∧ _; and_intros <;> first | (apply Or.inl; decide +kernel) | (apply Or.inr; with_reducible rfl))
    | with_reducible exact Touch.refl _
    | with_reducible refine Touch.ite ?_ ?_
    | split
    | dsimp only
    | with_reducible refine Touch.mk' ?_ rfl rfl ?_ ?_

theorem State.chainTake_touch (s : State) : Touch 0x18000010000000 s (State.chainTake s) := by
  unfold State.chainTake
  try dsimp only
  repeat' first
    | (show sub _ _ = true; decide +kernel)
    | (show State.sizesOk _ = true → _; first | with_reducible exact id | (intro hz; simp only [State.sizesOk, listSet_length, List.length_map, List.length_replicate] at hz ⊢; first | exact hz | (rw [sizesOf_iff] at hz ⊢; and_intros <;> first | rfl | exact hz.1 | exact hz.2.1 | exact hz.2.2.1 | exact hz.2.2.2.1 | exact hz.2.2.2.2.1 | exact hz.2.2.2.2.2.1 | exact hz.2.2.2.2.2.2)))
    | (show _ ∧ _; and_intros <;> first | (apply Or.inl; decide +kernel) | (apply Or.inr; with_reducible rfl))
    | with_reducible exact Touch.refl _
    | with_reducible apply Touch.to (State.put_touch ..)
    | with_reducible apply Touch.to (State.raise_touch ..)
    | with_reducible apply Touch.to (State.setChipId_touch ..)
    | with_reducible refine Touch.ite ?_ ?_
    | split
    | dsimp only
    | with_reducible refine Touch.mk' ?_ rfl rfl ?_ ?_

theorem State.chainTimeout_touch (s : State) : Touch 0x10000000000000 s (State.chainTimeout s) := by
  unfold State.chainTimeout
  try dsimp only
  repeat' first
    | (show sub _ _ = true; decide +kernel)
    | with_reducible exact Touch.refl _
    | with_reducible apply Touch.to (State.put_touch ..)
    | with_reducible refine Touch.ite ?_ ?_
    | split
    | dsimp only

theorem State.chainTrain_touch (s : State) : Touch 0x20 s (State.chainTrain s) := by
  unfold State.chainTrain
  try dsimp only
  repeat' first
    | (show sub _ _ = true; decide +kernel)
    | with_reducible exact Touch.refl _
    | with_reducible apply Touch.to (State.chainOut_touch ..)
    | with_reducible refine Touch.ite ?_ ?_
    | split
    | dsimp only

theorem State.charterId_touch (s : State) : Touch 0x18000010000000 s (State.charterId s) := by
  unfold State.charterId
  try dsimp only
  repeat' first
    | (show sub _ _ = true; decide +kernel)
    | with_reducible exact Touch.refl _
    | with_reducible apply Touch.to (State.setChipId_touch ..)
    | with_reducible refine Touch.ite ?_ ?_
    | split
    | dsimp only

theorem State.discRecord_touch (s : State) (m : Nat) (r : DiscRec) : Touch 0x8000010000000 s (State.discRecord s m r) := by
  unfold State.discRecord
  try dsimp only
  repeat' first
    | (show sub _ _ = true; decide +kernel)
    | with_reducible assumption
    | with_reducible exact Touch.refl _
    | with_reducible apply Touch.to (State.storeRec_touch ..)
    | with_reducible apply Touch.to (State.discSend_touch ..)
    | with_reducible apply Touch.to (State.put_touch ..)
    | with_reducible refine Touch.ite ?_ ?_
    | with_reducible refine Touch.forEach ?_ (fun _ _ _ => ?_)
    | split
    | dsimp only

theorem State.setMaster_touch (s : State) (c : Nat) : Touch 0x18005010000080 s (State.setMaster s c) := by
  unfold State.setMaster
  try dsimp only
  repeat' first
    | (show sub _ _ = true; decide +kernel)
    | (show State.sizesOk _ = true → _; first | with_reducible exact id | (intro hz; simp only [State.sizesOk, listSet_length, List.length_map, List.length_replicate] at hz ⊢; first | exact hz | (rw [sizesOf_iff] at hz ⊢; and_intros <;> first | rfl | exact hz.1 | exact hz.2.1 | exact hz.2.2.1 | exact hz.2.2.2.1 | exact hz.2.2.2.2.1 | exact hz.2.2.2.2.2.1 | exact hz.2.2.2.2.2.2)))
    | (show _ ∧ _; and_intros <;> first | (apply Or.inl; decide +kernel) | (apply Or.inr; with_reducible rfl))
    | with_reducible exact Touch.refl _
    | with_reducible apply Touch.to (State.reselect_touch ..)
    | with_reducible apply Touch.to (State.raise_touch ..)
    | with_reducible apply Touch.to (State.put_touch ..)
    | with_reducible refine Touch.ite ?_ ?_
    | split
    | dsimp only
    | with_reducible refine Touch.mk' ?_ rfl rfl ?_ ?_

theorem State.setRoutes_touch (s : State) (t : List TreeNode) : Touch 0x3F0000000000000 s (State.setRoutes s t) := by
  unfold State.setRoutes
  try dsimp only
  repeat' first
    | (show sub _ _ = true; decide +kernel)
    | with_reducible assumption
    | with_reducible exact Touch.refl _
    | with_reducible apply Touch.setReg64
    | with_reducible apply Touch.to (State.setReg_touch ..)
    | with_reducible apply Touch.to (State.raise_touch ..)
    | with_reducible refine Touch.ite ?_ ?_
    | with_reducible refine Touch.forEach ?_ (fun _ _ _ => ?_)
    | (refine up_c010 ?_ (by decide +kernel); simp only [R.spRoute, R.spSerialLo]; omega)
    | split
    | dsimp only

theorem State.settleDisc_touch (s : State) : Touch 0x3F8005010000080 s (State.settleDisc s) := by
  unfold State.settleDisc
  try dsimp only
  repeat' first
    | (show sub _ _ = true; decide +kernel)
    | (show State.sizesOk _ = true → _; first | with_reducible exact id | (intro hz; simp only [State.sizesOk, listSet_length, List.length_map, List.length_replicate] at hz ⊢; first | exact hz | (rw [sizesOf_iff] at hz ⊢; and_intros <;> first | rfl | exact hz.1 | exact hz.2.1 | exact hz.2.2.1 | exact hz.2.2.2.1 | exact hz.2.2.2.2.1 | exact hz.2.2.2.2.2.1 | exact hz.2.2.2.2.2.2)))
    | (show _ ∧ _; and_intros <;> first | (apply Or.inl; decide +kernel) | (apply Or.inr; with_reducible rfl))
    | with_reducible assumption
    | with_reducible exact Touch.refl _
    | with_reducible apply Touch.to (State.put_touch ..)
    | with_reducible apply Touch.to (State.raise_touch ..)
    | with_reducible apply Touch.to (State.setChipId_touch ..)
    | with_reducible apply Touch.to (State.setRoutes_touch ..)
    | with_reducible apply Touch.to (State.putB_touch ..)
    | with_reducible apply Touch.to (State.setMaster_touch ..)
    | with_reducible refine Touch.ite ?_ ?_
    | with_reducible refine Touch.forEach ?_ (fun _ _ _ => ?_)
    | (refine up_c010 ?_ (by decide +kernel); simp only [F.spPStatus_partner_chip, F.spPStatus_tree_child, F.spPStatus_tree_parent, R.spPStatus]; omega)
    | split
    | dsimp only
    | with_reducible refine Touch.mk' ?_ rfl rfl ?_ ?_

theorem State.takeMessageIn_touch (s : State) (m : Nat) : Touch 0x10200010000A20 s (State.takeMessageIn s m) := by
  unfold State.takeMessageIn
  try dsimp only
  repeat' first
    | (show sub _ _ = true; decide +kernel)
    | with_reducible exact Touch.refl _
    | (apply Touch.weaken; apply State.spanTake_touch; assumption)
    | with_reducible apply Touch.to (State.takeLocal_touch ..)
    | with_reducible apply Touch.to (State.raise_touch ..)
    | with_reducible apply Touch.to (State.bump_touch ..)
    | split
    | dsimp only

theorem State.timePacket_touch (s : State) (m : Nat) : Touch 0x1830D010000EE0 s (State.timePacket s m) := by
  unfold State.timePacket
  try dsimp only
  repeat' first
    | (show sub _ _ = true; decide +kernel)
    | with_reducible exact Touch.refl _
    | with_reducible apply Touch.to (State.modSpan_touch ..)
    | with_reducible apply Touch.to (State.parentLost_touch ..)
    | with_reducible apply Touch.to (State.put_touch ..)
    | with_reducible apply Touch.to (State.srcLabel_touch ..)
    | with_reducible apply Touch.to (State.srcEdge_touch ..)
    | with_reducible apply Touch.to (State.alignSample_touch ..)
    | with_reducible refine Touch.ite ?_ ?_
    | split
    | dsimp only

theorem State.timeSend_touch (s : State) : Touch 0x10000080 s (State.timeSend s) := by
  unfold State.timeSend
  try dsimp only
  repeat' first
    | (show sub _ _ = true; decide +kernel)
    | with_reducible assumption
    | with_reducible exact Touch.refl _
    | with_reducible apply Touch.to (State.advanceTo_touch ..)
    | with_reducible apply Touch.to (State.modSpan_touch ..)
    | with_reducible refine Touch.ite ?_ ?_
    | with_reducible refine Touch.forEach ?_ (fun _ _ _ => ?_)
    | split
    | dsimp only

theorem execChainIdTake_touch (s : State) : ∃ u, execChainIdTake s = .next u ∧ Touch 0x18250430000B60 s u := by
  unfold execChainIdTake
  refine act_touch s _ (by decide +kernel) ?_
  try dsimp only
  repeat' first
    | (show sub _ _ = true; decide +kernel)
    | with_reducible exact Touch.refl _
    | with_reducible apply Touch.to (State.chainTake_touch ..)
    | dsimp only

theorem execChainPulse_touch (s : State) : ∃ u, execChainPulse s = .next u ∧ Touch 0x8250430000B60 s u := by
  unfold execChainPulse
  refine act_touch s _ (by decide +kernel) ?_
  try dsimp only
  repeat' first
    | (show sub _ _ = true; decide +kernel)
    | with_reducible exact Touch.refl _
    | with_reducible apply Touch.to (State.chainPulse_touch ..)
    | dsimp only

theorem execChainTimeout_touch (s : State) : ∃ u, execChainTimeout s = .next u ∧ Touch 0x18250430000B60 s u := by
  unfold execChainTimeout
  refine act_touch s _ (by decide +kernel) ?_
  try dsimp only
  repeat' first
    | (show sub _ _ = true; decide +kernel)
    | with_reducible exact Touch.refl _
    | with_reducible apply Touch.to (State.chainTimeout_touch ..)
    | dsimp only

theorem execChainTrain_touch (s : State) : ∃ u, execChainTrain s = .next u ∧ Touch 0x8250430000B60 s u := by
  unfold execChainTrain
  refine act_touch s _ (by decide +kernel) ?_
  try dsimp only
  repeat' first
    | (show sub _ _ = true; decide +kernel)
    | with_reducible exact Touch.refl _
    | with_reducible apply Touch.to (State.chainTrain_touch ..)
    | dsimp only

theorem execDiscRecord_touch (m : Fin 4) (r : DiscRec) (s : State) : ∃ u, execDiscRecord m r s = .next u ∧ Touch 0x8250430000B60 s u := by
  unfold execDiscRecord
  refine act_touch s _ (by decide +kernel) ?_
  try dsimp only
  repeat' first
    | (show sub _ _ = true; decide +kernel)
    | with_reducible exact Touch.refl _
    | with_reducible apply Touch.to (State.discRecord_touch ..)
    | dsimp only

theorem execDiscoveryPermitRetry_touch (s : State) : ∃ u, execDiscoveryPermitRetry s = .next u ∧ Touch 0x8270430000B60 s u := by
  unfold execDiscoveryPermitRetry
  refine act_touch s _ (by decide +kernel) ?_
  try dsimp only
  repeat' first
    | (show sub _ _ = true; decide +kernel)
    | with_reducible exact Touch.refl _
    | with_reducible apply Touch.to (State.discAsk_touch ..)
    | with_reducible refine Touch.ite ?_ ?_
    | split
    | dsimp only

theorem execDiscoverySettled_touch (s : State) : ∃ u, execDiscoverySettled s = .next u ∧ Touch 0x3F8255430000BE0 s u := by
  unfold execDiscoverySettled
  refine act_touch s _ (by decide +kernel) ?_
  try dsimp only
  repeat' first
    | (show sub _ _ = true; decide +kernel)
    | with_reducible exact Touch.refl _
    | with_reducible apply Touch.to (State.settleDisc_touch ..)
    | dsimp only

theorem execMasterChange_touch (s : State) : ∃ u, execMasterChange s = .next u ∧ Touch 0x18255430000BE0 s u := by
  unfold execMasterChange
  refine act_touch s _ (by decide +kernel) ?_
  try dsimp only
  repeat' first
    | (show sub _ _ = true; decide +kernel)
    | with_reducible exact Touch.refl _
    | with_reducible apply Touch.to (State.setMaster_touch ..)
    | dsimp only

theorem execTakeMessage_touch (m : Fin 4) (s : State) : ∃ u, execTakeMessage m s = .next u ∧ Touch 0x18250430000B60 s u := by
  unfold execTakeMessage
  refine act_touch s _ (by decide +kernel) ?_
  try dsimp only
  repeat' first
    | (show sub _ _ = true; decide +kernel)
    | with_reducible exact Touch.refl _
    | with_reducible apply Touch.to (State.takeMessageIn_touch ..)
    | dsimp only

theorem execTimePacket_touch (m : Fin 4) (s : State) : ∃ u, execTimePacket m s = .next u ∧ Touch 0x1835D430000FE0 s u := by
  unfold execTimePacket
  refine act_touch s _ (by decide +kernel) ?_
  try dsimp only
  repeat' first
    | (show sub _ _ = true; decide +kernel)
    | with_reducible exact Touch.refl _
    | with_reducible apply Touch.to (State.timePacket_touch ..)
    | dsimp only

theorem execTimeSend_touch (s : State) : ∃ u, execTimeSend s = .next u ∧ Touch 0x8250430000BE0 s u := by
  unfold execTimeSend
  refine act_touch s _ (by decide +kernel) ?_
  try dsimp only
  repeat' first
    | (show sub _ _ = true; decide +kernel)
    | with_reducible exact Touch.refl _
    | with_reducible apply Touch.to (State.timeSend_touch ..)
    | dsimp only

end Sys2Proof.Machine
end

