-- ==== Sys2Proof/Laws/FrameTwin.lean ====
section
/-! SUPPORT. What each operation of Machine/Twin.lean touches: the parts of its set (Laws/Touch.lean), and nothing else. -/

set_option linter.unusedSimpArgs false
set_option linter.unusedVariables false
set_option Elab.async false

namespace Sys2Proof.Machine

theorem State.modTw_touch (s : State) (f : Tw → Tw) : Touch 0x20000000 s (State.modTw s f) := by
  unfold State.modTw
  try dsimp only
  repeat' first
    | (show sub _ _ = true; decide +kernel)
    | (show State.sizesOk _ = true → _; first | with_reducible exact id | (intro hz; simp only [State.sizesOk, listSet_length, List.length_map, List.length_replicate] at hz ⊢; first | exact hz | (rw [sizesOf_iff] at hz ⊢; and_intros <;> first | rfl | exact hz.1 | exact hz.2.1 | exact hz.2.2.1 | exact hz.2.2.2.1 | exact hz.2.2.2.2.1 | exact hz.2.2.2.2.2.1 | exact hz.2.2.2.2.2.2)))
    | (show _ ∧ _; and_intros <;> first | (apply Or.inl; decide +kernel) | (apply Or.inr; with_reducible rfl))
    | with_reducible exact Touch.refl _
    | dsimp only
    | with_reducible refine Touch.mk' ?_ rfl rfl ?_ ?_

theorem State.twinYield_touch (s : State) : Touch 0x20000000 s (State.twinYield s) := by
  unfold State.twinYield
  try dsimp only
  repeat' first
    | (show sub _ _ = true; decide +kernel)
    | with_reducible exact Touch.refl _
    | with_reducible apply Touch.to (State.modTw_touch ..)
    | with_reducible refine Touch.ite ?_ ?_
    | split
    | dsimp only

theorem State.pair_touch (s : State) (h : Heart) (chip : Nat) : Touch 0x20000020000000 s (State.pair s h chip) := by
  unfold State.pair
  try dsimp only
  repeat' first
    | (show sub _ _ = true; decide +kernel)
    | with_reducible exact Touch.refl _
    | with_reducible apply Touch.to (State.put_touch ..)
    | with_reducible apply Touch.to (State.modTw_touch ..)
    | with_reducible apply Touch.to (State.raise_touch ..)
    | with_reducible apply Touch.to (State.twinYield_touch ..)
    | with_reducible refine Touch.ite ?_ ?_
    | split
    | dsimp only

theorem State.mirrorPipe_touch (s : State) (c : Nat) : Touch 0x30000000 s (State.mirrorPipe s c) := by
  unfold State.mirrorPipe
  try dsimp only
  repeat' first
    | (show sub _ _ = true; decide +kernel)
    | with_reducible assumption
    | with_reducible exact Touch.refl _
    | with_reducible apply Touch.to (State.mirrorItem_touch ..)
    | with_reducible apply Touch.to (State.mirrorWaiting_touch ..)
    | with_reducible apply Touch.to (State.mirrorPlacement_touch ..)
    | with_reducible refine Touch.ite ?_ ?_
    | with_reducible refine Touch.forEach ?_ (fun _ _ _ => ?_)
    | split
    | dsimp only

theorem State.snapshot_touch (s : State) : Touch 0x30000040 s (State.snapshot s) := by
  unfold State.snapshot
  try dsimp only
  repeat' first
    | (show sub _ _ = true; decide +kernel)
    | with_reducible assumption
    | with_reducible exact Touch.refl _
    | with_reducible apply Touch.to (State.mirrorDev_touch ..)
    | with_reducible apply Touch.to (State.mirrorPipe_touch ..)
    | with_reducible apply Touch.to (State.mirrorCtx_touch ..)
    | with_reducible apply Touch.to (State.mirrorCat_touch ..)
    | with_reducible refine Touch.forEach ?_ (fun _ _ _ => ?_)
    | dsimp only

theorem State.snapshotDue_touch (s : State) : Touch 0x30000040 s (State.snapshotDue s) := by
  unfold State.snapshotDue
  try dsimp only
  repeat' first
    | (show sub _ _ = true; decide +kernel)
    | with_reducible exact Touch.refl _
    | with_reducible apply Touch.to (State.modTw_touch ..)
    | with_reducible apply Touch.to (State.snapshot_touch ..)
    | with_reducible refine Touch.ite ?_ ?_
    | split
    | dsimp only

theorem State.heartYield_touch (s : State) (h : Heart) (diff : Nat) : Touch 0x20000000 s (State.heartYield s h diff) := by
  unfold State.heartYield
  try dsimp only
  repeat' first
    | (show sub _ _ = true; decide +kernel)
    | with_reducible assumption
    | with_reducible exact Touch.refl _
    | with_reducible apply Touch.to (State.modTw_touch ..)
    | with_reducible refine Touch.ite ?_ ?_
    | with_reducible refine Touch.foldl ?_ (fun _ _ _ => ?_)
    | with_reducible refine Touch.foldl_fst ?_ (fun _ _ _ => ?_)
    | with_reducible refine Touch.foldl_snd ?_ (fun _ _ _ => ?_)
    | split
    | dsimp only

theorem State.heartTake_touch (s : State) (h : Heart) (chip : Nat) (maps : Bool) : Touch 0x20000030000040 s (State.heartTake s h chip maps) := by
  unfold State.heartTake
  try dsimp only
  repeat' first
    | (show sub _ _ = true; decide +kernel)
    | with_reducible exact Touch.refl _
    | with_reducible apply Touch.to (State.putB_touch ..)
    | with_reducible apply Touch.to (State.put_touch ..)
    | with_reducible apply Touch.to (State.modTw_touch ..)
    | with_reducible apply Touch.to (State.raise_touch ..)
    | with_reducible apply Touch.to (State.pair_touch ..)
    | with_reducible apply Touch.to (State.snapshotDue_touch ..)
    | with_reducible apply Touch.to (State.heartYield_touch ..)
    | with_reducible refine Touch.ite ?_ ?_
    | split
    | dsimp only

theorem State.heartbeatIn_touch (s : State) (maps : Bool) : Touch 0x20100030000040 s (State.heartbeatIn s maps) := by
  unfold State.heartbeatIn
  try dsimp only
  repeat' first
    | (show sub _ _ = true; decide +kernel)
    | with_reducible exact Touch.refl _
    | (apply Touch.weaken; apply State.spanTake_touch; assumption)
    | with_reducible apply Touch.to (State.modTw_touch ..)
    | with_reducible apply Touch.to (State.inject_touch ..)
    | with_reducible apply Touch.to (State.heartTake_touch ..)
    | with_reducible refine Touch.ite ?_ ?_
    | (show _ < 32; decide)
    | split
    | dsimp only

theorem State.mirCat_touch (s : State) (i : Nat) (b : List Byte) : Touch 0x3FF000000040000 s (State.mirCat s i b) := by
  unfold State.mirCat
  try dsimp only
  repeat' first
    | (show sub _ _ = true; decide +kernel)
    | with_reducible exact Touch.refl _
    | with_reducible apply Touch.to (State.catPut_touch ..)
    | with_reducible apply Touch.to (State.catDrop_touch ..)
    | with_reducible apply Touch.to (State.loadShow_touch ..)
    | with_reducible refine Touch.ite ?_ ?_
    | split
    | dsimp only

theorem State.mirCtx_touch (s : State) (c : Nat) (b : List Byte) : Touch 0x200000000020000 s (State.mirCtx s c b) := by
  unfold State.mirCtx
  try dsimp only
  repeat' first
    | (show sub _ _ = true; decide +kernel)
    | with_reducible exact Touch.refl _
    | with_reducible apply Touch.setRegs
    | with_reducible apply Touch.to (State.modCtx_touch ..)
    | with_reducible refine Touch.ite ?_ ?_
    | (first | (refine up_40000 ?_ (by decide +kernel); simp only [R.pxCtrl, R.pxLastTimeLo]; omega) | (intro j hj; refine up_40000 ?_ (by decide +kernel); refine Nat.le_trans ?_ hj; simp only [R.pxCtrl, R.pxLastTimeLo]; omega))
    | split
    | dsimp only

theorem State.mirDev_touch (s : State) (n : Nat) (a : Nat) (b : List Byte) : Touch 0x3E0030020002800 s (State.mirDev s n a b) := by
  unfold State.mirDev
  try dsimp only
  repeat' first
    | (show sub _ _ = true; decide +kernel)
    | with_reducible exact Touch.refl _
    | with_reducible apply Touch.setRegs
    | with_reducible apply Touch.to (State.modTw_touch ..)
    | with_reducible apply Touch.to (State.clearRange_touch ..)
    | with_reducible apply Touch.to (State.dropSweep_touch ..)
    | with_reducible apply Touch.to (State.twinDeriveAll_touch ..)
    | with_reducible apply Touch.to (State.sweepQueue_touch ..)
    | with_reducible apply Touch.to (State.twinDerive_touch ..)
    | with_reducible refine Touch.ite ?_ ?_
    | (first | (refine up_20000 ?_ (by decide +kernel); simp only [R.gpDevId0, R.gpDevState, R.gpRangeDev0]; omega) | (intro j hj; refine up_20000 ?_ (by decide +kernel); refine Nat.le_trans ?_ hj; simp only [R.gpDevId0, R.gpDevState, R.gpRangeDev0]; omega))
    | split
    | dsimp only

theorem State.mirEvt_touch (s : State) (n : Nat) (a : Nat) (p : Nat) (b : List Byte) : Touch 0x20008000 s (State.mirEvt s n a p b) := by
  unfold State.mirEvt
  try dsimp only
  repeat' first
    | (show sub _ _ = true; decide +kernel)
    | with_reducible exact Touch.refl _
    | with_reducible apply Touch.to (State.modTw_touch ..)
    | with_reducible apply Touch.to (State.setSeq_touch ..)
    | dsimp only

theorem State.mirHold_touch (s : State) (key : Nat) (c : Nat) (b : List Byte) : Touch 0x400000020000010 s (State.mirHold s key c b) := by
  unfold State.mirHold
  try dsimp only
  repeat' first
    | (show sub _ _ = true; decide +kernel)
    | with_reducible exact Touch.refl _
    | with_reducible apply Touch.to (State.modTw_touch ..)
    | with_reducible apply Touch.to (State.setRamBytes_touch ..)
    | dsimp only

theorem State.mirPlaced_touch (s : State) (key : Nat) (b : List Byte) : Touch 0x20000000 s (State.mirPlaced s key b) := by
  unfold State.mirPlaced
  try dsimp only
  repeat' first
    | (show sub _ _ = true; decide +kernel)
    | with_reducible exact Touch.refl _
    | with_reducible apply Touch.to (State.modTw_touch ..)
    | dsimp only

theorem State.mirWaiting_touch (s : State) (n : Nat) (key : Nat) (c : Nat) (b : List Byte) : Touch 0x80000 s (State.mirWaiting s n key c b) := by
  unfold State.mirWaiting
  try dsimp only
  repeat' first
    | (show sub _ _ = true; decide +kernel)
    | with_reducible exact Touch.refl _
    | with_reducible apply Touch.to (State.modCu_touch ..)
    | split
    | dsimp only

theorem State.mirItem_touch (s : State) (h : List Byte) (b : List Byte) : Touch 0x7FF0300200EA810 s (State.mirItem s h b) := by
  unfold State.mirItem
  try dsimp only
  repeat' first
    | (show sub _ _ = true; decide +kernel)
    | with_reducible exact Touch.refl _
    | with_reducible apply Touch.to (State.mirDev_touch ..)
    | with_reducible apply Touch.to (State.mirCtx_touch ..)
    | with_reducible apply Touch.to (State.mirCat_touch ..)
    | with_reducible apply Touch.to (State.mirHold_touch ..)
    | with_reducible apply Touch.to (State.mirEvt_touch ..)
    | with_reducible apply Touch.to (State.mirPlaced_touch ..)
    | with_reducible apply Touch.to (State.mirWaiting_touch ..)
    | with_reducible refine Touch.ite ?_ ?_
    | split
    | dsimp only

theorem State.mirrorIn_touch (s : State) : Touch 0x7FF0300300EA810 s (State.mirrorIn s) := by
  unfold State.mirrorIn
  try dsimp only
  repeat' first
    | (show sub _ _ = true; decide +kernel)
    | with_reducible exact Touch.refl _
    | (apply Touch.weaken; apply State.spanTake_touch; assumption)
    | with_reducible apply Touch.to (State.modTw_touch ..)
    | with_reducible apply Touch.to (State.mirItem_touch ..)
    | with_reducible refine Touch.ite ?_ ?_
    | split
    | dsimp only

theorem State.ownLose_touch (s : State) (m : Nat) : Touch 0x3FC000056C03920 s (State.ownLose s m) := by
  unfold State.ownLose
  try dsimp only
  repeat' first
    | (show sub _ _ = true; decide +kernel)
    | with_reducible assumption
    | with_reducible exact Touch.refl _
    | with_reducible apply Touch.to (State.raise_touch ..)
    | with_reducible apply Touch.to (State.put_touch ..)
    | with_reducible apply Touch.to (State.treeDropped_touch ..)
    | with_reducible refine Touch.ite ?_ ?_
    | with_reducible refine Touch.forEach ?_ (fun _ _ _ => ?_)
    | split
    | dsimp only

theorem State.treeTaken_touch (s : State) (n : Nat) : Touch 0x300000000086000 s (State.treeTaken s n) := by
  unfold State.treeTaken
  try dsimp only
  repeat' first
    | (show sub _ _ = true; decide +kernel)
    | with_reducible assumption
    | with_reducible exact Touch.refl _
    | with_reducible apply Touch.to (State.modDev_touch ..)
    | with_reducible apply Touch.to (State.setDevSt_touch ..)
    | with_reducible apply Touch.to (State.modCu_touch ..)
    | with_reducible apply Touch.to (State.plansAgain_touch ..)
    | with_reducible apply Touch.to (State.attachQueue_touch ..)
    | with_reducible refine Touch.ite ?_ ?_
    | with_reducible refine Touch.forEach ?_ (fun _ _ _ => ?_)
    | split
    | dsimp only

theorem State.ownTake_touch (s : State) (m : Nat) : Touch 0x320000020086000 s (State.ownTake s m) := by
  unfold State.ownTake
  try dsimp only
  repeat' first
    | (show sub _ _ = true; decide +kernel)
    | with_reducible assumption
    | with_reducible exact Touch.refl _
    | with_reducible apply Touch.to (State.put_touch ..)
    | with_reducible apply Touch.to (State.modTw_touch ..)
    | with_reducible apply Touch.to (State.treeTaken_touch ..)
    | with_reducible refine Touch.ite ?_ ?_
    | with_reducible refine Touch.forEach ?_ (fun _ _ _ => ?_)
    | split
    | dsimp only

theorem State.razeTrees_touch (s : State) : Touch 0x3FD000076C1F920 s (State.razeTrees s) := by
  unfold State.razeTrees
  try dsimp only
  repeat' first
    | (show sub _ _ = true; decide +kernel)
    | with_reducible assumption
    | with_reducible exact Touch.refl _
    | with_reducible apply Touch.to (State.modTw_touch ..)
    | with_reducible apply Touch.to (State.busReset_touch ..)
    | with_reducible refine Touch.forEach ?_ (fun _ _ _ => ?_)
    | dsimp only

theorem State.soloExpire_touch (s : State) : Touch 0x320000020086000 s (State.soloExpire s) := by
  unfold State.soloExpire
  try dsimp only
  repeat' first
    | (show sub _ _ = true; decide +kernel)
    | with_reducible exact Touch.refl _
    | with_reducible apply Touch.to (State.put_touch ..)
    | with_reducible apply Touch.to (State.ownTake_touch ..)
    | with_reducible refine Touch.ite ?_ ?_
    | split
    | dsimp only

theorem State.takeOver_touch (s : State) : Touch 0x320000020086000 s (State.takeOver s) := by
  unfold State.takeOver
  try dsimp only
  repeat' first
    | (show sub _ _ = true; decide +kernel)
    | with_reducible assumption
    | with_reducible exact Touch.refl _
    | with_reducible apply Touch.to (State.bump_touch ..)
    | with_reducible apply Touch.to (State.modTw_touch ..)
    | with_reducible apply Touch.to (State.ownTake_touch ..)
    | with_reducible apply Touch.to (State.startCtl_touch ..)
    | with_reducible refine Touch.ite ?_ ?_
    | with_reducible refine Touch.forEach ?_ (fun _ _ _ => ?_)
    | split
    | dsimp only

theorem State.twinStart_touch (s : State) : Touch 0x3FC000056C03920 s (State.twinStart s) := by
  unfold State.twinStart
  try dsimp only
  repeat' first
    | (show sub _ _ = true; decide +kernel)
    | with_reducible assumption
    | with_reducible exact Touch.refl _
    | with_reducible apply Touch.to (State.put_touch ..)
    | with_reducible apply Touch.to (State.treeDropped_touch ..)
    | with_reducible refine Touch.ite ?_ ?_
    | with_reducible refine Touch.forEach ?_ (fun _ _ _ => ?_)
    | split
    | dsimp only

theorem State.twinStop_touch (s : State) : Touch 0x20000020000000 s (State.twinStop s) := by
  unfold State.twinStop
  try dsimp only
  repeat' first
    | (show sub _ _ = true; decide +kernel)
    | (show State.sizesOk _ = true → _; first | with_reducible exact id | (intro hz; simp only [State.sizesOk, listSet_length, List.length_map, List.length_replicate] at hz ⊢; first | exact hz | (rw [sizesOf_iff] at hz ⊢; and_intros <;> first | rfl | exact hz.1 | exact hz.2.1 | exact hz.2.2.1 | exact hz.2.2.2.1 | exact hz.2.2.2.2.1 | exact hz.2.2.2.2.2.1 | exact hz.2.2.2.2.2.2)))
    | (show _ ∧ _; and_intros <;> first | (apply Or.inl; decide +kernel) | (apply Or.inr; with_reducible rfl))
    | with_reducible exact Touch.refl _
    | with_reducible apply Touch.to (State.put_touch ..)
    | dsimp only
    | with_reducible refine Touch.mk' ?_ rfl rfl ?_ ?_

theorem State.twinEnable_touch (s : State) (on : Bool) : Touch 0x3FC000076C03920 s (State.twinEnable s on) := by
  unfold State.twinEnable
  try dsimp only
  repeat' first
    | (show sub _ _ = true; decide +kernel)
    | with_reducible exact Touch.refl _
    | with_reducible apply Touch.to (State.twinStart_touch ..)
    | with_reducible apply Touch.to (State.twinStop_touch ..)
    | with_reducible refine Touch.ite ?_ ?_
    | split
    | dsimp only

theorem State.twinFrame_touch (s : State) : Touch 0x320000020086000 s (State.twinFrame s) := by
  unfold State.twinFrame
  try dsimp only
  repeat' first
    | (show sub _ _ = true; decide +kernel)
    | with_reducible exact Touch.refl _
    | with_reducible apply Touch.to (State.bump_touch ..)
    | with_reducible apply Touch.to (State.modTw_touch ..)
    | with_reducible apply Touch.to (State.takeOver_touch ..)
    | with_reducible apply Touch.to (State.ownTake_touch ..)
    | with_reducible refine Touch.ite ?_ ?_
    | split
    | dsimp only

theorem State.twinMissed_touch (s : State) : Touch 0x30300030000E20 s (State.twinMissed s) := by
  unfold State.twinMissed
  try dsimp only
  repeat' first
    | (show sub _ _ = true; decide +kernel)
    | with_reducible exact Touch.refl _
    | with_reducible apply Touch.to (State.put_touch ..)
    | with_reducible apply Touch.to (State.raise_touch ..)
    | with_reducible apply Touch.to (State.detect_touch ..)
    | with_reducible apply Touch.to (State.modTw_touch ..)
    | with_reducible refine Touch.ite ?_ ?_
    | (show _ < 32; decide)
    | split
    | dsimp only

theorem State.yieldEffect_touch (s : State) : Touch 0x3FC000076C87920 s (State.yieldEffect s) := by
  unfold State.yieldEffect
  try dsimp only
  repeat' first
    | (show sub _ _ = true; decide +kernel)
    | with_reducible assumption
    | with_reducible exact Touch.refl _
    | with_reducible apply Touch.to (State.modTw_touch ..)
    | with_reducible apply Touch.to (State.ownLose_touch ..)
    | with_reducible apply Touch.to (State.modCu_touch ..)
    | with_reducible apply Touch.to (State.ownTake_touch ..)
    | with_reducible refine Touch.ite ?_ ?_
    | with_reducible refine Touch.forEach ?_ (fun _ _ _ => ?_)
    | split
    | dsimp only

theorem execHeartbeatReceive_touch (maps : Bool) (s : State) : ∃ u, execHeartbeatReceive maps s = .next u ∧ Touch 0x28350430000B60 s u := by
  unfold execHeartbeatReceive
  refine act_touch s _ (by decide +kernel) ?_
  try dsimp only
  repeat' first
    | (show sub _ _ = true; decide +kernel)
    | with_reducible exact Touch.refl _
    | with_reducible apply Touch.to (State.heartbeatIn_touch ..)
    | dsimp only

theorem execMirrorMessage_touch (s : State) : ∃ u, execMirrorMessage s = .next u ∧ Touch 0x7FF2704300EAB70 s u := by
  unfold execMirrorMessage
  refine act_touch s _ (by decide +kernel) ?_
  try dsimp only
  repeat' first
    | (show sub _ _ = true; decide +kernel)
    | with_reducible exact Touch.refl _
    | with_reducible apply Touch.to (State.mirrorIn_touch ..)
    | dsimp only

theorem execSoloWaitExpire_touch (s : State) : ∃ u, execSoloWaitExpire s = .next u ∧ Touch 0x328250430086B60 s u := by
  unfold execSoloWaitExpire
  refine act_touch s _ (by decide +kernel) ?_
  try dsimp only
  repeat' first
    | (show sub _ _ = true; decide +kernel)
    | with_reducible exact Touch.refl _
    | with_reducible apply Touch.to (State.soloExpire_touch ..)
    | dsimp only

theorem execTwinTakeover_touch (s : State) : ∃ u, execTwinTakeover s = .next u ∧ Touch 0x38350430000F60 s u := by
  unfold execTwinTakeover
  refine act_touch s _ (by decide +kernel) ?_
  try dsimp only
  repeat' first
    | (show sub _ _ = true; decide +kernel)
    | with_reducible exact Touch.refl _
    | with_reducible apply Touch.to (State.twinMissed_touch ..)
    | dsimp only

theorem execYieldEffect_touch (s : State) : ∃ u, execYieldEffect s = .next u ∧ Touch 0x3FC250476C87B60 s u := by
  unfold execYieldEffect
  refine act_touch s _ (by decide +kernel) ?_
  try dsimp only
  repeat' first
    | (show sub _ _ = true; decide +kernel)
    | with_reducible exact Touch.refl _
    | with_reducible apply Touch.to (State.yieldEffect_touch ..)
    | dsimp only

end Sys2Proof.Machine
end

