-- ==== Sys2Proof/Laws/FrameFrames.lean ====
section
/-! SUPPORT. What each operation of Machine/Frames.lean touches: the parts of its set (Laws/Touch.lean), and nothing else. -/

set_option linter.unusedSimpArgs false
set_option linter.unusedVariables false
set_option Elab.async false

namespace Sys2Proof.Machine

theorem State.countMissed_touch (s : State) (n : Nat) (f : Nat) : Touch 0x610300012021E30 s (State.countMissed s n f) := by
  unfold State.countMissed
  try dsimp only
  repeat' first
    | (show sub _ _ = true; decide +kernel)
    | with_reducible assumption
    | with_reducible exact Touch.refl _
    | with_reducible apply Touch.to (State.slotMissed_touch ..)
    | with_reducible refine Touch.ite ?_ ?_
    | with_reducible refine Touch.forEach ?_ (fun _ _ _ => ?_)
    | split
    | dsimp only

theorem State.rateApply_touch (s : State) : Touch 0x3FF00D000080080 s (State.rateApply s) := by
  unfold State.rateApply
  try dsimp only
  repeat' first
    | (show sub _ _ = true; decide +kernel)
    | (show State.sizesOk _ = true → _; first | with_reducible exact id | (intro hz; simp only [State.sizesOk, listSet_length, List.length_map, List.length_replicate] at hz ⊢; first | exact hz | (rw [sizesOf_iff] at hz ⊢; and_intros <;> first | rfl | exact hz.1 | exact hz.2.1 | exact hz.2.2.1 | exact hz.2.2.2.1 | exact hz.2.2.2.2.1 | exact hz.2.2.2.2.2.1 | exact hz.2.2.2.2.2.2)))
    | (show _ ∧ _; and_intros <;> first | (apply Or.inl; decide +kernel) | (apply Or.inr; with_reducible rfl))
    | with_reducible exact Touch.refl _
    | with_reducible apply Touch.to (State.raise_touch ..)
    | with_reducible apply Touch.to (State.put_touch ..)
    | with_reducible apply Touch.to (State.readmitAll_touch ..)
    | dsimp only
    | with_reducible refine Touch.mk' ?_ rfl rfl ?_ ?_

theorem State.shiftFrames_touch (s : State) (d : Nat) : Touch 0x20BE2000 s (State.shiftFrames s d) := by
  unfold State.shiftFrames
  try dsimp only
  repeat' first
    | (show sub _ _ = true; decide +kernel)
    | (show State.sizesOk _ = true → _; first | with_reducible exact id | (intro hz; simp only [State.sizesOk, listSet_length, List.length_map, List.length_replicate] at hz ⊢; first | exact hz | (rw [sizesOf_iff] at hz ⊢; and_intros <;> first | rfl | exact hz.1 | exact hz.2.1 | exact hz.2.2.1 | exact hz.2.2.2.1 | exact hz.2.2.2.2.1 | exact hz.2.2.2.2.2.1 | exact hz.2.2.2.2.2.2)))
    | (show _ ∧ _; and_intros <;> first | (apply Or.inl; decide +kernel) | (apply Or.inr; with_reducible rfl))
    | with_reducible exact Touch.refl _
    | with_reducible refine Touch.ite ?_ ?_
    | split
    | dsimp only
    | with_reducible refine Touch.mk' ?_ rfl rfl ?_ ?_

theorem State.renumber_touch (s : State) : Touch 0x10002030BE2000 s (State.renumber s) := by
  unfold State.renumber
  try dsimp only
  repeat' first
    | (show sub _ _ = true; decide +kernel)
    | (show State.sizesOk _ = true → _; first | with_reducible exact id | (intro hz; simp only [State.sizesOk, listSet_length, List.length_map, List.length_replicate] at hz ⊢; first | exact hz | (rw [sizesOf_iff] at hz ⊢; and_intros <;> first | rfl | exact hz.1 | exact hz.2.1 | exact hz.2.2.1 | exact hz.2.2.2.1 | exact hz.2.2.2.2.1 | exact hz.2.2.2.2.2.1 | exact hz.2.2.2.2.2.2)))
    | (show _ ∧ _; and_intros <;> first | (apply Or.inl; decide +kernel) | (apply Or.inr; with_reducible rfl))
    | with_reducible exact Touch.refl _
    | with_reducible apply Touch.to (State.shiftFrames_touch ..)
    | with_reducible apply Touch.to (State.raise_touch ..)
    | with_reducible apply Touch.to (State.put_touch ..)
    | split
    | dsimp only
    | with_reducible refine Touch.mk' ?_ rfl rfl ?_ ?_

theorem State.frameNext_touch (s : State) : Touch 0x3FFFFF030BE2AA0 s (State.frameNext s) := by
  unfold State.frameNext
  try dsimp only
  repeat' first
    | (show sub _ _ = true; decide +kernel)
    | (show State.sizesOk _ = true → _; first | with_reducible exact id | (intro hz; simp only [State.sizesOk, listSet_length, List.length_map, List.length_replicate] at hz ⊢; first | exact hz | (rw [sizesOf_iff] at hz ⊢; and_intros <;> first | rfl | exact hz.1 | exact hz.2.1 | exact hz.2.2.1 | exact hz.2.2.2.1 | exact hz.2.2.2.2.1 | exact hz.2.2.2.2.2.1 | exact hz.2.2.2.2.2.2)))
    | (show _ ∧ _; and_intros <;> first | (apply Or.inl; decide +kernel) | (apply Or.inr; with_reducible rfl))
    | with_reducible exact Touch.refl _
    | with_reducible apply Touch.to (State.applyStep_touch ..)
    | with_reducible apply Touch.to (State.advanceTo_touch ..)
    | with_reducible apply Touch.to (State.rateApply_touch ..)
    | with_reducible apply Touch.to (State.renumber_touch ..)
    | with_reducible apply Touch.to (State.put_touch ..)
    | with_reducible refine Touch.ite ?_ ?_
    | split
    | dsimp only
    | with_reducible refine Touch.mk' ?_ rfl rfl ?_ ?_

theorem State.stallInject_touch (s : State) : Touch 0x10300010000E20 s (State.stallInject s) := by
  unfold State.stallInject
  try dsimp only
  repeat' first
    | (show sub _ _ = true; decide +kernel)
    | with_reducible exact Touch.refl _
    | with_reducible apply Touch.to (State.detect_touch ..)
    | with_reducible apply Touch.to (State.injFire_touch ..)
    | (show _ < 32; decide)
    | split
    | dsimp only

theorem State.ref10End_touch (s : State) : Touch 0x4000000080 s (State.ref10End s) := by
  unfold State.ref10End
  try dsimp only
  repeat' first
    | (show sub _ _ = true; decide +kernel)
    | (show State.sizesOk _ = true → _; first | with_reducible exact id | (intro hz; simp only [State.sizesOk, listSet_length, List.length_map, List.length_replicate] at hz ⊢; first | exact hz | (rw [sizesOf_iff] at hz ⊢; and_intros <;> first | rfl | exact hz.1 | exact hz.2.1 | exact hz.2.2.1 | exact hz.2.2.2.1 | exact hz.2.2.2.2.1 | exact hz.2.2.2.2.2.1 | exact hz.2.2.2.2.2.2)))
    | (show _ ∧ _; and_intros <;> first | (apply Or.inl; decide +kernel) | (apply Or.inr; with_reducible rfl))
    | with_reducible exact Touch.refl _
    | with_reducible apply Touch.to (State.ref10Back_touch ..)
    | with_reducible refine Touch.ite ?_ ?_
    | split
    | dsimp only
    | with_reducible refine Touch.mk' ?_ rfl rfl ?_ ?_

theorem State.frameInject_touch (s : State) : Touch 0x3FD305056C1FFA0 s (State.frameInject s) := by
  unfold State.frameInject
  try dsimp only
  repeat' first
    | (show sub _ _ = true; decide +kernel)
    | (show State.sizesOk _ = true → _; first | with_reducible exact id | (intro hz; simp only [State.sizesOk, listSet_length, List.length_map, List.length_replicate] at hz ⊢; first | exact hz | (rw [sizesOf_iff] at hz ⊢; and_intros <;> first | rfl | exact hz.1 | exact hz.2.1 | exact hz.2.2.1 | exact hz.2.2.2.1 | exact hz.2.2.2.2.1 | exact hz.2.2.2.2.2.1 | exact hz.2.2.2.2.2.2)))
    | (show _ ∧ _; and_intros <;> first | (apply Or.inl; decide +kernel) | (apply Or.inr; with_reducible rfl))
    | with_reducible assumption
    | with_reducible exact Touch.refl _
    | with_reducible apply Touch.to (State.stallInject_touch ..)
    | with_reducible apply Touch.to (State.ref10End_touch ..)
    | with_reducible apply Touch.to (State.inject_touch ..)
    | with_reducible apply Touch.to (State.babble_touch ..)
    | with_reducible apply Touch.to (State.loseSource_touch ..)
    | with_reducible apply Touch.to (State.ref10Lost_touch ..)
    | with_reducible refine Touch.ite ?_ ?_
    | with_reducible refine Touch.forEach ?_ (fun _ _ _ => ?_)
    | (show _ < 32; decide)
    | split
    | dsimp only
    | with_reducible refine Touch.mk' ?_ rfl rfl ?_ ?_

theorem State.queueUe_touch (s : State) (w : BadWord) : Touch 0x790300056C01F60 s (State.queueUe s w) := by
  unfold State.queueUe
  try dsimp only
  repeat' first
    | (show sub _ _ = true; decide +kernel)
    | with_reducible exact Touch.refl _
    | with_reducible apply Touch.to (State.draw_touch ..)
    | with_reducible apply Touch.to (State.dropFlip_touch ..)
    | with_reducible apply Touch.to (State.detectAt_touch ..)
    | with_reducible apply Touch.to (State.galleryHalt_touch ..)
    | with_reducible refine Touch.ite ?_ ?_
    | (show _ < 32; decide)
    | split
    | dsimp only

theorem State.portStop_touch (s : State) (n : Nat) : Touch 0x3FD000056C1F920 s (State.portStop s n) := by
  unfold State.portStop
  try dsimp only
  repeat' first
    | (show sub _ _ = true; decide +kernel)
    | with_reducible exact Touch.refl _
    | with_reducible apply Touch.to (State.portDisable_touch ..)
    | with_reducible refine Touch.ite ?_ ?_
    | split
    | dsimp only

theorem State.ueFound_touch (s : State) (w : BadWord) : Touch 0x7FF300076C7FF60 s (State.ueFound s w) := by
  unfold State.ueFound
  try dsimp only
  repeat' first
    | (show sub _ _ = true; decide +kernel)
    | (show State.sizesOk _ = true → _; first | with_reducible exact id | (intro hz; simp only [State.sizesOk, listSet_length, List.length_map, List.length_replicate] at hz ⊢; first | exact hz | (rw [sizesOf_iff] at hz ⊢; and_intros <;> first | rfl | exact hz.1 | exact hz.2.1 | exact hz.2.2.1 | exact hz.2.2.2.1 | exact hz.2.2.2.2.1 | exact hz.2.2.2.2.2.1 | exact hz.2.2.2.2.2.2)))
    | (show _ ∧ _; and_intros <;> first | (apply Or.inl; decide +kernel) | (apply Or.inr; with_reducible rfl))
    | with_reducible exact Touch.refl _
    | with_reducible apply Touch.to (State.queueUe_touch ..)
    | with_reducible apply Touch.to (State.detect_touch ..)
    | with_reducible apply Touch.to (State.dropFlip_touch ..)
    | with_reducible apply Touch.setRegs
    | with_reducible apply Touch.to (State.freeCtx_touch ..)
    | with_reducible apply Touch.to (State.portStop_touch ..)
    | with_reducible apply Touch.to (State.loadShow_touch ..)
    | with_reducible apply Touch.to (State.catDrop_touch ..)
    | with_reducible apply Touch.to (State.draw_touch ..)
    | with_reducible apply Touch.to (State.routeClear_touch ..)
    | with_reducible apply Touch.to (State.addFlips_touch ..)
    | with_reducible apply Touch.to (State.modTw_touch ..)
    | with_reducible apply Touch.to (State.put_touch ..)
    | with_reducible refine Touch.ite ?_ ?_
    | (first | (refine up_40000 ?_ (by decide +kernel); simp only [R.pxCtrl]; omega) | (intro j hj; refine up_40000 ?_ (by decide +kernel); refine Nat.le_trans ?_ hj; simp only [R.pxCtrl]; omega))
    | (show _ < 32; decide)
    | split
    | dsimp only
    | with_reducible refine Touch.mk' ?_ rfl rfl ?_ ?_

theorem State.wordsFound_touch (s : State) (ws : List BadWord) (fix : Bool) : Touch 0x7FF300076C7FF60 s (State.wordsFound s ws fix) := by
  unfold State.wordsFound
  try dsimp only
  repeat' first
    | (show sub _ _ = true; decide +kernel)
    | with_reducible assumption
    | with_reducible exact Touch.refl _
    | with_reducible apply Touch.to (State.ueFound_touch ..)
    | with_reducible apply Touch.to (State.ramCe_touch ..)
    | with_reducible apply Touch.to (State.dropFlip_touch ..)
    | with_reducible refine Touch.ite ?_ ?_
    | with_reducible refine Touch.forEach ?_ (fun _ _ _ => ?_)
    | split
    | dsimp only

theorem State.planReads_touch (s : State) : Touch 0x7FF300076C7FF60 s (State.planReads s) := by
  unfold State.planReads
  try dsimp only
  repeat' first
    | (show sub _ _ = true; decide +kernel)
    | with_reducible exact Touch.refl _
    | with_reducible apply Touch.to (State.wordsFound_touch ..)
    | with_reducible apply Touch.to (State.ramFire_touch ..)
    | dsimp only

theorem State.fstSend_touch (s : State) (n : Nat) : Touch 0x300000000002020 s (State.fstSend s n) := by
  unfold State.fstSend
  try dsimp only
  repeat' first
    | (show sub _ _ = true; decide +kernel)
    | with_reducible exact Touch.refl _
    | with_reducible apply Touch.to (State.put_touch ..)
    | with_reducible apply Touch.to (State.modPort_touch ..)
    | with_reducible apply Touch.to (State.emit_touch ..)
    | with_reducible refine Touch.ite ?_ ?_
    | (refine up_20000 ?_ (by decide +kernel); simp only [F.gpLinkStatus_pad_bits, R.gpLinkStatus]; omega)
    | split
    | dsimp only

theorem State.planStart_touch (s : State) (n : Nat) : Touch 0x7FF3000120A3E30 s (State.planStart s n) := by
  unfold State.planStart
  try dsimp only
  repeat' first
    | (show sub _ _ = true; decide +kernel)
    | with_reducible assumption
    | with_reducible exact Touch.refl _
    | with_reducible apply Touch.to (State.reflexLost_touch ..)
    | with_reducible apply Touch.to (State.outDisplaced_touch ..)
    | with_reducible apply Touch.to (State.modCu_touch ..)
    | with_reducible apply Touch.to (State.put_touch ..)
    | with_reducible apply Touch.to (State.putB_touch ..)
    | with_reducible apply Touch.to (State.modPort_touch ..)
    | with_reducible apply Touch.to (State.countMissed_touch ..)
    | with_reducible refine Touch.ite ?_ ?_
    | with_reducible refine Touch.forEach ?_ (fun _ _ _ => ?_)
    | (refine up_8000 ?_ (by decide +kernel); simp only [F.cuPortPlan_items, F.cuPortPlan_periodic_end, F.cuPortPlan_repeated, F.cuPortUrgent_used_ns, R.cuPortPlan, R.cuPortUrgent]; omega)
    | split
    | dsimp only

theorem State.ringsRead_touch (s : State) (n : Nat) : Touch 0x600000002021030 s (State.ringsRead s n) := by
  unfold State.ringsRead
  try dsimp only
  repeat' first
    | (show sub _ _ = true; decide +kernel)
    | with_reducible assumption
    | with_reducible exact Touch.refl _
    | with_reducible apply Touch.to (State.outRingRead_touch ..)
    | with_reducible refine Touch.forEach ?_ (fun _ _ _ => ?_)
    | dsimp only

theorem State.probeResynced_touch (s : State) (n : Nat) : Touch 0x2000 s (State.probeResynced s n) := by
  unfold State.probeResynced
  try dsimp only
  repeat' first
    | (show sub _ _ = true; decide +kernel)
    | with_reducible assumption
    | with_reducible exact Touch.refl _
    | with_reducible apply Touch.to (State.serve_touch ..)
    | with_reducible refine Touch.forEach ?_ (fun _ _ _ => ?_)
    | split
    | dsimp only

theorem State.pollUnranged_touch (s : State) (n : Nat) (f : Nat) : Touch 0x2000 s (State.pollUnranged s n f) := by
  unfold State.pollUnranged
  try dsimp only
  repeat' first
    | (show sub _ _ = true; decide +kernel)
    | with_reducible assumption
    | with_reducible exact Touch.refl _
    | with_reducible apply Touch.to (State.serve_touch ..)
    | with_reducible refine Touch.ite ?_ ?_
    | with_reducible refine Touch.forEach ?_ (fun _ _ _ => ?_)
    | split
    | dsimp only

theorem State.frameWork_touch (s : State) (e : List SramFlip) : Touch 0x7FF30507FCFFFF0 s (State.frameWork s e) := by
  unfold State.frameWork
  try dsimp only
  repeat' first
    | (show sub _ _ = true; decide +kernel)
    | with_reducible assumption
    | with_reducible exact Touch.refl _
    | with_reducible apply Touch.to (State.frameInject_touch ..)
    | with_reducible apply Touch.to (State.twinFrame_touch ..)
    | with_reducible apply Touch.to (State.planReads_touch ..)
    | with_reducible apply Touch.to (State.addFlips_touch ..)
    | with_reducible apply Touch.to (State.razeTrees_touch ..)
    | with_reducible apply Touch.to (State.fstSend_touch ..)
    | with_reducible apply Touch.to (State.planStart_touch ..)
    | with_reducible apply Touch.to (State.ringsRead_touch ..)
    | with_reducible apply Touch.to (State.probeResynced_touch ..)
    | with_reducible apply Touch.to (State.pollUnranged_touch ..)
    | with_reducible apply Touch.to (State.delaysRun_touch ..)
    | with_reducible apply Touch.to (State.evKick_touch ..)
    | with_reducible apply Touch.to (State.evHeadRead_touch ..)
    | with_reducible apply Touch.to (State.flushOwed_touch ..)
    | with_reducible refine Touch.ite ?_ ?_
    | with_reducible refine Touch.forEach ?_ (fun _ _ _ => ?_)
    | split
    | dsimp only

theorem State.frameBegin_touch (s : State) (e : List SramFlip) : Touch 0x7FFFFF07FFFFFF0 s (State.frameBegin s e) := by
  unfold State.frameBegin
  try dsimp only
  repeat' first
    | (show sub _ _ = true; decide +kernel)
    | with_reducible exact Touch.refl _
    | with_reducible apply Touch.to (State.addFlips_touch ..)
    | with_reducible apply Touch.to (State.frameNext_touch ..)
    | with_reducible apply Touch.to (State.planCutoff_touch ..)
    | with_reducible apply Touch.to (State.frameWork_touch ..)
    | with_reducible refine Touch.ite ?_ ?_
    | split
    | dsimp only

theorem State.probeDueAt_touch (s : State) (n : Nat) (a : Nat) : Touch 0x2000 s (State.probeDueAt s n a) := by
  unfold State.probeDueAt
  try dsimp only
  repeat' first
    | (show sub _ _ = true; decide +kernel)
    | with_reducible exact Touch.refl _
    | with_reducible apply Touch.to (State.serve_touch ..)
    | with_reducible refine Touch.ite ?_ ?_
    | split
    | dsimp only

theorem State.pwEffect_touch (s : State) : Touch 0x3FF000000082000 s (State.pwEffect s) := by
  unfold State.pwEffect
  try dsimp only
  repeat' first
    | (show sub _ _ = true; decide +kernel)
    | with_reducible assumption
    | with_reducible exact Touch.refl _
    | with_reducible apply Touch.to (State.readmit_touch ..)
    | with_reducible apply Touch.to (State.modPort_touch ..)
    | with_reducible refine Touch.ite ?_ ?_
    | with_reducible refine Touch.forEach ?_ (fun _ _ _ => ?_)
    | split
    | dsimp only

theorem State.rateChange_touch (s : State) : Touch 0x3FF00D000080080 s (State.rateChange s) := by
  unfold State.rateChange
  try dsimp only
  repeat' first
    | (show sub _ _ = true; decide +kernel)
    | (show State.sizesOk _ = true → _; first | with_reducible exact id | (intro hz; simp only [State.sizesOk, listSet_length, List.length_map, List.length_replicate] at hz ⊢; first | exact hz | (rw [sizesOf_iff] at hz ⊢; and_intros <;> first | rfl | exact hz.1 | exact hz.2.1 | exact hz.2.2.1 | exact hz.2.2.2.1 | exact hz.2.2.2.2.1 | exact hz.2.2.2.2.2.1 | exact hz.2.2.2.2.2.2)))
    | (show _ ∧ _; and_intros <;> first | (apply Or.inl; decide +kernel) | (apply Or.inr; with_reducible rfl))
    | with_reducible exact Touch.refl _
    | with_reducible apply Touch.to (State.advanceTo_touch ..)
    | with_reducible apply Touch.to (State.rateApply_touch ..)
    | with_reducible refine Touch.ite ?_ ?_
    | split
    | dsimp only
    | with_reducible refine Touch.mk' ?_ rfl rfl ?_ ?_

theorem execEffectFrame_touch (s : State) : ∃ u, execEffectFrame s = .next u ∧ Touch 0x3FF250432061B60 s u := by
  unfold execEffectFrame
  refine act_touch s _ (by decide +kernel) ?_
  try dsimp only
  repeat' first
    | (show sub _ _ = true; decide +kernel)
    | with_reducible exact Touch.refl _
    | with_reducible apply Touch.to (State.catEffects_touch ..)
    | with_reducible apply Touch.to (State.pxEffects_touch ..)
    | dsimp only

theorem execFrameBoundary_touch (e : List SramFlip) (s : State) : ∃ u, execFrameBoundary e s = .next u ∧ Touch 0x7FFFFF47FFFFFF0 s u := by
  unfold execFrameBoundary
  refine act_touch s _ (by decide +kernel) ?_
  try dsimp only
  repeat' first
    | (show sub _ _ = true; decide +kernel)
    | with_reducible exact Touch.refl _
    | with_reducible apply Touch.to (State.frameBegin_touch ..)
    | dsimp only

theorem execFrameRateChange_touch (s : State) : ∃ u, execFrameRateChange s = .next u ∧ Touch 0x3FF25D430080BE0 s u := by
  unfold execFrameRateChange
  refine act_touch s _ (by decide +kernel) ?_
  try dsimp only
  repeat' first
    | (show sub _ _ = true; decide +kernel)
    | with_reducible exact Touch.refl _
    | with_reducible apply Touch.to (State.rateChange_touch ..)
    | dsimp only

theorem execFrameRenumber_touch (s : State) : ∃ u, execFrameRenumber s = .next u ∧ Touch 0x18252430BE2B60 s u := by
  unfold execFrameRenumber
  refine act_touch s _ (by decide +kernel) ?_
  try dsimp only
  repeat' first
    | (show sub _ _ = true; decide +kernel)
    | with_reducible exact Touch.refl _
    | with_reducible apply Touch.to (State.renumber_touch ..)
    | dsimp only

theorem execMaintenanceProbeDue_touch (n : Fin 8) (addr : Fin 64) (s : State) : ∃ u, execMaintenanceProbeDue n addr s = .next u ∧ Touch 0x8250430002B60 s u := by
  unfold execMaintenanceProbeDue
  refine act_touch s _ (by decide +kernel) ?_
  try dsimp only
  repeat' first
    | (show sub _ _ = true; decide +kernel)
    | with_reducible exact Touch.refl _
    | with_reducible apply Touch.to (State.probeDueAt_touch ..)
    | dsimp only

theorem execPwOpenEffect_touch (s : State) : ∃ u, execPwOpenEffect s = .next u ∧ Touch 0x3FF250430082B60 s u := by
  unfold execPwOpenEffect
  refine act_touch s _ (by decide +kernel) ?_
  try dsimp only
  repeat' first
    | (show sub _ _ = true; decide +kernel)
    | with_reducible exact Touch.refl _
    | with_reducible apply Touch.to (State.pwEffect_touch ..)
    | dsimp only

end Sys2Proof.Machine
end

