-- ==== Sys2Proof/Laws/FrameGalleries.lean ====
section
/-! SUPPORT. What each operation of Machine/Galleries.lean touches: the parts of its set (Laws/Touch.lean), and nothing else. -/

set_option linter.unusedSimpArgs false
set_option linter.unusedVariables false
set_option Elab.async false

namespace Sys2Proof.Machine

theorem State.dmaGo_touch (s : State) : Touch 0x380000002401020 s (State.dmaGo s) := by
  unfold State.dmaGo
  try dsimp only
  repeat' first
    | (show sub _ _ = true; decide +kernel)
    | with_reducible assumption
    | with_reducible exact Touch.refl _
    | with_reducible apply Touch.to (State.flushOwed_touch ..)
    | with_reducible apply Touch.to (State.evShed_touch ..)
    | with_reducible apply Touch.to (State.evKick_touch ..)
    | with_reducible refine Touch.ite ?_ ?_
    | with_reducible refine Touch.forEach ?_ (fun _ _ _ => ?_)
    | split
    | dsimp only

theorem State.attachNow_touch (s : State) : Touch 0x380080002401020 s (State.attachNow s) := by
  unfold State.attachNow
  try dsimp only
  repeat' first
    | (show sub _ _ = true; decide +kernel)
    | with_reducible exact Touch.refl _
    | with_reducible apply Touch.to (State.put_touch ..)
    | with_reducible apply Touch.to (State.dmaGo_touch ..)
    | with_reducible refine Touch.ite ?_ ?_
    | (refine up_10000 ?_ (by decide +kernel); simp only [F.gaStatus_hosted, R.gaStatus]; omega)
    | split
    | dsimp only

theorem State.attachHeld_touch (s : State) : Touch 0x380080082401020 s (State.attachHeld s) := by
  unfold State.attachHeld
  try dsimp only
  repeat' first
    | (show sub _ _ = true; decide +kernel)
    | (show State.sizesOk _ = true → _; first | with_reducible exact id | (intro hz; simp only [State.sizesOk, listSet_length, List.length_map, List.length_replicate] at hz ⊢; first | exact hz | (rw [sizesOf_iff] at hz ⊢; and_intros <;> first | rfl | exact hz.1 | exact hz.2.1 | exact hz.2.2.1 | exact hz.2.2.2.1 | exact hz.2.2.2.2.1 | exact hz.2.2.2.2.2.1 | exact hz.2.2.2.2.2.2)))
    | (show _ ∧ _; and_intros <;> first | (apply Or.inl; decide +kernel) | (apply Or.inr; with_reducible rfl))
    | with_reducible exact Touch.refl _
    | with_reducible apply Touch.to (State.attachNow_touch ..)
    | with_reducible refine Touch.ite ?_ ?_
    | split
    | dsimp only
    | with_reducible refine Touch.mk' ?_ rfl rfl ?_ ?_

theorem State.bellClear_touch (s : State) (off : Nat) (w : Word) : Touch 0x3FFFFFC00000000 s (State.bellClear s off w) := by
  unfold State.bellClear
  try dsimp only
  repeat' first
    | (show sub _ _ = true; decide +kernel)
    | with_reducible exact Touch.refl _
    | with_reducible apply Touch.to (State.setReg_touch ..)
    | (exact up_0 (Nat.zero_le _) (by decide +kernel))
    | dsimp only

theorem State.bellSet_touch (s : State) (off : Nat) (w : Word) (g : Nat) (src : Nat) : Touch 0x3FFFFFC00000100 s (State.bellSet s off w g src) := by
  unfold State.bellSet
  try dsimp only
  repeat' first
    | (show sub _ _ = true; decide +kernel)
    | with_reducible assumption
    | with_reducible exact Touch.refl _
    | with_reducible apply Touch.to (State.privEvent_touch ..)
    | with_reducible apply Touch.to (State.setBit_touch ..)
    | with_reducible refine Touch.forEach ?_ (fun _ _ _ => ?_)
    | (exact up_0 (Nat.zero_le _) (by decide +kernel))
    | dsimp only

theorem State.coalesced_touch (s : State) (k : Nat) : Touch 0x180 s (State.coalesced s k) := by
  unfold State.coalesced
  try dsimp only
  repeat' first
    | (show sub _ _ = true; decide +kernel)
    | with_reducible exact Touch.refl _
    | with_reducible apply Touch.to (State.icPend_touch ..)
    | with_reducible apply Touch.to (State.advanceTo_touch ..)
    | with_reducible refine Touch.ite ?_ ?_
    | split
    | dsimp only

theorem State.mvRest_touch (s : State) : Touch 0x3FE000004000000 s (State.mvRest s) := by
  unfold State.mvRest
  try dsimp only
  repeat' first
    | (show sub _ _ = true; decide +kernel)
    | with_reducible assumption
    | with_reducible exact Touch.refl _
    | with_reducible apply Touch.to (State.modChan_touch ..)
    | with_reducible apply Touch.to (State.put_touch ..)
    | with_reducible refine Touch.forEach ?_ (fun _ _ _ => ?_)
    | (refine up_9000 ?_ (by decide +kernel); simp only [F.mvChState_state, R.mvChState]; omega)
    | dsimp only

theorem State.detachDone_touch (s : State) : Touch 0x3FE080004001000 s (State.detachDone s) := by
  unfold State.detachDone
  try dsimp only
  repeat' first
    | (show sub _ _ = true; decide +kernel)
    | (show State.sizesOk _ = true → _; first | with_reducible exact id | (intro hz; simp only [State.sizesOk, listSet_length, List.length_map, List.length_replicate] at hz ⊢; first | exact hz | (rw [sizesOf_iff] at hz ⊢; and_intros <;> first | rfl | exact hz.1 | exact hz.2.1 | exact hz.2.2.1 | exact hz.2.2.2.1 | exact hz.2.2.2.2.1 | exact hz.2.2.2.2.2.1 | exact hz.2.2.2.2.2.2)))
    | (show _ ∧ _; and_intros <;> first | (apply Or.inl; decide +kernel) | (apply Or.inr; with_reducible rfl))
    | with_reducible exact Touch.refl _
    | with_reducible apply Touch.to (State.put_touch ..)
    | with_reducible apply Touch.to (State.mvRest_touch ..)
    | with_reducible refine Touch.ite ?_ ?_
    | (refine up_10000 ?_ (by decide +kernel); simp only [F.gaStatus_hosted, R.gaStatus]; omega)
    | split
    | dsimp only
    | with_reducible refine Touch.mk' ?_ rfl rfl ?_ ?_

theorem State.fallback_touch (s : State) (n : Nat) : Touch 0x40000000000180 s (State.fallback s n) := by
  unfold State.fallback
  try dsimp only
  repeat' first
    | (show sub _ _ = true; decide +kernel)
    | with_reducible exact Touch.refl _
    | with_reducible apply Touch.to (State.bump_touch ..)
    | with_reducible apply Touch.to (State.advanceTo_touch ..)
    | with_reducible apply Touch.to (State.setInst_touch ..)
    | with_reducible refine Touch.ite ?_ ?_
    | split
    | dsimp only

theorem State.ringsStop_touch (s : State) (g : Nat) : Touch 0x380000046C01120 s (State.ringsStop s g) := by
  unfold State.ringsStop
  try dsimp only
  repeat' first
    | (show sub _ _ = true; decide +kernel)
    | with_reducible assumption
    | with_reducible exact Touch.refl _
    | with_reducible apply Touch.to (State.ringStop_touch ..)
    | with_reducible refine Touch.forEach ?_ (fun _ _ _ => ?_)
    | dsimp only

theorem State.galleryClose_touch (s : State) (g : Nat) : Touch 0x380000046C01120 s (State.galleryClose s g) := by
  unfold State.galleryClose
  try dsimp only
  repeat' first
    | (show sub _ _ = true; decide +kernel)
    | with_reducible exact Touch.refl _
    | with_reducible apply Touch.to (State.evShed_touch ..)
    | with_reducible apply Touch.to (State.ringsStop_touch ..)
    | with_reducible apply Touch.to (State.put_touch ..)
    | with_reducible refine Touch.ite ?_ ?_
    | (refine up_10000 ?_ (by decide +kernel); simp only [F.gaCtrl_open, F.gaStatus_state, R.gaCtrl, R.gaStatus]; omega)
    | split
    | dsimp only

theorem State.ringsEnd_touch (s : State) (g : Nat) : Touch 0x380000002401020 s (State.ringsEnd s g) := by
  unfold State.ringsEnd
  try dsimp only
  repeat' first
    | (show sub _ _ = true; decide +kernel)
    | with_reducible assumption
    | with_reducible exact Touch.refl _
    | with_reducible apply Touch.to (State.ringDone_touch ..)
    | with_reducible refine Touch.ite ?_ ?_
    | with_reducible refine Touch.forEach ?_ (fun _ _ _ => ?_)
    | split
    | dsimp only

theorem State.mailClear_touch (s : State) (g : Nat) : Touch 0x380000000000000 s (State.mailClear s g) := by
  unfold State.mailClear
  try dsimp only
  repeat' first
    | (show sub _ _ = true; decide +kernel)
    | with_reducible exact Touch.refl _
    | with_reducible apply Touch.setRegs
    | with_reducible refine Touch.ite ?_ ?_
    | (first | (refine up_10000 ?_ (by decide +kernel); simp only [R.gaDbIn, R.gaMboxIn]; omega) | (intro j hj; refine up_10000 ?_ (by decide +kernel); refine Nat.le_trans ?_ hj; simp only [R.gaDbIn, R.gaMboxIn]; omega))
    | split
    | dsimp only

theorem State.galleryDone_touch (s : State) (g : Nat) : Touch 0x380000002401120 s (State.galleryDone s g) := by
  unfold State.galleryDone
  try dsimp only
  repeat' first
    | (show sub _ _ = true; decide +kernel)
    | with_reducible exact Touch.refl _
    | with_reducible apply Touch.to (State.ringsEnd_touch ..)
    | with_reducible apply Touch.to (State.put_touch ..)
    | with_reducible apply Touch.to (State.icGalleryReset_touch ..)
    | with_reducible apply Touch.to (State.mailClear_touch ..)
    | with_reducible refine Touch.ite ?_ ?_
    | (refine up_10000 ?_ (by decide +kernel); simp only [F.gaStatus_state, R.gaStatus]; omega)
    | split
    | dsimp only

theorem State.galleryOpen_touch (s : State) (g : Nat) : Touch 0x380000002401020 s (State.galleryOpen s g) := by
  unfold State.galleryOpen
  try dsimp only
  repeat' first
    | (show sub _ _ = true; decide +kernel)
    | with_reducible exact Touch.refl _
    | with_reducible apply Touch.to (State.dmaGo_touch ..)
    | with_reducible apply Touch.to (State.put_touch ..)
    | with_reducible refine Touch.ite ?_ ?_
    | (refine up_10000 ?_ (by decide +kernel); simp only [F.gaCtrl_open, F.gaStatus_host_err, F.gaStatus_state, R.gaCtrl, R.gaStatus]; omega)
    | split
    | dsimp only

theorem State.galleryReset_touch (s : State) (g : Nat) : Touch 0x380000046C01120 s (State.galleryReset s g) := by
  unfold State.galleryReset
  try dsimp only
  repeat' first
    | (show sub _ _ = true; decide +kernel)
    | with_reducible exact Touch.refl _
    | with_reducible apply Touch.to (State.ringsStop_touch ..)
    | with_reducible apply Touch.to (State.put_touch ..)
    | with_reducible refine Touch.ite ?_ ?_
    | (refine up_10000 ?_ (by decide +kernel); simp only [F.gaStatus_state, R.gaStatus]; omega)
    | split
    | dsimp only

theorem State.hostAttach_touch (s : State) : Touch 0x380080082401020 s (State.hostAttach s) := by
  unfold State.hostAttach
  try dsimp only
  repeat' first
    | (show sub _ _ = true; decide +kernel)
    | (show State.sizesOk _ = true → _; first | with_reducible exact id | (intro hz; simp only [State.sizesOk, listSet_length, List.length_map, List.length_replicate] at hz ⊢; first | exact hz | (rw [sizesOf_iff] at hz ⊢; and_intros <;> first | rfl | exact hz.1 | exact hz.2.1 | exact hz.2.2.1 | exact hz.2.2.2.1 | exact hz.2.2.2.2.1 | exact hz.2.2.2.2.2.1 | exact hz.2.2.2.2.2.2)))
    | (show _ ∧ _; and_intros <;> first | (apply Or.inl; decide +kernel) | (apply Or.inr; with_reducible rfl))
    | with_reducible exact Touch.refl _
    | with_reducible apply Touch.to (State.attachNow_touch ..)
    | with_reducible refine Touch.ite ?_ ?_
    | split
    | dsimp only
    | with_reducible refine Touch.mk' ?_ rfl rfl ?_ ?_

theorem State.hostDetach_touch (s : State) : Touch 0x380000046C01120 s (State.hostDetach s) := by
  unfold State.hostDetach
  try dsimp only
  repeat' first
    | (show sub _ _ = true; decide +kernel)
    | (show State.sizesOk _ = true → _; first | with_reducible exact id | (intro hz; simp only [State.sizesOk, listSet_length, List.length_map, List.length_replicate] at hz ⊢; first | exact hz | (rw [sizesOf_iff] at hz ⊢; and_intros <;> first | rfl | exact hz.1 | exact hz.2.1 | exact hz.2.2.1 | exact hz.2.2.2.1 | exact hz.2.2.2.2.1 | exact hz.2.2.2.2.2.1 | exact hz.2.2.2.2.2.2)))
    | (show _ ∧ _; and_intros <;> first | (apply Or.inl; decide +kernel) | (apply Or.inr; with_reducible rfl))
    | with_reducible assumption
    | with_reducible exact Touch.refl _
    | with_reducible apply Touch.to (State.galleryClose_touch ..)
    | with_reducible apply Touch.to (State.ringsStop_touch ..)
    | with_reducible apply Touch.to (State.put_touch ..)
    | with_reducible refine Touch.ite ?_ ?_
    | with_reducible refine Touch.forEach ?_ (fun _ _ _ => ?_)
    | (refine up_10000 ?_ (by decide +kernel); simp only [F.gaRingState_state, R.gaRingState]; omega)
    | split
    | dsimp only
    | with_reducible refine Touch.mk' ?_ rfl rfl ?_ ?_

theorem State.violClear_touch (s : State) : Touch 0x380000000000000 s (State.violClear s) := by
  unfold State.violClear
  try dsimp only
  repeat' first
    | (show sub _ _ = true; decide +kernel)
    | with_reducible exact Touch.refl _
    | with_reducible apply Touch.setRegs
    | with_reducible apply Touch.to (State.setReg_touch ..)
    | (first | (refine up_10000 ?_ (by decide +kernel); simp only [R.gaViolCnt, R.gaViolLog0, R.gaViolStatus]; omega) | (intro j hj; refine up_10000 ?_ (by decide +kernel); refine Nat.le_trans ?_ hj; simp only [R.gaViolCnt, R.gaViolLog0, R.gaViolStatus]; omega))
    | dsimp only

theorem State.writeEnable_touch (s : State) (off : Nat) (w : Word) (key : Nat → Nat) : Touch 0x3FFFFFC00000100 s (State.writeEnable s off w key) := by
  unfold State.writeEnable
  try dsimp only
  repeat' first
    | (show sub _ _ = true; decide +kernel)
    | with_reducible assumption
    | with_reducible exact Touch.refl _
    | with_reducible apply Touch.to (State.setReg_touch ..)
    | with_reducible apply Touch.to (State.icDisable_touch ..)
    | with_reducible refine Touch.forEach ?_ (fun _ _ _ => ?_)
    | (exact up_0 (Nat.zero_le _) (by decide +kernel))
    | dsimp only

theorem State.writeGaCtrl_touch (s : State) (g : Nat) (w : Word) : Touch 0x3800800C6C01120 s (State.writeGaCtrl s g w) := by
  unfold State.writeGaCtrl
  try dsimp only
  repeat' first
    | (show sub _ _ = true; decide +kernel)
    | with_reducible exact Touch.refl _
    | with_reducible apply Touch.to (State.hostAttach_touch ..)
    | with_reducible apply Touch.to (State.hostDetach_touch ..)
    | with_reducible apply Touch.to (State.galleryReset_touch ..)
    | with_reducible apply Touch.to (State.galleryOpen_touch ..)
    | with_reducible apply Touch.to (State.galleryClose_touch ..)
    | with_reducible refine Touch.ite ?_ ?_
    | split
    | dsimp only

theorem State.writePasid_touch (s : State) (g : Nat) (w : Word) : Touch 0x380000002401020 s (State.writePasid s g w) := by
  unfold State.writePasid
  try dsimp only
  repeat' first
    | (show sub _ _ = true; decide +kernel)
    | with_reducible exact Touch.refl _
    | with_reducible apply Touch.to (State.dmaGo_touch ..)
    | with_reducible apply Touch.to (State.put_touch ..)
    | with_reducible apply Touch.to (State.setReg_touch ..)
    | with_reducible refine Touch.ite ?_ ?_
    | (refine up_10000 ?_ (by decide +kernel); simp only [F.gaStatus_pasid_refused, R.gaPasid, R.gaStatus]; omega)
    | split
    | dsimp only

theorem State.writeGa_touch (s : State) (g : Nat) (off : Nat) (who : Nat) (w : Word) (plain : Word) : Touch 0x3FFFFFCC6C01B20 s (State.writeGa s g off who w plain) := by
  unfold State.writeGa
  try dsimp only
  repeat' first
    | (show sub _ _ = true; decide +kernel)
    | with_reducible exact Touch.refl _
    | with_reducible apply Touch.to (State.violation_touch ..)
    | with_reducible apply Touch.to (State.writeGaCtrl_touch ..)
    | with_reducible apply Touch.to (State.writePasid_touch ..)
    | with_reducible apply Touch.to (State.setReg_touch ..)
    | with_reducible apply Touch.to (State.bellSet_touch ..)
    | with_reducible apply Touch.to (State.bellClear_touch ..)
    | with_reducible apply Touch.to (State.icComplete_touch ..)
    | with_reducible apply Touch.to (State.icSet_touch ..)
    | with_reducible apply Touch.to (State.writeEnable_touch ..)
    | with_reducible apply Touch.to (State.violClear_touch ..)
    | with_reducible apply Touch.to (State.writeRing_touch ..)
    | with_reducible apply Touch.to (State.writeEvt_touch ..)
    | with_reducible refine Touch.ite ?_ ?_
    | (exact up_0 (Nat.zero_le _) (by decide +kernel))
    | split
    | dsimp only

theorem State.writeTarget_touch (s : State) (off : Nat) (plain : Word) : Touch 0x3FFFFFC00000100 s (State.writeTarget s off plain) := by
  unfold State.writeTarget
  try dsimp only
  repeat' first
    | (show sub _ _ = true; decide +kernel)
    | with_reducible exact Touch.refl _
    | with_reducible apply Touch.to (State.setReg_touch ..)
    | with_reducible apply Touch.to (State.setInst_touch ..)
    | with_reducible refine Touch.ite ?_ ?_
    | (exact up_0 (Nat.zero_le _) (by decide +kernel))
    | split
    | dsimp only

theorem State.writeSh_touch (s : State) (off : Nat) (w : Word) (plain : Word) : Touch 0x3FFFFFC00000100 s (State.writeSh s off w plain) := by
  unfold State.writeSh
  try dsimp only
  repeat' first
    | (show sub _ _ = true; decide +kernel)
    | with_reducible exact Touch.refl _
    | with_reducible apply Touch.to (State.writeTarget_touch ..)
    | with_reducible apply Touch.to (State.writeEnable_touch ..)
    | with_reducible apply Touch.to (State.icSet_touch ..)
    | with_reducible apply Touch.to (State.setReg_touch ..)
    | with_reducible refine Touch.ite ?_ ?_
    | (exact up_0 (Nat.zero_le _) (by decide +kernel))
    | split
    | dsimp only

theorem execCoalesceTimeout_touch (g : Option (Fin 16)) (k : Fin 256) (s : State) : ∃ u, execCoalesceTimeout g k s = .next u ∧ Touch 0x8250430000BE0 s u := by
  unfold execCoalesceTimeout
  refine act_touch s _ (by decide +kernel) ?_
  try dsimp only
  repeat' first
    | (show sub _ _ = true; decide +kernel)
    | with_reducible exact Touch.refl _
    | with_reducible apply Touch.to (State.coalesced_touch ..)
    | dsimp only

theorem execDetachDone_touch (s : State) : ∃ u, execDetachDone s = .next u ∧ Touch 0x3FE2D0434001B60 s u := by
  unfold execDetachDone
  refine act_touch s _ (by decide +kernel) ?_
  try dsimp only
  repeat' first
    | (show sub _ _ = true; decide +kernel)
    | with_reducible exact Touch.refl _
    | with_reducible apply Touch.to (State.detachDone_touch ..)
    | dsimp only

theorem execFallbackTimeout_touch (k : Fin 256) (s : State) : ∃ u, execFallbackTimeout k s = .next u ∧ Touch 0x48250430000BE0 s u := by
  unfold execFallbackTimeout
  refine act_touch s _ (by decide +kernel) ?_
  try dsimp only
  repeat' first
    | (show sub _ _ = true; decide +kernel)
    | with_reducible exact Touch.refl _
    | with_reducible apply Touch.to (State.fallback_touch ..)
    | dsimp only

theorem execGalleryResetDone_touch (g : Fin 16) (s : State) : ∃ u, execGalleryResetDone g s = .next u ∧ Touch 0x388250432401B60 s u := by
  unfold execGalleryResetDone
  refine act_touch s _ (by decide +kernel) ?_
  try dsimp only
  repeat' first
    | (show sub _ _ = true; decide +kernel)
    | with_reducible exact Touch.refl _
    | with_reducible apply Touch.to (State.galleryDone_touch ..)
    | dsimp only

end Sys2Proof.Machine
end

