-- ==== Sys2Proof/Laws/FrameConservator.lean ====
section
/-! SUPPORT. What each operation of Machine/Conservator.lean touches: the parts of its set (Laws/Touch.lean), and nothing else. -/

set_option linter.unusedSimpArgs false
set_option linter.unusedVariables false
set_option Elab.async false

namespace Sys2Proof.Machine

theorem State.setPower_touch (s : State) (st : Nat) : Touch 0x30000000000 s (State.setPower s st) := by
  unfold State.setPower
  try dsimp only
  repeat' first
    | (show sub _ _ = true; decide +kernel)
    | with_reducible exact Touch.refl _
    | with_reducible apply Touch.to (State.raise_touch ..)
    | with_reducible apply Touch.to (State.put_touch ..)
    | with_reducible refine Touch.ite ?_ ?_
    | split
    | dsimp only

theorem State.modCn_touch (s : State) (f : Cn → Cn) : Touch 0x800 s (State.modCn s f) := by
  unfold State.modCn
  try dsimp only
  repeat' first
    | (show sub _ _ = true; decide +kernel)
    | (show State.sizesOk _ = true → _; first | with_reducible exact id | (intro hz; simp only [State.sizesOk, listSet_length, List.length_map, List.length_replicate] at hz ⊢; first | exact hz | (rw [sizesOf_iff] at hz ⊢; and_intros <;> first | rfl | exact hz.1 | exact hz.2.1 | exact hz.2.2.1 | exact hz.2.2.2.1 | exact hz.2.2.2.2.1 | exact hz.2.2.2.2.2.1 | exact hz.2.2.2.2.2.2)))
    | (show _ ∧ _; and_intros <;> first | (apply Or.inl; decide +kernel) | (apply Or.inr; with_reducible rfl))
    | with_reducible exact Touch.refl _
    | dsimp only
    | with_reducible refine Touch.mk' ?_ rfl rfl ?_ ?_

theorem State.leaveL1_touch (s : State) : Touch 0x1000 s (State.leaveL1 s) := by
  unfold State.leaveL1
  try dsimp only
  repeat' first
    | (show sub _ _ = true; decide +kernel)
    | (show State.sizesOk _ = true → _; first | with_reducible exact id | (intro hz; simp only [State.sizesOk, listSet_length, List.length_map, List.length_replicate] at hz ⊢; first | exact hz | (rw [sizesOf_iff] at hz ⊢; and_intros <;> first | rfl | exact hz.1 | exact hz.2.1 | exact hz.2.2.1 | exact hz.2.2.2.1 | exact hz.2.2.2.2.1 | exact hz.2.2.2.2.2.1 | exact hz.2.2.2.2.2.2)))
    | (show _ ∧ _; and_intros <;> first | (apply Or.inl; decide +kernel) | (apply Or.inr; with_reducible rfl))
    | with_reducible exact Touch.refl _
    | with_reducible refine Touch.ite ?_ ?_
    | split
    | dsimp only
    | with_reducible refine Touch.mk' ?_ rfl rfl ?_ ?_

theorem State.icRestore_touch (s : State) : Touch 0x40000000000900 s (State.icRestore s) := by
  unfold State.icRestore
  try dsimp only
  repeat' first
    | (show sub _ _ = true; decide +kernel)
    | (show State.sizesOk _ = true → _; first | with_reducible exact id | (intro hz; simp only [State.sizesOk, listSet_length, List.length_map, List.length_replicate] at hz ⊢; first | exact hz | (rw [sizesOf_iff] at hz ⊢; and_intros <;> first | rfl | exact hz.1 | exact hz.2.1 | exact hz.2.2.1 | exact hz.2.2.2.1 | exact hz.2.2.2.2.1 | exact hz.2.2.2.2.2.1 | exact hz.2.2.2.2.2.2)))
    | (show _ ∧ _; and_intros <;> first | (apply Or.inl; decide +kernel) | (apply Or.inr; with_reducible rfl))
    | with_reducible exact Touch.refl _
    | with_reducible apply Touch.to (State.modCn_touch ..)
    | with_reducible apply Touch.to (State.bump_touch ..)
    | with_reducible refine Touch.ite ?_ ?_
    | split
    | dsimp only
    | with_reducible refine Touch.mk' ?_ rfl rfl ?_ ?_

theorem State.treesWake_touch (s : State) (ns : List Nat) : Touch 0x3FF000056C7F920 s (State.treesWake s ns) := by
  unfold State.treesWake
  try dsimp only
  repeat' first
    | (show sub _ _ = true; decide +kernel)
    | with_reducible assumption
    | with_reducible exact Touch.refl _
    | with_reducible apply Touch.to (State.modPort_touch ..)
    | with_reducible apply Touch.to (State.suspended_touch ..)
    | with_reducible apply Touch.to (State.resume_touch ..)
    | with_reducible refine Touch.ite ?_ ?_
    | with_reducible refine Touch.forEach ?_ (fun _ _ _ => ?_)
    | split
    | dsimp only

theorem State.spansWake_touch (s : State) : Touch 0x3F8030030000800 s (State.spansWake s) := by
  unfold State.spansWake
  try dsimp only
  repeat' first
    | (show sub _ _ = true; decide +kernel)
    | with_reducible assumption
    | with_reducible exact Touch.refl _
    | with_reducible apply Touch.to (State.spanDetect_touch ..)
    | with_reducible refine Touch.forEach ?_ (fun _ _ _ => ?_)
    | dsimp only

theorem State.fiDeliver_touch (s : State) : Touch 0x3FFF00010000E20 s s.fiDeliver := by
  unfold State.fiDeliver
  refine Touch.forEach ?_ (fun a e h => Touch.to (State.detectAt_touch_any ..) (by decide +kernel) h)
  with_reducible refine Touch.mk' (Touch.refl s) rfl rfl (by first | with_reducible exact id | (intro hz; simp only [State.sizesOk, listSet_length, List.length_map, List.length_replicate] at hz ⊢; first | exact hz | (rw [sizesOf_iff] at hz ⊢; and_intros <;> first | rfl | exact hz.1 | exact hz.2.1 | exact hz.2.2.1 | exact hz.2.2.2.1 | exact hz.2.2.2.2.1 | exact hz.2.2.2.2.2.1 | exact hz.2.2.2.2.2.2))) ?_
  and_intros <;> first | (apply Or.inl; decide +kernel) | (apply Or.inr; with_reducible rfl)

theorem State.sleepEnd_touch (s : State) : Touch 0x3FFF00010000E20 s (State.sleepEnd s) := by
  unfold State.sleepEnd
  try dsimp only
  repeat' first
    | (show sub _ _ = true; decide +kernel)
    | with_reducible exact Touch.refl _
    | with_reducible apply Touch.to (State.modCn_touch ..)
    | with_reducible apply Touch.to (State.fiDeliver_touch ..)
    | with_reducible apply Touch.to (State.add_touch ..)
    | with_reducible apply Touch.to (State.takeMissed_touch ..)
    | with_reducible refine Touch.ite ?_ ?_
    | split
    | dsimp only

theorem State.climb_touch (s : State) (goal : Nat) (every : Bool) : Touch 0x3FFF3007EC7FF60 s (State.climb s goal every) := by
  unfold State.climb
  try dsimp only
  repeat' first
    | (show sub _ _ = true; decide +kernel)
    | with_reducible exact Touch.refl _
    | with_reducible apply Touch.to (State.setPower_touch ..)
    | with_reducible apply Touch.to (State.put_touch ..)
    | with_reducible apply Touch.to (State.modCn_touch ..)
    | with_reducible apply Touch.to (State.leaveL1_touch ..)
    | with_reducible apply Touch.to (State.icRestore_touch ..)
    | with_reducible apply Touch.to (State.treesWake_touch ..)
    | with_reducible apply Touch.to (State.spansWake_touch ..)
    | with_reducible apply Touch.to (State.mvKick_touch ..)
    | with_reducible apply Touch.to (State.sleepEnd_touch ..)
    | with_reducible refine Touch.ite ?_ ?_
    | split
    | dsimp only

theorem State.woke_touch (s : State) (cause : Nat) (detail : Nat) : Touch 0x30000000000 s (State.woke s cause detail) := by
  unfold State.woke
  try dsimp only
  repeat' first
    | (show sub _ _ = true; decide +kernel)
    | with_reducible exact Touch.refl _
    | with_reducible apply Touch.to (State.raise_touch ..)
    | with_reducible apply Touch.to (State.wrap_touch ..)
    | with_reducible apply Touch.to (State.put_touch ..)
    | dsimp only

theorem State.wakeUp_touch (s : State) (goal : Nat) (cause : Nat) (detail : Nat) : Touch 0x3FFF3007EC7FF60 s (State.wakeUp s goal cause detail) := by
  unfold State.wakeUp
  try dsimp only
  repeat' first
    | (show sub _ _ = true; decide +kernel)
    | with_reducible exact Touch.refl _
    | with_reducible apply Touch.to (State.climb_touch ..)
    | with_reducible apply Touch.to (State.modPort_touch ..)
    | with_reducible apply Touch.to (State.woke_touch ..)
    | with_reducible refine Touch.ite ?_ ?_
    | split
    | dsimp only

theorem State.scrubStop_touch (s : State) : Touch 0x20000000800 s (State.scrubStop s) := by
  unfold State.scrubStop
  try dsimp only
  repeat' first
    | (show sub _ _ = true; decide +kernel)
    | with_reducible exact Touch.refl _
    | with_reducible apply Touch.to (State.bump_touch ..)
    | with_reducible apply Touch.to (State.permitReturn_touch ..)
    | with_reducible apply Touch.to (State.modCn_touch ..)
    | with_reducible refine Touch.ite ?_ ?_
    | split
    | dsimp only

theorem State.chEnd_touch (s : State) : Touch 0x80080000000 s (State.chEnd s) := by
  unfold State.chEnd
  try dsimp only
  repeat' first
    | (show sub _ _ = true; decide +kernel)
    | (show State.sizesOk _ = true → _; first | with_reducible exact id | (intro hz; simp only [State.sizesOk, listSet_length, List.length_map, List.length_replicate] at hz ⊢; first | exact hz | (rw [sizesOf_iff] at hz ⊢; and_intros <;> first | rfl | exact hz.1 | exact hz.2.1 | exact hz.2.2.1 | exact hz.2.2.2.1 | exact hz.2.2.2.2.1 | exact hz.2.2.2.2.2.1 | exact hz.2.2.2.2.2.2)))
    | (show _ ∧ _; and_intros <;> first | (apply Or.inl; decide +kernel) | (apply Or.inr; with_reducible rfl))
    | with_reducible exact Touch.refl _
    | with_reducible apply Touch.to (State.put_touch ..)
    | dsimp only
    | with_reducible refine Touch.mk' ?_ rfl rfl ?_ ?_

theorem State.reapplyFailed_touch (s : State) : Touch 0x3800C0082401020 s (State.reapplyFailed s) := by
  unfold State.reapplyFailed
  try dsimp only
  repeat' first
    | (show sub _ _ = true; decide +kernel)
    | with_reducible exact Touch.refl _
    | with_reducible apply Touch.to (State.attachHeld_touch ..)
    | with_reducible apply Touch.to (State.chEnd_touch ..)
    | with_reducible apply Touch.to (State.raise_touch ..)
    | dsimp only

theorem State.chRefused_touch (s : State) : Touch 0x3800C0082401020 s (State.chRefused s) := by
  unfold State.chRefused
  try dsimp only
  repeat' first
    | (show sub _ _ = true; decide +kernel)
    | (show State.sizesOk _ = true → _; first | with_reducible exact id | (intro hz; simp only [State.sizesOk, listSet_length, List.length_map, List.length_replicate] at hz ⊢; first | exact hz | (rw [sizesOf_iff] at hz ⊢; and_intros <;> first | rfl | exact hz.1 | exact hz.2.1 | exact hz.2.2.1 | exact hz.2.2.2.1 | exact hz.2.2.2.2.1 | exact hz.2.2.2.2.2.1 | exact hz.2.2.2.2.2.2)))
    | (show _ ∧ _; and_intros <;> first | (apply Or.inl; decide +kernel) | (apply Or.inr; with_reducible rfl))
    | with_reducible exact Touch.refl _
    | with_reducible apply Touch.to (State.reapplyFailed_touch ..)
    | with_reducible apply Touch.to (State.chEnd_touch ..)
    | with_reducible refine Touch.ite ?_ ?_
    | split
    | dsimp only
    | with_reducible refine Touch.mk' ?_ rfl rfl ?_ ?_

theorem State.permitGone_touch (s : State) (use : PermitFor) : Touch 0x3800E0082403020 s (State.permitGone s use) := by
  unfold State.permitGone
  try dsimp only
  repeat' first
    | (show sub _ _ = true; decide +kernel)
    | with_reducible exact Touch.refl _
    | with_reducible apply Touch.to (State.sweepShow_touch ..)
    | with_reducible apply Touch.to (State.modPort_touch ..)
    | with_reducible apply Touch.to (State.bump_touch ..)
    | with_reducible apply Touch.to (State.chRefused_touch ..)
    | with_reducible refine Touch.ite ?_ ?_
    | split
    | dsimp only

theorem State.permitsFlush_touch (s : State) : Touch 0x3800F0082403820 s (State.permitsFlush s) := by
  unfold State.permitsFlush
  try dsimp only
  repeat' first
    | (show sub _ _ = true; decide +kernel)
    | with_reducible assumption
    | with_reducible exact Touch.refl _
    | with_reducible apply Touch.to (State.modCn_touch ..)
    | with_reducible apply Touch.to (State.permitGone_touch ..)
    | with_reducible apply Touch.to (State.permitRefused_touch ..)
    | with_reducible refine Touch.forEach ?_ (fun _ _ _ => ?_)
    | dsimp only

theorem State.spanPark_touch (s : State) (m : Nat) : Touch 0x3F8030030000800 s (State.spanPark s m) := by
  unfold State.spanPark
  try dsimp only
  repeat' first
    | (show sub _ _ = true; decide +kernel)
    | with_reducible exact Touch.refl _
    | with_reducible apply Touch.to (State.modSpan_touch ..)
    | with_reducible apply Touch.to (State.spanLost_touch ..)
    | with_reducible apply Touch.to (State.spanEndTraining_touch ..)
    | with_reducible apply Touch.to (State.spanEnter_touch ..)
    | dsimp only

theorem State.spansPark_touch (s : State) : Touch 0x3F8030030000800 s (State.spansPark s) := by
  unfold State.spansPark
  try dsimp only
  repeat' first
    | (show sub _ _ = true; decide +kernel)
    | with_reducible assumption
    | with_reducible exact Touch.refl _
    | with_reducible apply Touch.to (State.spanPark_touch ..)
    | with_reducible refine Touch.forEach ?_ (fun _ _ _ => ?_)
    | dsimp only

theorem State.closeBegin_touch (s : State) : Touch 0x3FE0F00B2403820 s (State.closeBegin s) := by
  unfold State.closeBegin
  try dsimp only
  repeat' first
    | (show sub _ _ = true; decide +kernel)
    | with_reducible assumption
    | with_reducible exact Touch.refl _
    | with_reducible apply Touch.to (State.scrubStop_touch ..)
    | with_reducible apply Touch.to (State.permitsFlush_touch ..)
    | with_reducible apply Touch.to (State.modCn_touch ..)
    | with_reducible apply Touch.to (State.closeAsk_touch ..)
    | with_reducible apply Touch.to (State.spansPark_touch ..)
    | with_reducible apply Touch.to (State.put_touch ..)
    | with_reducible refine Touch.ite ?_ ?_
    | with_reducible refine Touch.forEach ?_ (fun _ _ _ => ?_)
    | (refine up_9000 ?_ (by decide +kernel); simp only [F.mvChState_state, R.mvChState]; omega)
    | split
    | dsimp only

theorem State.stepBegin_touch (s : State) (origin : Nat) (st : Nat) : Touch 0x3FE0F00B2403820 s (State.stepBegin s origin st) := by
  unfold State.stepBegin
  try dsimp only
  repeat' first
    | (show sub _ _ = true; decide +kernel)
    | with_reducible exact Touch.refl _
    | with_reducible apply Touch.to (State.put_touch ..)
    | with_reducible apply Touch.to (State.modCn_touch ..)
    | with_reducible apply Touch.to (State.closeBegin_touch ..)
    | with_reducible refine Touch.ite ?_ ?_
    | split
    | dsimp only

theorem State.wakeBegin_touch (s : State) (goal : Nat) (cause : Nat) (detail : Nat) : Touch 0x20000000820 s (State.wakeBegin s goal cause detail) := by
  unfold State.wakeBegin
  try dsimp only
  repeat' first
    | (show sub _ _ = true; decide +kernel)
    | with_reducible exact Touch.refl _
    | with_reducible apply Touch.to (State.supplyGo_touch ..)
    | with_reducible apply Touch.to (State.put_touch ..)
    | with_reducible apply Touch.to (State.modCn_touch ..)
    | dsimp only

theorem State.moveTo_touch (s : State) (origin : Nat) (t : Nat) : Touch 0x3FFFF00FEC7FF60 s (State.moveTo s origin t) := by
  unfold State.moveTo
  try dsimp only
  repeat' first
    | (show sub _ _ = true; decide +kernel)
    | with_reducible exact Touch.refl _
    | with_reducible apply Touch.to (State.stepBegin_touch ..)
    | with_reducible apply Touch.to (State.wakeBegin_touch ..)
    | with_reducible apply Touch.to (State.climb_touch ..)
    | with_reducible apply Touch.to (State.put_touch ..)
    | with_reducible apply Touch.to (State.modCn_touch ..)
    | with_reducible refine Touch.ite ?_ ?_
    | split
    | dsimp only

theorem State.powerTarget_touch (s : State) (t : Nat) : Touch 0x3FFFF00FEC7FF60 s (State.powerTarget s t) := by
  unfold State.powerTarget
  try dsimp only
  repeat' first
    | (show sub _ _ = true; decide +kernel)
    | with_reducible exact Touch.refl _
    | with_reducible apply Touch.to (State.moveTo_touch ..)
    | with_reducible apply Touch.to (State.modCn_touch ..)
    | with_reducible refine Touch.ite ?_ ?_
    | split
    | dsimp only

theorem State.abandon_touch (s : State) (origin : Nat) (code : Nat) (blk : Nat) : Touch 0x3FFFF00FEC7FF60 s (State.abandon s origin code blk) := by
  unfold State.abandon
  try dsimp only
  repeat' first
    | (show sub _ _ = true; decide +kernel)
    | with_reducible exact Touch.refl _
    | with_reducible apply Touch.to (State.wakeUp_touch ..)
    | with_reducible apply Touch.to (State.modCn_touch ..)
    | with_reducible apply Touch.to (State.raise_touch ..)
    | with_reducible apply Touch.to (State.put_touch ..)
    | with_reducible apply Touch.to (State.powerTarget_touch ..)
    | with_reducible apply Touch.to (State.climb_touch ..)
    | split
    | dsimp only

theorem State.cnDetect_touch (s : State) (d : Nat) (cls : Nat) (inst : Nat) (detail : Nat) (inj : Bool) (hd : d < 32) : Touch 0x10300010000E20 s (State.cnDetect s d cls inst detail inj) := by
  unfold State.cnDetect
  try dsimp only
  repeat' first
    | (show sub _ _ = true; decide +kernel)
    | (show State.sizesOk _ = true → _; first | with_reducible exact id | (intro hz; simp only [State.sizesOk, listSet_length, List.length_map, List.length_replicate] at hz ⊢; first | exact hz | (rw [sizesOf_iff] at hz ⊢; and_intros <;> first | rfl | exact hz.1 | exact hz.2.1 | exact hz.2.2.1 | exact hz.2.2.2.1 | exact hz.2.2.2.2.1 | exact hz.2.2.2.2.2.1 | exact hz.2.2.2.2.2.2)))
    | (show _ ∧ _; and_intros <;> first | (apply Or.inl; decide +kernel) | (apply Or.inr; with_reducible rfl))
    | with_reducible exact Touch.refl _
    | with_reducible apply Touch.to (State.detect_touch ..)
    | with_reducible refine Touch.ite ?_ ?_
    | (show _ < 32; decide)
    | exact hd
    | split
    | dsimp only
    | with_reducible refine Touch.mk' ?_ rfl rfl ?_ ?_

theorem State.supplyFail_touch (s : State) (inst : Nat) (inj : Bool) : Touch 0x10300010000E20 s (State.supplyFail s inst inj) := by
  unfold State.supplyFail
  try dsimp only
  repeat' first
    | (show sub _ _ = true; decide +kernel)
    | with_reducible exact Touch.refl _
    | with_reducible apply Touch.to (State.cnDetect_touch ..)
    | with_reducible apply Touch.to (State.emit_touch ..)
    | with_reducible apply Touch.to (State.raise_touch ..)
    | with_reducible apply Touch.to (State.detect_touch ..)
    | with_reducible refine Touch.ite ?_ ?_
    | (show _ < 32; decide)
    | split
    | dsimp only

theorem State.oscillator_touch (s : State) (on : Bool) : Touch 0x50000008A0 s (State.oscillator s on) := by
  unfold State.oscillator
  try dsimp only
  repeat' first
    | (show sub _ _ = true; decide +kernel)
    | with_reducible exact Touch.refl _
    | with_reducible apply Touch.to (State.emit_touch ..)
    | with_reducible apply Touch.to (State.modCn_touch ..)
    | with_reducible apply Touch.to (State.ref25Lost_touch ..)
    | with_reducible refine Touch.ite ?_ ?_
    | split
    | dsimp only

theorem State.wakeFault_touch (s : State) (cause : Nat) (attempts : Nat) : Touch 0x20000000000 s (State.wakeFault s cause attempts) := by
  unfold State.wakeFault
  try dsimp only
  repeat' first
    | (show sub _ _ = true; decide +kernel)
    | with_reducible exact Touch.refl _
    | with_reducible apply Touch.to (State.bump_touch ..)
    | with_reducible apply Touch.to (State.put_touch ..)
    | with_reducible apply Touch.setReg64
    | dsimp only

theorem State.wakeFailed_touch (s : State) (cause : Nat) (attempts : Nat) (inj : Bool) : Touch 0x10325010000EA0 s (State.wakeFailed s cause attempts inj) := by
  unfold State.wakeFailed
  try dsimp only
  repeat' first
    | (show sub _ _ = true; decide +kernel)
    | with_reducible exact Touch.refl _
    | with_reducible apply Touch.to (State.oscillator_touch ..)
    | with_reducible apply Touch.to (State.wakeFault_touch ..)
    | with_reducible apply Touch.to (State.supplyFail_touch ..)
    | with_reducible apply Touch.to (State.put_touch ..)
    | with_reducible apply Touch.to (State.modCn_touch ..)
    | dsimp only

theorem State.supplyFailed_touch (s : State) (u : Supply) : Touch 0x3FFFF50FEC7FFE0 s (State.supplyFailed s u) := by
  unfold State.supplyFailed
  try dsimp only
  repeat' first
    | (show sub _ _ = true; decide +kernel)
    | (show State.sizesOk _ = true → _; first | with_reducible exact id | (intro hz; simp only [State.sizesOk, listSet_length, List.length_map, List.length_replicate] at hz ⊢; first | exact hz | (rw [sizesOf_iff] at hz ⊢; and_intros <;> first | rfl | exact hz.1 | exact hz.2.1 | exact hz.2.2.1 | exact hz.2.2.2.1 | exact hz.2.2.2.2.1 | exact hz.2.2.2.2.2.1 | exact hz.2.2.2.2.2.2)))
    | (show _ ∧ _; and_intros <;> first | (apply Or.inl; decide +kernel) | (apply Or.inr; with_reducible rfl))
    | with_reducible exact Touch.refl _
    | with_reducible apply Touch.to (State.modCn_touch ..)
    | with_reducible apply Touch.to (State.supplyFail_touch ..)
    | with_reducible apply Touch.to (State.abandon_touch ..)
    | with_reducible apply Touch.to (State.inject_touch ..)
    | with_reducible apply Touch.to (State.wakeFailed_touch ..)
    | with_reducible apply Touch.to (State.raise_touch ..)
    | with_reducible apply Touch.to (State.put_touch ..)
    | (show _ < 32; decide)
    | split
    | dsimp only
    | with_reducible refine Touch.mk' ?_ rfl rfl ?_ ?_

theorem State.attemptFailed_touch (s : State) (cmd : Nat) (inj : Bool) : Touch 0x3FFFF50FEC7FFE0 s (State.attemptFailed s cmd inj) := by
  unfold State.attemptFailed
  try dsimp only
  repeat' first
    | (show sub _ _ = true; decide +kernel)
    | with_reducible exact Touch.refl _
    | with_reducible apply Touch.to (State.bump_touch ..)
    | with_reducible apply Touch.to (State.cnDetect_touch ..)
    | with_reducible apply Touch.to (State.supplyFailed_touch ..)
    | with_reducible apply Touch.to (State.modCn_touch ..)
    | with_reducible refine Touch.ite ?_ ?_
    | (show _ < 32; decide)
    | split
    | dsimp only

theorem State.avsPeriod_touch (s : State) : Touch 0x30000000820 s (State.avsPeriod s) := by
  unfold State.avsPeriod
  try dsimp only
  repeat' first
    | (show sub _ _ = true; decide +kernel)
    | with_reducible exact Touch.refl _
    | with_reducible apply Touch.to (State.put_touch ..)
    | with_reducible apply Touch.to (State.modCn_touch ..)
    | with_reducible apply Touch.to (State.permitAsk_touch ..)
    | with_reducible apply Touch.to (State.supplyGo_touch ..)
    | with_reducible refine Touch.ite ?_ ?_
    | split
    | dsimp only

theorem State.chAsk_touch (s : State) : Touch 0x3800F0082401820 s (State.chAsk s) := by
  unfold State.chAsk
  try dsimp only
  repeat' first
    | (show sub _ _ = true; decide +kernel)
    | (show State.sizesOk _ = true → _; first | with_reducible exact id | (intro hz; simp only [State.sizesOk, listSet_length, List.length_map, List.length_replicate] at hz ⊢; first | exact hz | (rw [sizesOf_iff] at hz ⊢; and_intros <;> first | rfl | exact hz.1 | exact hz.2.1 | exact hz.2.2.1 | exact hz.2.2.2.1 | exact hz.2.2.2.2.1 | exact hz.2.2.2.2.2.1 | exact hz.2.2.2.2.2.2)))
    | (show _ ∧ _; and_intros <;> first | (apply Or.inl; decide +kernel) | (apply Or.inr; with_reducible rfl))
    | with_reducible exact Touch.refl _
    | with_reducible apply Touch.to (State.permitAsk_touch ..)
    | with_reducible apply Touch.to (State.chRefused_touch ..)
    | with_reducible refine Touch.ite ?_ ?_
    | split
    | dsimp only
    | with_reducible refine Touch.mk' ?_ rfl rfl ?_ ?_

theorem State.icClose_touch (s : State) : Touch 0x100 s (State.icClose s) := by
  unfold State.icClose
  try dsimp only
  repeat' first
    | (show sub _ _ = true; decide +kernel)
    | with_reducible assumption
    | with_reducible exact Touch.refl _
    | with_reducible apply Touch.to (State.icPend_touch ..)
    | with_reducible refine Touch.forEach ?_ (fun _ _ _ => ?_)
    | split
    | dsimp only

theorem State.closedEnd_touch (s : State) : Touch 0x920 s (State.closedEnd s) := by
  unfold State.closedEnd
  try dsimp only
  repeat' first
    | (show sub _ _ = true; decide +kernel)
    | with_reducible exact Touch.refl _
    | with_reducible apply Touch.to (State.modCn_touch ..)
    | with_reducible apply Touch.to (State.icClose_touch ..)
    | with_reducible apply Touch.to (State.emit_touch ..)
    | with_reducible refine Touch.ite ?_ ?_
    | split
    | dsimp only

theorem State.commandFailed_touch (s : State) (cmd : Nat) : Touch 0x3FFFF50FEC7FFE0 s (State.commandFailed s cmd) := by
  unfold State.commandFailed
  try dsimp only
  repeat' first
    | (show sub _ _ = true; decide +kernel)
    | with_reducible exact Touch.refl _
    | with_reducible apply Touch.to (State.inject_touch ..)
    | with_reducible apply Touch.to (State.attemptFailed_touch ..)
    | with_reducible refine Touch.ite ?_ ?_
    | (show _ < 32; decide)
    | split
    | dsimp only

theorem State.goodTimeout_touch (s : State) : Touch 0x3FFFF50FEC7FFE0 s (State.goodTimeout s) := by
  unfold State.goodTimeout
  try dsimp only
  repeat' first
    | (show sub _ _ = true; decide +kernel)
    | with_reducible exact Touch.refl _
    | with_reducible apply Touch.to (State.attemptFailed_touch ..)
    | with_reducible apply Touch.to (State.advanceTo_touch ..)
    | split
    | dsimp only

theorem State.paceSample_touch (s : State) (p : Nat) : Touch 0x30000000820 s (State.paceSample s p) := by
  unfold State.paceSample
  try dsimp only
  repeat' first
    | (show sub _ _ = true; decide +kernel)
    | with_reducible exact Touch.refl _
    | with_reducible apply Touch.to (State.modCn_touch ..)
    | with_reducible apply Touch.to (State.bump_touch ..)
    | with_reducible apply Touch.to (State.raise_touch ..)
    | with_reducible apply Touch.to (State.put_touch ..)
    | with_reducible apply Touch.to (State.forceUp_touch ..)
    | with_reducible refine Touch.ite ?_ ?_
    | split
    | dsimp only

theorem State.permitTimeout_touch (s : State) : Touch 0x3800F00824038A0 s (State.permitTimeout s) := by
  unfold State.permitTimeout
  try dsimp only
  repeat' first
    | (show sub _ _ = true; decide +kernel)
    | with_reducible exact Touch.refl _
    | with_reducible apply Touch.to (State.advanceTo_touch ..)
    | with_reducible apply Touch.to (State.permitGone_touch ..)
    | with_reducible apply Touch.to (State.permitRefused_touch ..)
    | with_reducible apply Touch.to (State.modCn_touch ..)
    | with_reducible apply Touch.to (State.sweepShow_touch ..)
    | with_reducible apply Touch.to (State.sweepKick_touch ..)
    | split
    | dsimp only

theorem State.wakeSource_touch (s : State) (x : WakeSrc) : Touch 0x3FFF3007EC7FF60 s (State.wakeSource s x) := by
  unfold State.wakeSource
  try dsimp only
  repeat' first
    | (show sub _ _ = true; decide +kernel)
    | with_reducible exact Touch.refl _
    | with_reducible apply Touch.to (State.modCn_touch ..)
    | with_reducible apply Touch.to (State.wakeUp_touch ..)
    | with_reducible apply Touch.to (State.wakeBegin_touch ..)
    | with_reducible refine Touch.ite ?_ ?_
    | split
    | dsimp only

theorem State.remoteWake_touch (s : State) (n : Fin 8) : Touch 0x3FFF3007EC7FF60 s (State.remoteWake s n) := by
  unfold State.remoteWake
  try dsimp only
  repeat' first
    | (show sub _ _ = true; decide +kernel)
    | with_reducible exact Touch.refl _
    | with_reducible apply Touch.to (State.raise_touch ..)
    | with_reducible apply Touch.to (State.wakeSource_touch ..)
    | with_reducible apply Touch.to (State.resume_touch ..)
    | with_reducible refine Touch.ite ?_ ?_
    | (refine up_20000 ?_ (by decide +kernel); simp only [F.gpAccEvents_remote_wake, R.gpAccEvents]; omega)
    | split
    | dsimp only

theorem State.samplesClear_touch (s : State) : Touch 0x20000000800 s (State.samplesClear s) := by
  unfold State.samplesClear
  try dsimp only
  repeat' first
    | (show sub _ _ = true; decide +kernel)
    | with_reducible exact Touch.refl _
    | with_reducible apply Touch.to (State.modCn_touch ..)
    | with_reducible apply Touch.to (State.put_touch ..)
    | dsimp only

theorem State.scrubAsk_touch (s : State) : Touch 0x30000000800 s (State.scrubAsk s) := by
  unfold State.scrubAsk
  try dsimp only
  repeat' first
    | (show sub _ _ = true; decide +kernel)
    | with_reducible exact Touch.refl _
    | with_reducible apply Touch.to (State.permitAsk_touch ..)
    | with_reducible apply Touch.to (State.bump_touch ..)
    | with_reducible refine Touch.ite ?_ ?_
    | split
    | dsimp only

theorem State.scrubDone_touch (s : State) (e : List SramFlip) : Touch 0x7FF320076C7FF60 s (State.scrubDone s e) := by
  unfold State.scrubDone
  try dsimp only
  repeat' first
    | (show sub _ _ = true; decide +kernel)
    | with_reducible exact Touch.refl _
    | with_reducible apply Touch.to (State.addFlips_touch ..)
    | with_reducible apply Touch.to (State.wordsFound_touch ..)
    | with_reducible apply Touch.to (State.ramFire_touch ..)
    | with_reducible apply Touch.to (State.bump_touch ..)
    | with_reducible apply Touch.to (State.permitReturn_touch ..)
    | with_reducible apply Touch.to (State.modCn_touch ..)
    | with_reducible refine Touch.ite ?_ ?_
    | split
    | dsimp only

theorem State.stepNext_touch (s : State) (origin : Nat) : Touch 0x3FFFF00FEC7FF60 s (State.stepNext s origin) := by
  unfold State.stepNext
  try dsimp only
  repeat' first
    | (show sub _ _ = true; decide +kernel)
    | with_reducible exact Touch.refl _
    | with_reducible apply Touch.to (State.modCn_touch ..)
    | with_reducible apply Touch.to (State.wakeBegin_touch ..)
    | with_reducible apply Touch.to (State.wakeUp_touch ..)
    | with_reducible apply Touch.to (State.moveTo_touch ..)
    | with_reducible refine Touch.ite ?_ ?_
    | split
    | dsimp only

theorem State.stepDone_touch (s : State) : Touch 0x3FFFF00FEC7FF60 s (State.stepDone s) := by
  unfold State.stepDone
  try dsimp only
  repeat' first
    | (show sub _ _ = true; decide +kernel)
    | with_reducible exact Touch.refl _
    | with_reducible apply Touch.to (State.spansPark_touch ..)
    | with_reducible apply Touch.to (State.abandon_touch ..)
    | with_reducible apply Touch.to (State.supplyGo_touch ..)
    | with_reducible apply Touch.to (State.stepNext_touch ..)
    | with_reducible apply Touch.to (State.setPower_touch ..)
    | with_reducible apply Touch.to (State.closedEnd_touch ..)
    | with_reducible refine Touch.ite ?_ ?_
    | split
    | dsimp only

theorem State.stepTimeout_touch (s : State) : Touch 0x3FFFF00FEC7FFE0 s (State.stepTimeout s) := by
  unfold State.stepTimeout
  try dsimp only
  repeat' first
    | (show sub _ _ = true; decide +kernel)
    | with_reducible exact Touch.refl _
    | with_reducible apply Touch.to (State.spansPark_touch ..)
    | with_reducible apply Touch.to (State.abandon_touch ..)
    | with_reducible apply Touch.to (State.advanceTo_touch ..)
    | with_reducible refine Touch.ite ?_ ?_
    | split
    | dsimp only

theorem State.supplyAcked_touch (s : State) : Touch 0x3FFFF50FEC7FFE0 s (State.supplyAcked s) := by
  unfold State.supplyAcked
  try dsimp only
  repeat' first
    | (show sub _ _ = true; decide +kernel)
    | with_reducible exact Touch.refl _
    | with_reducible apply Touch.to (State.inject_touch ..)
    | with_reducible apply Touch.to (State.attemptFailed_touch ..)
    | with_reducible apply Touch.to (State.modCn_touch ..)
    | with_reducible refine Touch.ite ?_ ?_
    | (show _ < 32; decide)
    | split
    | dsimp only

theorem State.supplyDone_touch (s : State) (u : Supply) : Touch 0x3FFFF50FEC7FFE0 s (State.supplyDone s u) := by
  unfold State.supplyDone
  try dsimp only
  repeat' first
    | (show sub _ _ = true; decide +kernel)
    | with_reducible exact Touch.refl _
    | with_reducible apply Touch.to (State.put_touch ..)
    | with_reducible apply Touch.to (State.modCn_touch ..)
    | with_reducible apply Touch.to (State.oscillator_touch ..)
    | with_reducible apply Touch.to (State.stepNext_touch ..)
    | with_reducible apply Touch.to (State.setPower_touch ..)
    | with_reducible apply Touch.to (State.samplesClear_touch ..)
    | split
    | dsimp only

theorem State.supplyPoll_touch (s : State) (sw : Nat) (pg : Bool) : Touch 0x3FFFF50FEC7FFE0 s (State.supplyPoll s sw pg) := by
  unfold State.supplyPoll
  try dsimp only
  repeat' first
    | (show sub _ _ = true; decide +kernel)
    | with_reducible exact Touch.refl _
    | with_reducible apply Touch.to (State.pmb_touch ..)
    | with_reducible apply Touch.to (State.inject_touch ..)
    | with_reducible apply Touch.to (State.attemptFailed_touch ..)
    | with_reducible apply Touch.to (State.put_touch ..)
    | with_reducible apply Touch.to (State.supplyDone_touch ..)
    | with_reducible refine Touch.ite ?_ ?_
    | (show _ < 32; decide)
    | split
    | dsimp only

theorem State.supplyRetry_touch (s : State) : Touch 0x20000000820 s (State.supplyRetry s) := by
  unfold State.supplyRetry
  try dsimp only
  repeat' first
    | (show sub _ _ = true; decide +kernel)
    | with_reducible exact Touch.refl _
    | with_reducible apply Touch.to (State.pmb_touch ..)
    | with_reducible apply Touch.to (State.modCn_touch ..)
    | with_reducible refine Touch.ite ?_ ?_
    | split
    | dsimp only

theorem State.writeCn_touch (s : State) (off : Nat) (w : Word) (plain : Word) : Touch 0x3FFFFFCFEC7FF60 s (State.writeCn s off w plain) := by
  unfold State.writeCn
  try dsimp only
  repeat' first
    | (show sub _ _ = true; decide +kernel)
    | with_reducible exact Touch.refl _
    | with_reducible apply Touch.to (State.powerTarget_touch ..)
    | with_reducible apply Touch.to (State.setReg_touch ..)
    | with_reducible apply Touch.to (State.put_touch ..)
    | with_reducible apply Touch.setReg64
    | with_reducible refine Touch.ite ?_ ?_
    | (exact up_0 (Nat.zero_le _) (by decide +kernel))
    | split
    | dsimp only

theorem execAonStatusRead_touch (ok : Bool) (s : State) : ∃ u, execAonStatusRead ok s = .next u ∧ Touch 0x18370430000F60 s u := by
  unfold execAonStatusRead
  refine act_touch s _ (by decide +kernel) ?_
  try dsimp only
  repeat' first
    | (show sub _ _ = true; decide +kernel)
    | with_reducible exact Touch.refl _
    | with_reducible apply Touch.to (State.pmbTo_touch ..)
    | with_reducible apply Touch.to (State.inject_touch ..)
    | with_reducible apply Touch.to (State.detect_touch ..)
    | with_reducible refine Touch.ite ?_ ?_
    | (show _ < 32; decide)
    | split
    | dsimp only

theorem execAvsPeriod_touch (s : State) : ∃ u, execAvsPeriod s = .next u ∧ Touch 0x8270430000B60 s u := by
  unfold execAvsPeriod
  refine act_touch s _ (by decide +kernel) ?_
  try dsimp only
  repeat' first
    | (show sub _ _ = true; decide +kernel)
    | with_reducible exact Touch.refl _
    | with_reducible apply Touch.to (State.avsPeriod_touch ..)
    | dsimp only

theorem execEntryStepDone_touch (s : State) : ∃ u, execEntryStepDone s = .next u ∧ Touch 0x3FFFF04FEC7FF60 s u := by
  unfold execEntryStepDone
  refine act_touch s _ (by decide +kernel) ?_
  try dsimp only
  repeat' first
    | (show sub _ _ = true; decide +kernel)
    | with_reducible exact Touch.refl _
    | with_reducible apply Touch.to (State.stepDone_touch ..)
    | dsimp only

theorem execEntryTimeout_touch (s : State) : ∃ u, execEntryTimeout s = .next u ∧ Touch 0x3FFFF04FEC7FFE0 s u := by
  unfold execEntryTimeout
  refine act_touch s _ (by decide +kernel) ?_
  try dsimp only
  repeat' first
    | (show sub _ _ = true; decide +kernel)
    | with_reducible exact Touch.refl _
    | with_reducible apply Touch.to (State.stepTimeout_touch ..)
    | dsimp only

theorem execPaceSample_touch (p : BitVec 16) (s : State) : ∃ u, execPaceSample p s = .next u ∧ Touch 0x8270430000B60 s u := by
  unfold execPaceSample
  refine act_touch s _ (by decide +kernel) ?_
  try dsimp only
  repeat' first
    | (show sub _ _ = true; decide +kernel)
    | with_reducible exact Touch.refl _
    | with_reducible apply Touch.to (State.paceSample_touch ..)
    | dsimp only

theorem execPermitWaitTimeout_touch (s : State) : ∃ u, execPermitWaitTimeout s = .next u ∧ Touch 0x3882F04B2403BE0 s u := by
  unfold execPermitWaitTimeout
  refine act_touch s _ (by decide +kernel) ?_
  try dsimp only
  repeat' first
    | (show sub _ _ = true; decide +kernel)
    | with_reducible exact Touch.refl _
    | with_reducible apply Touch.to (State.permitTimeout_touch ..)
    | dsimp only

theorem execPmbusAck_touch (s : State) : ∃ u, execPmbusAck s = .next u ∧ Touch 0x3FFFF54FEC7FFE0 s u := by
  unfold execPmbusAck
  refine act_touch s _ (by decide +kernel) ?_
  try dsimp only
  repeat' first
    | (show sub _ _ = true; decide +kernel)
    | with_reducible exact Touch.refl _
    | with_reducible apply Touch.to (State.supplyAcked_touch ..)
    | dsimp only

theorem execPmbusCommandFail_touch (cmd : BitVec 8) (s : State) : ∃ u, execPmbusCommandFail cmd s = .next u ∧ Touch 0x3FFFF54FEC7FFE0 s u := by
  unfold execPmbusCommandFail
  refine act_touch s _ (by decide +kernel) ?_
  try dsimp only
  repeat' first
    | (show sub _ _ = true; decide +kernel)
    | with_reducible exact Touch.refl _
    | with_reducible apply Touch.to (State.commandFailed_touch ..)
    | dsimp only

theorem execPmbusRetry_touch (s : State) : ∃ u, execPmbusRetry s = .next u ∧ Touch 0x8270430000B60 s u := by
  unfold execPmbusRetry
  refine act_touch s _ (by decide +kernel) ?_
  try dsimp only
  repeat' first
    | (show sub _ _ = true; decide +kernel)
    | with_reducible exact Touch.refl _
    | with_reducible apply Touch.to (State.supplyRetry_touch ..)
    | dsimp only

theorem execPmbusStatusPoll_touch (sw : BitVec 16) (pg : Bool) (s : State) : ∃ u, execPmbusStatusPoll sw pg s = .next u ∧ Touch 0x3FFFF54FEC7FFE0 s u := by
  unfold execPmbusStatusPoll
  refine act_touch s _ (by decide +kernel) ?_
  try dsimp only
  repeat' first
    | (show sub _ _ = true; decide +kernel)
    | with_reducible exact Touch.refl _
    | with_reducible apply Touch.to (State.supplyPoll_touch ..)
    | dsimp only

theorem execPowerGoodTimeout_touch (s : State) : ∃ u, execPowerGoodTimeout s = .next u ∧ Touch 0x3FFFF54FEC7FFE0 s u := by
  unfold execPowerGoodTimeout
  refine act_touch s _ (by decide +kernel) ?_
  try dsimp only
  repeat' first
    | (show sub _ _ = true; decide +kernel)
    | with_reducible exact Touch.refl _
    | with_reducible apply Touch.to (State.goodTimeout_touch ..)
    | dsimp only

theorem execRemoteWakeBeacon_touch (n : Fin 8) (s : State) : ∃ u, execRemoteWakeBeacon n s = .next u ∧ Touch 0x3FFF7047EC7FF60 s u := by
  unfold execRemoteWakeBeacon
  refine act_touch s _ (by decide +kernel) ?_
  try dsimp only
  repeat' first
    | (show sub _ _ = true; decide +kernel)
    | with_reducible exact Touch.refl _
    | with_reducible apply Touch.to (State.remoteWake_touch ..)
    | with_reducible refine Touch.ite ?_ ?_
    | split
    | dsimp only

theorem execScrubInterval_touch (s : State) : ∃ u, execScrubInterval s = .next u ∧ Touch 0x8270430000B60 s u := by
  unfold execScrubInterval
  refine act_touch s _ (by decide +kernel) ?_
  try dsimp only
  repeat' first
    | (show sub _ _ = true; decide +kernel)
    | with_reducible exact Touch.refl _
    | with_reducible apply Touch.to (State.scrubAsk_touch ..)
    | dsimp only

theorem execScrubPassDone_touch (e : List SramFlip) (s : State) : ∃ u, execScrubPassDone e s = .next u ∧ Touch 0x7FF370476C7FF60 s u := by
  unfold execScrubPassDone
  refine act_touch s _ (by decide +kernel) ?_
  try dsimp only
  repeat' first
    | (show sub _ _ = true; decide +kernel)
    | with_reducible exact Touch.refl _
    | with_reducible apply Touch.to (State.scrubDone_touch ..)
    | dsimp only

theorem execWakeSource_touch (x : WakeSrc) (s : State) : ∃ u, execWakeSource x s = .next u ∧ Touch 0x3FFF7047EC7FF60 s u := by
  unfold execWakeSource
  refine act_touch s _ (by decide +kernel) ?_
  try dsimp only
  repeat' first
    | (show sub _ _ = true; decide +kernel)
    | with_reducible exact Touch.refl _
    | with_reducible apply Touch.to (State.wakeSource_touch ..)
    | dsimp only

end Sys2Proof.Machine
end

