-- ==== Sys2Proof/Laws/FrameLinks.lean ====
section
/-! SUPPORT. What each operation of Machine/Links.lean touches: the parts of its set (Laws/Touch.lean), and nothing else. -/

set_option linter.unusedSimpArgs false
set_option linter.unusedVariables false
set_option Elab.async false

namespace Sys2Proof.Machine

theorem State.gliysHit_touch (s : State) (n : Nat) : Touch 0x3FC000056C03920 s (State.gliysHit s n) := by
  unfold State.gliysHit
  try dsimp only
  repeat' first
    | (show sub _ _ = true; decide +kernel)
    | with_reducible exact Touch.refl _
    | with_reducible apply Touch.to (State.gpHit_touch ..)
    | with_reducible apply Touch.to (State.ownLose_touch ..)
    | with_reducible refine Touch.ite ?_ ?_
    | split
    | dsimp only

theorem State.onGliys_touch {m : Nat} {b s : State} {n : Nat} {f : State → Nat → State} (h : Touch m b s)
    (hf : Touch m b (f s n)) : Touch m b (s.onGliys n f) := by
  unfold State.onGliys
  split
  · exact hf
  · exact h

theorem State.onPort_touch {m : Nat} {b s : State} {p : PortRef} {f g : State → Nat → State} (h : Touch m b s)
    (hf : ∀ n, Touch m b (f s n)) (hg : ∀ n, Touch m b (g s n)) : Touch m b (s.onPort p f g) := by
  unfold State.onPort
  repeat' first | exact h | exact hf _ | exact hg _ | split

theorem State.resumeFst_touch (s : State) (n : Nat) : Touch 0x3FD030056C1F920 s (State.resumeFst s n) := by
  unfold State.resumeFst
  try dsimp only
  repeat' first
    | (show sub _ _ = true; decide +kernel)
    | with_reducible exact Touch.refl _
    | with_reducible apply Touch.to (State.resumed_touch ..)
    | with_reducible apply Touch.to (State.fstSend_touch ..)
    | with_reducible apply Touch.to (State.modPort_touch ..)
    | with_reducible refine Touch.ite ?_ ?_
    | split
    | dsimp only

theorem State.sfpShow_touch (s : State) (n : Nat) : Touch 0x3FC000056C03920 s (State.sfpShow s n) := by
  unfold State.sfpShow
  try dsimp only
  repeat' first
    | (show sub _ _ = true; decide +kernel)
    | with_reducible exact Touch.refl _
    | with_reducible apply Touch.to (State.putB_touch ..)
    | with_reducible apply Touch.to (State.gliysHit_touch ..)
    | with_reducible refine Touch.ite ?_ ?_
    | (refine up_20000 ?_ (by decide +kernel); simp only [F.gpLinkStatus_sfp_los, F.gpLinkStatus_sfp_present, F.gpLinkStatus_signal_present, R.gpLinkStatus]; omega)
    | split
    | dsimp only

theorem State.sfpChange_touch (s : State) (n : Nat) (los : Bool) (abs : Bool) : Touch 0x3FC000056C03920 s (State.sfpChange s n los abs) := by
  unfold State.sfpChange
  try dsimp only
  repeat' first
    | (show sub _ _ = true; decide +kernel)
    | with_reducible exact Touch.refl _
    | with_reducible apply Touch.to (State.modPort_touch ..)
    | with_reducible apply Touch.to (State.sfpShow_touch ..)
    | with_reducible refine Touch.ite ?_ ?_
    | split
    | dsimp only

theorem State.sweepAgain_touch (s : State) (n : Nat) (a : Nat) : Touch 0x300030000002800 s (State.sweepAgain s n a) := by
  unfold State.sweepAgain
  try dsimp only
  repeat' first
    | (show sub _ _ = true; decide +kernel)
    | with_reducible exact Touch.refl _
    | with_reducible apply Touch.to (State.sweepQueue_touch ..)
    | with_reducible refine Touch.ite ?_ ?_
    | split
    | dsimp only

theorem execAttachRetry_touch (n : Fin 8) (s : State) : ∃ u, execAttachRetry n s = .next u ∧ Touch 0x3FD250476C1FB60 s u := by
  unfold execAttachRetry
  refine act_touch s _ (by decide +kernel) ?_
  try dsimp only
  repeat' first
    | (show sub _ _ = true; decide +kernel)
    | with_reducible exact Touch.refl _
    | with_reducible refine State.onGliys_touch ?_ ?_
    | with_reducible apply Touch.to (State.attachAgain_touch ..)
    | dsimp only

theorem execAttachWaitDone_touch (n : Fin 8) (s : State) : ∃ u, execAttachWaitDone n s = .next u ∧ Touch 0x8250430002B60 s u := by
  unfold execAttachWaitDone
  refine act_touch s _ (by decide +kernel) ?_
  try dsimp only
  repeat' first
    | (show sub _ _ = true; decide +kernel)
    | with_reducible exact Touch.refl _
    | with_reducible refine State.onGliys_touch ?_ ?_
    | with_reducible apply Touch.to (State.attachWaited_touch ..)
    | dsimp only

theorem execBusResetRetrain_touch (n : Fin 8) (s : State) : ∃ u, execBusResetRetrain n s = .next u ∧ Touch 0x309250430012B60 s u := by
  unfold execBusResetRetrain
  refine act_touch s _ (by decide +kernel) ?_
  try dsimp only
  repeat' first
    | (show sub _ _ = true; decide +kernel)
    | with_reducible exact Touch.refl _
    | with_reducible refine State.onGliys_touch ?_ ?_
    | with_reducible apply Touch.to (State.resetRetrain_touch ..)
    | dsimp only

theorem execBusResetTimeout_touch (n : Fin 8) (s : State) : ∃ u, execBusResetTimeout n s = .next u ∧ Touch 0x309250430012BE0 s u := by
  unfold execBusResetTimeout
  refine act_touch s _ (by decide +kernel) ?_
  try dsimp only
  repeat' first
    | (show sub _ _ = true; decide +kernel)
    | with_reducible exact Touch.refl _
    | with_reducible refine State.onGliys_touch ?_ ?_
    | with_reducible apply Touch.to (State.resetTimeout_touch ..)
    | dsimp only

theorem execFastTrainingTimeout_touch (p : PortRef) (s : State) : ∃ u, execFastTrainingTimeout p s = .next u ∧ Touch 0x8250430002B60 s u := by
  unfold execFastTrainingTimeout
  refine act_touch s _ (by decide +kernel) ?_
  try dsimp only
  repeat' first
    | (show sub _ _ = true; decide +kernel)
    | with_reducible exact Touch.refl _
    | with_reducible refine State.onPort_touch ?_ (fun _ => ?_) (fun _ => ?_)
    | with_reducible apply Touch.to (State.gpFastTimeout_touch ..)
    | with_reducible apply Touch.to (State.spanFastTimeout_touch ..)
    | dsimp only

theorem execHitTimeout_touch (p : PortRef) (s : State) : ∃ u, execHitTimeout p s = .next u ∧ Touch 0x3FD270476C1FB60 s u := by
  unfold execHitTimeout
  refine act_touch s _ (by decide +kernel) ?_
  try dsimp only
  repeat' first
    | (show sub _ _ = true; decide +kernel)
    | with_reducible exact Touch.refl _
    | with_reducible refine State.onPort_touch ?_ (fun _ => ?_) (fun _ => ?_)
    | with_reducible apply Touch.to (State.gpHitTimeout_touch ..)
    | with_reducible apply Touch.to (State.spanHitTimeout_touch ..)
    | dsimp only

theorem execLinkHit_touch (p : PortRef) (s : State) : ∃ u, execLinkHit p s = .next u ∧ Touch 0x3FC270476C03B60 s u := by
  unfold execLinkHit
  refine act_touch s _ (by decide +kernel) ?_
  try dsimp only
  repeat' first
    | (show sub _ _ = true; decide +kernel)
    | with_reducible exact Touch.refl _
    | with_reducible refine State.onPort_touch ?_ (fun _ => ?_) (fun _ => ?_)
    | with_reducible apply Touch.to (State.gliysHit_touch ..)
    | with_reducible apply Touch.to (State.spanHit_touch ..)
    | dsimp only

theorem execPartnerBeacon_touch (p : PortRef) (t : Nat) (commas : Bool) (s : State) : ∃ u, execPartnerBeacon p t commas s = .next u ∧ Touch 0x3F8270430002BE0 s u := by
  unfold execPartnerBeacon
  refine act_touch s _ (by decide +kernel) ?_
  try dsimp only
  repeat' first
    | (show sub _ _ = true; decide +kernel)
    | with_reducible exact Touch.refl _
    | with_reducible refine State.onPort_touch ?_ (fun _ => ?_) (fun _ => ?_)
    | with_reducible apply Touch.to (State.advanceTo_touch ..)
    | with_reducible apply Touch.to (State.gpBeacon_touch ..)
    | with_reducible apply Touch.to (State.spanBeacon_touch ..)
    | dsimp only

theorem execPartnerBeaconLoss_touch (p : PortRef) (s : State) : ∃ u, execPartnerBeaconLoss p s = .next u ∧ Touch 0x3F8250430002B60 s u := by
  unfold execPartnerBeaconLoss
  refine act_touch s _ (by decide +kernel) ?_
  try dsimp only
  repeat' first
    | (show sub _ _ = true; decide +kernel)
    | with_reducible exact Touch.refl _
    | with_reducible refine State.onPort_touch ?_ (fun _ => ?_) (fun _ => ?_)
    | with_reducible apply Touch.to (State.gpBeaconLoss_touch ..)
    | with_reducible apply Touch.to (State.spanBeaconLoss_touch ..)
    | dsimp only

theorem execPortDisableEnd_touch (n : Fin 8) (s : State) : ∃ u, execPortDisableEnd n s = .next u ∧ Touch 0x308250430002B60 s u := by
  unfold execPortDisableEnd
  refine act_touch s _ (by decide +kernel) ?_
  try dsimp only
  repeat' first
    | (show sub _ _ = true; decide +kernel)
    | with_reducible exact Touch.refl _
    | with_reducible refine State.onGliys_touch ?_ ?_
    | with_reducible apply Touch.to (State.pulseEnd_touch ..)
    | dsimp only

theorem execRangingPermitRetry_touch (p : PortRef) (addr : Fin 64) (s : State) : ∃ u, execRangingPermitRetry p addr s = .next u ∧ Touch 0x308270430002B60 s u := by
  unfold execRangingPermitRetry
  refine act_touch s _ (by decide +kernel) ?_
  try dsimp only
  repeat' first
    | (show sub _ _ = true; decide +kernel)
    | with_reducible exact Touch.refl _
    | with_reducible refine State.onPort_touch ?_ (fun _ => ?_) (fun _ => ?_)
    | with_reducible apply Touch.to (State.sweepAgain_touch ..)
    | with_reducible apply Touch.to (State.spanSweepAsk_touch ..)
    | with_reducible refine Touch.ite ?_ ?_
    | split
    | dsimp only

theorem execResumeFst_touch (n : Fin 8) (s : State) : ∃ u, execResumeFst n s = .next u ∧ Touch 0x3FD270476C1FB60 s u := by
  unfold execResumeFst
  refine act_touch s _ (by decide +kernel) ?_
  try dsimp only
  repeat' first
    | (show sub _ _ = true; decide +kernel)
    | with_reducible exact Touch.refl _
    | with_reducible refine State.onGliys_touch ?_ ?_
    | with_reducible apply Touch.to (State.resumeFst_touch ..)
    | dsimp only

theorem execSfpLosChange_touch (n : Fin 8) (los : Bool) (abs : Bool) (s : State) : ∃ u, execSfpLosChange n los abs s = .next u ∧ Touch 0x3FC250476C03B60 s u := by
  unfold execSfpLosChange
  refine act_touch s _ (by decide +kernel) ?_
  try dsimp only
  repeat' first
    | (show sub _ _ = true; decide +kernel)
    | with_reducible exact Touch.refl _
    | with_reducible refine State.onGliys_touch ?_ ?_
    | with_reducible apply Touch.to (State.sfpChange_touch ..)
    | dsimp only

theorem execSusReceived_touch (n : Fin 8) (s : State) : ∃ u, execSusReceived n s = .next u ∧ Touch 0x3FF250476C7FB60 s u := by
  unfold execSusReceived
  refine act_touch s _ (by decide +kernel) ?_
  try dsimp only
  repeat' first
    | (show sub _ _ = true; decide +kernel)
    | with_reducible exact Touch.refl _
    | with_reducible refine State.onGliys_touch ?_ ?_
    | with_reducible apply Touch.to (State.suspended_touch ..)
    | dsimp only

theorem execSusTimeout_touch (n : Fin 8) (s : State) : ∃ u, execSusTimeout n s = .next u ∧ Touch 0x3FF250476C7FB60 s u := by
  unfold execSusTimeout
  refine act_touch s _ (by decide +kernel) ?_
  try dsimp only
  repeat' first
    | (show sub _ _ = true; decide +kernel)
    | with_reducible exact Touch.refl _
    | with_reducible refine State.onGliys_touch ?_ ?_
    | with_reducible apply Touch.to (State.suspended_touch ..)
    | dsimp only

theorem execSuspendAtBoundary_touch (n : Fin 8) (s : State) : ∃ u, execSuspendAtBoundary n s = .next u ∧ Touch 0x8250430002B60 s u := by
  unfold execSuspendAtBoundary
  refine act_touch s _ (by decide +kernel) ?_
  try dsimp only
  repeat' first
    | (show sub _ _ = true; decide +kernel)
    | with_reducible exact Touch.refl _
    | with_reducible refine State.onGliys_touch ?_ ?_
    | with_reducible apply Touch.to (State.suspendSend_touch ..)
    | dsimp only

theorem execSweepRetry_touch (n : Fin 8) (addr : Fin 64) (s : State) : ∃ u, execSweepRetry n addr s = .next u ∧ Touch 0x308270430002B60 s u := by
  unfold execSweepRetry
  refine act_touch s _ (by decide +kernel) ?_
  try dsimp only
  repeat' first
    | (show sub _ _ = true; decide +kernel)
    | with_reducible exact Touch.refl _
    | with_reducible refine State.onGliys_touch ?_ ?_
    | with_reducible apply Touch.to (State.sweepAgain_touch ..)
    | dsimp only

theorem execTrainingComplete_touch (p : PortRef) (role : Fin 8) (partner : Nat) (pport : Fin 4) (s : State) : ∃ u, execTrainingComplete p role partner pport s = .next u ∧ Touch 0x3FD270476C1FB60 s u := by
  unfold execTrainingComplete
  refine act_touch s _ (by decide +kernel) ?_
  try dsimp only
  repeat' first
    | (show sub _ _ = true; decide +kernel)
    | with_reducible exact Touch.refl _
    | with_reducible refine State.onPort_touch ?_ (fun _ => ?_) (fun _ => ?_)
    | with_reducible apply Touch.to (State.gpTrained_touch ..)
    | with_reducible apply Touch.to (State.spanTrained_touch ..)
    | dsimp only

theorem execTrainingPermitRetry_touch (p : PortRef) (s : State) : ∃ u, execTrainingPermitRetry p s = .next u ∧ Touch 0x3F8270430000B60 s u := by
  unfold execTrainingPermitRetry
  refine act_touch s _ (by decide +kernel) ?_
  try dsimp only
  repeat' first
    | (show sub _ _ = true; decide +kernel)
    | with_reducible exact Touch.refl _
    | with_reducible refine State.onPort_touch ?_ (fun _ => ?_) (fun _ => ?_)
    | with_reducible apply Touch.to (State.gpPermitRetry_touch ..)
    | with_reducible apply Touch.to (State.spanPermitRetry_touch ..)
    | dsimp only

theorem execTrainingTimeout_touch (p : PortRef) (s : State) : ∃ u, execTrainingTimeout p s = .next u ∧ Touch 0x3FD270476C1FB60 s u := by
  unfold execTrainingTimeout
  refine act_touch s _ (by decide +kernel) ?_
  try dsimp only
  repeat' first
    | (show sub _ _ = true; decide +kernel)
    | with_reducible exact Touch.refl _
    | with_reducible refine State.onPort_touch ?_ (fun _ => ?_) (fun _ => ?_)
    | with_reducible apply Touch.to (State.gpTrainTimeout_touch ..)
    | with_reducible apply Touch.to (State.spanTrainTimeout_touch ..)
    | dsimp only

end Sys2Proof.Machine
end

