-- ==== Sys2Proof/Laws/FrameReset.lean ====
section
/-! SUPPORT. What each operation of Machine/Reset.lean touches: the parts of its set (Laws/Touch.lean), and nothing else. -/

set_option linter.unusedSimpArgs false
set_option linter.unusedVariables false
set_option Elab.async false

namespace Sys2Proof.Machine

theorem State.clearWaiting_touch (s : State) : Touch 0x600000000200 s (State.clearWaiting s) := by
  unfold State.clearWaiting
  try dsimp only
  repeat' first
    | (show sub _ _ = true; decide +kernel)
    | with_reducible exact Touch.refl _
    | with_reducible apply Touch.to (State.storeClear_touch ..)
    | with_reducible refine Touch.ite ?_ ?_
    | split
    | dsimp only

theorem Tab.wf_nil {α : Type} [DecidableEq α] (d : Nat → α) : Tab.wf d [] = true := rfl

theorem State.coldReset_touch (s : State) (power chainLow twinHigh : Bool) : Touch 0x7FFFFFFFFFFFFFF s (s.coldReset power chainLow twinHigh) := by
  have k : Touch 0x7FFFFFFFFFFFFFF { State.reset with
      part := s.part
      pending := s.pending
      out := s.out ++ State.reset.out.filter fun o => power || !(s.jtag.holds && o.scanned)
      free := s.free
      fuses := s.fuses
      pci := { perst := s.pci.perst }
      jtag := if power then {} else s.jtag
      sp := { State.reset.sp with head := chainLow } } (s.coldReset power chainLow twinHigh) := by
    unfold State.coldReset
    dsimp only
    repeat' first
      | (show sub _ _ = true; decide +kernel)
      | with_reducible exact Touch.refl _
      | with_reducible apply Touch.to (State.put_touch ..)
      | with_reducible apply Touch.setReg64
      | with_reducible apply Touch.to (State.putB_touch ..)
      | with_reducible apply Touch.to (State.setReg_touch ..)
      | with_reducible refine Touch.ite ?_ ?_
  exact Touch.top (fun _ => k.mem rfl) fun _ => k.sizes rfl

theorem State.galleryBack_touch (s : State) (g : Nat) : Touch 0x380000046C01120 s (State.galleryBack s g) := by
  unfold State.galleryBack
  try dsimp only
  repeat' first
    | (show sub _ _ = true; decide +kernel)
    | with_reducible exact Touch.refl _
    | with_reducible apply Touch.to (State.galleryDone_touch ..)
    | with_reducible apply Touch.to (State.galleryClose_touch ..)
    | dsimp only

theorem State.wakePin_touch (s : State) (cause : Nat) : Touch 0x820 s (State.wakePin s cause) := by
  unfold State.wakePin
  try dsimp only
  repeat' first
    | (show sub _ _ = true; decide +kernel)
    | with_reducible exact Touch.refl _
    | with_reducible apply Touch.to (State.emit_touch ..)
    | with_reducible apply Touch.to (State.modCn_touch ..)
    | with_reducible refine Touch.ite ?_ ?_
    | split
    | dsimp only

theorem State.pcieUp_touch (s : State) : Touch 0x20 s (State.pcieUp s) := by
  unfold State.pcieUp
  try dsimp only
  repeat' first
    | (show sub _ _ = true; decide +kernel)
    | with_reducible exact Touch.refl _
    | with_reducible apply Touch.to (State.emit_touch ..)
    | with_reducible refine Touch.ite ?_ ?_
    | split
    | dsimp only

theorem State.workAbandon_touch (s : State) : Touch 0x4EC02000 s (State.workAbandon s) := by
  unfold State.workAbandon
  try dsimp only
  repeat' first
    | (show sub _ _ = true; decide +kernel)
    | (show State.sizesOk _ = true → _; first | with_reducible exact id | (intro hz; simp only [State.sizesOk, listSet_length, List.length_map, List.length_replicate] at hz ⊢; first | exact hz | (rw [sizesOf_iff] at hz ⊢; and_intros <;> first | rfl | exact hz.1 | exact hz.2.1 | exact hz.2.2.1 | exact hz.2.2.2.1 | exact hz.2.2.2.2.1 | exact hz.2.2.2.2.2.1 | exact hz.2.2.2.2.2.2)))
    | (show _ ∧ _; and_intros <;> first | (apply Or.inl; decide +kernel) | (apply Or.inr; with_reducible rfl))
    | with_reducible assumption
    | with_reducible exact Touch.refl _
    | with_reducible apply Touch.to (State.modRing_touch ..)
    | with_reducible apply Touch.to (State.modEv_touch ..)
    | with_reducible refine Touch.ite ?_ ?_
    | with_reducible refine Touch.forEach ?_ (fun _ _ _ => ?_)
    | split
    | dsimp only
    | with_reducible refine Touch.mk' ?_ rfl rfl ?_ ?_

theorem State.permitsReset_touch (s : State) : Touch 0x3800E0082403820 s (State.permitsReset s) := by
  unfold State.permitsReset
  try dsimp only
  repeat' first
    | (show sub _ _ = true; decide +kernel)
    | with_reducible assumption
    | with_reducible exact Touch.refl _
    | with_reducible apply Touch.to (State.modCn_touch ..)
    | with_reducible apply Touch.to (State.permitGone_touch ..)
    | with_reducible refine Touch.forEach ?_ (fun _ _ _ => ?_)
    | split
    | dsimp only

/-- The register table replaced, at the end of a chain. -/
theorem Touch.regs' {m : Nat} {b s : State} {rs : Tab Word} (h : Touch m b s) (e : sub 0x3FFFFFC00000000 m = true)
    (k : Tab.wf resetWord s.regs = true → Tab.wf resetWord rs = true) : Touch m b { s with regs := rs } where
  mem x := State.memOk_of (h.mem x) k id
  sizes x := h.sizes x
  reg off x := by
    have y := sub_testBit (sub_trans (up_0 (M := 0x3FFFFFC00000000) (Nat.zero_le off) (by decide +kernel)) e) x
    rw [testBit_regBit] at y
    exact absurd y Bool.true_eq_false.mp
  part x := h.part x
  off x := h.off x
  pending x := h.pending x
  caps x := h.caps x
  sram x := h.sram x
  out x := h.out x
  free x := h.free x
  tk x := h.tk x
  ic x := h.ic x
  rg x := h.rg x
  fi x := h.fi x
  cn x := h.cn x
  pci x := h.pci x
  gp x := h.gp x
  devs x := h.devs x
  seqs x := h.seqs x
  acc x := h.acc x
  px x := h.px x
  cat x := h.cat x
  cu x := h.cu x
  cutoff x := h.cutoff x
  built x := h.built x
  ga x := h.ga x
  work x := h.work x
  stamps x := h.stamps x
  owed x := h.owed x
  mv x := h.mv x
  mvLast x := h.mvLast x
  sp x := h.sp x
  tw x := h.tw x
  co x := h.co x
  ch x := h.ch x
  fuses x := h.fuses x
  jtag x := h.jtag x
  flips x := h.flips x

/-- The SRAM replaced, at the end of a chain. -/
theorem Touch.sram' {m : Nat} {b s : State} {cs : List Host.Cell} {es : List SramFlip} (h : Touch m b s) (e : m.testBit 4 = true) (f : m.testBit 58 = true)
    (k : Tab.wf (fun _ => (0 : Byte)) s.sram = true → Tab.wf (fun _ => (0 : Byte)) cs = true) : Touch m b { s with sram := cs, flips := es } where
  mem x := State.memOk_of (h.mem x) id k
  sizes x := h.sizes x
  reg off x := h.reg off x
  part x := h.part x
  off x := h.off x
  pending x := h.pending x
  caps x := h.caps x
  sram x := absurd (x.symm.trans e) Bool.false_ne_true
  out x := h.out x
  free x := h.free x
  tk x := h.tk x
  ic x := h.ic x
  rg x := h.rg x
  fi x := h.fi x
  cn x := h.cn x
  pci x := h.pci x
  gp x := h.gp x
  devs x := h.devs x
  seqs x := h.seqs x
  acc x := h.acc x
  px x := h.px x
  cat x := h.cat x
  cu x := h.cu x
  cutoff x := h.cutoff x
  built x := h.built x
  ga x := h.ga x
  work x := h.work x
  stamps x := h.stamps x
  owed x := h.owed x
  mv x := h.mv x
  mvLast x := h.mvLast x
  sp x := h.sp x
  tw x := h.tw x
  co x := h.co x
  ch x := h.ch x
  fuses x := h.fuses x
  jtag x := h.jtag x
  flips x := absurd (x.symm.trans f) Bool.false_ne_true

theorem rising_warm {j : Nat} {t : Tab Word} (h : rising (some j) t = true) : rising (some j) (warmRegs t) = true := by
  induction t generalizing j with
  | nil => rfl
  | cons p t ih =>
    obtain ⟨i, v⟩ := p
    simp only [rising, Bool.and_eq_true, decide_eq_true_eq] at h
    unfold warmRegs at ih ⊢
    rw [List.filterMap_cons]
    dsimp only
    by_cases e : warmWord i v = resetWord i
    · rw [if_pos e]; exact ih (rising_lower h.2 (by omega))
    · rw [if_neg e]
      simp only [rising, Bool.and_eq_true, decide_eq_true_eq]
      exact ⟨h.1, ih h.2⟩

theorem warmRegs_wf (t : Tab Word) (h : Tab.wf resetWord t = true) : Tab.wf resetWord (warmRegs t) = true := by
  unfold Tab.wf at h ⊢
  simp only [Bool.and_eq_true] at h ⊢
  constructor
  · cases t with
    | nil => rfl
    | cons p t =>
      obtain ⟨i, v⟩ := p
      have h1 : rising (some i) t = true := h.1
      have h2 := rising_warm h1
      unfold warmRegs at h2 ⊢
      rw [List.filterMap_cons]
      dsimp only
      by_cases e : warmWord i v = resetWord i
      · rw [if_pos e]; exact rising_some h2
      · rw [if_neg e]; exact h2
  · refine List.all_eq_true.mpr fun q hq => ?_
    obtain ⟨p, _, hp⟩ := List.mem_filterMap.mp hq
    by_cases e : warmWord p.1 p.2 = resetWord p.1
    · rw [if_pos e] at hp; cases hp
    · rw [if_neg e] at hp; cases hp; simpa using e

theorem State.warmCore_touch (s : State) (perst : Bool) : Touch 0x3FFFFFCCEC03F28 s (s.warmCore perst) := by
  have h : Touch 0x3FFFFFCCEC03F28 s s.permitsReset.workAbandon.clearWaiting :=
    Touch.to (State.clearWaiting_touch ..) (by decide +kernel)
      (Touch.to (State.workAbandon_touch ..) (by decide +kernel) ((State.permitsReset_touch ..).weaken (by decide +kernel)))
  unfold State.warmCore
  dsimp only
  generalize s.permitsReset.workAbandon.clearWaiting = s1 at h ⊢
  have h2 := Touch.regs' (rs := warmRegs s1.regs) h (by decide +kernel) (warmRegs_wf _)
  refine Touch.mk' h2 rfl rfl (by first | with_reducible exact id | (intro hz; simp only [State.sizesOk, listSet_length, List.length_map, List.length_replicate] at hz ⊢; first | exact hz | (rw [sizesOf_iff] at hz ⊢; and_intros <;> first | rfl | exact hz.1 | exact hz.2.1 | exact hz.2.2.1 | exact hz.2.2.2.1 | exact hz.2.2.2.2.1 | exact hz.2.2.2.2.2.1 | exact hz.2.2.2.2.2.2))) ?_
  and_intros <;> first | (apply Or.inl; decide +kernel) | (apply Or.inr; with_reducible rfl)

theorem State.resetCause_touch (s : State) (bit : Nat) : Touch 0x800000000 s (State.resetCause s bit) := by
  unfold State.resetCause
  try dsimp only
  repeat' first
    | (show sub _ _ = true; decide +kernel)
    | with_reducible exact Touch.refl _
    | with_reducible apply Touch.to (State.wrap_touch ..)
    | with_reducible apply Touch.to (State.put_touch ..)
    | dsimp only

theorem State.warmLate_touch (s : State) (bit : Nat) : Touch 0x3FFFFFCFEC7FF68 s (State.warmLate s bit) := by
  unfold State.warmLate
  try dsimp only
  repeat' first
    | (show sub _ _ = true; decide +kernel)
    | (show State.sizesOk _ = true → _; first | with_reducible exact id | (intro hz; simp only [State.sizesOk, listSet_length, List.length_map, List.length_replicate] at hz ⊢; first | exact hz | (rw [sizesOf_iff] at hz ⊢; and_intros <;> first | rfl | exact hz.1 | exact hz.2.1 | exact hz.2.2.1 | exact hz.2.2.2.1 | exact hz.2.2.2.2.1 | exact hz.2.2.2.2.2.1 | exact hz.2.2.2.2.2.2)))
    | (show _ ∧ _; and_intros <;> first | (apply Or.inl; decide +kernel) | (apply Or.inr; with_reducible rfl))
    | with_reducible exact Touch.refl _
    | with_reducible apply Touch.to (State.warmCore_touch ..)
    | with_reducible apply Touch.to (State.resetCause_touch ..)
    | with_reducible apply Touch.to (State.put_touch ..)
    | with_reducible apply Touch.to (State.modCn_touch ..)
    | with_reducible apply Touch.to (State.sleepEnd_touch ..)
    | with_reducible apply Touch.to (State.climb_touch ..)
    | with_reducible apply Touch.to (State.raise_touch ..)
    | with_reducible refine Touch.ite ?_ ?_
    | split
    | dsimp only
    | with_reducible refine Touch.mk' ?_ rfl rfl ?_ ?_

theorem State.unapplyData_touch (s : State) : Touch 0x3FFFFFCC00EE280 s s.unapplyData := by
  have h1 := Touch.regs' (m := 0x3FFFFFCC00EE280) (rs := s.regs.filter fun p => !charterWrites p.1 && !(R.cuShedMap 0 ≤ p.1 && p.1 < R.cuShedMap 512))
    (Touch.refl s) (by decide +kernel) (filter_wf _ _ _)
  refine Touch.mk' h1 rfl rfl ?_ ?_
  · intro hz
    simp only [State.sizesOk, listSet_length, List.length_map, List.length_replicate] at hz ⊢
    rw [sizesOf_iff] at hz ⊢
    and_intros <;> first | rfl | exact hz.1 | exact hz.2.1 | exact hz.2.2.1 | exact hz.2.2.2.1 | exact hz.2.2.2.2.1 | exact hz.2.2.2.2.2.1 | exact hz.2.2.2.2.2.2
  · and_intros <;> first | (apply Or.inl; decide +kernel) | (apply Or.inr; with_reducible rfl)

theorem State.sramClear_touch (s : State) (store : Bool) : Touch 0x400000000000010 s (s.sramClear store) := by
  unfold State.sramClear
  refine Touch.sram' (Touch.refl s) (by decide) (by decide) ?_
  split
  · exact fun _ => rfl
  · exact filter_wf _ _ _

theorem State.unapply_touch (s : State) : Touch 0x7FFFFFCF6CEFBB0 s (State.unapply s) := by
  unfold State.unapply
  try dsimp only
  repeat' first
    | (show sub _ _ = true; decide +kernel)
    | (show State.sizesOk _ = true → _; first | with_reducible exact id | (intro hz; simp only [State.sizesOk, listSet_length, List.length_map, List.length_replicate] at hz ⊢; first | exact hz | (rw [sizesOf_iff] at hz ⊢; and_intros <;> first | rfl | exact hz.1 | exact hz.2.1 | exact hz.2.2.1 | exact hz.2.2.2.1 | exact hz.2.2.2.2.1 | exact hz.2.2.2.2.2.1 | exact hz.2.2.2.2.2.2)))
    | (show _ ∧ _; and_intros <;> first | (apply Or.inl; decide +kernel) | (apply Or.inr; with_reducible rfl))
    | with_reducible assumption
    | with_reducible exact Touch.refl _
    | with_reducible apply Touch.to (State.twinEnable_touch ..)
    | with_reducible apply Touch.to (State.galleryBack_touch ..)
    | with_reducible apply Touch.to (State.unapplyData_touch ..)
    | with_reducible apply Touch.to (State.sramClear_touch ..)
    | with_reducible apply Touch.to (State.icDisable_touch ..)
    | with_reducible apply Touch.to (State.put_touch ..)
    | with_reducible apply Touch.to (State.charterId_touch ..)
    | with_reducible apply Touch.to (State.loadShow_touch ..)
    | with_reducible refine Touch.ite ?_ ?_
    | with_reducible refine Touch.forEach ?_ (fun _ _ _ => ?_)
    | split
    | dsimp only
    | with_reducible refine Touch.mk' ?_ rfl rfl ?_ ?_

theorem State.sfdpBegin_touch (s : State) : Touch 0x80080000020 s (State.sfdpBegin s) := by
  unfold State.sfdpBegin
  try dsimp only
  repeat' first
    | (show sub _ _ = true; decide +kernel)
    | (show State.sizesOk _ = true → _; first | with_reducible exact id | (intro hz; simp only [State.sizesOk, listSet_length, List.length_map, List.length_replicate] at hz ⊢; first | exact hz | (rw [sizesOf_iff] at hz ⊢; and_intros <;> first | rfl | exact hz.1 | exact hz.2.1 | exact hz.2.2.1 | exact hz.2.2.2.1 | exact hz.2.2.2.2.1 | exact hz.2.2.2.2.2.1 | exact hz.2.2.2.2.2.2)))
    | (show _ ∧ _; and_intros <;> first | (apply Or.inl; decide +kernel) | (apply Or.inr; with_reducible rfl))
    | with_reducible exact Touch.refl _
    | with_reducible apply Touch.to (State.emit_touch ..)
    | with_reducible apply Touch.to (State.put_touch ..)
    | dsimp only
    | with_reducible refine Touch.mk' ?_ rfl rfl ?_ ?_

theorem State.warmEarly_touch (s : State) (bit : Nat) : Touch 0x7FFFFFCFECEFFB8 s (State.warmEarly s bit) := by
  unfold State.warmEarly
  try dsimp only
  repeat' first
    | (show sub _ _ = true; decide +kernel)
    | (show State.sizesOk _ = true → _; first | with_reducible exact id | (intro hz; simp only [State.sizesOk, listSet_length, List.length_map, List.length_replicate] at hz ⊢; first | exact hz | (rw [sizesOf_iff] at hz ⊢; and_intros <;> first | rfl | exact hz.1 | exact hz.2.1 | exact hz.2.2.1 | exact hz.2.2.2.1 | exact hz.2.2.2.2.1 | exact hz.2.2.2.2.2.1 | exact hz.2.2.2.2.2.2)))
    | (show _ ∧ _; and_intros <;> first | (apply Or.inl; decide +kernel) | (apply Or.inr; with_reducible rfl))
    | with_reducible exact Touch.refl _
    | with_reducible apply Touch.to (State.resetCause_touch ..)
    | with_reducible apply Touch.to (State.unapply_touch ..)
    | with_reducible apply Touch.to (State.warmCore_touch ..)
    | with_reducible apply Touch.to (State.sfdpBegin_touch ..)
    | with_reducible refine Touch.ite ?_ ?_
    | split
    | dsimp only
    | with_reducible refine Touch.mk' ?_ rfl rfl ?_ ?_

theorem State.warmReset_touch (s : State) (bit : Nat) : Touch 0x7FFFFFCFECFFFF8 s (State.warmReset s bit) := by
  unfold State.warmReset
  try dsimp only
  repeat' first
    | (show sub _ _ = true; decide +kernel)
    | with_reducible exact Touch.refl _
    | with_reducible apply Touch.to (State.warmLate_touch ..)
    | with_reducible apply Touch.to (State.warmEarly_touch ..)
    | with_reducible refine Touch.ite ?_ ?_
    | split
    | dsimp only

theorem State.oscReady_touch (s : State) : Touch 0x7FFFFFCFECFFFF8 s (State.oscReady s) := by
  unfold State.oscReady
  try dsimp only
  repeat' first
    | (show sub _ _ = true; decide +kernel)
    | with_reducible exact Touch.refl _
    | with_reducible apply Touch.to (State.wakeUp_touch ..)
    | with_reducible apply Touch.to (State.wakePin_touch ..)
    | with_reducible apply Touch.to (State.pcieUp_touch ..)
    | with_reducible apply Touch.to (State.warmReset_touch ..)
    | with_reducible apply Touch.to (State.modCn_touch ..)
    | with_reducible apply Touch.to (State.put_touch ..)
    | with_reducible refine Touch.ite ?_ ?_
    | split
    | dsimp only

theorem State.oscTimeout_touch (s : State) : Touch 0x10325090000EA0 s (State.oscTimeout s) := by
  unfold State.oscTimeout
  try dsimp only
  repeat' first
    | (show sub _ _ = true; decide +kernel)
    | (show State.sizesOk _ = true → _; first | with_reducible exact id | (intro hz; simp only [State.sizesOk, listSet_length, List.length_map, List.length_replicate] at hz ⊢; first | exact hz | (rw [sizesOf_iff] at hz ⊢; and_intros <;> first | rfl | exact hz.1 | exact hz.2.1 | exact hz.2.2.1 | exact hz.2.2.2.1 | exact hz.2.2.2.2.1 | exact hz.2.2.2.2.2.1 | exact hz.2.2.2.2.2.2)))
    | (show _ ∧ _; and_intros <;> first | (apply Or.inl; decide +kernel) | (apply Or.inr; with_reducible rfl))
    | with_reducible exact Touch.refl _
    | with_reducible apply Touch.to (State.supplyGo_touch ..)
    | with_reducible apply Touch.to (State.wakeFailed_touch ..)
    | with_reducible apply Touch.to (State.supplyFail_touch ..)
    | with_reducible apply Touch.to (State.oscillator_touch ..)
    | with_reducible refine Touch.ite ?_ ?_
    | split
    | dsimp only
    | with_reducible refine Touch.mk' ?_ rfl rfl ?_ ?_

theorem State.perstLow_touch (s : State) : Touch 0x7FFFFFCFECFFFF8 s (State.perstLow s) := by
  unfold State.perstLow
  try dsimp only
  repeat' first
    | (show sub _ _ = true; decide +kernel)
    | (show State.sizesOk _ = true → _; first | with_reducible exact id | (intro hz; simp only [State.sizesOk, listSet_length, List.length_map, List.length_replicate] at hz ⊢; first | exact hz | (rw [sizesOf_iff] at hz ⊢; and_intros <;> first | rfl | exact hz.1 | exact hz.2.1 | exact hz.2.2.1 | exact hz.2.2.2.1 | exact hz.2.2.2.2.1 | exact hz.2.2.2.2.2.1 | exact hz.2.2.2.2.2.2)))
    | (show _ ∧ _; and_intros <;> first | (apply Or.inl; decide +kernel) | (apply Or.inr; with_reducible rfl))
    | with_reducible exact Touch.refl _
    | with_reducible apply Touch.to (State.wakeSource_touch ..)
    | with_reducible apply Touch.to (State.warmReset_touch ..)
    | with_reducible refine Touch.ite ?_ ?_
    | split
    | dsimp only
    | with_reducible refine Touch.mk' ?_ rfl rfl ?_ ?_

theorem State.powerOff_touch (s : State) : Touch 0x7FFFFFFFFFFFFFF s s.powerOff := Touch.top (fun _ => rfl) fun _ => rfl

theorem execAlwaysOnSupplyLoss_touch (s : State) : ∃ u, execAlwaysOnSupplyLoss s = .next u ∧ Touch 0x7FFFFFFFFFFFFFF s u :=
  ⟨_, rfl, State.powerOff_touch s⟩

theorem execColdReset_touch (power chainLow twinHigh : Bool) (s : State) :
    ∃ u, execColdReset power chainLow twinHigh s = .next u ∧ Touch 0x7FFFFFFFFFFFFFF s u :=
  ⟨_, rfl, Touch.ite (Touch.refl s) (State.coldReset_touch ..)⟩

theorem execFunctionLevelReset_touch (s : State) : ∃ u, execFunctionLevelReset s = .next u ∧ Touch 0x7FFFFFCFECFFFF8 s u := by
  unfold execFunctionLevelReset
  refine act_touch s _ (by decide +kernel) ?_
  try dsimp only
  repeat' first
    | (show sub _ _ = true; decide +kernel)
    | with_reducible exact Touch.refl _
    | with_reducible apply Touch.to (State.warmReset_touch ..)
    | with_reducible refine Touch.ite ?_ ?_
    | split
    | dsimp only

theorem execOscillatorReady_touch (s : State) : ∃ u, execOscillatorReady s = .next u ∧ Touch 0x7FFFFFCFECFFFF8 s u := by
  unfold execOscillatorReady
  refine act_touch s _ (by decide +kernel) ?_
  try dsimp only
  repeat' first
    | (show sub _ _ = true; decide +kernel)
    | with_reducible exact Touch.refl _
    | with_reducible apply Touch.to (State.oscReady_touch ..)
    | dsimp only

theorem execOscillatorTimeout_touch (s : State) : ∃ u, execOscillatorTimeout s = .next u ∧ Touch 0x183754B0000FE0 s u := by
  unfold execOscillatorTimeout
  refine act_touch s _ (by decide +kernel) ?_
  try dsimp only
  repeat' first
    | (show sub _ _ = true; decide +kernel)
    | with_reducible exact Touch.refl _
    | with_reducible apply Touch.to (State.oscTimeout_touch ..)
    | dsimp only

theorem execPerstNAssert_touch (s : State) : ∃ u, execPerstNAssert s = .next u ∧ Touch 0x7FFFFFCFECFFFF8 s u := by
  unfold execPerstNAssert
  refine act_touch s _ (by decide +kernel) ?_
  try dsimp only
  repeat' first
    | (show sub _ _ = true; decide +kernel)
    | with_reducible exact Touch.refl _
    | with_reducible apply Touch.to (State.perstLow_touch ..)
    | dsimp only

end Sys2Proof.Machine
end

