-- ==== Sys2Proof/Laws/FrameWrites.lean ====
section
/-! SUPPORT. What each operation of Machine/Writes.lean touches: the parts of its set (Laws/Touch.lean), and nothing else. -/

set_option linter.unusedSimpArgs false
set_option linter.unusedVariables false
set_option Elab.async false

namespace Sys2Proof.Machine

theorem State.cuClearAll_touch (s : State) : Touch 0x3FF000000000000 s (State.cuClearAll s) := by
  unfold State.cuClearAll
  try dsimp only
  repeat' first
    | (show sub _ _ = true; decide +kernel)
    | with_reducible assumption
    | with_reducible exact Touch.refl _
    | with_reducible apply Touch.to (State.put_touch ..)
    | with_reducible apply Touch.to (State.setReg_touch ..)
    | with_reducible refine Touch.forEach ?_ (fun _ _ _ => ?_)
    | (refine up_8000 ?_ (by decide +kernel); simp only [F.cuPortLate_late_frames, F.cuPortReach_count, F.cuPortUrgent_deferred, R.cuPortBulk, R.cuPortLate, R.cuPortReach, R.cuPortUrgent]; omega)
    | dsimp only

theorem State.hostedMode_touch (s : State) : Touch 0x80000000000 s (State.hostedMode s) := by
  unfold State.hostedMode
  try dsimp only
  repeat' first
    | (show sub _ _ = true; decide +kernel)
    | with_reducible exact Touch.refl _
    | with_reducible apply Touch.to (State.put_touch ..)
    | with_reducible refine Touch.ite ?_ ?_
    | split
    | dsimp only

theorem State.loaderGo_touch (s : State) (job : ChJob) : Touch 0x3800F0082401820 s (State.loaderGo s job) := by
  unfold State.loaderGo
  try dsimp only
  repeat' first
    | (show sub _ _ = true; decide +kernel)
    | (show State.sizesOk _ = true → _; first | with_reducible exact id | (intro hz; simp only [State.sizesOk, listSet_length, List.length_map, List.length_replicate] at hz ⊢; first | exact hz | (rw [sizesOf_iff] at hz ⊢; and_intros <;> first | rfl | exact hz.1 | exact hz.2.1 | exact hz.2.2.1 | exact hz.2.2.2.1 | exact hz.2.2.2.2.1 | exact hz.2.2.2.2.2.1 | exact hz.2.2.2.2.2.2)))
    | (show _ ∧ _; and_intros <;> first | (apply Or.inl; decide +kernel) | (apply Or.inr; with_reducible rfl))
    | with_reducible exact Touch.refl _
    | with_reducible apply Touch.to (State.chAsk_touch ..)
    | with_reducible apply Touch.to (State.put_touch ..)
    | dsimp only
    | with_reducible refine Touch.mk' ?_ rfl rfl ?_ ?_

theorem State.writeRate_touch (s : State) (v : Nat) : Touch 0xC000000080 s (State.writeRate s v) := by
  unfold State.writeRate
  try dsimp only
  repeat' first
    | (show sub _ _ = true; decide +kernel)
    | (show State.sizesOk _ = true → _; first | with_reducible exact id | (intro hz; simp only [State.sizesOk, listSet_length, List.length_map, List.length_replicate] at hz ⊢; first | exact hz | (rw [sizesOf_iff] at hz ⊢; and_intros <;> first | rfl | exact hz.1 | exact hz.2.1 | exact hz.2.2.1 | exact hz.2.2.2.1 | exact hz.2.2.2.2.1 | exact hz.2.2.2.2.2.1 | exact hz.2.2.2.2.2.2)))
    | (show _ ∧ _; and_intros <;> first | (apply Or.inl; decide +kernel) | (apply Or.inr; with_reducible rfl))
    | with_reducible exact Touch.refl _
    | with_reducible apply Touch.to (State.put_touch ..)
    | with_reducible refine Touch.ite ?_ ?_
    | split
    | dsimp only
    | with_reducible refine Touch.mk' ?_ rfl rfl ?_ ?_

theorem State.writeRefSel_touch (s : State) (plain : Word) : Touch 0xD000000080 s (State.writeRefSel s plain) := by
  unfold State.writeRefSel
  try dsimp only
  repeat' first
    | (show sub _ _ = true; decide +kernel)
    | with_reducible assumption
    | with_reducible exact Touch.refl _
    | with_reducible apply Touch.to (State.setReg_touch ..)
    | with_reducible apply Touch.to (State.reselect_touch ..)
    | with_reducible apply Touch.to (State.dropSource_touch ..)
    | with_reducible refine Touch.forEach ?_ (fun _ _ _ => ?_)
    | dsimp only

theorem State.writeTk_touch (s : State) (off : Nat) (w : Word) (plain : Word) : Touch 0x3FFFFFC10000AA0 s (State.writeTk s off w plain) := by
  unfold State.writeTk
  try dsimp only
  repeat' first
    | (show sub _ _ = true; decide +kernel)
    | (show State.sizesOk _ = true → _; first | with_reducible exact id | (intro hz; simp only [State.sizesOk, listSet_length, List.length_map, List.length_replicate] at hz ⊢; first | exact hz | (rw [sizesOf_iff] at hz ⊢; and_intros <;> first | rfl | exact hz.1 | exact hz.2.1 | exact hz.2.2.1 | exact hz.2.2.2.1 | exact hz.2.2.2.2.1 | exact hz.2.2.2.2.2.1 | exact hz.2.2.2.2.2.2)))
    | (show _ ∧ _; and_intros <;> first | (apply Or.inl; decide +kernel) | (apply Or.inr; with_reducible rfl))
    | with_reducible exact Touch.refl _
    | with_reducible apply Touch.to (State.writeRate_touch ..)
    | with_reducible apply Touch.to (State.writeRefSel_touch ..)
    | with_reducible apply Touch.to (State.setReg_touch ..)
    | with_reducible apply Touch.to (State.emit_touch ..)
    | with_reducible apply Touch.to (State.alarmCheck_touch ..)
    | with_reducible apply Touch.to (State.setAlarm_touch ..)
    | with_reducible refine Touch.ite ?_ ?_
    | (exact up_0 (Nat.zero_le _) (by decide +kernel))
    | split
    | dsimp only
    | with_reducible refine Touch.mk' ?_ rfl rfl ?_ ?_

theorem State.writeChCtrl_touch (s : State) (w : Word) : Touch 0x3800F0082401820 s (State.writeChCtrl s w) := by
  unfold State.writeChCtrl
  try dsimp only
  repeat' first
    | (show sub _ _ = true; decide +kernel)
    | with_reducible exact Touch.refl _
    | with_reducible apply Touch.to (State.loaderGo_touch ..)
    | with_reducible refine Touch.ite ?_ ?_
    | split
    | dsimp only

theorem State.writeRateCheck_touch (s : State) (v : Nat) : Touch 0x1000000000000 s (State.writeRateCheck s v) := by
  unfold State.writeRateCheck
  try dsimp only
  repeat' first
    | (show sub _ _ = true; decide +kernel)
    | with_reducible exact Touch.refl _
    | with_reducible apply Touch.to (State.setReg_touch ..)
    | with_reducible apply Touch.to (State.rateCheck_touch ..)
    | with_reducible refine Touch.ite ?_ ?_
    | split
    | dsimp only

theorem State.writeCu_touch (s : State) (off : Nat) (w : Word) (plain : Word) : Touch 0x3FFFFFC00090000 s (State.writeCu s off w plain) := by
  unfold State.writeCu
  try dsimp only
  repeat' first
    | (show sub _ _ = true; decide +kernel)
    | with_reducible exact Touch.refl _
    | with_reducible apply Touch.to (State.readmitAll_touch ..)
    | with_reducible apply Touch.to (State.setReg_touch ..)
    | with_reducible apply Touch.to (State.writeRateCheck_touch ..)
    | with_reducible apply Touch.to (State.cuClearAll_touch ..)
    | with_reducible apply Touch.to (State.accPop_touch ..)
    | with_reducible apply Touch.to (State.readmit_touch ..)
    | with_reducible refine Touch.ite ?_ ?_
    | (exact up_0 (Nat.zero_le _) (by decide +kernel))
    | split
    | dsimp only

theorem State.writeSpan_touch (s : State) (m : Nat) (w : Word) (plain : Word) : Touch 0x3F80B0030000800 s (State.writeSpan s m w plain) := by
  unfold State.writeSpan
  try dsimp only
  repeat' first
    | (show sub _ _ = true; decide +kernel)
    | with_reducible exact Touch.refl _
    | with_reducible apply Touch.to (State.setReg_touch ..)
    | with_reducible apply Touch.to (State.spanOn_touch ..)
    | with_reducible apply Touch.to (State.hostedMode_touch ..)
    | with_reducible apply Touch.to (State.spanOff_touch ..)
    | with_reducible apply Touch.to (State.spanRetrain_touch ..)
    | with_reducible refine Touch.ite ?_ ?_
    | (refine up_c010 ?_ (by decide +kernel); simp only [R.spPCtrl]; omega)
    | split
    | dsimp only

theorem State.writeSp_touch (s : State) (off : Nat) (w : Word) (plain : Word) : Touch 0x3FFFFFC30000800 s (State.writeSp s off w plain) := by
  unfold State.writeSp
  try dsimp only
  repeat' first
    | (show sub _ _ = true; decide +kernel)
    | with_reducible exact Touch.refl _
    | with_reducible apply Touch.to (State.setReg_touch ..)
    | with_reducible apply Touch.to (State.discAsk_touch ..)
    | with_reducible apply Touch.to (State.charterId_touch ..)
    | with_reducible apply Touch.to (State.writeSpan_touch ..)
    | with_reducible refine Touch.ite ?_ ?_
    | (refine up_c010 ?_ (by decide +kernel); simp only [R.spPErr, R.spPTraffic]; omega)
    | (exact up_0 (Nat.zero_le _) (by decide +kernel))
    | split
    | dsimp only

theorem State.writeTw_touch (s : State) (off : Nat) (w : Word) (plain : Word) : Touch 0x3FFFFFC76C03920 s (State.writeTw s off w plain) := by
  unfold State.writeTw
  try dsimp only
  repeat' first
    | (show sub _ _ = true; decide +kernel)
    | with_reducible exact Touch.refl _
    | with_reducible apply Touch.to (State.twinEnable_touch ..)
    | with_reducible apply Touch.to (State.twinYield_touch ..)
    | with_reducible apply Touch.to (State.put_touch ..)
    | with_reducible apply Touch.to (State.setReg_touch ..)
    | with_reducible refine Touch.ite ?_ ?_
    | (exact up_0 (Nat.zero_le _) (by decide +kernel))
    | split
    | dsimp only

theorem State.writeLink_touch (s : State) (n : Nat) (w : Word) (plain : Word) : Touch 0x3FD080056C1F920 s (State.writeLink s n w plain) := by
  unfold State.writeLink
  try dsimp only
  repeat' first
    | (show sub _ _ = true; decide +kernel)
    | with_reducible exact Touch.refl _
    | with_reducible apply Touch.to (State.setReg_touch ..)
    | with_reducible apply Touch.to (State.sfpShow_touch ..)
    | with_reducible apply Touch.to (State.put_touch ..)
    | with_reducible apply Touch.to (State.modPort_touch ..)
    | with_reducible apply Touch.to (State.portEnable_touch ..)
    | with_reducible apply Touch.to (State.hostedMode_touch ..)
    | with_reducible apply Touch.to (State.portDisable_touch ..)
    | with_reducible apply Touch.to (State.portRetrain_touch ..)
    | with_reducible apply Touch.to (State.portCutRelease_touch ..)
    | with_reducible refine Touch.ite ?_ ?_
    | (refine up_20000 ?_ (by decide +kernel); simp only [F.gpLinkStatus_sfp_los, F.gpLinkStatus_sfp_present, R.gpLinkCtrl, R.gpLinkStatus]; omega)
    | split
    | dsimp only

theorem State.writeFrameCfg_touch (s : State) (n : Nat) (w : Word) (plain : Word) : Touch 0x300000000002000 s (State.writeFrameCfg s n w plain) := by
  unfold State.writeFrameCfg
  try dsimp only
  repeat' first
    | (show sub _ _ = true; decide +kernel)
    | with_reducible exact Touch.refl _
    | with_reducible apply Touch.to (State.setReg_touch ..)
    | with_reducible apply Touch.to (State.put_touch ..)
    | with_reducible apply Touch.to (State.modPort_touch ..)
    | with_reducible refine Touch.ite ?_ ?_
    | (refine up_20000 ?_ (by decide +kernel); simp only [F.gpFrameCfg_pw_open, R.gpFrameCfg]; omega)
    | split
    | dsimp only

theorem State.writeGp_touch (s : State) (n : Nat) (off : Nat) (w : Word) (plain : Word) : Touch 0x3FFFFFC56C7F920 s (State.writeGp s n off w plain) := by
  unfold State.writeGp
  try dsimp only
  repeat' first
    | (show sub _ _ = true; decide +kernel)
    | with_reducible exact Touch.refl _
    | with_reducible apply Touch.to (State.writeLink_touch ..)
    | with_reducible apply Touch.to (State.writeFrameCfg_touch ..)
    | with_reducible apply Touch.setRegs
    | with_reducible apply Touch.to (State.put_touch ..)
    | with_reducible apply Touch.to (State.cutRelease_touch ..)
    | with_reducible apply Touch.to (State.setReg_touch ..)
    | with_reducible apply Touch.to (State.suspendAsk_touch ..)
    | with_reducible apply Touch.to (State.resume_touch ..)
    | with_reducible apply Touch.to (State.busReset_touch ..)
    | with_reducible apply Touch.to (State.unbind_touch ..)
    | with_reducible apply Touch.to (State.accRetry_touch ..)
    | with_reducible refine Touch.ite ?_ ?_
    | (first | (refine up_20000 ?_ (by decide +kernel); simp only [F.gpRangeCfg_excursions, R.gpRangeCfg, R.gpSymErr, R.gpXactCnt]; omega) | (intro j hj; refine up_20000 ?_ (by decide +kernel); refine Nat.le_trans ?_ hj; simp only [F.gpRangeCfg_excursions, R.gpRangeCfg, R.gpSymErr, R.gpXactCnt]; omega))
    | (exact up_0 (Nat.zero_le _) (by decide +kernel))
    | split
    | dsimp only

theorem State.writePxCtrl_touch (s : State) (c : Nat) (w : Word) : Touch 0x200000000022000 s (State.writePxCtrl s c w) := by
  unfold State.writePxCtrl
  try dsimp only
  repeat' first
    | (show sub _ _ = true; decide +kernel)
    | with_reducible exact Touch.refl _
    | with_reducible apply Touch.to (State.put_touch ..)
    | with_reducible apply Touch.to (State.pxCntClear_touch ..)
    | with_reducible apply Touch.to (State.pxRelease_touch ..)
    | with_reducible apply Touch.to (State.pxClearHalt_touch ..)
    | with_reducible apply Touch.to (State.pxEnable_touch ..)
    | with_reducible apply Touch.to (State.pxDisable_touch ..)
    | with_reducible refine Touch.ite ?_ ?_
    | (refine up_40000 ?_ (by decide +kernel); simp only [F.pxCtrl_gallery, R.pxCtrl]; omega)
    | split
    | dsimp only

theorem State.writePxBind_touch (s : State) (c : Nat) (plain : Word) : Touch 0x200000000020000 s (State.writePxBind s c plain) := by
  unfold State.writePxBind
  try dsimp only
  repeat' first
    | (show sub _ _ = true; decide +kernel)
    | with_reducible exact Touch.refl _
    | with_reducible apply Touch.to (State.setReg_touch ..)
    | with_reducible apply Touch.to (State.modCtx_touch ..)
    | with_reducible refine Touch.ite ?_ ?_
    | (refine up_40000 ?_ (by decide +kernel); simp only [R.pxBind]; omega)
    | split
    | dsimp only

theorem State.writePx_touch (s : State) (c : Nat) (off : Nat) (w : Word) (plain : Word) : Touch 0x3FFFFFC00022000 s (State.writePx s c off w plain) := by
  unfold State.writePx
  try dsimp only
  repeat' first
    | (show sub _ _ = true; decide +kernel)
    | with_reducible exact Touch.refl _
    | with_reducible apply Touch.to (State.writePxCtrl_touch ..)
    | with_reducible apply Touch.to (State.modCtx_touch ..)
    | with_reducible apply Touch.to (State.setReg_touch ..)
    | with_reducible apply Touch.to (State.writePxBind_touch ..)
    | with_reducible refine Touch.ite ?_ ?_
    | (exact up_0 (Nat.zero_le _) (by decide +kernel))
    | split
    | dsimp only

theorem State.regWrite_touch (s : State) (who : Nat) (off : Nat) (w : Word) : Touch 0x7FFFFFCFECFFFF8 s (State.regWrite s who off w) := by
  unfold State.regWrite
  try dsimp only
  repeat' first
    | (show sub _ _ = true; decide +kernel)
    | with_reducible exact Touch.refl _
    | with_reducible apply Touch.to (State.warmReset_touch ..)
    | with_reducible apply Touch.to (State.setReg_touch ..)
    | with_reducible apply Touch.to (State.writeTk_touch ..)
    | with_reducible apply Touch.to (State.writeCn_touch ..)
    | with_reducible apply Touch.to (State.writeChCtrl_touch ..)
    | with_reducible apply Touch.to (State.writeFi_touch ..)
    | with_reducible apply Touch.to (State.writeRg_touch ..)
    | with_reducible apply Touch.to (State.writeCu_touch ..)
    | with_reducible apply Touch.to (State.writeMv_touch ..)
    | with_reducible apply Touch.to (State.writeCo_touch ..)
    | with_reducible apply Touch.to (State.writeSp_touch ..)
    | with_reducible apply Touch.to (State.writeTw_touch ..)
    | with_reducible apply Touch.to (State.writeSh_touch ..)
    | with_reducible apply Touch.to (State.writeGa_touch ..)
    | with_reducible apply Touch.to (State.writeGp_touch ..)
    | with_reducible apply Touch.to (State.writePx_touch ..)
    | with_reducible refine Touch.ite ?_ ?_
    | (exact up_0 (Nat.zero_le _) (by decide +kernel))
    | split
    | dsimp only

end Sys2Proof.Machine
end

