-- ==== Sys2Proof/Laws/FrameBar.lean ====
section
/-! SUPPORT. What each operation of Machine/Bar.lean touches: the parts of its set (Laws/Touch.lean), and nothing else. -/

set_option linter.unusedSimpArgs false
set_option linter.unusedVariables false
set_option Elab.async false

namespace Sys2Proof.Machine

theorem State.touched_touch (s : State) : Touch 0x3FFF3007EC7FF60 s (State.touched s) := by
  unfold State.touched
  try dsimp only
  repeat' first
    | (show sub _ _ = true; decide +kernel)
    | with_reducible exact Touch.refl _
    | with_reducible apply Touch.to (State.wakeSource_touch ..)
    | with_reducible refine Touch.ite ?_ ?_
    | split
    | dsimp only

theorem State.strange_touch (s : State) (kind : Nat) (q : Req) (off : Nat) : Touch 0x380000000000100 s (State.strange s kind q off) := by
  unfold State.strange
  try dsimp only
  repeat' first
    | (show sub _ _ = true; decide +kernel)
    | with_reducible exact Touch.refl _
    | with_reducible apply Touch.to (State.violation_touch ..)
    | split
    | dsimp only

theorem State.inspect_touch (s : State) (a : Nat) (len : Nat) (flip : Option Bool) : Touch 0x410300010000E20 s (State.inspect s a len flip).2 := by
  unfold State.inspect
  try dsimp only
  repeat' first
    | (show sub _ _ = true; decide +kernel)
    | with_reducible exact Touch.refl _
    | with_reducible apply Touch.to (State.addFlips_touch ..)
    | with_reducible apply Touch.to (State.ramRead_touch ..)
    | split
    | dsimp only

theorem State.windowRead_touch (s : State) (x : Nat) (flip : Option Bool) : Touch 0x410300010000E60 s (State.windowRead s x flip).2.2 := by
  unfold State.windowRead
  try dsimp only
  repeat' first
    | (show sub _ _ = true; decide +kernel)
    | with_reducible exact Touch.refl _
    | with_reducible apply Touch.to (State.inspect_touch ..)
    | with_reducible apply Touch.to (State.drawBytes_touch ..)
    | with_reducible refine Touch.ite ?_ ?_
    | split
    | dsimp only

theorem State.capRead_touch (s : State) (off : Nat) : Touch 0x8 s (State.capRead s off).2.2 := by
  unfold State.capRead
  try dsimp only
  repeat' first
    | (show sub _ _ = true; decide +kernel)
    | (show State.sizesOk _ = true → _; first | with_reducible exact id | (intro hz; simp only [State.sizesOk, listSet_length, List.length_map, List.length_replicate] at hz ⊢; first | exact hz | (rw [sizesOf_iff] at hz ⊢; and_intros <;> first | rfl | exact hz.1 | exact hz.2.1 | exact hz.2.2.1 | exact hz.2.2.2.1 | exact hz.2.2.2.2.1 | exact hz.2.2.2.2.2.1 | exact hz.2.2.2.2.2.2)))
    | (show _ ∧ _; and_intros <;> first | (apply Or.inl; decide +kernel) | (apply Or.inr; with_reducible rfl))
    | with_reducible exact Touch.refl _
    | with_reducible refine Touch.ite ?_ ?_
    | split
    | dsimp only
    | with_reducible refine Touch.mk' ?_ rfl rfl ?_ ?_

theorem State.barRead_touch (s : State) (q : Req) (off : Nat) (flip : Option Bool) : Touch 0x790300010000F68 s (State.barRead s q off flip).2.2 := by
  unfold State.barRead
  try dsimp only
  repeat' first
    | (show sub _ _ = true; decide +kernel)
    | with_reducible exact Touch.refl _
    | with_reducible apply Touch.to (State.strange_touch ..)
    | with_reducible apply Touch.to (State.windowRead_touch ..)
    | with_reducible apply Touch.to (State.icClaim_touch ..)
    | with_reducible apply Touch.to (State.violation_touch ..)
    | with_reducible apply Touch.to (State.capRead_touch ..)
    | with_reducible refine Touch.ite ?_ ?_
    | split
    | dsimp only

theorem State.bar0Read_touch (s : State) (q : Req) (off : Nat) (len : Nat) (flip : Option Bool) : Touch 0x7FFF3007EC7FF68 s (State.bar0Read s q off len flip) := by
  unfold State.bar0Read
  try dsimp only
  repeat' first
    | (show sub _ _ = true; decide +kernel)
    | with_reducible exact Touch.refl _
    | with_reducible apply Touch.to (State.touched_touch ..)
    | with_reducible apply Touch.to (State.emit_touch ..)
    | with_reducible apply Touch.to (State.strange_touch ..)
    | with_reducible apply Touch.to (State.barRead_touch ..)
    | with_reducible refine Touch.ite ?_ ?_
    | split
    | dsimp only

theorem State.barWord_touch (s : State) (q : Req) (off : Nat) (w : Word) : Touch 0x7FFFFFCFECFFFF8 s (State.barWord s q off w) := by
  unfold State.barWord
  try dsimp only
  repeat' first
    | (show sub _ _ = true; decide +kernel)
    | with_reducible exact Touch.refl _
    | with_reducible apply Touch.to (State.strange_touch ..)
    | with_reducible apply Touch.to (State.regWrite_touch ..)
    | with_reducible apply Touch.to (State.hostAttach_touch ..)
    | with_reducible refine Touch.ite ?_ ?_
    | split
    | dsimp only

theorem State.bar0Write_touch (s : State) (q : Req) (off : Nat) (d : List Byte) : Touch 0x7FFFFFCFECFFFF8 s (State.bar0Write s q off d) := by
  unfold State.bar0Write
  try dsimp only
  repeat' first
    | (show sub _ _ = true; decide +kernel)
    | with_reducible exact Touch.refl _
    | with_reducible apply Touch.to (State.touched_touch ..)
    | with_reducible apply Touch.to (State.barWord_touch ..)
    | with_reducible apply Touch.to (State.strange_touch ..)
    | with_reducible refine Touch.ite ?_ ?_
    | split
    | dsimp only

theorem State.bar2Bytes_touch (s : State) (off n : Nat) : Touch 0x40 s (State.bar2Bytes s off n).2 := by
  induction n generalizing s off with
  | zero => exact Touch.refl s
  | succ n ih =>
    unfold State.bar2Bytes
    split
    · exact Touch.refl s
    · split
      · exact ih _ _
      · exact (s.draw_touch 8).trans (ih _ _)

theorem State.bar2Read_touch (s : State) (q : Req) (off : Nat) (len : Nat) (flip : Option Bool) : Touch 0x7FFF3007EC7FF60 s (State.bar2Read s q off len flip) := by
  unfold State.bar2Read
  try dsimp only
  repeat' first
    | (show sub _ _ = true; decide +kernel)
    | with_reducible exact Touch.refl _
    | with_reducible apply Touch.to (State.touched_touch ..)
    | with_reducible apply Touch.to (State.emit_touch ..)
    | with_reducible apply Touch.to (State.strange_touch ..)
    | with_reducible apply Touch.to (State.inspect_touch ..)
    | with_reducible apply Touch.to (State.drawBytes_touch ..)
    | with_reducible apply Touch.to (State.bar2Bytes_touch ..)
    | with_reducible refine Touch.ite ?_ ?_
    | split
    | dsimp only

theorem State.bar2Write_touch (s : State) (q : Req) (off : Nat) (d : List Byte) : Touch 0x7FFF3007EC7FF70 s (State.bar2Write s q off d) := by
  unfold State.bar2Write
  try dsimp only
  repeat' first
    | (show sub _ _ = true; decide +kernel)
    | with_reducible exact Touch.refl _
    | with_reducible apply Touch.to (State.touched_touch ..)
    | with_reducible apply Touch.to (State.strange_touch ..)
    | with_reducible apply Touch.to (State.setRamBytes_touch ..)
    | with_reducible refine Touch.ite ?_ ?_
    | split
    | dsimp only

theorem State.hostWrite_touch (s : State) (q : Req) (off : Nat) (w : Word) : Touch 0x7FFFFFCFECFFFF8 s (State.hostWrite s q off w) := by
  unfold State.hostWrite
  try dsimp only
  repeat' first
    | (show sub _ _ = true; decide +kernel)
    | with_reducible exact Touch.refl _
    | with_reducible apply Touch.to (State.bar0Write_touch ..)
    | dsimp only

theorem execBar0Read_touch (q : Req) (off : Nat) (len : Nat) (flip : Option Bool) (s : State) : ∃ u, execBar0Read q off len flip s = .next u ∧ Touch 0x7FFF7047EC7FF68 s u := by
  unfold execBar0Read
  refine act_touch s _ (by decide +kernel) ?_
  try dsimp only
  repeat' first
    | (show sub _ _ = true; decide +kernel)
    | with_reducible exact Touch.refl _
    | with_reducible apply Touch.to (State.bar0Read_touch ..)
    | dsimp only

theorem execBar2Read_touch (q : Req) (off : Nat) (len : Nat) (flip : Option Bool) (s : State) : ∃ u, execBar2Read q off len flip s = .next u ∧ Touch 0x7FFF7047EC7FF60 s u := by
  unfold execBar2Read
  refine act_touch s _ (by decide +kernel) ?_
  try dsimp only
  repeat' first
    | (show sub _ _ = true; decide +kernel)
    | with_reducible exact Touch.refl _
    | with_reducible apply Touch.to (State.bar2Read_touch ..)
    | dsimp only

theorem execBar2Write_touch (q : Req) (off : Nat) (d : List Byte) (s : State) : ∃ u, execBar2Write q off d s = .next u ∧ Touch 0x7FFF7047EC7FF70 s u := by
  unfold execBar2Write
  refine act_touch s _ (by decide +kernel) ?_
  try dsimp only
  repeat' first
    | (show sub _ _ = true; decide +kernel)
    | with_reducible exact Touch.refl _
    | with_reducible apply Touch.to (State.bar2Write_touch ..)
    | dsimp only

theorem execRateCheckDone_touch (s : State) : ∃ u, execRateCheckDone s = .next u ∧ Touch 0x9250430000B60 s u := by
  unfold execRateCheckDone
  refine act_touch s _ (by decide +kernel) ?_
  try dsimp only
  repeat' first
    | (show sub _ _ = true; decide +kernel)
    | with_reducible exact Touch.refl _
    | with_reducible apply Touch.to (State.rateCheck_touch ..)
    | with_reducible refine Touch.ite ?_ ?_
    | split
    | dsimp only

theorem execRegisterWrite_touch (q : Req) (off : Nat) (d : List Byte) (s : State) :
    ∃ u, execRegisterWrite q off d s = .next u ∧ Touch 0x7FFFFFCFECFFFF8 s u := by
  unfold execRegisterWrite
  split
  · exact act2_touch s _ _ (by decide +kernel) ((State.bar0Write_touch ..).weaken (by decide +kernel))
      (fun _ => (State.bar0Write_touch ..).weaken (by decide +kernel))
  · exact act_touch s _ (by decide +kernel) ((State.bar0Write_touch ..).weaken (by decide +kernel))

end Sys2Proof.Machine
end

