-- ==== Sys2Proof/Laws/FramePcie.lean ====
section
/-! SUPPORT. What each operation of Machine/Pcie.lean touches: the parts of its set (Laws/Touch.lean), and nothing else. -/

set_option linter.unusedSimpArgs false
set_option linter.unusedVariables false
set_option Elab.async false

namespace Sys2Proof.Machine

theorem State.modPci_touch (s : State) (f : Pcie → Pcie) : Touch 0x1000 s (State.modPci s f) := by
  unfold State.modPci
  try dsimp only
  repeat' first
    | (show sub _ _ = true; decide +kernel)
    | (show State.sizesOk _ = true → _; first | with_reducible exact id | (intro hz; simp only [State.sizesOk, listSet_length, List.length_map, List.length_replicate] at hz ⊢; first | exact hz | (rw [sizesOf_iff] at hz ⊢; and_intros <;> first | rfl | exact hz.1 | exact hz.2.1 | exact hz.2.2.1 | exact hz.2.2.2.1 | exact hz.2.2.2.2.1 | exact hz.2.2.2.2.2.1 | exact hz.2.2.2.2.2.2)))
    | (show _ ∧ _; and_intros <;> first | (apply Or.inl; decide +kernel) | (apply Or.inr; with_reducible rfl))
    | with_reducible exact Touch.refl _
    | dsimp only
    | with_reducible refine Touch.mk' ?_ rfl rfl ?_ ?_

theorem State.cfgWrite_touch (s : State) (x : CfgWrite) : Touch 0x380000002401020 s (State.cfgWrite s x) := by
  unfold State.cfgWrite
  try dsimp only
  repeat' first
    | (show sub _ _ = true; decide +kernel)
    | with_reducible exact Touch.refl _
    | with_reducible apply Touch.to (State.dmaGo_touch ..)
    | with_reducible apply Touch.to (State.modPci_touch ..)
    | with_reducible apply Touch.to (State.flushOwed_touch ..)
    | with_reducible refine Touch.ite ?_ ?_
    | split
    | dsimp only

theorem State.linkChange_touch (s : State) (l : PcieLink) : Touch 0x3FFF3007EC7FF60 s (State.linkChange s l) := by
  unfold State.linkChange
  try dsimp only
  repeat' first
    | (show sub _ _ = true; decide +kernel)
    | with_reducible exact Touch.refl _
    | with_reducible apply Touch.to (State.modPci_touch ..)
    | with_reducible apply Touch.to (State.emit_touch ..)
    | with_reducible apply Touch.to (State.modCn_touch ..)
    | with_reducible apply Touch.to (State.wakeSource_touch ..)
    | with_reducible refine Touch.ite ?_ ?_
    | split
    | dsimp only

theorem State.perstHigh_touch (s : State) : Touch 0x1020 s (State.perstHigh s) := by
  unfold State.perstHigh
  try dsimp only
  repeat' first
    | (show sub _ _ = true; decide +kernel)
    | with_reducible exact Touch.refl _
    | with_reducible apply Touch.to (State.modPci_touch ..)
    | with_reducible apply Touch.to (State.emit_touch ..)
    | with_reducible refine Touch.ite ?_ ?_
    | split
    | dsimp only

theorem State.readTimeout_touch (s : State) (x : ReadRef) : Touch 0x7FE30005EC21F70 s (State.readTimeout s x) := by
  unfold State.readTimeout
  try dsimp only
  repeat' first
    | (show sub _ _ = true; decide +kernel)
    | with_reducible exact Touch.refl _
    | with_reducible apply Touch.to (State.workEntry_touch ..)
    | with_reducible apply Touch.to (State.fragTable_touch ..)
    | with_reducible apply Touch.to (State.evTail_touch ..)
    | with_reducible apply Touch.to (State.evHead_touch ..)
    | with_reducible apply Touch.to (State.indexDone_touch ..)
    | with_reducible apply Touch.to (State.outRingDone_touch ..)
    | with_reducible apply Touch.to (State.flushDone_touch ..)
    | with_reducible apply Touch.to (State.mvHostRead_touch ..)
    | with_reducible apply Touch.to (State.mvReadback_touch ..)
    | split
    | dsimp only

theorem State.turnOff_touch (s : State) : Touch 0x1020 s (State.turnOff s) := by
  unfold State.turnOff
  try dsimp only
  repeat' first
    | (show sub _ _ = true; decide +kernel)
    | with_reducible exact Touch.refl _
    | with_reducible apply Touch.to (State.emit_touch ..)
    | with_reducible apply Touch.to (State.modPci_touch ..)
    | dsimp only

theorem execHostReadTimeout_touch (x : ReadRef) (s : State) : ∃ u, execHostReadTimeout x s = .next u ∧ Touch 0x7FE35047EC21F70 s u := by
  unfold execHostReadTimeout
  refine act_touch s _ (by decide +kernel) ?_
  try dsimp only
  repeat' first
    | (show sub _ _ = true; decide +kernel)
    | with_reducible exact Touch.refl _
    | with_reducible apply Touch.to (State.readTimeout_touch ..)
    | dsimp only

theorem execPcieConfigWrite_touch (x : CfgWrite) (s : State) : ∃ u, execPcieConfigWrite x s = .next u ∧ Touch 0x388250432401B60 s u := by
  unfold execPcieConfigWrite
  refine act_touch s _ (by decide +kernel) ?_
  try dsimp only
  repeat' first
    | (show sub _ _ = true; decide +kernel)
    | with_reducible exact Touch.refl _
    | with_reducible apply Touch.to (State.cfgWrite_touch ..)
    | dsimp only

theorem execPcieLinkStateChange_touch (l : PcieLink) (s : State) : ∃ u, execPcieLinkStateChange l s = .next u ∧ Touch 0x3FFF7047EC7FF60 s u := by
  unfold execPcieLinkStateChange
  refine act_touch s _ (by decide +kernel) ?_
  try dsimp only
  repeat' first
    | (show sub _ _ = true; decide +kernel)
    | with_reducible exact Touch.refl _
    | with_reducible apply Touch.to (State.linkChange_touch ..)
    | dsimp only

theorem execPerstNRelease_touch (s : State) : ∃ u, execPerstNRelease s = .next u ∧ Touch 0x8250430001B60 s u := by
  unfold execPerstNRelease
  refine act_touch s _ (by decide +kernel) ?_
  try dsimp only
  repeat' first
    | (show sub _ _ = true; decide +kernel)
    | with_reducible exact Touch.refl _
    | with_reducible apply Touch.to (State.perstHigh_touch ..)
    | dsimp only

theorem execPmeTurnOff_touch (s : State) : ∃ u, execPmeTurnOff s = .next u ∧ Touch 0x8250430001B60 s u := by
  unfold execPmeTurnOff
  refine act_touch s _ (by decide +kernel) ?_
  try dsimp only
  repeat' first
    | (show sub _ _ = true; decide +kernel)
    | with_reducible exact Touch.refl _
    | with_reducible apply Touch.to (State.turnOff_touch ..)
    | dsimp only

end Sys2Proof.Machine
end

