-- ==== Sys2Proof/Laws/FrameHostRows.lean ====
section
/-! SUPPORT. What each operation of Machine/HostRows.lean touches: the parts of its set (Laws/Touch.lean), and nothing else. -/

set_option linter.unusedSimpArgs false
set_option linter.unusedVariables false
set_option Elab.async false

namespace Sys2Proof.Machine

theorem State.command_touch (s : State) (q : Req) (off : Nat) (w : Word) (set : Word) (clr : Word) : Touch 0x7FFFFFCFECFFFF8 s (State.command s q off w set clr) := by
  unfold State.command
  try dsimp only
  repeat' first
    | (show sub _ _ = true; decide +kernel)
    | with_reducible exact Touch.refl _
    | with_reducible apply Touch.to (State.hostWrite_touch ..)
    | dsimp only

theorem execAdmissionConfigWrite_touch (n : Option (Fin 8)) (q : Req) (w : Word) (s : State) : ∃ u, execAdmissionConfigWrite n q w s = .next u ∧ Touch 0x7FFFFFCFECFFFF8 s u := by
  unfold execAdmissionConfigWrite
  refine act_touch s _ (by decide +kernel) ?_
  try dsimp only
  repeat' first
    | (show sub _ _ = true; decide +kernel)
    | with_reducible exact Touch.refl _
    | with_reducible apply Touch.to (State.command_touch ..)
    | dsimp only

theorem execAlarmLoad_touch (k : Fin 4) (q : Req) (w : Word) (s : State) : ∃ u, execAlarmLoad k q w s = .next u ∧ Touch 0x7FFFFFCFECFFFF8 s u := by
  unfold execAlarmLoad
  refine act_touch s _ (by decide +kernel) ?_
  try dsimp only
  repeat' first
    | (show sub _ _ = true; decide +kernel)
    | with_reducible exact Touch.refl _
    | with_reducible apply Touch.to (State.command_touch ..)
    | dsimp only

theorem execAvsConfigWrite_touch (q : Req) (w : Word) (s : State) : ∃ u, execAvsConfigWrite q w s = .next u ∧ Touch 0x7FFFFFCFECFFFF8 s u := by
  unfold execAvsConfigWrite
  refine act_touch s _ (by decide +kernel) ?_
  try dsimp only
  repeat' first
    | (show sub _ _ = true; decide +kernel)
    | with_reducible exact Touch.refl _
    | with_reducible apply Touch.to (State.command_touch ..)
    | dsimp only

theorem execBusReset_touch (n : Fin 8) (q : Req) (w : Word) (s : State) : ∃ u, execBusReset n q w s = .next u ∧ Touch 0x7FFFFFCFECFFFF8 s u := by
  unfold execBusReset
  refine act_touch s _ (by decide +kernel) ?_
  try dsimp only
  repeat' first
    | (show sub _ _ = true; decide +kernel)
    | with_reducible exact Touch.refl _
    | with_reducible apply Touch.to (State.command_touch ..)
    | dsimp only

theorem execCharterCheck_touch (q : Req) (w : Word) (s : State) : ∃ u, execCharterCheck q w s = .next u ∧ Touch 0x7FFFFFCFECFFFF8 s u := by
  unfold execCharterCheck
  refine act_touch s _ (by decide +kernel) ?_
  try dsimp only
  repeat' first
    | (show sub _ _ = true; decide +kernel)
    | with_reducible exact Touch.refl _
    | with_reducible apply Touch.to (State.command_touch ..)
    | dsimp only

theorem execCharterLoad_touch (q : Req) (w : Word) (s : State) : ∃ u, execCharterLoad q w s = .next u ∧ Touch 0x7FFFFFCFECFFFF8 s u := by
  unfold execCharterLoad
  refine act_touch s _ (by decide +kernel) ?_
  try dsimp only
  repeat' first
    | (show sub _ _ = true; decide +kernel)
    | with_reducible exact Touch.refl _
    | with_reducible apply Touch.to (State.command_touch ..)
    | dsimp only

theorem execClearHalt_touch (c : Fin 2048) (q : Req) (w : Word) (s : State) : ∃ u, execClearHalt c q w s = .next u ∧ Touch 0x7FFFFFCFECFFFF8 s u := by
  unfold execClearHalt
  refine act_touch s _ (by decide +kernel) ?_
  try dsimp only
  repeat' first
    | (show sub _ _ = true; decide +kernel)
    | with_reducible exact Touch.refl _
    | with_reducible apply Touch.to (State.command_touch ..)
    | dsimp only

theorem execCnCntClear_touch (q : Req) (w : Word) (s : State) : ∃ u, execCnCntClear q w s = .next u ∧ Touch 0x7FFFFFCFECFFFF8 s u := by
  unfold execCnCntClear
  refine act_touch s _ (by decide +kernel) ?_
  try dsimp only
  repeat' first
    | (show sub _ _ = true; decide +kernel)
    | with_reducible exact Touch.refl _
    | with_reducible apply Touch.to (State.command_touch ..)
    | dsimp only

theorem execCnWakeFaultClear_touch (q : Req) (w : Word) (s : State) : ∃ u, execCnWakeFaultClear q w s = .next u ∧ Touch 0x7FFFFFCFECFFFF8 s u := by
  unfold execCnWakeFaultClear
  refine act_touch s _ (by decide +kernel) ?_
  try dsimp only
  repeat' first
    | (show sub _ _ = true; decide +kernel)
    | with_reducible exact Touch.refl _
    | with_reducible apply Touch.to (State.command_touch ..)
    | dsimp only

theorem execCoCntClear_touch (q : Req) (w : Word) (s : State) : ∃ u, execCoCntClear q w s = .next u ∧ Touch 0x7FFFFFCFECFFFF8 s u := by
  unfold execCoCntClear
  refine act_touch s _ (by decide +kernel) ?_
  try dsimp only
  repeat' first
    | (show sub _ _ = true; decide +kernel)
    | with_reducible exact Touch.refl _
    | with_reducible apply Touch.to (State.command_touch ..)
    | dsimp only

theorem execCoPwerrClear_touch (q : Req) (w : Word) (s : State) : ∃ u, execCoPwerrClear q w s = .next u ∧ Touch 0x7FFFFFCFECFFFF8 s u := by
  unfold execCoPwerrClear
  refine act_touch s _ (by decide +kernel) ?_
  try dsimp only
  repeat' first
    | (show sub _ _ = true; decide +kernel)
    | with_reducible exact Touch.refl _
    | with_reducible apply Touch.to (State.command_touch ..)
    | dsimp only

theorem execContextDisable_touch (c : Fin 2048) (q : Req) (w : Word) (s : State) : ∃ u, execContextDisable c q w s = .next u ∧ Touch 0x7FFFFFCFECFFFF8 s u := by
  unfold execContextDisable
  refine act_touch s _ (by decide +kernel) ?_
  try dsimp only
  repeat' first
    | (show sub _ _ = true; decide +kernel)
    | with_reducible exact Touch.refl _
    | with_reducible apply Touch.to (State.command_touch ..)
    | dsimp only

theorem execContextEnable_touch (c : Fin 2048) (q : Req) (w : Word) (s : State) : ∃ u, execContextEnable c q w s = .next u ∧ Touch 0x7FFFFFCFECFFFF8 s u := by
  unfold execContextEnable
  refine act_touch s _ (by decide +kernel) ?_
  try dsimp only
  repeat' first
    | (show sub _ _ = true; decide +kernel)
    | with_reducible exact Touch.refl _
    | with_reducible apply Touch.to (State.command_touch ..)
    | dsimp only

theorem execContextRelease_touch (c : Fin 2048) (q : Req) (w : Word) (s : State) : ∃ u, execContextRelease c q w s = .next u ∧ Touch 0x7FFFFFCFECFFFF8 s u := by
  unfold execContextRelease
  refine act_touch s _ (by decide +kernel) ?_
  try dsimp only
  repeat' first
    | (show sub _ _ = true; decide +kernel)
    | with_reducible exact Touch.refl _
    | with_reducible apply Touch.to (State.command_touch ..)
    | dsimp only

theorem execCuAccPop_touch (q : Req) (w : Word) (s : State) : ∃ u, execCuAccPop q w s = .next u ∧ Touch 0x7FFFFFCFECFFFF8 s u := by
  unfold execCuAccPop
  refine act_touch s _ (by decide +kernel) ?_
  try dsimp only
  repeat' first
    | (show sub _ _ = true; decide +kernel)
    | with_reducible exact Touch.refl _
    | with_reducible apply Touch.to (State.command_touch ..)
    | dsimp only

theorem execCuClear_touch (q : Req) (w : Word) (s : State) : ∃ u, execCuClear q w s = .next u ∧ Touch 0x7FFFFFCFECFFFF8 s u := by
  unfold execCuClear
  refine act_touch s _ (by decide +kernel) ?_
  try dsimp only
  repeat' first
    | (show sub _ _ = true; decide +kernel)
    | with_reducible exact Touch.refl _
    | with_reducible apply Touch.to (State.command_touch ..)
    | dsimp only

theorem execCutRelease_touch (n : Fin 8) (q : Req) (w : Word) (s : State) : ∃ u, execCutRelease n q w s = .next u ∧ Touch 0x7FFFFFCFECFFFF8 s u := by
  unfold execCutRelease
  refine act_touch s _ (by decide +kernel) ?_
  try dsimp only
  repeat' first
    | (show sub _ _ = true; decide +kernel)
    | with_reducible exact Touch.refl _
    | with_reducible apply Touch.to (State.command_touch ..)
    | dsimp only

theorem execDiscover_touch (q : Req) (w : Word) (s : State) : ∃ u, execDiscover q w s = .next u ∧ Touch 0x7FFFFFCFECFFFF8 s u := by
  unfold execDiscover
  refine act_touch s _ (by decide +kernel) ?_
  try dsimp only
  repeat' first
    | (show sub _ _ = true; decide +kernel)
    | with_reducible exact Touch.refl _
    | with_reducible apply Touch.to (State.command_touch ..)
    | dsimp only

theorem execEventRingDisable_touch (g : Fin 16) (q : Req) (w : Word) (s : State) : ∃ u, execEventRingDisable g q w s = .next u ∧ Touch 0x7FFFFFCFECFFFF8 s u := by
  unfold execEventRingDisable
  refine act_touch s _ (by decide +kernel) ?_
  try dsimp only
  repeat' first
    | (show sub _ _ = true; decide +kernel)
    | with_reducible exact Touch.refl _
    | with_reducible apply Touch.to (State.command_touch ..)
    | dsimp only

theorem execEventRingEnable_touch (g : Fin 16) (q : Req) (w : Word) (s : State) : ∃ u, execEventRingEnable g q w s = .next u ∧ Touch 0x7FFFFFCFECFFFF8 s u := by
  unfold execEventRingEnable
  refine act_touch s _ (by decide +kernel) ?_
  try dsimp only
  repeat' first
    | (show sub _ _ = true; decide +kernel)
    | with_reducible exact Touch.refl _
    | with_reducible apply Touch.to (State.command_touch ..)
    | dsimp only

theorem execFiClear_touch (q : Req) (w : Word) (s : State) : ∃ u, execFiClear q w s = .next u ∧ Touch 0x7FFFFFCFECFFFF8 s u := by
  unfold execFiClear
  refine act_touch s _ (by decide +kernel) ?_
  try dsimp only
  repeat' first
    | (show sub _ _ = true; decide +kernel)
    | with_reducible exact Touch.refl _
    | with_reducible apply Touch.to (State.command_touch ..)
    | dsimp only

theorem execFiClearFirst_touch (q : Req) (w : Word) (s : State) : ∃ u, execFiClearFirst q w s = .next u ∧ Touch 0x7FFFFFCFECFFFF8 s u := by
  unfold execFiClearFirst
  refine act_touch s _ (by decide +kernel) ?_
  try dsimp only
  repeat' first
    | (show sub _ _ = true; decide +kernel)
    | with_reducible exact Touch.refl _
    | with_reducible apply Touch.to (State.command_touch ..)
    | dsimp only

theorem execFiFaultClear_touch (q : Req) (w : Word) (s : State) : ∃ u, execFiFaultClear q w s = .next u ∧ Touch 0x7FFFFFCFECFFFF8 s u := by
  unfold execFiFaultClear
  refine act_touch s _ (by decide +kernel) ?_
  try dsimp only
  repeat' first
    | (show sub _ _ = true; decide +kernel)
    | with_reducible exact Touch.refl _
    | with_reducible apply Touch.to (State.command_touch ..)
    | dsimp only

theorem execFiSummaryClear_touch (q : Req) (w : Word) (s : State) : ∃ u, execFiSummaryClear q w s = .next u ∧ Touch 0x7FFFFFCFECFFFF8 s u := by
  unfold execFiSummaryClear
  refine act_touch s _ (by decide +kernel) ?_
  try dsimp only
  repeat' first
    | (show sub _ _ = true; decide +kernel)
    | with_reducible exact Touch.refl _
    | with_reducible apply Touch.to (State.command_touch ..)
    | dsimp only

theorem execFiUnlock_touch (q : Req) (w : Word) (s : State) : ∃ u, execFiUnlock q w s = .next u ∧ Touch 0x7FFFFFCFECFFFF8 s u := by
  unfold execFiUnlock
  refine act_touch s _ (by decide +kernel) ?_
  try dsimp only
  repeat' first
    | (show sub _ _ = true; decide +kernel)
    | with_reducible exact Touch.refl _
    | with_reducible apply Touch.to (State.command_touch ..)
    | dsimp only

theorem execFrameRateRequest_touch (q : Req) (w : Word) (s : State) : ∃ u, execFrameRateRequest q w s = .next u ∧ Touch 0x7FFFFFCFECFFFF8 s u := by
  unfold execFrameRateRequest
  refine act_touch s _ (by decide +kernel) ?_
  try dsimp only
  repeat' first
    | (show sub _ _ = true; decide +kernel)
    | with_reducible exact Touch.refl _
    | with_reducible apply Touch.to (State.command_touch ..)
    | dsimp only

theorem execGaDbIn_touch (g : Fin 16) (q : Req) (w : Word) (s : State) : ∃ u, execGaDbIn g q w s = .next u ∧ Touch 0x7FFFFFCFECFFFF8 s u := by
  unfold execGaDbIn
  refine act_touch s _ (by decide +kernel) ?_
  try dsimp only
  repeat' first
    | (show sub _ _ = true; decide +kernel)
    | with_reducible exact Touch.refl _
    | with_reducible apply Touch.to (State.command_touch ..)
    | dsimp only

theorem execGaDbOut_touch (g : Fin 16) (q : Req) (w : Word) (s : State) : ∃ u, execGaDbOut g q w s = .next u ∧ Touch 0x7FFFFFCFECFFFF8 s u := by
  unfold execGaDbOut
  refine act_touch s _ (by decide +kernel) ?_
  try dsimp only
  repeat' first
    | (show sub _ _ = true; decide +kernel)
    | with_reducible exact Touch.refl _
    | with_reducible apply Touch.to (State.command_touch ..)
    | dsimp only

theorem execGaViolClear_touch (q : Req) (w : Word) (s : State) : ∃ u, execGaViolClear q w s = .next u ∧ Touch 0x7FFFFFCFECFFFF8 s u := by
  unfold execGaViolClear
  refine act_touch s _ (by decide +kernel) ?_
  try dsimp only
  repeat' first
    | (show sub _ _ = true; decide +kernel)
    | with_reducible exact Touch.refl _
    | with_reducible apply Touch.to (State.command_touch ..)
    | dsimp only

theorem execGalleryClose_touch (g : Fin 16) (q : Req) (w : Word) (s : State) : ∃ u, execGalleryClose g q w s = .next u ∧ Touch 0x7FFFFFCFECFFFF8 s u := by
  unfold execGalleryClose
  refine act_touch s _ (by decide +kernel) ?_
  try dsimp only
  repeat' first
    | (show sub _ _ = true; decide +kernel)
    | with_reducible exact Touch.refl _
    | with_reducible apply Touch.to (State.command_touch ..)
    | dsimp only

theorem execGalleryOpen_touch (g : Fin 16) (q : Req) (w : Word) (s : State) : ∃ u, execGalleryOpen g q w s = .next u ∧ Touch 0x7FFFFFCFECFFFF8 s u := by
  unfold execGalleryOpen
  refine act_touch s _ (by decide +kernel) ?_
  try dsimp only
  repeat' first
    | (show sub _ _ = true; decide +kernel)
    | with_reducible exact Touch.refl _
    | with_reducible apply Touch.to (State.command_touch ..)
    | dsimp only

theorem execGalleryReset_touch (g : Fin 16) (q : Req) (w : Word) (s : State) : ∃ u, execGalleryReset g q w s = .next u ∧ Touch 0x7FFFFFCFECFFFF8 s u := by
  unfold execGalleryReset
  refine act_touch s _ (by decide +kernel) ?_
  try dsimp only
  repeat' first
    | (show sub _ _ = true; decide +kernel)
    | with_reducible exact Touch.refl _
    | with_reducible apply Touch.to (State.command_touch ..)
    | dsimp only

theorem execGpAccRetry_touch (n : Fin 8) (q : Req) (w : Word) (s : State) : ∃ u, execGpAccRetry n q w s = .next u ∧ Touch 0x7FFFFFCFECFFFF8 s u := by
  unfold execGpAccRetry
  refine act_touch s _ (by decide +kernel) ?_
  try dsimp only
  repeat' first
    | (show sub _ _ = true; decide +kernel)
    | with_reducible exact Touch.refl _
    | with_reducible apply Touch.to (State.command_touch ..)
    | dsimp only

theorem execGpAccUnbind_touch (n : Fin 8) (q : Req) (w : Word) (s : State) : ∃ u, execGpAccUnbind n q w s = .next u ∧ Touch 0x7FFFFFCFECFFFF8 s u := by
  unfold execGpAccUnbind
  refine act_touch s _ (by decide +kernel) ?_
  try dsimp only
  repeat' first
    | (show sub _ _ = true; decide +kernel)
    | with_reducible exact Touch.refl _
    | with_reducible apply Touch.to (State.command_touch ..)
    | dsimp only

theorem execGpCntClear_touch (n : Fin 8) (q : Req) (w : Word) (s : State) : ∃ u, execGpCntClear n q w s = .next u ∧ Touch 0x7FFFFFCFECFFFF8 s u := by
  unfold execGpCntClear
  refine act_touch s _ (by decide +kernel) ?_
  try dsimp only
  repeat' first
    | (show sub _ _ = true; decide +kernel)
    | with_reducible exact Touch.refl _
    | with_reducible apply Touch.to (State.command_touch ..)
    | dsimp only

theorem execGpCutRelease_touch (n : Fin 8) (q : Req) (w : Word) (s : State) : ∃ u, execGpCutRelease n q w s = .next u ∧ Touch 0x7FFFFFCFECFFFF8 s u := by
  unfold execGpCutRelease
  refine act_touch s _ (by decide +kernel) ?_
  try dsimp only
  repeat' first
    | (show sub _ _ = true; decide +kernel)
    | with_reducible exact Touch.refl _
    | with_reducible apply Touch.to (State.command_touch ..)
    | dsimp only

theorem execGpXactClear_touch (n : Fin 8) (q : Req) (w : Word) (s : State) : ∃ u, execGpXactClear n q w s = .next u ∧ Touch 0x7FFFFFCFECFFFF8 s u := by
  unfold execGpXactClear
  refine act_touch s _ (by decide +kernel) ?_
  try dsimp only
  repeat' first
    | (show sub _ _ = true; decide +kernel)
    | with_reducible exact Touch.refl _
    | with_reducible apply Touch.to (State.command_touch ..)
    | dsimp only

theorem execHostAttach_touch (q : Req) (w : Word) (s : State) : ∃ u, execHostAttach q w s = .next u ∧ Touch 0x7FFFFFCFECFFFF8 s u := by
  unfold execHostAttach
  refine act_touch s _ (by decide +kernel) ?_
  try dsimp only
  repeat' first
    | (show sub _ _ = true; decide +kernel)
    | with_reducible exact Touch.refl _
    | with_reducible apply Touch.to (State.command_touch ..)
    | dsimp only

theorem execHostDetach_touch (q : Req) (w : Word) (s : State) : ∃ u, execHostDetach q w s = .next u ∧ Touch 0x7FFFFFCFECFFFF8 s u := by
  unfold execHostDetach
  refine act_touch s _ (by decide +kernel) ?_
  try dsimp only
  repeat' first
    | (show sub _ _ = true; decide +kernel)
    | with_reducible exact Touch.refl _
    | with_reducible apply Touch.to (State.command_touch ..)
    | dsimp only

theorem execIcClaim_touch (g : Fin 16) (q : Req) (s : State) : ∃ u, execIcClaim g q s = .next u ∧ Touch 0x7FFF7047EC7FF68 s u := by
  unfold execIcClaim
  refine act_touch s _ (by decide +kernel) ?_
  try dsimp only
  repeat' first
    | (show sub _ _ = true; decide +kernel)
    | with_reducible exact Touch.refl _
    | with_reducible apply Touch.to (State.bar0Read_touch ..)
    | dsimp only

theorem execIcComplete_touch (g : Fin 16) (q : Req) (w : Word) (s : State) : ∃ u, execIcComplete g q w s = .next u ∧ Touch 0x7FFFFFCFECFFFF8 s u := by
  unfold execIcComplete
  refine act_touch s _ (by decide +kernel) ?_
  try dsimp only
  repeat' first
    | (show sub _ _ = true; decide +kernel)
    | with_reducible exact Touch.refl _
    | with_reducible apply Touch.to (State.command_touch ..)
    | dsimp only

theorem execIcEnableWrite_touch (g : Option (Fin 16)) (k : Fin 6) (q : Req) (w : Word) (s : State) : ∃ u, execIcEnableWrite g k q w s = .next u ∧ Touch 0x7FFFFFCFECFFFF8 s u := by
  unfold execIcEnableWrite
  refine act_touch s _ (by decide +kernel) ?_
  try dsimp only
  repeat' first
    | (show sub _ _ = true; decide +kernel)
    | with_reducible exact Touch.refl _
    | with_reducible apply Touch.to (State.command_touch ..)
    | dsimp only

theorem execIcSet_touch (g : Fin 16) (q : Req) (w : Word) (s : State) : ∃ u, execIcSet g q w s = .next u ∧ Touch 0x7FFFFFCFECFFFF8 s u := by
  unfold execIcSet
  refine act_touch s _ (by decide +kernel) ?_
  try dsimp only
  repeat' first
    | (show sub _ _ = true; decide +kernel)
    | with_reducible exact Touch.refl _
    | with_reducible apply Touch.to (State.command_touch ..)
    | dsimp only

theorem execIcShSet_touch (q : Req) (w : Word) (s : State) : ∃ u, execIcShSet q w s = .next u ∧ Touch 0x7FFFFFCFECFFFF8 s u := by
  unfold execIcShSet
  refine act_touch s _ (by decide +kernel) ?_
  try dsimp only
  repeat' first
    | (show sub _ _ = true; decide +kernel)
    | with_reducible exact Touch.refl _
    | with_reducible apply Touch.to (State.command_touch ..)
    | dsimp only

theorem execIcShTargetWrite_touch (k : Fin 192) (q : Req) (w : Word) (s : State) : ∃ u, execIcShTargetWrite k q w s = .next u ∧ Touch 0x7FFFFFCFECFFFF8 s u := by
  unfold execIcShTargetWrite
  refine act_touch s _ (by decide +kernel) ?_
  try dsimp only
  repeat' first
    | (show sub _ _ = true; decide +kernel)
    | with_reducible exact Touch.refl _
    | with_reducible apply Touch.to (State.command_touch ..)
    | dsimp only

theorem execInjectionArm_touch (k : Fin 18) (q : Req) (w : Word) (s : State) : ∃ u, execInjectionArm k q w s = .next u ∧ Touch 0x7FFFFFCFECFFFF8 s u := by
  unfold execInjectionArm
  refine act_touch s _ (by decide +kernel) ?_
  try dsimp only
  repeat' first
    | (show sub _ _ = true; decide +kernel)
    | with_reducible exact Touch.refl _
    | with_reducible apply Touch.to (State.command_touch ..)
    | dsimp only

theorem execLinkDisable_touch (n : Fin 8) (q : Req) (w : Word) (s : State) : ∃ u, execLinkDisable n q w s = .next u ∧ Touch 0x7FFFFFCFECFFFF8 s u := by
  unfold execLinkDisable
  refine act_touch s _ (by decide +kernel) ?_
  try dsimp only
  repeat' first
    | (show sub _ _ = true; decide +kernel)
    | with_reducible exact Touch.refl _
    | with_reducible apply Touch.to (State.command_touch ..)
    | dsimp only

theorem execLinkEnable_touch (n : Fin 8) (q : Req) (w : Word) (s : State) : ∃ u, execLinkEnable n q w s = .next u ∧ Touch 0x7FFFFFCFECFFFF8 s u := by
  unfold execLinkEnable
  refine act_touch s _ (by decide +kernel) ?_
  try dsimp only
  repeat' first
    | (show sub _ _ = true; decide +kernel)
    | with_reducible exact Touch.refl _
    | with_reducible apply Touch.to (State.command_touch ..)
    | dsimp only

theorem execMoverGo_touch (c : Fin 8) (q : Req) (w : Word) (s : State) : ∃ u, execMoverGo c q w s = .next u ∧ Touch 0x7FFFFFCFECFFFF8 s u := by
  unfold execMoverGo
  refine act_touch s _ (by decide +kernel) ?_
  try dsimp only
  repeat' first
    | (show sub _ _ = true; decide +kernel)
    | with_reducible exact Touch.refl _
    | with_reducible apply Touch.to (State.command_touch ..)
    | dsimp only

theorem execMoverOwner_touch (c : Fin 8) (q : Req) (w : Word) (s : State) : ∃ u, execMoverOwner c q w s = .next u ∧ Touch 0x7FFFFFCFECFFFF8 s u := by
  unfold execMoverOwner
  refine act_touch s _ (by decide +kernel) ?_
  try dsimp only
  repeat' first
    | (show sub _ _ = true; decide +kernel)
    | with_reducible exact Touch.refl _
    | with_reducible apply Touch.to (State.command_touch ..)
    | dsimp only

theorem execMoverStop_touch (c : Fin 8) (q : Req) (w : Word) (s : State) : ∃ u, execMoverStop c q w s = .next u ∧ Touch 0x7FFFFFCFECFFFF8 s u := by
  unfold execMoverStop
  refine act_touch s _ (by decide +kernel) ?_
  try dsimp only
  repeat' first
    | (show sub _ _ = true; decide +kernel)
    | with_reducible exact Touch.refl _
    | with_reducible apply Touch.to (State.command_touch ..)
    | dsimp only

theorem execMsixUnmask_touch (v : Fin 17) (q : Req) (w : Word) (s : State) : ∃ u, execMsixUnmask v q w s = .next u ∧ Touch 0x7FFFFFCFECFFFF8 s u := by
  unfold execMsixUnmask
  refine act_touch s _ (by decide +kernel) ?_
  try dsimp only
  repeat' first
    | (show sub _ _ = true; decide +kernel)
    | with_reducible exact Touch.refl _
    | with_reducible apply Touch.to (State.command_touch ..)
    | dsimp only

theorem execMvCntClear_touch (q : Req) (w : Word) (s : State) : ∃ u, execMvCntClear q w s = .next u ∧ Touch 0x7FFFFFCFECFFFF8 s u := by
  unfold execMvCntClear
  refine act_touch s _ (by decide +kernel) ?_
  try dsimp only
  repeat' first
    | (show sub _ _ = true; decide +kernel)
    | with_reducible exact Touch.refl _
    | with_reducible apply Touch.to (State.command_touch ..)
    | dsimp only

theorem execPasidWrite_touch (g : Fin 16) (q : Req) (w : Word) (s : State) : ∃ u, execPasidWrite g q w s = .next u ∧ Touch 0x7FFFFFCFECFFFF8 s u := by
  unfold execPasidWrite
  refine act_touch s _ (by decide +kernel) ?_
  try dsimp only
  repeat' first
    | (show sub _ _ = true; decide +kernel)
    | with_reducible exact Touch.refl _
    | with_reducible apply Touch.to (State.command_touch ..)
    | dsimp only

theorem execPowerTarget_touch (q : Req) (w : Word) (s : State) : ∃ u, execPowerTarget q w s = .next u ∧ Touch 0x7FFFFFCFECFFFF8 s u := by
  unfold execPowerTarget
  refine act_touch s _ (by decide +kernel) ?_
  try dsimp only
  repeat' first
    | (show sub _ _ = true; decide +kernel)
    | with_reducible exact Touch.refl _
    | with_reducible apply Touch.to (State.command_touch ..)
    | dsimp only

theorem execPxCntClear_touch (c : Fin 2048) (q : Req) (w : Word) (s : State) : ∃ u, execPxCntClear c q w s = .next u ∧ Touch 0x7FFFFFCFECFFFF8 s u := by
  unfold execPxCntClear
  refine act_touch s _ (by decide +kernel) ?_
  try dsimp only
  repeat' first
    | (show sub _ _ = true; decide +kernel)
    | with_reducible exact Touch.refl _
    | with_reducible apply Touch.to (State.command_touch ..)
    | dsimp only

theorem execRateCheck_touch (q : Req) (w : Word) (s : State) : ∃ u, execRateCheck q w s = .next u ∧ Touch 0x7FFFFFCFECFFFF8 s u := by
  unfold execRateCheck
  refine act_touch s _ (by decide +kernel) ?_
  try dsimp only
  repeat' first
    | (show sub _ _ = true; decide +kernel)
    | with_reducible exact Touch.refl _
    | with_reducible apply Touch.to (State.command_touch ..)
    | dsimp only

theorem execRetrain_touch (n : Fin 8) (q : Req) (w : Word) (s : State) : ∃ u, execRetrain n q w s = .next u ∧ Touch 0x7FFFFFCFECFFFF8 s u := by
  unfold execRetrain
  refine act_touch s _ (by decide +kernel) ?_
  try dsimp only
  repeat' first
    | (show sub _ _ = true; decide +kernel)
    | with_reducible exact Touch.refl _
    | with_reducible apply Touch.to (State.command_touch ..)
    | dsimp only

theorem execRgCntClear_touch (q : Req) (w : Word) (s : State) : ∃ u, execRgCntClear q w s = .next u ∧ Touch 0x7FFFFFCFECFFFF8 s u := by
  unfold execRgCntClear
  refine act_touch s _ (by decide +kernel) ?_
  try dsimp only
  repeat' first
    | (show sub _ _ = true; decide +kernel)
    | with_reducible exact Touch.refl _
    | with_reducible apply Touch.to (State.command_touch ..)
    | dsimp only

theorem execRingDisable_touch (g : Fin 16) (r : Fin 8) (q : Req) (w : Word) (s : State) : ∃ u, execRingDisable g r q w s = .next u ∧ Touch 0x7FFFFFCFECFFFF8 s u := by
  unfold execRingDisable
  refine act_touch s _ (by decide +kernel) ?_
  try dsimp only
  repeat' first
    | (show sub _ _ = true; decide +kernel)
    | with_reducible exact Touch.refl _
    | with_reducible apply Touch.to (State.command_touch ..)
    | dsimp only

theorem execRingEnable_touch (g : Fin 16) (r : Fin 8) (q : Req) (w : Word) (s : State) : ∃ u, execRingEnable g r q w s = .next u ∧ Touch 0x7FFFFFCFECFFFF8 s u := by
  unfold execRingEnable
  refine act_touch s _ (by decide +kernel) ?_
  try dsimp only
  repeat' first
    | (show sub _ _ = true; decide +kernel)
    | with_reducible exact Touch.refl _
    | with_reducible apply Touch.to (State.command_touch ..)
    | dsimp only

theorem execRouteClear_touch (q : Req) (w : Word) (s : State) : ∃ u, execRouteClear q w s = .next u ∧ Touch 0x7FFFFFCFECFFFF8 s u := by
  unfold execRouteClear
  refine act_touch s _ (by decide +kernel) ?_
  try dsimp only
  repeat' first
    | (show sub _ _ = true; decide +kernel)
    | with_reducible exact Touch.refl _
    | with_reducible apply Touch.to (State.command_touch ..)
    | dsimp only

theorem execRouteRead_touch (q : Req) (w : Word) (s : State) : ∃ u, execRouteRead q w s = .next u ∧ Touch 0x7FFFFFCFECFFFF8 s u := by
  unfold execRouteRead
  refine act_touch s _ (by decide +kernel) ?_
  try dsimp only
  repeat' first
    | (show sub _ _ = true; decide +kernel)
    | with_reducible exact Touch.refl _
    | with_reducible apply Touch.to (State.command_touch ..)
    | dsimp only

theorem execRouteWrite_touch (q : Req) (w : Word) (s : State) : ∃ u, execRouteWrite q w s = .next u ∧ Touch 0x7FFFFFCFECFFFF8 s u := by
  unfold execRouteWrite
  refine act_touch s _ (by decide +kernel) ?_
  try dsimp only
  repeat' first
    | (show sub _ _ = true; decide +kernel)
    | with_reducible exact Touch.refl _
    | with_reducible apply Touch.to (State.command_touch ..)
    | dsimp only

theorem execSoftReset_touch (q : Req) (w : Word) (s : State) : ∃ u, execSoftReset q w s = .next u ∧ Touch 0x7FFFFFCFECFFFF8 s u := by
  unfold execSoftReset
  refine act_touch s _ (by decide +kernel) ?_
  try dsimp only
  repeat' first
    | (show sub _ _ = true; decide +kernel)
    | with_reducible exact Touch.refl _
    | with_reducible apply Touch.to (State.command_touch ..)
    | dsimp only

theorem execSoftwareTake_touch (q : Req) (w : Word) (s : State) : ∃ u, execSoftwareTake q w s = .next u ∧ Touch 0x7FFFFFCFECFFFF8 s u := by
  unfold execSoftwareTake
  refine act_touch s _ (by decide +kernel) ?_
  try dsimp only
  repeat' first
    | (show sub _ _ = true; decide +kernel)
    | with_reducible exact Touch.refl _
    | with_reducible apply Touch.to (State.command_touch ..)
    | dsimp only

theorem execSpCntClear_touch (q : Req) (w : Word) (s : State) : ∃ u, execSpCntClear q w s = .next u ∧ Touch 0x7FFFFFCFECFFFF8 s u := by
  unfold execSpCntClear
  refine act_touch s _ (by decide +kernel) ?_
  try dsimp only
  repeat' first
    | (show sub _ _ = true; decide +kernel)
    | with_reducible exact Touch.refl _
    | with_reducible apply Touch.to (State.command_touch ..)
    | dsimp only

theorem execSpPmCntClear_touch (m : Fin 4) (q : Req) (w : Word) (s : State) : ∃ u, execSpPmCntClear m q w s = .next u ∧ Touch 0x7FFFFFCFECFFFF8 s u := by
  unfold execSpPmCntClear
  refine act_touch s _ (by decide +kernel) ?_
  try dsimp only
  repeat' first
    | (show sub _ _ = true; decide +kernel)
    | with_reducible exact Touch.refl _
    | with_reducible apply Touch.to (State.command_touch ..)
    | dsimp only

theorem execSpanEnable_touch (m : Fin 4) (q : Req) (w : Word) (s : State) : ∃ u, execSpanEnable m q w s = .next u ∧ Touch 0x7FFFFFCFECFFFF8 s u := by
  unfold execSpanEnable
  refine act_touch s _ (by decide +kernel) ?_
  try dsimp only
  repeat' first
    | (show sub _ _ = true; decide +kernel)
    | with_reducible exact Touch.refl _
    | with_reducible apply Touch.to (State.command_touch ..)
    | dsimp only

theorem execSpanRetrain_touch (m : Fin 4) (q : Req) (w : Word) (s : State) : ∃ u, execSpanRetrain m q w s = .next u ∧ Touch 0x7FFFFFCFECFFFF8 s u := by
  unfold execSpanRetrain
  refine act_touch s _ (by decide +kernel) ?_
  try dsimp only
  repeat' first
    | (show sub _ _ = true; decide +kernel)
    | with_reducible exact Touch.refl _
    | with_reducible apply Touch.to (State.command_touch ..)
    | dsimp only

theorem execStoreClear_touch (q : Req) (w : Word) (s : State) : ∃ u, execStoreClear q w s = .next u ∧ Touch 0x7FFFFFCFECFFFF8 s u := by
  unfold execStoreClear
  refine act_touch s _ (by decide +kernel) ?_
  try dsimp only
  repeat' first
    | (show sub _ _ = true; decide +kernel)
    | with_reducible exact Touch.refl _
    | with_reducible apply Touch.to (State.command_touch ..)
    | dsimp only

theorem execTreeResume_touch (n : Fin 8) (q : Req) (w : Word) (s : State) : ∃ u, execTreeResume n q w s = .next u ∧ Touch 0x7FFFFFCFECFFFF8 s u := by
  unfold execTreeResume
  refine act_touch s _ (by decide +kernel) ?_
  try dsimp only
  repeat' first
    | (show sub _ _ = true; decide +kernel)
    | with_reducible exact Touch.refl _
    | with_reducible apply Touch.to (State.command_touch ..)
    | dsimp only

theorem execTreeSuspend_touch (n : Fin 8) (q : Req) (w : Word) (s : State) : ∃ u, execTreeSuspend n q w s = .next u ∧ Touch 0x7FFFFFCFECFFFF8 s u := by
  unfold execTreeSuspend
  refine act_touch s _ (by decide +kernel) ?_
  try dsimp only
  repeat' first
    | (show sub _ _ = true; decide +kernel)
    | with_reducible exact Touch.refl _
    | with_reducible apply Touch.to (State.command_touch ..)
    | dsimp only

theorem execTwClear_touch (q : Req) (w : Word) (s : State) : ∃ u, execTwClear q w s = .next u ∧ Touch 0x7FFFFFCFECFFFF8 s u := by
  unfold execTwClear
  refine act_touch s _ (by decide +kernel) ?_
  try dsimp only
  repeat' first
    | (show sub _ _ = true; decide +kernel)
    | with_reducible exact Touch.refl _
    | with_reducible apply Touch.to (State.command_touch ..)
    | dsimp only

theorem execTwinEnable_touch (q : Req) (w : Word) (s : State) : ∃ u, execTwinEnable q w s = .next u ∧ Touch 0x7FFFFFCFECFFFF8 s u := by
  unfold execTwinEnable
  refine act_touch s _ (by decide +kernel) ?_
  try dsimp only
  repeat' first
    | (show sub _ _ = true; decide +kernel)
    | with_reducible exact Touch.refl _
    | with_reducible apply Touch.to (State.command_touch ..)
    | dsimp only

theorem execTwinYield_touch (q : Req) (w : Word) (s : State) : ∃ u, execTwinYield q w s = .next u ∧ Touch 0x7FFFFFCFECFFFF8 s u := by
  unfold execTwinYield
  refine act_touch s _ (by decide +kernel) ?_
  try dsimp only
  repeat' first
    | (show sub _ _ = true; decide +kernel)
    | with_reducible exact Touch.refl _
    | with_reducible apply Touch.to (State.command_touch ..)
    | dsimp only

theorem execVitrineRelease_touch (q : Req) (w : Word) (s : State) : ∃ u, execVitrineRelease q w s = .next u ∧ Touch 0x7FFFFFCFECFFFF8 s u := by
  unfold execVitrineRelease
  refine act_touch s _ (by decide +kernel) ?_
  try dsimp only
  repeat' first
    | (show sub _ _ = true; decide +kernel)
    | with_reducible exact Touch.refl _
    | with_reducible apply Touch.to (State.command_touch ..)
    | dsimp only

end Sys2Proof.Machine
end

