-- ==== Sys2Proof/Laws/FrameImage.lean ====
section
/-! SUPPORT. What each operation of Machine/Image.lean touches: the parts of its set (Laws/Touch.lean), and nothing else. -/

set_option linter.unusedSimpArgs false
set_option linter.unusedVariables false
set_option Elab.async false

namespace Sys2Proof.Machine

theorem State.ctxWrite_touch (s : State) (r : List Byte) : Touch 0x3FFFFFC00020000 s (State.ctxWrite s r) := by
  unfold State.ctxWrite
  try dsimp only
  repeat' first
    | (show sub _ _ = true; decide +kernel)
    | with_reducible assumption
    | with_reducible exact Touch.refl _
    | with_reducible apply Touch.to (State.setReg_touch ..)
    | with_reducible apply Touch.to (State.modCtx_touch ..)
    | with_reducible apply Touch.to (State.put_touch ..)
    | with_reducible refine Touch.forEach ?_ (fun _ _ _ => ?_)
    | (refine up_40000 ?_ (by decide +kernel); simp only [F.pxCtrl_enable, R.pxCtrl]; omega)
    | (exact up_0 (Nat.zero_le _) (by decide +kernel))
    | dsimp only

theorem State.rateNow_touch (s : State) : Touch 0x8000000000 s (State.rateNow s) := by
  unfold State.rateNow
  try dsimp only
  repeat' first
    | (show sub _ _ = true; decide +kernel)
    | with_reducible exact Touch.refl _
    | with_reducible apply Touch.to (State.put_touch ..)
    | dsimp only

end Sys2Proof.Machine
end

