-- ==== Sys2Proof/Laws/FrameCharter.lean ====
section
/-! SUPPORT. What each operation of Machine/Charter.lean touches: the parts of its set (Laws/Touch.lean), and nothing else. -/

set_option linter.unusedSimpArgs false
set_option linter.unusedVariables false
set_option Elab.async false

namespace Sys2Proof.Machine

theorem State.chWait_touch (s : State) (w : ChWait) : Touch 0x80000000 s (State.chWait s w) := by
  unfold State.chWait
  try dsimp only
  repeat' first
    | (show sub _ _ = true; decide +kernel)
    | (show State.sizesOk _ = true → _; first | with_reducible exact id | (intro hz; simp only [State.sizesOk, listSet_length, List.length_map, List.length_replicate] at hz ⊢; first | exact hz | (rw [sizesOf_iff] at hz ⊢; and_intros <;> first | rfl | exact hz.1 | exact hz.2.1 | exact hz.2.2.1 | exact hz.2.2.2.1 | exact hz.2.2.2.2.1 | exact hz.2.2.2.2.2.1 | exact hz.2.2.2.2.2.2)))
    | (show _ ∧ _; and_intros <;> first | (apply Or.inl; decide +kernel) | (apply Or.inr; with_reducible rfl))
    | with_reducible exact Touch.refl _
    | dsimp only
    | with_reducible refine Touch.mk' ?_ rfl rfl ?_ ?_

theorem State.copyRead1_touch (s : State) (b : Bool) : Touch 0x80000000800 s (State.copyRead1 s b) := by
  unfold State.copyRead1
  try dsimp only
  repeat' first
    | (show sub _ _ = true; decide +kernel)
    | with_reducible exact Touch.refl _
    | with_reducible apply Touch.to (State.put_touch ..)
    | with_reducible apply Touch.to (State.permitReturn_touch ..)
    | with_reducible refine Touch.ite ?_ ?_
    | split
    | dsimp only

theorem State.bodyRead_touch (s : State) (b : Bool) (d : List Byte) : Touch 0x80080000800 s (State.bodyRead s b d) := by
  unfold State.bodyRead
  try dsimp only
  repeat' first
    | (show sub _ _ = true; decide +kernel)
    | (show State.sizesOk _ = true → _; first | with_reducible exact id | (intro hz; simp only [State.sizesOk, listSet_length, List.length_map, List.length_replicate] at hz ⊢; first | exact hz | (rw [sizesOf_iff] at hz ⊢; and_intros <;> first | rfl | exact hz.1 | exact hz.2.1 | exact hz.2.2.1 | exact hz.2.2.2.1 | exact hz.2.2.2.2.1 | exact hz.2.2.2.2.2.1 | exact hz.2.2.2.2.2.2)))
    | (show _ ∧ _; and_intros <;> first | (apply Or.inl; decide +kernel) | (apply Or.inr; with_reducible rfl))
    | with_reducible exact Touch.refl _
    | with_reducible apply Touch.to (State.chWait_touch ..)
    | with_reducible apply Touch.to (State.copyRead1_touch ..)
    | dsimp only
    | with_reducible refine Touch.mk' ?_ rfl rfl ?_ ?_

/-- The ports' engine records put back as they were at the start. -/
theorem Touch.gpBack {m : Nat} {s t : State} (h : Touch m s t) (e : m.testBit 13 = true) : Touch m s { t with gp := s.gp } where
  mem x := h.mem x
  sizes x := by
    have y := h.sizes x
    simp only [State.sizesOk] at x y ⊢
    rw [sizesOf_iff] at x y ⊢
    exact ⟨x.1, y.2⟩
  reg off x := h.reg off x
  part x := h.part x
  off x := h.off x
  pending x := h.pending x
  caps x := h.caps x
  sram x := h.sram x
  out x := h.out x
  free x := h.free x
  tk x := h.tk x
  ic x := h.ic x
  rg x := h.rg x
  fi x := h.fi x
  cn x := h.cn x
  pci x := h.pci x
  gp x := absurd (x.symm.trans e) Bool.false_ne_true
  devs x := h.devs x
  seqs x := h.seqs x
  acc x := h.acc x
  px x := h.px x
  cat x := h.cat x
  cu x := h.cu x
  cutoff x := h.cutoff x
  built x := h.built x
  ga x := h.ga x
  work x := h.work x
  stamps x := h.stamps x
  owed x := h.owed x
  mv x := h.mv x
  mvLast x := h.mvLast x
  sp x := h.sp x
  tw x := h.tw x
  co x := h.co x
  ch x := h.ch x
  fuses x := h.fuses x
  jtag x := h.jtag x
  flips x := h.flips x

theorem State.catalogueApply_touch (s : State) (rs : List (List Byte)) : Touch 0x3FF008000042000 s (State.catalogueApply s rs) := by
  unfold State.catalogueApply
  refine Touch.to (State.put_touch ..) (by decide +kernel) (Touch.gpBack ?_ (by decide))
  refine Touch.forEach ?_ (fun _ _ h => Touch.to (State.catInsert_touch ..) (by decide +kernel) h)
  refine Touch.mk' ((State.rateNow_touch s).weaken (by decide +kernel)) rfl rfl ?_ ?_
  · intro hz
    simp only [State.sizesOk, List.length_map] at hz ⊢
    exact hz
  · and_intros <;> first | (apply Or.inl; decide +kernel) | (apply Or.inr; with_reducible rfl)

theorem State.spiRead_touch (s : State) (cmd : Nat) (addr : Nat) (len : Nat) (dummy : Nat) (mhz : Nat) (w : ChWait) : Touch 0x80080000020 s (State.spiRead s cmd addr len dummy mhz w) := by
  unfold State.spiRead
  try dsimp only
  repeat' first
    | (show sub _ _ = true; decide +kernel)
    | with_reducible exact Touch.refl _
    | with_reducible apply Touch.to (State.chWait_touch ..)
    | with_reducible apply Touch.to (State.emit_touch ..)
    | with_reducible apply Touch.to (State.put_touch ..)
    | dsimp only

theorem State.copyRead_touch (s : State) (b : Bool) (off : Nat) (len : Nat) (w : ChWait) : Touch 0x80080000020 s (State.copyRead s b off len w) := by
  unfold State.copyRead
  try dsimp only
  repeat' first
    | (show sub _ _ = true; decide +kernel)
    | with_reducible exact Touch.refl _
    | with_reducible apply Touch.to (State.spiRead_touch ..)
    | with_reducible refine Touch.ite ?_ ?_
    | split
    | dsimp only

theorem State.copyBegin_touch (s : State) (b : Bool) : Touch 0x80080000020 s (State.copyBegin s b) := by
  unfold State.copyBegin
  try dsimp only
  repeat' first
    | (show sub _ _ = true; decide +kernel)
    | with_reducible exact Touch.refl _
    | with_reducible apply Touch.to (State.copyRead_touch ..)
    | dsimp only

theorem State.charterGranted_touch (s : State) : Touch 0x7FFFFFCF6CEFBB0 s (State.charterGranted s) := by
  unfold State.charterGranted
  try dsimp only
  repeat' first
    | (show sub _ _ = true; decide +kernel)
    | with_reducible exact Touch.refl _
    | with_reducible apply Touch.to (State.copyBegin_touch ..)
    | with_reducible apply Touch.to (State.unapply_touch ..)
    | with_reducible apply Touch.to (State.chEnd_touch ..)
    | with_reducible apply Touch.to (State.permitReturn_touch ..)
    | with_reducible refine Touch.ite ?_ ?_
    | split
    | dsimp only

theorem State.startDone_touch (s : State) (mode : Nat) : Touch 0x380080082401020 s (State.startDone s mode) := by
  unfold State.startDone
  try dsimp only
  repeat' first
    | (show sub _ _ = true; decide +kernel)
    | with_reducible exact Touch.refl _
    | with_reducible apply Touch.to (State.attachHeld_touch ..)
    | with_reducible apply Touch.to (State.chEnd_touch ..)
    | with_reducible apply Touch.to (State.put_touch ..)
    | dsimp only

theorem State.comeBare_touch (s : State) : Touch 0x3800C0082401020 s (State.comeBare s) := by
  unfold State.comeBare
  try dsimp only
  repeat' first
    | (show sub _ _ = true; decide +kernel)
    | with_reducible exact Touch.refl _
    | with_reducible apply Touch.to (State.startDone_touch ..)
    | with_reducible apply Touch.to (State.raise_touch ..)
    | dsimp only

theorem State.settingApply_touch (s : State) (r : List Byte) : Touch 0x7FFFFFCFECFFFF8 s (State.settingApply s r) := by
  unfold State.settingApply
  try dsimp only
  repeat' first
    | (show sub _ _ = true; decide +kernel)
    | (show State.sizesOk _ = true → _; first | with_reducible exact id | (intro hz; simp only [State.sizesOk, listSet_length, List.length_map, List.length_replicate] at hz ⊢; first | exact hz | (rw [sizesOf_iff] at hz ⊢; and_intros <;> first | rfl | exact hz.1 | exact hz.2.1 | exact hz.2.2.1 | exact hz.2.2.2.1 | exact hz.2.2.2.2.1 | exact hz.2.2.2.2.2.1 | exact hz.2.2.2.2.2.2)))
    | (show _ ∧ _; and_intros <;> first | (apply Or.inl; decide +kernel) | (apply Or.inr; with_reducible rfl))
    | with_reducible exact Touch.refl _
    | with_reducible apply Touch.to (State.regWrite_touch ..)
    | with_reducible apply Touch.to (State.setReg_touch ..)
    | with_reducible refine Touch.ite ?_ ?_
    | (exact up_0 (Nat.zero_le _) (by decide +kernel))
    | split
    | dsimp only
    | with_reducible refine Touch.mk' ?_ rfl rfl ?_ ?_

theorem State.topologyApply_touch (s : State) (rs : List (List Byte)) (r : List Byte) : Touch 0x300000080004000 s (State.topologyApply s rs r) := by
  unfold State.topologyApply
  try dsimp only
  repeat' first
    | (show sub _ _ = true; decide +kernel)
    | (show State.sizesOk _ = true → _; first | with_reducible exact id | (intro hz; simp only [State.sizesOk, listSet_length, List.length_map, List.length_replicate] at hz ⊢; first | exact hz | (rw [sizesOf_iff] at hz ⊢; and_intros <;> first | rfl | exact hz.1 | exact hz.2.1 | exact hz.2.2.1 | exact hz.2.2.2.1 | exact hz.2.2.2.2.1 | exact hz.2.2.2.2.2.1 | exact hz.2.2.2.2.2.2)))
    | (show _ ∧ _; and_intros <;> first | (apply Or.inl; decide +kernel) | (apply Or.inr; with_reducible rfl))
    | with_reducible exact Touch.refl _
    | with_reducible apply Touch.setRegs
    | with_reducible apply Touch.to (State.modDev_touch ..)
    | with_reducible refine Touch.ite ?_ ?_
    | (first | (refine up_20000 ?_ (by decide +kernel); simp only [R.gpDevId0, R.gpDevState]; omega) | (intro j hj; refine up_20000 ?_ (by decide +kernel); refine Nat.le_trans ?_ hj; simp only [R.gpDevId0, R.gpDevState]; omega))
    | split
    | dsimp only
    | with_reducible refine Touch.mk' ?_ rfl rfl ?_ ?_

theorem State.holdApply_touch (s : State) (r : List Byte) : Touch 0x400000000000010 s (State.holdApply s r) := by
  unfold State.holdApply
  try dsimp only
  repeat' first
    | (show sub _ _ = true; decide +kernel)
    | with_reducible exact Touch.refl _
    | with_reducible apply Touch.to (State.setRamBytes_touch ..)
    | dsimp only

theorem State.routeApply_touch (s : State) (r : List Byte) : Touch 0x40000000 s (State.routeApply s r) := by
  unfold State.routeApply
  try dsimp only
  repeat' first
    | (show sub _ _ = true; decide +kernel)
    | with_reducible exact Touch.refl _
    | with_reducible apply Touch.to (State.setRoute_touch ..)
    | dsimp only

theorem State.galleryApply_touch (s : State) (r : List Byte) : Touch 0x380000002401020 s (State.galleryApply s r) := by
  unfold State.galleryApply
  try dsimp only
  repeat' first
    | (show sub _ _ = true; decide +kernel)
    | with_reducible exact Touch.refl _
    | with_reducible apply Touch.to (State.galleryOpen_touch ..)
    | with_reducible refine Touch.ite ?_ ?_
    | split
    | dsimp only

theorem State.heldApply_touch (s : State) (rs : List (List Byte)) : Touch 0x7FFFFFCFECFFFF8 s (State.heldApply s rs) := by
  unfold State.heldApply
  try dsimp only
  repeat' first
    | (show sub _ _ = true; decide +kernel)
    | with_reducible assumption
    | with_reducible exact Touch.refl _
    | with_reducible apply Touch.to (State.regWrite_touch ..)
    | with_reducible refine Touch.forEach ?_ (fun _ _ _ => ?_)
    | split
    | dsimp only

theorem State.imageApply_touch (s : State) (img : List Byte) : Touch 0x7FFFFFCFECFFFF8 s (State.imageApply s img) := by
  unfold State.imageApply
  try dsimp only
  repeat' first
    | (show sub _ _ = true; decide +kernel)
    | with_reducible assumption
    | with_reducible exact Touch.refl _
    | with_reducible apply Touch.to (State.settingApply_touch ..)
    | with_reducible apply Touch.to (State.topologyApply_touch ..)
    | with_reducible apply Touch.to (State.ctxWrite_touch ..)
    | with_reducible apply Touch.to (State.holdApply_touch ..)
    | with_reducible apply Touch.to (State.catalogueApply_touch ..)
    | with_reducible apply Touch.to (State.routeApply_touch ..)
    | with_reducible apply Touch.to (State.galleryApply_touch ..)
    | with_reducible apply Touch.to (State.pxEnable_touch ..)
    | with_reducible apply Touch.to (State.heldApply_touch ..)
    | with_reducible refine Touch.ite ?_ ?_
    | with_reducible refine Touch.forEach ?_ (fun _ _ _ => ?_)
    | split
    | dsimp only

theorem State.copyApply_touch (s : State) (b : Bool) (img : List Byte) : Touch 0x7FFFFFCFECFFFF8 s (State.copyApply s b img) := by
  unfold State.copyApply
  try dsimp only
  repeat' first
    | (show sub _ _ = true; decide +kernel)
    | with_reducible exact Touch.refl _
    | with_reducible apply Touch.to (State.imageApply_touch ..)
    | with_reducible apply Touch.to (State.put_touch ..)
    | with_reducible apply Touch.to (State.raise_touch ..)
    | with_reducible apply Touch.to (State.setReg_touch ..)
    | with_reducible apply Touch.to (State.startDone_touch ..)
    | with_reducible refine Touch.ite ?_ ?_
    | split
    | dsimp only

theorem State.reapply_touch (s : State) (img : List Byte) : Touch 0x7FFFFFCFECFFFF8 s (State.reapply s img) := by
  unfold State.reapply
  try dsimp only
  repeat' first
    | (show sub _ _ = true; decide +kernel)
    | with_reducible assumption
    | with_reducible exact Touch.refl _
    | with_reducible apply Touch.to (State.galleryApply_touch ..)
    | with_reducible apply Touch.to (State.settingApply_touch ..)
    | with_reducible apply Touch.to (State.attachHeld_touch ..)
    | with_reducible apply Touch.to (State.chEnd_touch ..)
    | with_reducible apply Touch.to (State.raise_touch ..)
    | with_reducible refine Touch.forEach ?_ (fun _ _ _ => ?_)
    | dsimp only

theorem State.copyShow_touch (s : State) (b : Bool) (r : Nat × Nat × Nat) : Touch 0x80000000000 s (State.copyShow s b r) := by
  unfold State.copyShow
  try dsimp only
  repeat' first
    | (show sub _ _ = true; decide +kernel)
    | with_reducible exact Touch.refl _
    | with_reducible apply Touch.to (State.setReg_touch ..)
    | with_reducible refine Touch.ite ?_ ?_
    | split
    | dsimp only

theorem State.copyChoose_touch (s : State) : Touch 0x7FFFFFCFECFFFF8 s (State.copyChoose s) := by
  unfold State.copyChoose
  try dsimp only
  repeat' first
    | (show sub _ _ = true; decide +kernel)
    | with_reducible exact Touch.refl _
    | with_reducible apply Touch.to (State.comeBare_touch ..)
    | with_reducible apply Touch.to (State.copyApply_touch ..)
    | with_reducible refine Touch.ite ?_ ?_
    | split
    | dsimp only

theorem State.copyChecked_touch (s : State) (b : Bool) (r : Nat × Nat × Nat) : Touch 0x7FFFFFCFECFFFF8 s (State.copyChecked s b r) := by
  unfold State.copyChecked
  try dsimp only
  repeat' first
    | (show sub _ _ = true; decide +kernel)
    | (show State.sizesOk _ = true → _; first | with_reducible exact id | (intro hz; simp only [State.sizesOk, listSet_length, List.length_map, List.length_replicate] at hz ⊢; first | exact hz | (rw [sizesOf_iff] at hz ⊢; and_intros <;> first | rfl | exact hz.1 | exact hz.2.1 | exact hz.2.2.1 | exact hz.2.2.2.1 | exact hz.2.2.2.2.1 | exact hz.2.2.2.2.2.1 | exact hz.2.2.2.2.2.2)))
    | (show _ ∧ _; and_intros <;> first | (apply Or.inl; decide +kernel) | (apply Or.inr; with_reducible rfl))
    | with_reducible exact Touch.refl _
    | with_reducible apply Touch.to (State.reapply_touch ..)
    | with_reducible apply Touch.to (State.reapplyFailed_touch ..)
    | with_reducible apply Touch.to (State.copyShow_touch ..)
    | with_reducible apply Touch.to (State.chEnd_touch ..)
    | with_reducible apply Touch.to (State.raise_touch ..)
    | with_reducible apply Touch.to (State.copyChoose_touch ..)
    | with_reducible apply Touch.to (State.copyBegin_touch ..)
    | with_reducible refine Touch.ite ?_ ?_
    | split
    | dsimp only
    | with_reducible refine Touch.mk' ?_ rfl rfl ?_ ?_

theorem State.flashFound_touch (s : State) (ok : Bool) (mode : Nat) (dens : Nat) : Touch 0x80080000020 s (State.flashFound s ok mode dens) := by
  unfold State.flashFound
  try dsimp only
  repeat' first
    | (show sub _ _ = true; decide +kernel)
    | with_reducible exact Touch.refl _
    | with_reducible apply Touch.to (State.put_touch ..)
    | with_reducible apply Touch.to (State.putB_touch ..)
    | with_reducible apply Touch.to (State.copyBegin_touch ..)
    | dsimp only

theorem State.flashPlain_touch (s : State) : Touch 0x80080000020 s (State.flashPlain s) := by
  unfold State.flashPlain
  try dsimp only
  repeat' first
    | (show sub _ _ = true; decide +kernel)
    | with_reducible exact Touch.refl _
    | with_reducible apply Touch.to (State.flashFound_touch ..)
    | dsimp only

theorem State.sfdpHeader_touch (s : State) (d : List Byte) : Touch 0x80080000020 s (State.sfdpHeader s d) := by
  unfold State.sfdpHeader
  try dsimp only
  repeat' first
    | (show sub _ _ = true; decide +kernel)
    | with_reducible exact Touch.refl _
    | with_reducible apply Touch.to (State.spiRead_touch ..)
    | with_reducible apply Touch.to (State.flashPlain_touch ..)
    | with_reducible refine Touch.ite ?_ ?_
    | split
    | dsimp only

theorem State.sfdpTable_touch (s : State) (t : List Byte) : Touch 0x80080000020 s (State.sfdpTable s t) := by
  unfold State.sfdpTable
  try dsimp only
  repeat' first
    | (show sub _ _ = true; decide +kernel)
    | (show State.sizesOk _ = true → _; first | with_reducible exact id | (intro hz; simp only [State.sizesOk, listSet_length, List.length_map, List.length_replicate] at hz ⊢; first | exact hz | (rw [sizesOf_iff] at hz ⊢; and_intros <;> first | rfl | exact hz.1 | exact hz.2.1 | exact hz.2.2.1 | exact hz.2.2.2.1 | exact hz.2.2.2.2.1 | exact hz.2.2.2.2.2.1 | exact hz.2.2.2.2.2.2)))
    | (show _ ∧ _; and_intros <;> first | (apply Or.inl; decide +kernel) | (apply Or.inr; with_reducible rfl))
    | with_reducible exact Touch.refl _
    | with_reducible apply Touch.to (State.flashFound_touch ..)
    | with_reducible apply Touch.to (State.spiRead_touch ..)
    | with_reducible refine Touch.ite ?_ ?_
    | split
    | dsimp only
    | with_reducible refine Touch.mk' ?_ rfl rfl ?_ ?_

theorem State.quadSeen_touch (s : State) (sr2 : Bool) (v : Nat) : Touch 0x80080000020 s (State.quadSeen s sr2 v) := by
  unfold State.quadSeen
  try dsimp only
  repeat' first
    | (show sub _ _ = true; decide +kernel)
    | with_reducible exact Touch.refl _
    | with_reducible apply Touch.to (State.flashFound_touch ..)
    | with_reducible refine Touch.ite ?_ ?_
    | split
    | dsimp only

theorem State.seqShow_touch (s : State) (b : Bool) (v : Nat) : Touch 0x80000000000 s (State.seqShow s b v) := by
  unfold State.seqShow
  try dsimp only
  repeat' first
    | (show sub _ _ = true; decide +kernel)
    | with_reducible exact Touch.refl _
    | with_reducible apply Touch.to (State.setReg_touch ..)
    | with_reducible refine Touch.ite ?_ ?_
    | split
    | dsimp only

theorem State.headerRead_touch (s : State) (b : Bool) (h : List Byte) : Touch 0x7FFFFFCFECFFFF8 s (State.headerRead s b h) := by
  unfold State.headerRead
  try dsimp only
  repeat' first
    | (show sub _ _ = true; decide +kernel)
    | (show State.sizesOk _ = true → _; first | with_reducible exact id | (intro hz; simp only [State.sizesOk, listSet_length, List.length_map, List.length_replicate] at hz ⊢; first | exact hz | (rw [sizesOf_iff] at hz ⊢; and_intros <;> first | rfl | exact hz.1 | exact hz.2.1 | exact hz.2.2.1 | exact hz.2.2.2.1 | exact hz.2.2.2.2.1 | exact hz.2.2.2.2.2.1 | exact hz.2.2.2.2.2.2)))
    | (show _ ∧ _; and_intros <;> first | (apply Or.inl; decide +kernel) | (apply Or.inr; with_reducible rfl))
    | with_reducible exact Touch.refl _
    | with_reducible apply Touch.to (State.copyChecked_touch ..)
    | with_reducible apply Touch.to (State.seqShow_touch ..)
    | with_reducible apply Touch.to (State.copyRead1_touch ..)
    | with_reducible apply Touch.to (State.copyRead_touch ..)
    | with_reducible refine Touch.ite ?_ ?_
    | split
    | dsimp only
    | with_reducible refine Touch.mk' ?_ rfl rfl ?_ ?_

theorem State.flashDone_touch (s : State) (r : FlashRes) : Touch 0x7FFFFFCFECFFFF8 s (State.flashDone s r) := by
  unfold State.flashDone
  try dsimp only
  repeat' first
    | (show sub _ _ = true; decide +kernel)
    | with_reducible exact Touch.refl _
    | with_reducible apply Touch.to (State.sfdpHeader_touch ..)
    | with_reducible apply Touch.to (State.flashPlain_touch ..)
    | with_reducible apply Touch.to (State.sfdpTable_touch ..)
    | with_reducible apply Touch.to (State.quadSeen_touch ..)
    | with_reducible apply Touch.to (State.headerRead_touch ..)
    | with_reducible apply Touch.to (State.bodyRead_touch ..)
    | with_reducible apply Touch.to (State.copyChecked_touch ..)
    | with_reducible apply Touch.to (State.copyRead1_touch ..)
    | split
    | dsimp only

theorem State.stepUpGranted_touch (s : State) : Touch 0x20000000820 s (State.stepUpGranted s) := by
  unfold State.stepUpGranted
  try dsimp only
  repeat' first
    | (show sub _ _ = true; decide +kernel)
    | with_reducible exact Touch.refl _
    | with_reducible apply Touch.to (State.permitReturn_touch ..)
    | with_reducible apply Touch.to (State.supplyGo_touch ..)
    | with_reducible refine Touch.ite ?_ ?_
    | split
    | dsimp only

theorem State.permitUse_touch (s : State) (u : PermitFor) : Touch 0x7FFFFFCF6CEFBB0 s (State.permitUse s u) := by
  unfold State.permitUse
  try dsimp only
  repeat' first
    | (show sub _ _ = true; decide +kernel)
    | with_reducible exact Touch.refl _
    | with_reducible apply Touch.to (State.trainingGranted_touch ..)
    | with_reducible apply Touch.to (State.permitReturn_touch ..)
    | with_reducible apply Touch.to (State.spanTrainGranted_touch ..)
    | with_reducible apply Touch.to (State.sweepGranted_touch ..)
    | with_reducible apply Touch.to (State.spanSweepGranted_touch ..)
    | with_reducible apply Touch.to (State.modCn_touch ..)
    | with_reducible apply Touch.to (State.discGranted_touch ..)
    | with_reducible apply Touch.to (State.charterGranted_touch ..)
    | with_reducible apply Touch.to (State.stepUpGranted_touch ..)
    | with_reducible refine Touch.ite ?_ ?_
    | split
    | dsimp only

theorem State.permitGrant_touch (s : State) : Touch 0x7FFFFFCF6CEFBB0 s (State.permitGrant s) := by
  unfold State.permitGrant
  try dsimp only
  repeat' first
    | (show sub _ _ = true; decide +kernel)
    | with_reducible exact Touch.refl _
    | with_reducible apply Touch.to (State.permitUse_touch ..)
    | with_reducible apply Touch.to (State.bump_touch ..)
    | with_reducible apply Touch.to (State.modCn_touch ..)
    | with_reducible refine Touch.ite ?_ ?_
    | split
    | dsimp only

theorem State.verified_touch (s : State) : Touch 0x7FFFFFCFECFFFF8 s (State.verified s) := by
  unfold State.verified
  try dsimp only
  repeat' first
    | (show sub _ _ = true; decide +kernel)
    | with_reducible exact Touch.refl _
    | with_reducible apply Touch.to (State.copyChecked_touch ..)
    | with_reducible refine Touch.ite ?_ ?_
    | split
    | dsimp only

theorem execCharterReapply_touch (s : State) : ∃ u, execCharterReapply s = .next u ∧ Touch 0x3882F04B2401B60 s u := by
  unfold execCharterReapply
  refine act_touch s _ (by decide +kernel) ?_
  try dsimp only
  repeat' first
    | (show sub _ _ = true; decide +kernel)
    | with_reducible exact Touch.refl _
    | with_reducible apply Touch.to (State.chAsk_touch ..)
    | with_reducible refine Touch.ite ?_ ?_
    | split
    | dsimp only

theorem execFlashReadDone_touch (r : FlashRes) (s : State) : ∃ u, execFlashReadDone r s = .next u ∧ Touch 0x7FFFFFCFECFFFF8 s u := by
  unfold execFlashReadDone
  refine act_touch s _ (by decide +kernel) ?_
  try dsimp only
  repeat' first
    | (show sub _ _ = true; decide +kernel)
    | with_reducible exact Touch.refl _
    | with_reducible apply Touch.to (State.flashDone_touch ..)
    | dsimp only

theorem execPermitGrant_touch (s : State) : ∃ u, execPermitGrant s = .next u ∧ Touch 0x7FFFFFCF6CEFBF0 s u := by
  unfold execPermitGrant
  refine act_touch s _ (by decide +kernel) ?_
  try dsimp only
  repeat' first
    | (show sub _ _ = true; decide +kernel)
    | with_reducible exact Touch.refl _
    | with_reducible apply Touch.to (State.permitGrant_touch ..)
    | dsimp only

theorem execReapplyRetry_touch (s : State) : ∃ u, execReapplyRetry s = .next u ∧ Touch 0x3882F04B2401B60 s u := by
  unfold execReapplyRetry
  refine act_touch s _ (by decide +kernel) ?_
  try dsimp only
  repeat' first
    | (show sub _ _ = true; decide +kernel)
    | with_reducible exact Touch.refl _
    | with_reducible apply Touch.to (State.chAsk_touch ..)
    | with_reducible refine Touch.ite ?_ ?_
    | split
    | dsimp only

theorem execSignatureCheckDone_touch (s : State) : ∃ u, execSignatureCheckDone s = .next u ∧ Touch 0x7FFFFFCFECFFFF8 s u := by
  unfold execSignatureCheckDone
  refine act_touch s _ (by decide +kernel) ?_
  try dsimp only
  repeat' first
    | (show sub _ _ = true; decide +kernel)
    | with_reducible exact Touch.refl _
    | with_reducible apply Touch.to (State.verified_touch ..)
    | dsimp only

theorem execSramClearDone_touch (s : State) : ∃ u, execSramClearDone s = .next u ∧ Touch 0x4082D04B0000B70 s u := by
  unfold execSramClearDone
  refine act_touch s _ (by decide +kernel) ?_
  try dsimp only
  repeat' first
    | (show sub _ _ = true; decide +kernel)
    | with_reducible exact Touch.refl _
    | with_reducible apply Touch.to (State.sfdpBegin_touch ..)
    | with_reducible apply Touch.to (State.sramClear_touch ..)
    | with_reducible refine Touch.ite ?_ ?_
    | split
    | dsimp only

end Sys2Proof.Machine
end

