-- ==== Sys2Proof/Laws/FrameJtag.lean ====
section
/-! SUPPORT. What each operation of Machine/Jtag.lean touches: the parts of its set (Laws/Touch.lean), and nothing else. -/

set_option linter.unusedSimpArgs false
set_option linter.unusedVariables false
set_option Elab.async false

namespace Sys2Proof.Machine

theorem State.scan_touch (s : State) (sample : List Bool) (pre : List Bool) : Touch 0x200000020 s (State.scan s sample pre) := by
  unfold State.scan
  try dsimp only
  repeat' first
    | (show sub _ _ = true; decide +kernel)
    | (show State.sizesOk _ = true → _; first | with_reducible exact id | (intro hz; simp only [State.sizesOk, listSet_length, List.length_map, List.length_replicate] at hz ⊢; first | exact hz | (rw [sizesOf_iff] at hz ⊢; and_intros <;> first | rfl | exact hz.1 | exact hz.2.1 | exact hz.2.2.1 | exact hz.2.2.2.1 | exact hz.2.2.2.2.1 | exact hz.2.2.2.2.2.1 | exact hz.2.2.2.2.2.2)))
    | (show _ ∧ _; and_intros <;> first | (apply Or.inl; decide +kernel) | (apply Or.inr; with_reducible rfl))
    | with_reducible exact Touch.refl _
    | with_reducible apply Touch.to (State.emit_touch ..)
    | dsimp only
    | with_reducible refine Touch.mk' ?_ rfl rfl ?_ ?_

theorem State.tapSelect_touch (s : State) (code : Nat) : Touch 0x200000020 s (State.tapSelect s code) := by
  unfold State.tapSelect
  try dsimp only
  repeat' first
    | (show sub _ _ = true; decide +kernel)
    | (show State.sizesOk _ = true → _; first | with_reducible exact id | (intro hz; simp only [State.sizesOk, listSet_length, List.length_map, List.length_replicate] at hz ⊢; first | exact hz | (rw [sizesOf_iff] at hz ⊢; and_intros <;> first | rfl | exact hz.1 | exact hz.2.1 | exact hz.2.2.1 | exact hz.2.2.2.1 | exact hz.2.2.2.2.1 | exact hz.2.2.2.2.2.1 | exact hz.2.2.2.2.2.2)))
    | (show _ ∧ _; and_intros <;> first | (apply Or.inl; decide +kernel) | (apply Or.inr; with_reducible rfl))
    | with_reducible assumption
    | with_reducible exact Touch.refl _
    | with_reducible apply Touch.to (State.emit_touch ..)
    | with_reducible refine Touch.ite ?_ ?_
    | with_reducible refine Touch.forEach ?_ (fun _ _ _ => ?_)
    | split
    | dsimp only
    | with_reducible refine Touch.mk' ?_ rfl rfl ?_ ?_

theorem execBypass_touch (code : BitVec 8) (tdi : List Bool) (s : State) : ∃ u, execBypass code tdi s = .next u ∧ Touch 0x8250630000B60 s u := by
  unfold execBypass
  refine act_touch s _ (by decide +kernel) ?_
  try dsimp only
  repeat' first
    | (show sub _ _ = true; decide +kernel)
    | with_reducible exact Touch.refl _
    | with_reducible apply Touch.to (State.emit_touch ..)
    | with_reducible apply Touch.to (State.tapSelect_touch ..)
    | with_reducible refine Touch.ite ?_ ?_
    | split
    | dsimp only

theorem execClamp_touch (tdi : List Bool) (s : State) : ∃ u, execClamp tdi s = .next u ∧ Touch 0x8250630000B60 s u := by
  unfold execClamp
  refine act_touch s _ (by decide +kernel) ?_
  try dsimp only
  repeat' first
    | (show sub _ _ = true; decide +kernel)
    | with_reducible exact Touch.refl _
    | with_reducible apply Touch.to (State.tapSelect_touch ..)
    | with_reducible apply Touch.to (State.emit_touch ..)
    | dsimp only

theorem execExtest_touch (sample : List Bool) (pre : List Bool) (s : State) : ∃ u, execExtest sample pre s = .next u ∧ Touch 0x8250630000B60 s u := by
  unfold execExtest
  refine act_touch s _ (by decide +kernel) ?_
  try dsimp only
  repeat' first
    | (show sub _ _ = true; decide +kernel)
    | with_reducible exact Touch.refl _
    | with_reducible apply Touch.to (State.tapSelect_touch ..)
    | with_reducible apply Touch.to (State.scan_touch ..)
    | with_reducible apply Touch.to (State.emit_touch ..)
    | dsimp only

theorem execFuseBurn_touch (vfuse : Bool) (s : State) : ∃ u, execFuseBurn vfuse s = .next u ∧ Touch 0x8250730000B60 s u := by
  unfold execFuseBurn
  refine act_touch s _ (by decide +kernel) ?_
  try dsimp only
  repeat' first
    | (show sub _ _ = true; decide +kernel)
    | (show State.sizesOk _ = true → _; first | with_reducible exact id | (intro hz; simp only [State.sizesOk, listSet_length, List.length_map, List.length_replicate] at hz ⊢; first | exact hz | (rw [sizesOf_iff] at hz ⊢; and_intros <;> first | rfl | exact hz.1 | exact hz.2.1 | exact hz.2.2.1 | exact hz.2.2.2.1 | exact hz.2.2.2.2.1 | exact hz.2.2.2.2.2.1 | exact hz.2.2.2.2.2.2)))
    | (show _ ∧ _; and_intros <;> first | (apply Or.inl; decide +kernel) | (apply Or.inr; with_reducible rfl))
    | with_reducible exact Touch.refl _
    | with_reducible apply Touch.to (State.tapSelect_touch ..)
    | dsimp only
    | with_reducible refine Touch.mk' ?_ rfl rfl ?_ ?_

theorem execFuseLoad_touch (bits : BitVec 257) (s : State) : ∃ u, execFuseLoad bits s = .next u ∧ Touch 0x8250630000B60 s u := by
  unfold execFuseLoad
  refine act_touch s _ (by decide +kernel) ?_
  try dsimp only
  repeat' first
    | (show sub _ _ = true; decide +kernel)
    | (show State.sizesOk _ = true → _; first | with_reducible exact id | (intro hz; simp only [State.sizesOk, listSet_length, List.length_map, List.length_replicate] at hz ⊢; first | exact hz | (rw [sizesOf_iff] at hz ⊢; and_intros <;> first | rfl | exact hz.1 | exact hz.2.1 | exact hz.2.2.1 | exact hz.2.2.2.1 | exact hz.2.2.2.2.1 | exact hz.2.2.2.2.2.1 | exact hz.2.2.2.2.2.2)))
    | (show _ ∧ _; and_intros <;> first | (apply Or.inl; decide +kernel) | (apply Or.inr; with_reducible rfl))
    | with_reducible exact Touch.refl _
    | with_reducible apply Touch.to (State.tapSelect_touch ..)
    | dsimp only
    | with_reducible refine Touch.mk' ?_ rfl rfl ?_ ?_

theorem execFuseRead_touch (s : State) : ∃ u, execFuseRead s = .next u ∧ Touch 0x8250630000B60 s u := by
  unfold execFuseRead
  refine act_touch s _ (by decide +kernel) ?_
  try dsimp only
  repeat' first
    | (show sub _ _ = true; decide +kernel)
    | with_reducible exact Touch.refl _
    | with_reducible apply Touch.to (State.emit_touch ..)
    | with_reducible apply Touch.to (State.tapSelect_touch ..)
    | dsimp only

theorem execHighz_touch (tdi : List Bool) (s : State) : ∃ u, execHighz tdi s = .next u ∧ Touch 0x8250630000B60 s u := by
  unfold execHighz
  refine act_touch s _ (by decide +kernel) ?_
  try dsimp only
  repeat' first
    | (show sub _ _ = true; decide +kernel)
    | with_reducible exact Touch.refl _
    | with_reducible apply Touch.to (State.emit_touch ..)
    | with_reducible apply Touch.to (State.tapSelect_touch ..)
    | dsimp only

theorem execIdcode_touch (s : State) : ∃ u, execIdcode s = .next u ∧ Touch 0x8250630000B60 s u := by
  unfold execIdcode
  refine act_touch s _ (by decide +kernel) ?_
  try dsimp only
  repeat' first
    | (show sub _ _ = true; decide +kernel)
    | with_reducible exact Touch.refl _
    | with_reducible apply Touch.to (State.emit_touch ..)
    | with_reducible apply Touch.to (State.tapSelect_touch ..)
    | dsimp only

theorem execSamplePreload_touch (sample : List Bool) (pre : List Bool) (s : State) : ∃ u, execSamplePreload sample pre s = .next u ∧ Touch 0x8250630000B60 s u := by
  unfold execSamplePreload
  refine act_touch s _ (by decide +kernel) ?_
  try dsimp only
  repeat' first
    | (show sub _ _ = true; decide +kernel)
    | with_reducible exact Touch.refl _
    | with_reducible apply Touch.to (State.scan_touch ..)
    | with_reducible apply Touch.to (State.tapSelect_touch ..)
    | dsimp only

theorem execTapReset_touch (s : State) : ∃ u, execTapReset s = .next u ∧ Touch 0x8250630000B60 s u := by
  unfold execTapReset
  refine act_touch s _ (by decide +kernel) ?_
  try dsimp only
  repeat' first
    | (show sub _ _ = true; decide +kernel)
    | with_reducible exact Touch.refl _
    | with_reducible apply Touch.to (State.tapSelect_touch ..)
    | dsimp only

end Sys2Proof.Machine
end

