-- ==== Sys2Proof/Laws/Kept.lean ====
section
/-! SUPPORT. What settling keeps of the parts that it may touch: what was sent stays sent, the Conservator but for its flag of a
budget exceeded and its notes of a sleep and a wake, the event bits that stand, the claims and the Pending instances of the interrupt controller, and the Span engines and the twin's mirror but for what waits to be sent. -/

namespace Sys2Proof.Machine

/-- What settling keeps. -/
structure Kept (s t : State) : Prop where
  out : s.out <+: t.out
  cn : t.cn = { s.cn with overLimit := t.cn.overLimit, rose := t.cn.rose, awoke := t.cn.awoke }
  bit : ∀ off, off = R.cnEvents ∨ off = R.chEvents → ∀ i, (s.reg off).getLsbD i = true → (t.reg off).getLsbD i = true
  claim : ∀ k, (t.inst k).claim = (s.inst k).claim
  pend : ∀ k, (s.inst k).phase = .pending → (t.inst k).phase = .pending
  span : t.sp = { s.sp with ports := t.sp.ports, records := t.sp.records, version := t.sp.version, seq := t.sp.seq }
  tw : t.tw = { s.tw with mirror := t.tw.mirror }
  port : ∀ m, ∃ r d, t.spanPort m = { s.spanPort m with ready := (s.spanPort m).ready ++ r, disc := d }

theorem Kept.refl (s : State) : Kept s s where
  out := List.prefix_refl _
  cn := rfl
  bit _ _ _ h := h
  claim _ := rfl
  pend _ h := h
  span := rfl
  tw := rfl
  port m := ⟨[], (s.spanPort m).disc, by rw [List.append_nil]⟩

theorem Kept.trans {s t u : State} (h : Kept s t) (k : Kept t u) : Kept s u where
  out := h.out.trans k.out
  cn := by rw [k.cn, h.cn]
  bit o ho i x := k.bit o ho i (h.bit o ho i x)
  claim j := (k.claim j).trans (h.claim j)
  pend j x := k.pend j (h.pend j x)
  span := by rw [k.span, h.span]
  tw := by rw [k.tw, h.tw]
  port m := by
    obtain ⟨r, d, e⟩ := h.port m
    obtain ⟨r', d', e'⟩ := k.port m
    refine ⟨r ++ r', d', ?_⟩
    rw [e', e]
    simp only [List.append_assoc]

theorem Kept.forEach {α : Type} {b s : State} {f : State → α → State} {xs : List α} (h : Kept b s)
    (hf : ∀ a x, Kept a (f a x)) : Kept b (Machine.forEach xs s f) := by
  unfold Machine.forEach
  induction xs generalizing s with
  | nil => exact h
  | cons x xs ih => exact ih (h.trans (hf s x))

/-- An operation that touches none of these parts keeps them. -/
theorem Touch.kept {m : Nat} {s t : State} (h : Touch m s t) (hm : m &&& 0x50030000920 = 0) : Kept s t := by
  have b (i : Nat) (hi : Nat.testBit 0x50030000920 i = true) : m.testBit i = false := by
    have e : (m &&& 0x50030000920).testBit i = false := by rw [hm]; exact Nat.zero_testBit i
    rw [Nat.testBit_and, hi, Bool.and_true] at e
    exact e
  have ho := h.out (b 5 (by decide))
  have hc := h.cn (b 11 (by decide))
  have hi := h.ic (b 8 (by decide))
  have hs := h.sp (b 28 (by decide))
  have ht := h.tw (b 29 (by decide))
  exact {
    out := ⟨[], by rw [List.append_nil, ho]⟩
    cn := by rw [hc]
    bit := by
      intro off ho i x
      rw [h.reg off (by rcases ho with rfl | rfl <;> exact b _ (by decide))]
      exact x
    claim := by intro k; unfold State.inst; rw [hi]
    pend := by intro k x; unfold State.inst at *; rw [hi]; exact x
    span := by rw [hs]
    tw := by rw [ht]
    port := by
      intro m
      refine ⟨[], (s.spanPort m).disc, ?_⟩
      unfold State.spanPort
      rw [hs, List.append_nil] }

/-! ### The operations of settling -/

theorem State.emit_kept (s : State) (o : Output) : Kept s (s.emit o) := by
  unfold State.emit
  split
  · exact Kept.refl s
  · exact {
      out := List.prefix_append _ _
      cn := rfl
      bit := fun _ _ _ h => h
      claim := fun _ => rfl
      pend := fun _ h => h
      span := rfl
      tw := rfl
      port := fun m => ⟨[], (s.spanPort m).disc, by rw [List.append_nil]; rfl⟩ }

/-- Raising an event bit keeps the others. -/
theorem State.raise_kept (s : State) (f : Field) (hf : f.width = 1) (_ : f.lo < 32) : Kept s (s.raise f) where
  out := List.prefix_refl _
  cn := rfl
  bit := by
    intro off _ i h
    by_cases e : off = f.off
    · subst e
      rw [State.raise_eq, State.reg_put_same]
      have hi : i < 32 := by
        rcases Nat.lt_or_ge i 32 with c | c
        · exact c
        · rw [BitVec.getLsbD_of_ge _ _ c] at h
          cases h
      have := ins_testBit f (s.reg f.off) 1 i hi
      rw [BitVec.getLsbD, this]
      split
      · rename_i c
        rw [hf] at c
        have : i - f.lo = 0 := by omega
        rw [this]
        rfl
      · exact h
    · rw [State.raise_eq, State.reg_put_ne _ _ _ _ e]
      exact h
  claim _ := rfl
  pend _ h := h
  span := rfl
  tw := rfl
  port m := ⟨[], (s.spanPort m).disc, by rw [List.append_nil]; rfl⟩

theorem State.inst_setInst (s : State) (k j : Nat) (i : IcInst) : (s.setInst k i).inst j = if j = k then i else s.inst j := by
  unfold State.inst State.setInst
  by_cases e : j = k
  · rw [if_pos e, e]
    exact tget_tput_same _ _ _ _
  · rw [if_neg e]
    exact tget_tput_ne _ _ _ _ _ e

theorem State.setInst_kept (s : State) (k : Nat) (i : IcInst) (hc : i.claim = (s.inst k).claim)
    (hp : (s.inst k).phase = .pending → i.phase = .pending) : Kept s (s.setInst k i) where
  out := List.prefix_refl _
  cn := rfl
  bit _ _ _ h := h
  claim j := by
    rw [State.inst_setInst]
    split
    · rename_i e
      rw [e, hc]
    · rfl
  pend j h := by
    rw [State.inst_setInst]
    split
    · rename_i e
      rw [e] at h
      exact hp h
    · exact h
  span := rfl
  tw := rfl
  port m := ⟨[], (s.spanPort m).disc, by rw [List.append_nil]; rfl⟩

theorem State.icEvent_kept (s : State) (k : Nat) : Kept s (s.icEvent k) := by
  unfold State.icEvent
  split
  · split
    · rename_i e
      split
      · exact s.setInst_kept _ _ rfl (fun _ => rfl)
      · exact s.setInst_kept _ _ rfl (fun h => by rw [e] at h; cases h)
    · rename_i e
      split
      · exact s.setInst_kept _ _ rfl (fun _ => rfl)
      · exact s.setInst_kept _ _ rfl (fun h => by rw [e] at h; cases h)
    · exact Kept.refl s
  · exact Kept.refl s

theorem getD_listSet {α : Type} (d v : α) : ∀ (xs : List α) (i j : Nat),
    (listSet xs i v).getD j d = if j = i ∧ i < xs.length then v else xs.getD j d
  | [], i, j => by simp [listSet]
  | x :: xs, 0, 0 => by simp [listSet]
  | x :: xs, 0, j + 1 => by simp [listSet]
  | x :: xs, i + 1, 0 => by simp [listSet]
  | x :: xs, i + 1, j + 1 => by
    have := getD_listSet d v xs i j
    simp only [listSet, List.getD_cons_succ, this, List.length_cons]
    congr 1
    simp only [eq_iff_iff]
    omega

theorem State.spanPort_setSpanPort (s : State) (m k : Nat) (p : SpanPort) :
    (s.setSpanPort m p).spanPort k = if k = m ∧ m < s.sp.ports.length then p else s.spanPort k := getD_listSet _ _ _ _ _

theorem State.setSpanPort_kept (s : State) (m : Nat) (r : List SpanPkt) (d : List DiscRec) :
    Kept s (s.setSpanPort m { s.spanPort m with ready := (s.spanPort m).ready ++ r, disc := d }) where
  out := List.prefix_refl _
  cn := rfl
  bit _ _ _ h := h
  claim _ := rfl
  pend _ h := h
  span := rfl
  tw := rfl
  port k := by
    rw [State.spanPort_setSpanPort]
    split
    · rename_i e
      exact ⟨r, d, by rw [e.1]⟩
    · exact ⟨[], (s.spanPort k).disc, by rw [List.append_nil]⟩

theorem State.spanTick_kept (s : State) : Kept s s.spanTick where
  out := List.prefix_refl _
  cn := rfl
  bit _ _ _ h := h
  claim _ := rfl
  pend _ h := h
  span := rfl
  tw := rfl
  port m := ⟨[], (s.spanPort m).disc, by rw [List.append_nil]; rfl⟩

theorem State.spanReady_kept (s : State) (m : Nat) (p : SpanPkt) : Kept s (s.spanReady m p) :=
  s.spanTick_kept.trans (s.spanTick.setSpanPort_kept m [{ p with stamp := s.sp.seq }] (s.spanPort m).disc)

theorem State.toMirror_kept (s : State) (pl : List Byte) : Kept s (s.toMirror pl) where
  out := List.prefix_refl _
  cn := rfl
  bit _ _ _ h := h
  claim _ := rfl
  pend _ h := h
  span := rfl
  tw := rfl
  port m := ⟨[], (s.spanPort m).disc, by rw [List.append_nil]; rfl⟩

theorem State.discSend_kept (s : State) (m : Nat) (r : DiscRec) : Kept s (s.discSend m r) := by
  have h := s.setSpanPort_kept m [] ((s.spanPort m).disc.filter (·.serial != r.serial) ++ [r])
  rw [List.append_nil] at h
  exact h

theorem State.storeRec_kept (s : State) (r : DiscRec) : Kept s (s.storeRec r) where
  out := List.prefix_refl _
  cn := rfl
  bit _ _ _ h := h
  claim _ := rfl
  pend _ h := h
  span := rfl
  tw := rfl
  port m := ⟨[], (s.spanPort m).disc, by rw [List.append_nil]; rfl⟩

theorem State.discFlood_kept (s : State) : Kept s s.discFlood := by
  have h0 : Kept s { s with sp := { s.sp with version := (s.sp.version + 1) % 2 ^ 16 } } := {
    out := List.prefix_refl _
    cn := rfl
    bit := fun _ _ _ h => h
    claim := fun _ => rfl
    pend := fun _ h => h
    span := rfl
    tw := rfl
    port := fun m => ⟨[], (s.spanPort m).disc, by rw [List.append_nil]; rfl⟩ }
  have h (a : State) (r : DiscRec) (ms : List Nat) (k : Kept s a) :
      Kept s ((forEach ms (a.storeRec r) fun b m => b.discSend m r).put F.spFabStatus_discovering 1) :=
    (Kept.forEach (k.trans (a.storeRec_kept r)) fun b m => b.discSend_kept m r).trans
      ((State.put_touch _ _ _).kept (by decide))
  exact h _ _ _ h0

theorem State.draw_kept (s : State) (n : Nat) : Kept s (s.draw n).2 := (s.draw_touch n).kept (by decide)

theorem State.drawBytes_kept (n : Nat) : ∀ s : State, Kept s (s.drawBytes n).2 := by
  induction n with
  | zero => exact fun s => Kept.refl s
  | succ n ih => exact fun s => (s.draw_kept 8).trans (ih _)

theorem State.mirrorItem_kept (s : State) (typ n addr pipe index : Nat) (body : List Byte) :
    Kept s (s.mirrorItem typ n addr pipe index body) :=
  Kept.forEach (Kept.refl s) fun a _ => a.toMirror_kept _

theorem State.mirrorCtx_kept (s b : State) (c : Nat) : Kept s (s.mirrorCtx b c) :=
  ((s.drawBytes_kept 8).trans (State.drawBytes_kept 36 _)).trans (State.mirrorItem_kept _ _ _ _ _ _ _)

theorem State.mirrorChanges_kept (s0 s : State) : Kept s (State.mirrorChanges s0 s) := by
  unfold State.mirrorChanges
  split
  · exact Kept.refl s
  · refine Kept.forEach ?_ fun a i => a.mirrorItem_kept _ _ _ _ _ _
    refine Kept.forEach ?_ fun a c => a.mirrorCtx_kept _ _
    exact Kept.forEach (Kept.refl s) fun a n => Kept.forEach (Kept.refl a) fun b x => b.mirrorItem_kept _ _ _ _ _ _

theorem settleFabric_kept (s0 s : State) : Kept s (settleFabric s0 s) := by
  unfold settleFabric
  dsimp only
  split
  · exact State.mirrorChanges_kept s0 s
  · exact s.discFlood_kept.trans (State.mirrorChanges_kept s0 _)

theorem State.msi_kept (s : State) (v : Nat) : Kept s (s.msi v) := by
  unfold State.msi
  split
  · exact (State.setReg_touch _ _ _).kept (by decide)
  · exact Kept.trans ((State.setReg_touch _ _ _).kept (by decide)) (State.emit_kept _ _)

/-- A change of the Conservator's notes of settling alone keeps everything. -/
theorem Kept.ofNotes (s : State) (o : Bool) (r : List Nat) (w : Bool) :
    Kept s { s with cn := { s.cn with overLimit := o, rose := r, awoke := w } } where
  out := List.prefix_refl _
  cn := rfl
  bit _ _ _ h := h
  claim _ := rfl
  pend _ h := h
  span := rfl
  tw := rfl
  port m := ⟨[], (s.spanPort m).disc, by rw [List.append_nil]; rfl⟩

theorem State.msixFlush_kept (s : State) : Kept s s.msixFlush :=
  Kept.forEach (Kept.refl s) fun a v => by
    split
    · exact a.msi_kept v
    · exact Kept.refl a

theorem settleMsi_kept (s0 s : State) : Kept s (settleMsi s0 s) := by
  have h : Kept s (if s.cn.awoke then { s with cn := { s.cn with awoke := false } } else s) := by
    split
    · exact Kept.ofNotes s _ _ _
    · exact Kept.refl s
  have h1 : Kept s (forEach (List.range 16) (if s.cn.awoke then { s with cn := { s.cn with awoke := false } } else s) fun a g =>
      if s.msiReady g && s.reqLine g && (s.cn.awoke || !(s0.msiReady g && s0.reqLine g)) then a.msi g else a) :=
    Kept.forEach h fun a g => by
      split
      · exact a.msi_kept g
      · exact Kept.refl a
  unfold settleMsi
  dsimp only
  split
  · exact (h1.trans (State.msi_kept _ 16)).trans (State.msixFlush_kept _)
  · exact h1.trans (State.msixFlush_kept _)

theorem settleTx_kept (s0 s : State) : Kept s (settleTx s0 s) := by
  refine Kept.forEach (Kept.forEach (Kept.refl s) fun a n => ?_) fun a m => ?_
  · have h : Kept a (if s.gpTx n = s0.gpTx n then a else a.emit (.gliysLine n (s.gpTx n))) := by
      split
      · exact Kept.refl a
      · exact a.emit_kept _
    dsimp only
    split
    · split
      · exact h
      · exact h.trans (State.emit_kept _ _)
    · exact h
  · split
    · exact Kept.refl a
    · exact a.emit_kept _

theorem settleRanged_kept (s0 s : State) : Kept s (settleRanged s0 s) := by
  unfold settleRanged
  split
  · exact s.raise_kept _ rfl (by decide)
  · exact Kept.refl s

theorem settleBudget_kept (s : State) : Kept s (settleBudget s) := by
  unfold settleBudget
  dsimp only
  split
  · exact Kept.refl s
  · have h (o : Bool) : Kept s { s with cn := { s.cn with overLimit := o } } := Kept.ofNotes s o _ _
    split
    · exact (h _).trans (State.raise_kept _ _ rfl (by decide))
    · exact h _

theorem State.takePulse_kept (s : State) : Kept s s.takePulse := by
  unfold State.takePulse
  dsimp only
  split
  · have h (rg : Rg) : Kept s { s with rg := rg } :=
      ⟨List.prefix_refl _, rfl, fun _ _ _ h => h, fun _ => rfl, fun _ h => h, rfl, rfl,
        fun m => ⟨[], (s.spanPort m).disc, by rw [List.append_nil]; rfl⟩⟩
    split
    · exact h _
    · exact (h _).trans (State.emit_kept _ _)
  · exact Kept.refl s

theorem State.latch_kept (s : State) (code t origin : Nat) (evt : List (Nat × Bool)) : Kept s (s.latch code t origin evt) := by
  unfold State.latch
  dsimp only
  refine Kept.trans (Kept.trans ?_ (State.takePulse_kept _)) ((State.vitRelease_touch _).kept (by decide))
  have h (rg : Rg) : Kept s { s with rg := rg } :=
    ⟨List.prefix_refl _, rfl, fun _ _ _ h => h, fun _ => rfl, fun _ h => h, rfl, rfl,
      fun m => ⟨[], (s.spanPort m).disc, by rw [List.append_nil]; rfl⟩⟩
  refine Kept.trans ?_ ((State.raise_touch _ _).kept (by decide))
  refine Kept.trans ?_ ((State.put_touch _ _ _).kept (by decide))
  refine Kept.trans ?_ ((State.put_touch _ _ _).kept (by decide))
  refine Kept.trans ?_ ((State.put_touch _ _ _).kept (by decide))
  refine Kept.trans ?_ ((State.setReg_touch _ _ _).kept (by decide))
  exact (h _).trans ((State.setReg_touch _ _ _).kept (by decide))

theorem State.takeEvent_kept (s : State) (evt : List (Nat × Bool)) : Kept s (s.takeEvent evt) := by
  unfold State.takeEvent
  split
  · exact Kept.refl s
  · rename_i e
    have hg : s.gated = false := by
      cases h : s.gated with
      | false => rfl
      | true => rw [h, Bool.or_true] at e; exact absurd rfl e
    have ha : s.asleep = false := (Bool.or_eq_false_iff.mp hg).1
    unfold State.takeLocal
    rw [if_neg (by rw [ha]; decide), if_neg (by rw [hg]; decide)]
    split
    · exact (State.joinLatch_touch _ _ _).kept (by decide)
    · split
      · exact (State.takeMissed_touch _ _).kept (by decide)
      · exact s.latch_kept _ _ _ _

theorem State.sharedEvent_kept (s : State) (n : Nat) : Kept s (s.sharedEvent n) := (s.icEvent_kept _).trans (State.takeEvent_kept _ _)

theorem settleLines_kept (n : Nat) : ∀ s0 s : State, Kept s (settleLines n s0 s) := by
  induction n with
  | zero => exact fun _ s => Kept.refl s
  | succ n ih =>
    intro s0 s
    unfold settleLines
    dsimp only
    split
    · exact Kept.refl s
    · exact (Kept.forEach (Kept.refl s) fun a k => a.sharedEvent_kept k).trans (ih _ _)

theorem settleRose_kept (s0 s : State) : Kept s (settleRose s0 s) := by
  unfold settleRose
  dsimp only
  split
  · split
    · exact Kept.refl s
    · exact Kept.ofNotes s _ _ _
  · split
    · exact Kept.refl s
    · exact Kept.forEach (Kept.ofNotes s _ _ _) fun a k => a.sharedEvent_kept k

/-- What settling keeps. -/
theorem settle_kept (s0 s : State) : Kept s (settle s0 s) :=
  ((((settleBudget_kept s).trans (settleRanged_kept s0 _)).trans (settleRose_kept s0 _)).trans (settleLines_kept 4 s0 _)).trans
    (((settleTx_kept s0 _).trans (settleMsi_kept s0 _)).trans (settleFabric_kept s0 _))

/-- What was sent before settling stays sent. -/
theorem settle_mem_out {s0 s : State} {x : Output} (h : x ∈ s.out) : x ∈ (settle s0 s).out := (settle_kept s0 s).out.subset h

/-- A flag of CN_EVENTS or CH_EVENTS that stands before settling stands after it. -/
theorem settle_event {s0 s : State} {f : Field} (ho : f.off = R.cnEvents ∨ f.off = R.chEvents) (hw : f.width = 1) (_ : f.lo < 32)
    (h : s.flag f = true) : (settle s0 s).flag f = true := by
  have one (w : Word) : (f.of w != 0) = w.getLsbD f.lo := by
    unfold Field.of
    rw [hw, BitVec.getLsbD, Nat.testBit, Nat.shiftRight_eq_div_pow]
    have := Nat.mod_two_eq_zero_or_one (w.toNat / 2 ^ f.lo)
    simp only [Nat.pow_one, Nat.one_and_eq_mod_two]
  unfold State.flag State.get at *
  rw [one] at *
  exact (settle_kept s0 s).bit _ ho _ h

end Sys2Proof.Machine
end

