-- ==== Sys2Proof/Tests/Slice0.lean ====
section
/-! SUPPORT. Tests: what WellFormed refuses, the check values and examples of the manual, single steps on small states, and for every statement of
Certificates/Slice0/Obligations.lean a state and operands that meet the hypotheses of each of its clauses together. -/

set_option Elab.async false
set_option linter.unusedVariables false

namespace Sys2Proof.Machine

/-! ### Ill-formed commands, one for each check -/

theorem test_wf_flip_word : (Instr.frameBoundary [{ off := 4, two := false }]).wf = false := by decide
theorem test_wf_flip_sram : (Instr.scrubPassDone [{ off := 0x400000, two := false }]).wf = false := by decide
theorem test_wf_flip_good : (Instr.scrubPassDone [{ off := 0x3FFFF8, two := true }]).wf = true := by decide
theorem test_wf_irig_format : (Instr.irigbFrame { edge := 0, fmt := 8, utc := 0, second60 := false, leapSoon := false, leapMinus := false, tq := 0, valid := true }).wf = false := by decide
theorem test_wf_tod_order : (Instr.todSentence [] 5 4).wf = false := by decide
theorem test_wf_host_read_size : (Instr.flushReadDone 0 (.data (List.replicate 4097 0))).wf = false := by decide +kernel
theorem test_wf_bar2_end : (Instr.bar2Write none 0x3FFFFF [1, 2]).wf = false := by decide
theorem test_wf_bar2_read_empty : (Instr.bar2Read none 0 0 none).wf = false := by decide
theorem test_wf_bar0_end : (Instr.bar0Read none 0xFFFFE 4 none).wf = false := by decide
theorem test_wf_bar0_write_empty : (Instr.registerWrite none 0 []).wf = false := by decide
theorem test_wf_payload_size : (Instr.pcieConfigWrite (.maxPayload 100)).wf = false := by decide
theorem test_wf_read_size : (Instr.pcieConfigWrite (.maxRead 64)).wf = false := by decide
theorem test_wf_timeout_range : (Instr.pcieConfigWrite (.timeoutRange 16)).wf = false := by decide
theorem test_wf_extest_cells : (Instr.extest [] (List.replicate scanBalls.length true)).wf = false := by decide +kernel
theorem test_wf_preload_cells : (Instr.samplePreload (List.replicate scanBalls.length true) []).wf = false := by decide +kernel
theorem test_wf_bad_ecrc_size : (Instr.flushReadDone 0 (.badEcrc (List.replicate 4097 0))).wf = false := by decide +kernel
theorem test_wf_bypass_code : (Instr.bypass 0x21 []).wf = false := by decide
theorem test_wf_disc_id : (Instr.discRecord 0 { serial := 1, id := 63, src := 1, quality := 0, partners := [none, none, none, none], version := 1 }).wf = false := by decide
theorem test_wf_disc_partner_port : (Instr.discRecord 0 { serial := 1, id := 3, src := 1, quality := 0, partners := [some (7, 4), none, none, none], version := 1 }).wf = false := by decide

/-! ### Check values and worked examples of the manual -/

/-- R77: the check value over "123456789". -/
theorem test_crc16_check_value : crc16 [49, 50, 51, 52, 53, 54, 55, 56, 57] = 0x29B1 := by decide +kernel
/-- R78: the check value over "123456789". -/
theorem test_crc32c_check_value : crc32c [49, 50, 51, 52, 53, 54, 55, 56, 57] = 0xE3069283 := by decide +kernel
/-- FIPS 180-4: the digest of "abc". -/
theorem test_sha256_abc : sha256 [97, 98, 99] = 0xba7816bf8f01cfea414140de5dae2223b00361a396177a9cb410ff61f20015ad := by decide +kernel
/-- R75 and the text after it: a 64-byte sample. -/
theorem test_unarmoured_sample_lasts_328 : packetNs false 64 = 328 := by decide
theorem test_armoured_sample_lasts_392 : packetNs true 64 = 392 := by decide
/-- The worked example of the armour. -/
theorem test_armour_example : armourShape 1024 = (5, 206) ∧ packetNs true 1024 = 4496 ∧ packetNs false 1024 = 4168 := by decide
/-- The example sentence of R41. -/
theorem test_tod_example : parseTod [36, 75, 81, 84, 79, 68, 44, 49, 55, 56, 49, 48, 48, 48, 48, 48, 51, 44, 51, 55, 44, 50, 53, 44, 76, 42, 48, 54, 13, 10] = some (1781000003, 37) := by decide +kernel
theorem test_tod_bad_checksum : parseTod [36, 75, 81, 84, 79, 68, 44, 49, 55, 56, 49, 48, 48, 48, 48, 48, 51, 44, 51, 55, 44, 50, 53, 44, 76, 42, 48, 55, 13, 10] = none := by decide +kernel
/-- R53 with the examples after R54. -/
theorem test_err_exp_examples : errExp 13000 = 4 ∧ errExp 23000 = 5 ∧ errExp 605000 = 10 ∧ errExp 16385000 = 15 := by decide +kernel
/-- The frames 2,003 and 2,004 of a second in the example of the feeder bay (R55). -/
theorem test_frame_lengths : boundaryIn 14400 2005 - boundaryIn 14400 2004 = 69445 ∧ boundaryIn 14400 2004 - boundaryIn 14400 2003 = 69444 := by decide +kernel
theorem test_next_boundary_is_later : nextBoundary 14400 (boundaryIn 14400 2004) = boundaryIn 14400 2005 ∧ nextBoundary 14400 (secNs - 1) = secNs := by decide +kernel
/-- R10 at the wrap and at the half. -/
theorem test_newer_wraps : newer 0 0xFFFFFFFF = true ∧ newer 0xFFFFFFFF 0 = false ∧ newer 5 5 = false ∧ newer 0x80000000 0 = false := by decide
/-- R478: bit 0 of IDCODE, whatever the manufacturer code. -/
theorem test_idcode_bit_0 : State.reset.idcode % 2 = 1 := by
  unfold State.idcode
  omega
theorem test_no_word_is_a_command : decodeTableWord 32 0x12345678 = none := rfl

/-! ### Small states -/


/-- A device after its startup, in phase 5: no supply change, no loader job, nothing sent. -/
def w0 : State := { State.reset with cn := {}, ch := {}, out := [] }.put F.chStatus_phase 5
/-- The same with a host attached. -/
def wHost : State := w0.put (F.gaStatus_hosted 0) 1
/-- Root port 0 in a link state, with its engine as given. -/
def wPort (st : Nat) (g : Gp) : State := (wHost.put (F.gpLinkStatus_state 0) st).modPort 0 fun _ => g
/-- A Ranged device 1 on root port 0. -/
def wDev (s : State) (st : Nat) : State := (s.put (F.gpDevState_state 0 1) st).put (F.gpRangeDev0_valid 0 1) 1
/-- Context 3 bound to pipe 2 of device 1 of root port 0: kind, mode. -/
def wCtx (s : State) (kind : Nat) (x : Px) : State :=
  (((((s.put (F.pxBind_kind 3) kind).put (F.pxBind_addr 3) 1).put (F.pxBind_pipe 3) 2).put (F.pxBind_max_len 3) 64).put (F.pxRegion_size 3) 8).modCtx 3 fun _ => x
/-- A late acknowledgement from pipe 2 of device 1 with tag 9. -/
def wAck : Hdr := { typ := 3, dir := 1, arm := 0, tsa := 0, addr := 1, pipe := 2, tag := 9, tsb := 1, len := 0, tsc := 1 }
/-- The Registrar with one record to write. -/
def wRec : State := { wHost with rg := { latched := true, time := 0x1122334455667788, todo := [{ trig := 3, words := [5, 6], event := false, notOk := false }] } }
/-- Gallery 0 Open with bus mastering on and its ring 0 Running: 16 entries at 0x10000, the status word at 0x9000. -/
def wRing : State :=
  { ((((wHost.put (F.gaStatus_state 0) 1).put (F.gaRingCtrl_log2_size 0 0) 4).setReg (R.gaRingBaseLo 0 0) 0x10000).setReg (R.gaRingStatLo 0 0) 0x9000).put
      (F.gaRingState_state 0 0) 1 with
    pci := { busMaster := true } }
/-- A work entry: its first bytes and zeros. -/
def wEnt (b : List Byte) : List Byte := fit 32 b
/-- The same device with one work entry fetched from ring 0. -/
def wWork (x : Work) : State := { wRing with work := [x] }
/-- Context 3 Enabled on a Ranged device of an Active port, and one entry of gallery 0's ring 0. -/
def wXfer (kind : Nat) (ent : List Byte) : State :=
  { wCtx (wDev (wPort 3 {}) 4) kind { mode := 2 } with pci := { busMaster := true }, work := [{ g := 0, r := 0, i := 0, ent := ent }] }
/-- Channel 2 of the movers in a state, owned by the manager, with its descriptor address 0x100. -/
def wMv (st : Nat) (m : Mv) : State :=
  (((wHost.put (F.mvChCtrl_owner 2) 1).put (F.mvChState_state 2) st).put (F.mvChState_desc 2) 0x100).modChan 2 fun _ => m
/-- Span port 1 with one packet in its inbox; this chip is 5, and chip 7 has a route through port 1. -/
def wSpan (x : SpanPkt) : State :=
  let s := ((wHost.put F.spChipId_chip_id 5).put (F.spPStatus_state 1) 3).setSpanPort 1 { inbox := [x] }
  (s.put (F.spRoute_valid 7) 1).put (F.spRoute_port 7) 1
/-- A remote bulk-in of chip 7 with tag 0 in flight. -/
def wRem (x : Rem) (w : Work) : State := { (wSpan { typ := 0, vc := 0, dst := 0, src := 0 }) with work := [w], co := { rems := [x] } }
/-- Span port 1 in a state, with its engine as given; this chip is 5. -/
def wSpanPort (st : Nat) (p : SpanPort) : State := ((wHost.put F.spChipId_chip_id 5).put (F.spPStatus_state 1) st).setSpanPort 1 p
/-- A good Span packet of no payload as its code groups. -/
def wSpanRx (p : SpanPkt) (seq : Nat) : SpanRx := { t := 0, rd := false, groups := wireOf symSop (p.bytes seq) true }
/-- A twin that runs with shared ports 0 and 1: its registers and engine. -/
def wTwin (own : Nat) (x : Tw) : State :=
  { (((wHost.put F.twCtrl_enable 1).put F.twCfg_shared 3).put F.twStatus_own own) with tw := x }
/-- An image of no sections, sequence number 3, signed with the test key of the witnesses (computed outside by FIPS 186-4). -/
def wImg : List Byte :=
  leBytes 4 0x4843514B ++ leBytes 2 1 ++ leBytes 2 64 ++ leBytes 4 192 ++ leBytes 4 3 ++ leBytes 2 0x4880 ++ leBytes 46 0 ++
    beBytes 128 (1755008131272302468747194857403972637220583187386258041549956802572549629695469777988074965585785311 * 10 ^ 209 + (3253635780873529633426115210333287486172566258182594107745011561446273781119557959626474001389351454 * 10 ^ 109 + 3283359772229875015438060038566413368301432433305710518183844948649853636560253037646135375806629698679058084))

/-! ### Single steps -/

/-- The state that a command answers. -/
def after (c : Instr) (s : State) : State :=
  match exec c s with
  | .next t => t
  | _ => s

/-- R5: ID_PART of both parts, little-endian (R8). -/
theorem test_read_part : Output.readData [0x80, 0x48, 0, 0] false ∈ (after (.bar0Read none R.idPart 4 none) wHost).out ∧
    Output.readData [0x40, 0x48, 0, 0] false ∈ (after (.bar0Read none R.idPart 4 none) { wHost with part := .vx4840 }).out := by decide +kernel
/-- R14, R16: a read that no register serves. -/
theorem test_read_nothing : Output.readData [0, 0, 0, 0] false ∈ (after (.bar0Read none 0x90000 4 none) wHost).out := by decide +kernel
/-- R56: the frame number wraps. -/
theorem test_frame_wraps : (after (.frameBoundary []) (wHost.put F.tkFrameNum_frame 0xFFFFFFFF)).frame = 0 := by decide +kernel
/-- R356: the head of the chain has ID 0; without a chain the ID is 62. -/
theorem test_cold_reset_chip : (after (.coldReset true true false) wHost).chip = 0 ∧ (after (.coldReset true false false) wHost).chip = 62 := by
  decide +kernel
/-- R419: RESET_N keeps the wake-fault record, power-up does not. -/
theorem test_wake_fault_kept : (after (.coldReset false false false) (wHost.setReg R.cnWakeFault 7)).reg R.cnWakeFault = 7 ∧
    (after (.coldReset true false false) (wHost.setReg R.cnWakeFault 7)).reg R.cnWakeFault = 0 := by decide +kernel
/-- R480: key_lock needs a hash. -/
theorem test_lock_without_hash : (after (.fuseBurn true) { wHost with jtag := { fuse := 2 ^ 256 } }).fuses.keyLock = false := by decide +kernel
/-- R480: a burnt hash is not burnt again. -/
theorem test_hash_kept : (after (.fuseBurn true) { wHost with jtag := { fuse := 7 }, fuses := { keyHash := 5 } }).fuses.keyHash = 5 := by
  decide +kernel
/-- R404: the two keys in order unlock, the second alone does not. -/
theorem test_unlock : (after (.fiUnlock none 0x6E4A) (after (.fiUnlock none 0x4B51) wHost)).flag F.fiStatus_unlocked = true ∧
    (after (.fiUnlock none 0x6E4A) wHost).flag F.fiStatus_unlocked = false := by decide +kernel
/-- R409: target codes above 3 are not states. -/
theorem test_target_reserved : (after (.powerTarget none 5) wHost).cn.move = .idle := by decide +kernel
/-- R320: a doorbell of gallery 2 set by the manager. -/
theorem test_doorbell : (after (.gaDbIn 2 none 0x10005) wHost).get (F.gaDbIn_bell 2) = 5 := by decide +kernel
/-- R57: rates out of range are ignored. -/
theorem test_rate_range : (after (.frameRateRequest none 1999) wHost).flag F.tkStatus_rate_pending = false ∧
    (after (.frameRateRequest none 2000) wHost).flag F.tkStatus_rate_pending = true := by decide +kernel
/-- R93: the worked ranging of the card at address 11: D is 1,486 from L_rt 2,972. -/
theorem test_worked_ranging : roundDiv (8660 - 1921 - 1763 - 2004) 2 = 1486 := by decide
/-- R1 of the queue: the command in front runs and leaves the rest. -/
theorem test_step_takes_front : (match step { wHost with pending := [.tapReset, .highz []] } with
    | .next t => decide (t.pending = [.highz []])
    | _ => false) = true := by decide +kernel

/-! ### Witnesses of the hypotheses: wit_<statement>_<clause> -/

theorem wit_IdleStep_1 : (∃ s : State, s.pending = [] ∧ s.off = true) ∧ (∃ s : State, s.pending = [] ∧ s.off = false ∧ s.tk.frac < 2 ^ 32) :=
  ⟨⟨{ wHost with off := true }, by decide +kernel⟩, wHost, by decide +kernel⟩

theorem wit_MemoryStaysCanonical_1 : ∃ s t : State, s.memOk = true ∧ step s = .next t :=
  ⟨State.reset, _, by decide +kernel, rfl⟩

theorem wit_UnitNumbersKept_1 : ∃ s t : State, s.sizesOk = true ∧ step s = .next t :=
  ⟨State.reset, _, by decide +kernel, rfl⟩

theorem wit_FusesArePermanent_1 : ∃ s t : State, step s = .next t ∧ s.fuses.keyLock = true ∧ s.fuses.keyHash ≠ 0 :=
  ⟨{ wHost with fuses := { keyHash := 5, keyLock := true } }, _, rfl, by decide +kernel, by decide +kernel⟩

theorem wit_OffIgnoresCommands_1 : ∃ s : State, s.off = true ∧ exec (.wakeSource .host) s = .next s :=
  ⟨{ wHost with off := true }, by decide +kernel, rfl⟩

theorem wit_CommandFrames_1 : ∃ (c : Instr) (s t : State) (k : Kind), exec c s = .next t ∧ k ∉ mayChange c :=
  ⟨.tapReset, wHost, _, .sram, rfl, by decide +kernel⟩

theorem wit_ManagerFrames_1 : ∃ (c : Instr) (s t : State) (q : Req) (l : List Kind) (k : Kind), managerMayChange c = some (q, l) ∧ s.Manages q ∧ exec c s = .next t ∧ k ∉ l :=
  ⟨.fiClear none 1, wHost, _, none, [.faults], .sram, rfl, by decide +kernel, rfl, by decide +kernel⟩

theorem wit_NewerFrames_1 : (∃ a b : Nat, a < 2 ^ 32 ∧ b < 2 ^ 32 ∧ newer a b = true) ∧ (∃ s : State, s.off = false ∧ s.sp.renum = none ∧ s.frame = 0xFFFFFFFF) :=
  ⟨⟨0, 0xFFFFFFFF, by decide +kernel⟩, wHost.put F.tkFrameNum_frame 0xFFFFFFFF, by decide +kernel⟩

theorem wit_AbsentRegisters_1 : ∃ (s : State) (q : Req) (off : Nat),
    s.Manages q ∧ s.part = .vx4840 ∧ off % 4 = 0 ∧
    ((0x30000 ≤ off ∧ off < 0x40000) ∨ (0xC180 ≤ off ∧ off < 0xC200) ∨ (0xD000 ≤ off ∧ off < 0xE000)) :=
  ⟨{ wHost with part := .vx4840 }, none, 0xD000, by decide +kernel⟩

theorem wit_AbsentRegisters_2 : ∃ (s : State) (q : Req) (off : Nat) (d : List Byte), s.Manages q ∧ s.part = .vx4840 ∧ off % 4 = 0 ∧ d.length = 4 ∧ 0xD000 ≤ off ∧ off < 0xE000 :=
  ⟨{ wHost with part := .vx4840 }, none, 0xD000, [1, 0, 0, 0], by decide +kernel⟩

theorem wit_AbsentRegisters_3 : ∃ (s : State) (q : Req) (c : Fin 2048) (d : List Byte),
    s.Manages q ∧ s.part = .vx4840 ∧ d.length = 4 ∧ (s.pxState c = 0 ∨ s.pxState c = 1) ∧
    4 ≤ (F.pxBind_port c).of (BitVec.ofNat 32 (leVal d)) :=
  ⟨{ wHost with part := .vx4840 }, none, 3, leBytes 4 0xA0000241, by decide +kernel⟩

theorem wit_AbsentRegisters_4 : ∃ (s : State) (q : Req) (c : Fin 62) (d : List Byte),
    s.Manages q ∧ s.part = .vx4840 ∧ d.length = 4 ∧ 2 ≤ (F.spRoute_port c).of (BitVec.ofNat 32 (leVal d)) :=
  ⟨{ wHost with part := .vx4840 }, none, 7, leBytes 4 0xC0000003, by decide +kernel⟩

theorem wit_DisabledSources_1 : ∃ (s : State) (k : Nat), s.icEnabled k = false :=
  ⟨wHost, 8, by decide +kernel⟩

theorem wit_DisabledSources_2 : ∃ (s : State) (g : Fin 16) (k : Fin 2) (q : Req) (w : Word) (b : Fin 32),
    s.Manages q ∧ w.getLsbD b = false ∧ privExists g (32 * k + b) = true ∧ s.icEnabled (privKey g (32 * k + b)) = true :=
  ⟨((wHost.setReg (R.icEnableLo 0) 0xFFFFFFFF).setReg (R.icSrccfg 0 8) 5).setInst 8 { phase := .pending, claim := some (0, 5) }, 0, 0, none, 0, 8, by decide +kernel⟩

theorem wit_DisabledSources_3 : ∃ (s : State) (k : Fin 6) (q : Req) (w : Word) (b : Fin 32),
    s.Manages q ∧ w.getLsbD b = false ∧ s.shExists (64 + 32 * k + b) = true ∧ s.icEnabled (shKey (64 + 32 * k + b)) = true :=
  ⟨(wHost.setReg (R.icShEn 2) 0xFFFFFFFF).setInst (shKey 131) { phase := .pending, claim := some (0, 5) }, 2, none, 0, 3, by decide +kernel⟩

theorem wit_DisabledSources_4 : ∃ (s : State) (g : Fin 16) (k : Fin 2) (p : BitVec 20) (w : Word) (b : Fin 32),
    s.Awake ∧ s.hosted = true ∧ g ≠ 0 ∧ s.pasidGal p = some g ∧ w.getLsbD b = false ∧ privExists g (32 * k + b) = true ∧
    s.icEnabled (privKey g (32 * k + b)) = true :=
  ⟨(((wHost.setReg (R.gaPasid 2) 0x80000123).setReg (R.icEnableLo 2) 0xFFFFFFFF).setInst (privKey 2 8) { phase := .pending, claim := some (2, 5) }), 2, 0, 0x123, 0, 8, by decide +kernel⟩

theorem wit_DisabledSources_5 : ∃ (s : State) (k : Nat), s.icEnabled k = false :=
  ⟨wHost, 8, by decide +kernel⟩

theorem wit_DisabledSources_6 : ∃ (s : State) (g : Fin 16) (q : Req) (w : Word) (k p : Nat),
    s.Manages q ∧ w.toNat % 2 ^ 16 < 256 ∧ k = (if w.toNat % 2 ^ 16 < 64 then privKey g (w.toNat % 2 ^ 16) else shKey (w.toNat % 2 ^ 16)) ∧
    s.icEnabled k = false ∧ (s.inst k).claim = some (g.val, p) :=
  ⟨wHost.setInst 8 { claim := some (0, 5) }, 0, none, 8, 8, 5, by decide +kernel⟩

theorem wit_DisabledSources_7 : ∃ (s : State) (k : Nat), s.icEnabled k = true ∧ s.srcExists k = true ∧ s.icPrio k = 0 ∧ (s.inst k).phase = .idle :=
  ⟨((wHost.setReg (R.icEnableLo 0) 0xFFFFFFFF).setReg (R.icSrccfg 0 8) 5).setReg (R.icSrccfg 0 8) 0, 8, by decide +kernel⟩

theorem wit_DisabledSources_8 : ∃ (s : State) (g k : Nat), s.icBest g = some k :=
  ⟨((wHost.setReg (R.icEnableLo 0) 0xFFFFFFFF).setReg (R.icSrccfg 0 8) 5).setInst 8 { phase := .pending }, 0, 8, by decide +kernel⟩

theorem wit_CopyChoice_1 : ∃ (s : State),
    s.off = false ∧ (s.ch.job = .startup ∨ s.ch.job = .load) ∧ s.ch.wait = .verify false :=
  ⟨{ State.reset with ch := { job := .startup, wait := .verify false, image := wImg } }, by decide +kernel⟩

theorem wit_CopyChoice_2 : ∃ (s : State) (a : List Byte),
    s.off = false ∧ (s.ch.job = .startup ∨ s.ch.job = .load) ∧ s.ch.wait = .verify true ∧ s.ch.copyA = some a ∧
    (s.imageCode s.ch.image).1 = 0 :=
  ⟨{ State.reset with ch := { job := .startup, wait := .verify true, image := wImg, copyA := some wImg } }, wImg, by decide +kernel⟩

theorem wit_CopyChoice_3 : ∃ (s : State),
    s.off = false ∧ (s.ch.job = .startup ∨ s.ch.job = .load) ∧ s.ch.wait = .verify true ∧ s.ch.copyA = none ∧ (s.imageCode s.ch.image).1 = 0 :=
  ⟨{ State.reset with ch := { job := .startup, wait := .verify true, image := wImg } }, by decide +kernel⟩

theorem wit_CopyChoice_4 : ∃ (s : State) (a : List Byte),
    s.off = false ∧ (s.ch.job = .startup ∨ s.ch.job = .load) ∧ s.ch.wait = .verify true ∧ s.ch.copyA = some a ∧
    (s.imageCode s.ch.image).1 ≠ 0 :=
  ⟨{ State.reset with ch := { job := .startup, wait := .verify true, copyA := some wImg } }, wImg, by decide +kernel⟩

theorem wit_CopyChoice_5 : ∃ (s : State),
    s.off = false ∧ (s.ch.job = .startup ∨ s.ch.job = .load) ∧ s.ch.wait = .verify true ∧ s.ch.copyA = none ∧ (s.imageCode s.ch.image).1 ≠ 0 :=
  ⟨{ State.reset with ch := { job := .startup, wait := .verify true } }, by decide +kernel⟩

theorem wit_ClockReferenceChanges_1 : ∃ (s : State),
    s.off = false ∧ s.get F.tkStatus_clock_source = 0 :=
  ⟨{ wHost with tk := { cond := .locked } }, by decide +kernel⟩

theorem wit_ClockReferenceChanges_2 : ∃ (s : State),
    s.off = false :=
  ⟨wHost.put F.tkStatus_clock_source 2, by decide +kernel⟩

theorem wit_ClockReferenceChanges_3 : ∃ (s : State),
    s.off = false ∧ s.tk.cond = .holdover ∧ 0 < s.get F.tkHoldCfg_drift ∧ s.tk.holdBound * 1000 ≤ s.get F.tkHoldCfg_hold_limit * 1000 :=
  ⟨{ (wHost.put F.tkHoldCfg_drift 10).put F.tkHoldCfg_hold_limit 1000 with tk := { cond := .holdover } }, by decide +kernel⟩

theorem wit_PhaseEdgesAndLabels_1 : ∃ (s : State) (e : Nat) (rise : Bool),
    s.off = false ∧ s.sizesOk = true ∧ rise ≠ s.flag F.tkRefSel_pps_falling :=
  ⟨wHost.put F.tkPpsCal_pps_in_delay 30, 2000000000, true, by decide +kernel⟩

theorem wit_PhaseEdgesAndLabels_2 : ∃ (s : State) (e : Nat) (rise : Bool),
    s.off = false ∧ rise = s.flag F.tkRefSel_pps_falling :=
  ⟨wHost, 2000000000, false, by decide +kernel⟩

theorem wit_PhaseEdgesAndLabels_3 : ∃ (s : State) (f : IrigFrame),
    s.off = false ∧ s.sizesOk = true ∧ 4 ≤ f.fmt ∧ f.fmt ≤ 7 ∧ f.tq ≠ 0xF ∧ f.valid = true ∧ s.tk.leap = none ∧ s.srcAccepted 3 = false :=
  ⟨wHost.put F.tkTaiUtc_tai_utc 37, { edge := 5000, fmt := 4, utc := 86399, second60 := false, leapSoon := false, leapMinus := false, tq := 0, valid := true }, by decide +kernel⟩

theorem wit_PhaseEdgesAndLabels_4 : ∃ (s : State) (f : IrigFrame),
    s.off = false ∧ (f.fmt < 4 ∨ 7 < f.fmt ∨ f.tq = 0xF ∨ f.valid = false) ∧ s.tk.leap = none :=
  ⟨wHost, { edge := 5000, fmt := 3, utc := 86399, second60 := false, leapSoon := false, leapMinus := false, tq := 0, valid := true }, by decide +kernel⟩

theorem wit_PhaseEdgesAndLabels_5 : ∃ (s : State) (f : IrigFrame),
    s.off = false ∧ s.sizesOk = true ∧ 4 ≤ f.fmt ∧ f.fmt ≤ 7 ∧ f.tq ≠ 0xF ∧ f.valid = true ∧ s.irigUsed = true ∧ s.tk.leap = none ∧
    f.leapSoon = true ∧ f.second60 = false ∧ s.srcAccepted 3 = false :=
  ⟨(wHost.put F.tkTaiUtc_tai_utc 37).put F.tkRefSel_enable 15, { edge := 5000, fmt := 4, utc := 86390, second60 := false, leapSoon := true, leapMinus := false, tq := 0, valid := true }, by decide +kernel⟩

theorem wit_PhaseEdgesAndLabels_6 : ∃ (s : State) (f : IrigFrame) (day v : Nat),
    s.off = false ∧ s.sizesOk = true ∧ 4 ≤ f.fmt ∧ f.fmt ≤ 7 ∧ f.tq ≠ 0xF ∧ f.valid = true ∧ s.tk.leap = some (day, v) ∧ v < 256 ∧
    day ≤ f.utc ∧ f.second60 = false ∧ f.leapSoon = false ∧ s.srcAccepted 3 = false :=
  ⟨{ (wHost.put F.tkTaiUtc_tai_utc 37).put F.tkRefSel_enable 15 with tk := { leap := some (86400, 38) } }, { edge := 5000, fmt := 4, utc := 86400, second60 := false, leapSoon := false, leapMinus := false, tq := 0, valid := true }, 86400, 38, by decide +kernel⟩

theorem wit_PhaseEdgesAndLabels_7 : ∃ (s : State) (f : IrigFrame) (u p : Nat),
    s.off = false ∧ s.sizesOk = true ∧ 4 ≤ f.fmt ∧ f.fmt ≤ 7 ∧ f.tq ≠ 0xF ∧ f.valid = true ∧ s.tk.leap = none ∧ s.srcAccepted 3 = true ∧
    (s.src 3).edge = some u ∧ (s.src 3).label = some p ∧ (s.src 3).waiting = false ∧ (s.src 3).badLabel = 0 ∧ f.edge ≤ u + 1500000000 ∧
    p + 1 = f.utc + s.get F.tkTaiUtc_tai_utc ∧ (((p + 1) * 1000000000 : Nat) - f.edge : Int).natAbs ≤ s.get F.tkServoCfg_step_thresh :=
  ⟨{ ((wHost.put F.tkTaiUtc_tai_utc 37).put F.tkStatus_accepted 4).put F.tkServoCfg_step_thresh 9000 with tk := { srcs := [{}, {}, { edge := some 99000000000, label := some 99 }, {}] } }, { edge := 100000000500, fmt := 4, utc := 63, second60 := false, leapSoon := false, leapMinus := false, tq := 0, valid := true }, 99000000000, 99, by decide +kernel⟩

theorem wit_PhaseEdgesAndLabels_8 : ∃ (s : State) (b : List Byte) (t0 t1 sec utc e : Nat),
    s.off = false ∧ s.sizesOk = true ∧ parseTod b = some (sec, utc) ∧ (s.src 1).edge = some e ∧ (s.src 1).waiting = true ∧
    e + 1000000 ≤ t0 ∧ t1 ≤ e + 900000000 ∧ s.srcEnabled 1 = true ∧ s.srcAccepted 1 = false :=
  ⟨{ wHost.put F.tkRefSel_enable 15 with tk := { srcs := [{ edge := some 5000, waiting := true }, {}, {}, {}] } }, [36, 75, 81, 84, 79, 68, 44, 49, 48, 48, 48, 44, 51, 55, 44, 50, 53, 44, 76, 42, 48, 66, 13, 10], 2000000, 3000000, 1000, 37, 5000, by decide +kernel⟩

theorem wit_PhaseEdgesAndLabels_9 : ∃ (s : State) (b : List Byte) (t0 t1 : Nat),
    s.off = false ∧ parseTod b = none :=
  ⟨wHost, [0x24, 0x4B], 5, 9, by decide +kernel⟩

theorem wit_AcceptanceAndLock_1 : ∃ (s : State) (e : Nat) (rise : Bool) (d u p : Nat),
    s.off = false ∧ s.sizesOk = true ∧ rise ≠ s.flag F.tkRefSel_pps_falling ∧
    d = ((e : Int) - signed 16 (s.get F.tkPpsCal_pps_in_delay)).toNat ∧ (s.src 1).waiting = false ∧ (s.src 1).edge = some u ∧
    d ≤ u + 1500000000 ∧ (s.src 1).interval = some p ∧ (((d - u : Nat) : Int) - 1000000000).natAbs ≤ 200000 ∧
    (((d - u : Nat) : Int) - p).natAbs ≤ 1000 :=
  ⟨{ (wHost.put F.tkRefSel_enable 15) with tk := { srcs := [{ edge := some 5000, interval := some 1000000900, good := 2 }, {}, {}, {}] } }, 1000005500, true, 1000005500, 5000, 1000000900, by decide +kernel⟩

theorem wit_AcceptanceAndLock_2 : ∃ (s : State) (e : Nat) (rise : Bool) (d u p : Nat),
    s.off = false ∧ s.sizesOk = true ∧ rise ≠ s.flag F.tkRefSel_pps_falling ∧
    d = ((e : Int) - signed 16 (s.get F.tkPpsCal_pps_in_delay)).toNat ∧ (s.src 1).waiting = false ∧ (s.src 1).edge = some u ∧
    d ≤ u + 1500000000 ∧ (s.src 1).interval = some p ∧
    (200000 < (((d - u : Nat) : Int) - 1000000000).natAbs ∨ 1000 < (((d - u : Nat) : Int) - p).natAbs) :=
  ⟨{ (wHost.put F.tkRefSel_enable 15) with tk := { srcs := [{ edge := some 5000, interval := some 1000001001, good := 2 }, {}, {}, {}] } }, 1000005000, true, 1000005000, 5000, 1000001001, by decide +kernel⟩

theorem wit_AcceptanceAndLock_3 : ∃ (s : State) (b : List Byte) (t0 t1 sec utc e p : Nat) (x : Int),
    s.off = false ∧ s.sizesOk = true ∧ parseTod b = some (sec, utc) ∧ (s.src 1).edge = some e ∧ (s.src 1).waiting = true ∧
    (s.src 1).label = some p ∧ e + 1000000 ≤ t0 ∧ t1 ≤ e + 900000000 ∧ s.srcEnabled 1 = true ∧ x = ((sec * 1000000000 : Nat) : Int) - e ∧
    sec = p + 1 ∧ s.srcAccepted 1 = false ∧ (s.src 1).edgeOk = true ∧ (s.src 1).good = 3 ∧ s.get F.tkRefSel_force = 0 :=
  ⟨{ (wHost.put F.tkRefSel_enable 15) with tk := { srcs := [{ edge := some 999999999995, edgeOk := true, waiting := true, label := some 999, good := 3, badLabel := 0 }, {}, {}, {}] } }, [36, 75, 81, 84, 79, 68, 44, 49, 48, 48, 48, 44, 51, 55, 44, 50, 53, 44, 76, 42, 48, 66, 13, 10], 1000002000000, 1000003000000, 1000, 37, 999999999995, 999, 5, by decide +kernel⟩

theorem wit_AcceptanceAndLock_4 : ∃ (s : State) (b : List Byte) (t0 t1 sec utc e p : Nat) (x : Int),
    s.off = false ∧ s.sizesOk = true ∧ parseTod b = some (sec, utc) ∧ (s.src 1).edge = some e ∧ (s.src 1).waiting = true ∧
    (s.src 1).label = some p ∧ e + 1000000 ≤ t0 ∧ t1 ≤ e + 900000000 ∧ s.srcEnabled 1 = true ∧ x = ((sec * 1000000000 : Nat) : Int) - e ∧
    sec = p + 1 ∧ s.srcAccepted 1 = false ∧ (s.src 1).edgeOk = true ∧ (s.src 1).good < 3 :=
  ⟨{ (wHost.put F.tkRefSel_enable 15) with tk := { srcs := [{ edge := some 999999999995, edgeOk := true, waiting := true, label := some 999, good := 2, badLabel := 0 }, {}, {}, {}] } }, [36, 75, 81, 84, 79, 68, 44, 49, 48, 48, 48, 44, 51, 55, 44, 50, 53, 44, 76, 42, 48, 66, 13, 10], 1000002000000, 1000003000000, 1000, 37, 999999999995, 999, 5, by decide +kernel⟩

theorem wit_AcceptanceAndLock_5 : ∃ (s : State) (b : List Byte) (t0 t1 sec utc e p : Nat) (x : Int),
    s.off = false ∧ s.sizesOk = true ∧ parseTod b = some (sec, utc) ∧ (s.src 1).edge = some e ∧ (s.src 1).waiting = true ∧
    (s.src 1).label = some p ∧ e + 1000000 ≤ t0 ∧ t1 ≤ e + 900000000 ∧ s.srcEnabled 1 = true ∧ x = ((sec * 1000000000 : Nat) : Int) - e ∧
    sec ≠ p + 1 ∧ s.srcAccepted 1 = false :=
  ⟨{ (wHost.put F.tkRefSel_enable 15) with tk := { srcs := [{ edge := some 999999999995, edgeOk := true, waiting := true, label := some 998, good := 3, badLabel := 0 }, {}, {}, {}] } }, [36, 75, 81, 84, 79, 68, 44, 49, 48, 48, 48, 44, 51, 55, 44, 50, 53, 44, 76, 42, 48, 66, 13, 10], 1000002000000, 1000003000000, 1000, 37, 999999999995, 998, 5, by decide +kernel⟩

theorem wit_AcceptanceAndLock_6 : ∃ (s : State) (b : List Byte) (t0 t1 sec utc e p : Nat) (x : Int),
    s.off = false ∧ s.sizesOk = true ∧ parseTod b = some (sec, utc) ∧ (s.src 1).edge = some e ∧ (s.src 1).waiting = true ∧
    (s.src 1).label = some p ∧ e + 1000000 ≤ t0 ∧ t1 ≤ e + 900000000 ∧ s.srcEnabled 1 = true ∧ x = ((sec * 1000000000 : Nat) : Int) - e ∧
    s.srcAccepted 1 = true ∧ sec ≠ p + 1 ∧ (s.src 1).badLabel = 0 :=
  ⟨{ (wHost.put F.tkRefSel_enable 15).put F.tkStatus_accepted 1 with tk := { srcs := [{ edge := some 999999999995, edgeOk := true, waiting := true, label := some 998, good := 3, badLabel := 0 }, {}, {}, {}] } }, [36, 75, 81, 84, 79, 68, 44, 49, 48, 48, 48, 44, 51, 55, 44, 50, 53, 44, 76, 42, 48, 66, 13, 10], 1000002000000, 1000003000000, 1000, 37, 999999999995, 998, 5, by decide +kernel⟩

theorem wit_AcceptanceAndLock_7 : ∃ (s : State) (b : List Byte) (t0 t1 sec utc e p : Nat) (x : Int),
    s.off = false ∧ s.sizesOk = true ∧ parseTod b = some (sec, utc) ∧ (s.src 1).edge = some e ∧ (s.src 1).waiting = true ∧
    (s.src 1).label = some p ∧ e + 1000000 ≤ t0 ∧ t1 ≤ e + 900000000 ∧ s.srcEnabled 1 = true ∧ x = ((sec * 1000000000 : Nat) : Int) - e ∧
    s.srcAccepted 1 = true ∧ sec ≠ p + 1 ∧ 1 ≤ (s.src 1).badLabel :=
  ⟨{ (wHost.put F.tkRefSel_enable 15).put F.tkStatus_accepted 1 with tk := { srcs := [{ edge := some 999999999995, edgeOk := true, waiting := true, label := some 998, good := 3, badLabel := 1 }, {}, {}, {}] } }, [36, 75, 81, 84, 79, 68, 44, 49, 48, 48, 48, 44, 51, 55, 44, 50, 53, 44, 76, 42, 48, 66, 13, 10], 1000002000000, 1000003000000, 1000, 37, 999999999995, 998, 5, by decide +kernel⟩

theorem wit_AcceptanceAndLock_8 : ∃ (s : State) (b : List Byte) (t0 t1 sec utc e p : Nat) (x : Int),
    s.off = false ∧ s.sizesOk = true ∧ parseTod b = some (sec, utc) ∧ (s.src 1).edge = some e ∧ (s.src 1).waiting = true ∧
    (s.src 1).label = some p ∧ e + 1000000 ≤ t0 ∧ t1 ≤ e + 900000000 ∧ s.srcEnabled 1 = true ∧ x = ((sec * 1000000000 : Nat) : Int) - e ∧
    sec = p + 1 ∧ s.srcAccepted 1 = true ∧ s.get F.tkStatus_active_source = 1 ∧ s.tk.step = none ∧ s.get F.tkStatus_clock_source = 0 ∧
    (x.natAbs ≤ s.get F.tkServoCfg_step_thresh ∨ s.tk.accepted1 = false) ∧ x.natAbs ≤ s.get F.tkServoCfg_lock_thresh ∧ 3 ≤ s.tk.lockRun ∧
    s.tk.cond ≠ .locked :=
  ⟨{ (((wHost.put F.tkRefSel_enable 15).put F.tkStatus_accepted 1).put F.tkStatus_active_source 1).put F.tkServoCfg_lock_thresh 20 with tk := { srcs := [{ edge := some 999999999995, edgeOk := true, waiting := true, label := some 999, good := 5, badLabel := 0 }, {}, {}, {}], lockRun := 3, accepted1 := false } }, [36, 75, 81, 84, 79, 68, 44, 49, 48, 48, 48, 44, 51, 55, 44, 50, 53, 44, 76, 42, 48, 66, 13, 10], 1000002000000, 1000003000000, 1000, 37, 999999999995, 999, 5, by decide +kernel⟩

theorem wit_AcceptanceAndLock_9 : ∃ (s : State) (b : List Byte) (t0 t1 sec utc e p : Nat) (x : Int),
    s.off = false ∧ s.sizesOk = true ∧ parseTod b = some (sec, utc) ∧ (s.src 1).edge = some e ∧ (s.src 1).waiting = true ∧
    (s.src 1).label = some p ∧ e + 1000000 ≤ t0 ∧ t1 ≤ e + 900000000 ∧ s.srcEnabled 1 = true ∧ x = ((sec * 1000000000 : Nat) : Int) - e ∧
    sec = p + 1 ∧ s.srcAccepted 1 = true ∧ s.get F.tkStatus_active_source = 1 ∧ s.tk.step = none ∧ s.get F.tkStatus_clock_source = 0 ∧
    (x.natAbs ≤ s.get F.tkServoCfg_step_thresh ∨ s.tk.accepted1 = false) ∧ x.natAbs ≤ s.get F.tkServoCfg_lock_thresh ∧ s.tk.lockRun < 3 :=
  ⟨{ (((wHost.put F.tkRefSel_enable 15).put F.tkStatus_accepted 1).put F.tkStatus_active_source 1).put F.tkServoCfg_lock_thresh 20 with tk := { srcs := [{ edge := some 999999999995, edgeOk := true, waiting := true, label := some 999, good := 5, badLabel := 0 }, {}, {}, {}], lockRun := 2, accepted1 := false } }, [36, 75, 81, 84, 79, 68, 44, 49, 48, 48, 48, 44, 51, 55, 44, 50, 53, 44, 76, 42, 48, 66, 13, 10], 1000002000000, 1000003000000, 1000, 37, 999999999995, 999, 5, by decide +kernel⟩

theorem wit_AcceptanceAndLock_10 : ∃ (s : State) (b : List Byte) (t0 t1 sec utc e p : Nat) (x : Int),
    s.off = false ∧ s.sizesOk = true ∧ parseTod b = some (sec, utc) ∧ (s.src 1).edge = some e ∧ (s.src 1).waiting = true ∧
    (s.src 1).label = some p ∧ e + 1000000 ≤ t0 ∧ t1 ≤ e + 900000000 ∧ s.srcEnabled 1 = true ∧ x = ((sec * 1000000000 : Nat) : Int) - e ∧
    sec = p + 1 ∧ s.srcAccepted 1 = true ∧ s.get F.tkStatus_active_source = 1 ∧ s.tk.step = none ∧ s.get F.tkStatus_clock_source = 0 ∧
    (x.natAbs ≤ s.get F.tkServoCfg_step_thresh ∨ s.tk.accepted1 = false) ∧ s.get F.tkServoCfg_lock_thresh < x.natAbs :=
  ⟨{ (((wHost.put F.tkRefSel_enable 15).put F.tkStatus_accepted 1).put F.tkStatus_active_source 1).put F.tkServoCfg_lock_thresh 4 with tk := { srcs := [{ edge := some 999999999995, edgeOk := true, waiting := true, label := some 999, good := 5, badLabel := 0 }, {}, {}, {}], lockRun := 3, accepted1 := false } }, [36, 75, 81, 84, 79, 68, 44, 49, 48, 48, 48, 44, 51, 55, 44, 50, 53, 44, 76, 42, 48, 66, 13, 10], 1000002000000, 1000003000000, 1000, 37, 999999999995, 999, 5, by decide +kernel⟩

theorem wit_SourceLossAndStep_1 : ∃ (s : State) (c : Fin 4) (e : Nat),
    s.off = false ∧ (s.src (c.val + 1)).edge = some e ∧ s.srcAccepted (c.val + 1) = true :=
  ⟨{ wHost.put F.tkStatus_accepted 2 with tk := { srcs := [{}, { edge := some 5000 }, {}, {}] } }, 1, 5000, by decide +kernel⟩

theorem wit_SourceLossAndStep_2 : ∃ (s : State) (d : Int),
    s.off = false ∧ s.tk.step = some d :=
  ⟨{ wHost with tk := { step := some (-1500), time := 3000000000, boundary := 3000000000 } }, (-1500), by decide +kernel⟩

theorem wit_SourceLossAndStep_3 : ∃ (s : State),
    s.off = false :=
  ⟨{ wHost with tk := { steppedTo := 7000000000 } }, by decide +kernel⟩

theorem wit_AlarmsAndPpsOutput_1 : ∃ (s : State) (k : Fin 4),
    s.off = false ∧ s.flag (F.tkAlarmCtrl_armed k) = true ∧ s.get (F.tkAlarmCtrl_period_us k) = 0 ∧ s.get (F.tkAlarmCtrl_action k) ≠ 1 :=
  ⟨{ wHost.setReg (R.tkAlarmCtrl 2) 0xA0000000 with tk := { cmp := [0, 0, 800, 0] } }, 2, by decide +kernel⟩

theorem wit_AlarmsAndPpsOutput_2 : ∃ (s : State) (k : Fin 4) (p u : Nat),
    s.off = false ∧ s.sizesOk = true ∧ s.flag (F.tkAlarmCtrl_armed k) = true ∧ p = s.get (F.tkAlarmCtrl_period_us k) * 1000 ∧ p ≠ 0 ∧
    u = s.alarmTime k + p * ((max s.tk.time (s.alarmTime k) - s.alarmTime k) / p + 1) :=
  ⟨{ (wHost.setReg (R.tkAlarmCtrl 2) 0xA0000000).put (F.tkAlarmCtrl_period_us 2) 3 with tk := { time := 9000, cmp := [0, 0, 800, 0] } }, 2, 3000, 9800, by decide +kernel⟩

theorem wit_AlarmsAndPpsOutput_3 : ∃ (s : State) (k : Fin 4),
    s.Awake ∧ s.phase ≠ 0 ∧ s.flag (F.tkAlarmCtrl_armed k) = true ∧ s.get (F.tkAlarmCtrl_action k) = 1 ∧
    (s.rg.latched = false ∨ (max s.tk.time (s.alarmTime k)) < s.rg.time ∨ s.rg.time + 5 < (max s.tk.time (s.alarmTime k))) ∧
    s.flag F.rgStatus_held = false ∧ s.flag F.rgCtrl_keep = true :=
  ⟨{ ((wHost.put F.rgCtrl_keep 1).put (F.tkAlarmCtrl_armed 2) 1).put (F.tkAlarmCtrl_action 2) 1 with tk := { cmp := [0, 0, 800, 0] } }, 2, by decide +kernel⟩

theorem wit_AlarmsAndPpsOutput_4 : ∃ (s : State) (k : Fin 4) (q : Req) (w : Word),
    s.Manages q ∧ s.sizesOk = true ∧ s.flag (F.tkAlarmCtrl_armed k) = false :=
  ⟨wHost.setReg (R.tkAlarmHi 1) 3, 1, none, 77, by decide +kernel⟩

theorem wit_AlarmsAndPpsOutput_5 : ∃ (s : State) (k : Fin 4) (q : Req) (w : Word),
    s.Manages q ∧ s.sizesOk = true ∧ s.flag (F.tkAlarmCtrl_armed k) = true ∧ s.get (F.tkAlarmCtrl_period_us k) = 0 ∧
    s.get (F.tkAlarmCtrl_action k) ≠ 1 ∧ w.toNat + (s.reg (R.tkAlarmHi k)).toNat * 2 ^ 32 < s.tk.time :=
  ⟨{ wHost.setReg (R.tkAlarmCtrl 1) 0x80000000 with tk := { time := 100 } }, 1, none, 77, by decide +kernel⟩

theorem wit_AlarmsAndPpsOutput_6 : ∃ (s : State),
    s.off = false ∧ (s.get F.tkPpsOut_mode = 1 ∨ (s.get F.tkPpsOut_mode = 2 ∧ s.tk.cond ≠ .freeRun)) :=
  ⟨{ wHost.setReg R.tkPpsOut 0x4064FFF6 with tk := { time := 1234 } }, by decide +kernel⟩

theorem wit_AlarmsAndPpsOutput_7 : ∃ (s : State),
    s.off = false ∧ (s.get F.tkPpsOut_mode = 0 ∨ (s.get F.tkPpsOut_mode = 2 ∧ s.tk.cond = .freeRun)) :=
  ⟨wHost.put F.tkPpsOut_mode 2, by decide +kernel⟩

theorem wit_AlarmsAndPpsOutput_8 : ∃ (s : State),
    s.off = false :=
  ⟨{ wHost with tk := { ppsOutHigh := true, ppsOutRise := some 5 } }, by decide +kernel⟩

theorem wit_FrameRateRule_1 : ∃ (s : State) (q : Req) (w : Word),
    s.Manages q ∧ 2000 ≤ w.toNat % 65536 ∧ w.toNat % 65536 ≤ 32000 :=
  ⟨wHost, none, 16000, by decide +kernel⟩

theorem wit_FrameRateRule_2 : ∃ (s : State) (q : Req) (w : Word),
    s.Manages q ∧ (w.toNat % 65536 < 2000 ∨ 32000 < w.toNat % 65536) :=
  ⟨wHost, none, 1999, by decide +kernel⟩

theorem wit_FrameRateRule_3 : ∃ (s : State) (r : Nat),
    s.off = false ∧ s.tk.rateAt = some r :=
  ⟨{ wHost.put F.tkFrameRate_requested 4000 with tk := { rateAt := some 2000000000 } }, 2000000000, by decide +kernel⟩

theorem wit_TakeAndVitrines_1 : ∃ (s : State) (e : Nat) (rise : Bool),
    s.Awake ∧ rise ≠ s.flag F.rgTakeCfg_in_falling ∧
    (s.rg.latched = false ∨ max s.tk.time e < s.rg.time ∨ s.rg.time + 5 < max s.tk.time e) ∧ s.flag F.rgStatus_held = false ∧
    s.flag F.rgCtrl_keep = true ∧ s.jtag.holds = false ∧ s.phase ≠ 0 :=
  ⟨wHost.put F.rgCtrl_keep 1, 900, true, by decide +kernel⟩

theorem wit_TakeAndVitrines_2 : ∃ (s : State) (e : Nat) (rise : Bool),
    s.off = false ∧ rise = s.flag F.rgTakeCfg_in_falling ∧ s.cn.rose = [] :=
  ⟨wHost.put F.rgCtrl_keep 1, 900, false, by decide +kernel⟩

theorem wit_TakeAndVitrines_3 : ∃ (s : State) (q : Req) (w : Word),
    s.Manages q ∧ (s.rg.latched = false ∨ s.tk.time < s.rg.time ∨ s.rg.time + 5 < s.tk.time) ∧ s.flag F.rgStatus_held = false ∧
    w.getLsbD 2 = true ∧ s.phase ≠ 0 :=
  ⟨wHost, none, 4, by decide +kernel⟩

theorem wit_TakeAndVitrines_4 : ∃ (s : State) (q : Req) (w : Word),
    s.Manages q ∧ s.flag F.rgStatus_held = true ∧ s.rg.todo ≠ [] :=
  ⟨{ wHost.put F.rgStatus_held 1 with rg := { todo := [{ trig := 0, words := [], event := false, notOk := false }] } }, none, 4, by decide +kernel⟩

theorem wit_TakeAndVitrines_5 : ∃ (s : State) (q : Req) (w : Word),
    s.Manages q ∧ s.flag F.rgStatus_held = true ∧ s.rg.todo = [] ∧ w.getLsbD 31 = false ∧ s.cn.rose = [] :=
  ⟨wHost.put F.rgStatus_held 1, none, 4, by decide +kernel⟩

theorem wit_TakeAndVitrines_6 : ∃ (s : State),
    s.off = false ∧ s.rg.takeOut = true ∧ s.cn.rose = [] ∧ s.jtag.holds = false :=
  ⟨{ wHost with rg := { takeOut := true, takeEnd := 50 } }, by decide +kernel⟩

theorem wit_LinkEnableAndHits_1 : ∃ (s : State) (n : Fin 8) (q : Req) (w : Word),
    s.Manages q ∧ n.val < s.nPorts ∧ s.sizesOk = true ∧ s.link n = 0 ∧ (s.port n).pulse = false :=
  ⟨wHost, 0, none, 0, by decide +kernel⟩

theorem wit_LinkEnableAndHits_2 : ∃ (s : State) (n : Fin 8) (q : Req) (w : Word),
    s.Manages q ∧ n.val < s.nPorts ∧ s.sizesOk = true ∧ s.link n = 3 ∧ s.subtree n 0 = [] ∧ (s.port n).attach = none ∧
    (s.port n).sweep = none :=
  ⟨wPort 3 {}, 0, none, 0, by decide +kernel⟩

theorem wit_LinkEnableAndHits_3 : ∃ (s : State) (n : Fin 8) (q : Req) (w : Word),
    s.Manages q ∧ n.val < s.nPorts ∧ s.sizesOk = true ∧ w.getLsbD 0 = true ∧ s.flag (F.gpLinkCtrl_enable n) = true ∧ s.link n = 3 ∧
    s.subtree n 0 = [] ∧ (s.port n).attach = none ∧ (s.port n).sweep = none :=
  ⟨(wPort 3 {}).put (F.gpLinkCtrl_enable 0) 1, 0, none, 1, by decide +kernel⟩

theorem wit_LinkEnableAndHits_4 : ∃ (s : State) (n : Fin 8) (q : Req) (w : Word),
    s.Manages q ∧ n.val < s.nPorts ∧ s.sizesOk = true ∧ w.getLsbD 0 = true ∧ s.flag (F.gpLinkCtrl_enable n) = true ∧ s.link n = 6 :=
  ⟨((wPort 6 {}).put (F.gpLinkCtrl_enable 0) 1).put (F.gpDevState_state 0 5) 7, 0, none, 1, by decide +kernel⟩

theorem wit_LinkEnableAndHits_5 : ∃ (s : State) (n : Fin 8),
    s.off = false ∧ n.val < s.nPorts ∧ s.sizesOk = true ∧ s.link n = 3 ∧ s.mirrors n = false ∧ (s.port n).sweep = none :=
  ⟨wPort 3 {}, 0, by decide +kernel⟩

theorem wit_LinkEnableAndHits_6 : ∃ (s : State) (n : Fin 8),
    s.off = false ∧ n.val < s.nPorts ∧ s.sizesOk = true ∧ s.link n = 4 ∧ s.subtree n 0 = [] ∧ (s.port n).attach = none ∧
    (s.port n).sweep = none :=
  ⟨wPort 4 {}, 0, by decide +kernel⟩

theorem wit_LinkEnableAndHits_7 : ∃ (s : State) (n : Fin 8) (los abs : Bool),
    s.off = false ∧ n.val < s.nPorts ∧ s.flag (F.gpLinkCtrl_media n) = true ∧ s.link n ≠ 3 :=
  ⟨(wPort 1 {}).put (F.gpLinkCtrl_media 0) 1, 0, true, false, by decide +kernel⟩

theorem wit_LinkEnableAndHits_8 : ∃ (s : State) (n : Fin 8) (abs : Bool),
    s.off = false ∧ n.val < s.nPorts ∧ s.sizesOk = true ∧ s.flag (F.gpLinkCtrl_media n) = true ∧ s.link n = 3 ∧ s.mirrors n = false ∧
    (s.port n).sweep = none :=
  ⟨(wPort 3 {}).put (F.gpLinkCtrl_media 0) 1, 0, false, by decide +kernel⟩

theorem wit_LinkEnableAndHits_9 : ∃ (s : State) (n : Fin 8) (a : Fin 64),
    s.off = false ∧ n.val < s.nPorts ∧ s.sizesOk = true ∧ 1 ≤ a.val ∧ a.val ≤ 62 ∧ s.ownsPort n = true ∧ s.devSt n a = 3 ∧ s.link n = 3 ∧
    (s.port n).sweep = none ∧ (s.port n).sweeps = [] ∧ s.permitBars (.sweep n a) = false :=
  ⟨wDev (wPort 3 {}) 3, 0, 1, by decide +kernel⟩

theorem wit_LinkEnableAndHits_10 : ∃ (s : State) (n : Fin 8) (a : Fin 64),
    s.off = false ∧ n.val < s.nPorts ∧ s.sizesOk = true ∧ 1 ≤ a.val ∧ a.val ≤ 62 ∧ s.ownsPort n = true ∧ s.devSt n a = 3 ∧ s.link n = 3 ∧
    (s.port n).sweep = none ∧ (s.port n).sweeps = [] ∧ s.permitBars (.sweep n a) = false :=
  ⟨wDev (wPort 3 {}) 3, 0, 1, by decide +kernel⟩

theorem wit_LinkTraining_1 : ∃ (s : State) (n : Fin 8) (e : Nat),
    s.off = false ∧ n.val < s.nPorts ∧ s.sizesOk = true ∧ s.link n = 1 ∧ (s.port n).beacons < 2 ∧
    (s.port n).beaconAt.any (fun u => (90000 ≤ e - u && e - u ≤ 110000) || (90000000 ≤ e - u && e - u ≤ 110000000)) = true ∧
    s.flag (F.gpLinkCtrl_media n) = false :=
  ⟨wPort 1 { beacons := 1, beaconAt := some 5 }, 0, 100005, by decide +kernel⟩

theorem wit_LinkTraining_2 : ∃ (s : State) (n : Fin 8) (e : Nat),
    s.off = false ∧ n.val < s.nPorts ∧ s.sizesOk = true ∧ s.link n = 1 ∧ (s.port n).beacons < 3 ∧
    (s.port n).beaconAt.any (fun u => (90000 ≤ e - u && e - u ≤ 110000) || (90000000 ≤ e - u && e - u ≤ 110000000)) = false :=
  ⟨wPort 1 { beacons := 2, beaconAt := some 5 }, 0, 50005, by decide +kernel⟩

theorem wit_LinkTraining_3 : ∃ (s : State) (n : Fin 8) (e : Nat),
    s.off = false ∧ n.val < s.nPorts ∧ s.sizesOk = true ∧ s.link n = 1 ∧ (s.port n).beacons < 3 :=
  ⟨wPort 1 { beacons := 2, beaconAt := some 5 }, 0, 100005, by decide +kernel⟩

theorem wit_LinkTraining_4 : ∃ (s : State) (n : Fin 8) (e : Nat),
    s.off = false ∧ n.val < s.nPorts ∧ s.sizesOk = true ∧ s.link n = 1 ∧ (s.port n).beacons = 2 ∧
    (s.port n).beaconAt.any (fun u => (90000 ≤ e - u && e - u ≤ 110000) || (90000000 ≤ e - u && e - u ≤ 110000000)) = true ∧
    s.permitBars (.training n) = false :=
  ⟨wPort 1 { beacons := 2, beaconAt := some 5 }, 0, 100005, by decide +kernel⟩

theorem wit_LinkTraining_5 : ∃ (s : State) (n : Fin 8),
    s.off = false ∧ n.val < s.nPorts ∧ s.sizesOk = true ∧ (s.link n = 1 ∨ s.link n = 2) ∧ s.flag (F.gpLinkCtrl_media n) = false :=
  ⟨wPort 1 { beacons := 2 }, 0, by decide +kernel⟩

theorem wit_LinkTraining_6 : ∃ (s : State) (n : Fin 8),
    s.off = false ∧ n.val < s.nPorts ∧ s.link n = 1 ∧ 3 ≤ (s.port n).beacons ∧ s.holds (.training n) = false ∧
    s.asked (.training n) = false ∧ s.permitBars (.training n) = false :=
  ⟨wPort 1 { beacons := 3 }, 0, by decide +kernel⟩

theorem wit_LinkTraining_7 : ∃ (s : State) (n role : Fin 8) (partner : Nat) (pport : Fin 4),
    s.off = false ∧ n.val < s.nPorts ∧ s.sizesOk = true ∧ (role = 2 ∨ role = 3 ∨ role = 5) ∧ s.link n = 2 ∧ (s.port n).began ≠ 5 ∧
    s.ownsPort n = true ∧ (s.port n).attach = none ∧ (s.port n).attaches = [] ∧ (s.port n).fast = false :=
  ⟨wPort 2 {}, 0, 3, 0, 0, by decide +kernel⟩

theorem wit_LinkTraining_8 : ∃ (s : State) (n role : Fin 8) (partner : Nat) (pport : Fin 4),
    s.off = false ∧ n.val < s.nPorts ∧ s.sizesOk = true ∧ role ≠ 2 ∧ role ≠ 3 ∧ role ≠ 5 ∧ s.link n = 2 ∧ (s.port n).began ≠ 5 :=
  ⟨wPort 2 {}, 0, 1, 0, 0, by decide +kernel⟩

theorem wit_LinkTraining_9 : ∃ (s : State) (n : Fin 8),
    s.off = false ∧ n.val < s.nPorts ∧ s.sizesOk = true ∧ s.link n = 2 ∧ (s.port n).fast = false ∧ (s.port n).began ≠ 5 :=
  ⟨wPort 2 {}, 0, by decide +kernel⟩

theorem wit_LinkTraining_10 : ∃ (s : State) (n : Fin 8),
    s.off = false ∧ n.val < s.nPorts ∧ s.sizesOk = true ∧ (s.link n = 2 ∨ s.link n = 4) :=
  ⟨wPort 2 { fast := true }, 0, by decide +kernel⟩

theorem wit_SuspendAndResume_1 : ∃ (s : State) (n : Fin 8) (q : Req) (w : Word),
    s.Manages q ∧ n.val < s.nPorts ∧ s.sizesOk = true ∧ s.ownsPort n = true ∧ s.link n = 3 :=
  ⟨wPort 3 {}, 0, none, 0, by decide +kernel⟩

theorem wit_SuspendAndResume_2 : ∃ (s : State) (n : Fin 8),
    s.off = false ∧ n.val < s.nPorts ∧ s.sizesOk = true ∧ (s.port n).suspend = 1 ∧ s.link n = 3 :=
  ⟨wPort 3 { suspend := 1 }, 0, by decide +kernel⟩

theorem wit_SuspendAndResume_3 : ∃ (s : State) (n : Fin 8),
    s.off = false ∧ n.val < s.nPorts ∧ s.sizesOk = true ∧ (s.port n).suspend = 2 ∧ (s.port n).attach = none ∧ (s.port n).sweep = none :=
  ⟨wDev (wPort 3 { suspend := 2 }) 4, 0, by decide +kernel⟩

theorem wit_SuspendAndResume_4 : ∃ (s : State) (n : Fin 8),
    s.off = false ∧ n.val < s.nPorts ∧ s.sizesOk = true ∧ (s.port n).suspend = 2 ∧ (s.port n).attach = none ∧ (s.port n).sweep = none :=
  ⟨wDev (wPort 3 { suspend := 2 }) 4, 0, by decide +kernel⟩

theorem wit_SuspendAndResume_5 : ∃ (s : State) (n : Fin 8) (q : Req) (w : Word),
    s.Manages q ∧ n.val < s.nPorts ∧ s.sizesOk = true ∧ s.ownsPort n = true ∧ s.link n = 5 :=
  ⟨wPort 5 {}, 0, none, 0, by decide +kernel⟩

theorem wit_SuspendAndResume_6 : ∃ (s : State) (n : Fin 8),
    s.off = false ∧ n.val < s.nPorts ∧ s.sizesOk = true ∧ (s.port n).resuming = true ∧ s.link n = 3 ∧ (s.port n).fstFrom ≤ s.tk.boundary ∧
    (s.port n).resets = [] :=
  ⟨wDev (wPort 3 { resuming := true }) 6, 0, by decide +kernel⟩

theorem wit_AccessionCommands_1 : ∃ (s : State) (n : Fin 8) (q : Req) (w : Word),
    s.Manages q ∧ n.val < s.nPorts ∧ s.ownsPort n = true ∧ 1 ≤ w.toNat % 64 ∧ w.toNat % 64 ≤ 62 ∧ s.devSt n (w.toNat % 64) = 1 ∧
    s.isHub n (w.toNat % 64) = false :=
  ⟨(wPort 3 {}).put (F.gpDevState_state 0 5) 1, 0, none, 5, by decide +kernel⟩

theorem wit_AccessionCommands_2 : ∃ (s : State) (n : Fin 8) (q : Req) (w : Word),
    s.Manages q ∧ n.val < s.nPorts ∧ s.sizesOk = true ∧ s.ownsPort n = true ∧ w.toNat % 64 = 0 ∧ w.toNat / 2 ^ 8 % 16 = 0 ∧
    (s.port n).rejected.contains (0, 0) = true ∧ s.link n = 0 ∧ (s.port n).pulse = false :=
  ⟨wPort 0 { rejected := [(0, 0)] }, 0, none, 0, by decide +kernel⟩

theorem wit_AccessionCommands_3 : ∃ (s : State) (n : Fin 8) (q : Req) (w : Word),
    s.Manages q ∧ n.val < s.nPorts ∧ s.sizesOk = true ∧ s.ownsPort n = true ∧ 1 ≤ w.toNat % 64 ∧ w.toNat % 64 ≤ 62 ∧
    s.devSt n (w.toNat % 64) = 7 ∧ (s.place n (w.toNat % 64)).1 ≠ 0 :=
  ⟨(((wPort 3 {}).put (F.gpDevState_state 0 5) 7).put (F.gpDevState_parent 0 5) 1).put (F.gpDevState_parent_port 0 5) 2, 0, none, 5, by decide +kernel⟩

theorem wit_AccessionCommands_4 : ∃ (s : State) (n : Fin 8) (q : Req) (w : Word),
    s.Manages q ∧ n.val < s.nPorts :=
  ⟨(wPort 3 {}).setReg (R.gpSymErr 0) 7, 0, none, 0, by decide +kernel⟩

theorem wit_AccessionCommands_5 : ∃ (s : State) (n : Fin 8) (q : Req) (w : Word),
    s.Manages q ∧ n.val < s.nPorts :=
  ⟨(wPort 3 {}).setReg (R.gpXactCnt 0) 7, 0, none, 0, by decide +kernel⟩

theorem wit_AccessionCommands_6 : ∃ (s : State) (q : Req) (w : Word) (r : List Byte) (rs : List (List Byte)),
    s.Manages q ∧ s.acc = r :: rs ∧ rs.length < 64 :=
  ⟨{ wHost with acc := [[1], [2]] }, none, 0, [1], [[2]], by decide +kernel⟩

theorem wit_AccessionCommands_7 : ∃ (s : State) (n : Fin 8) (x : Attach),
    s.off = false ∧ n.val < s.nPorts ∧ s.sizesOk = true ∧ (s.port n).attach = some x ∧ x.step = 2 :=
  ⟨wPort 3 { attach := some { parent := 0, port := 0, step := 2 } }, 0, { parent := 0, port := 0, step := 2 }, by decide +kernel⟩

theorem wit_AccessionCommands_8 : ∃ (s : State) (n : Fin 8) (x : Attach),
    s.off = false ∧ n.val < s.nPorts ∧ s.sizesOk = true ∧ (s.port n).attach = some x ∧ x.step = 8 ∧ x.parent = 0 ∧ s.link n = 3 ∧
    (s.port n).resuming = false ∧ s.ownsPort n = true :=
  ⟨wPort 3 { attach := some { parent := 0, port := 0, step := 8, tries := 1 } }, 0, { parent := 0, port := 0, step := 8, tries := 1 }, by decide +kernel⟩

theorem wit_AccessionCommands_9 : ∃ (s : State) (n : Fin 8),
    s.off = false ∧ n.val < s.nPorts ∧ s.sizesOk = true ∧ (s.port n).pulse = true ∧ s.link n = 0 ∧ s.flag (F.gpLinkCtrl_enable n) = true :=
  ⟨(wPort 0 { pulse := true }).put (F.gpLinkCtrl_enable 0) 1, 0, by decide +kernel⟩

theorem wit_AccessionCommands_10 : ∃ (s : State) (n : Fin 8) (q : Req) (w : Word),
    s.Manages q ∧ n.val < s.nPorts ∧ s.sizesOk = true ∧ s.ownsPort n = true ∧ w.toNat % 64 = 0 ∧ s.link n = 3 ∧ (s.port n).resets = [] ∧
    s.subtree n 0 = [] ∧ (s.port n).attach = none ∧ (s.port n).sweep = none ∧ (s.port n).resuming = false :=
  ⟨wPort 3 {}, 0, none, 0, by decide +kernel⟩

theorem wit_AccessionCommands_11 : ∃ (s : State) (n : Fin 8),
    s.off = false ∧ n.val < s.nPorts ∧ s.sizesOk = true ∧ (s.port n).resets.any (fun b => b.scope == 0 && b.phase == 1) = true ∧
    (s.port n).pulse = true ∧ s.link n = 0 ∧ s.flag (F.gpLinkCtrl_enable n) = true :=
  ⟨(wPort 0 { pulse := true, resets := [{ scope := 0, addrs := [], wait := [], since := 0, phase := 1 }] }).put (F.gpLinkCtrl_enable 0) 1, 0, by decide +kernel⟩

theorem wit_AccessionCommands_12 : ∃ (s : State) (n : Fin 8) (b : BusReset) (bs : List BusReset),
    s.off = false ∧ n.val < s.nPorts ∧ s.sizesOk = true ∧ (s.port n).resets = b :: bs :=
  ⟨wPort 0 { resets := [{ scope := 0, addrs := [], wait := [], since := 7, phase := 1 }] }, 0, { scope := 0, addrs := [], wait := [], since := 7, phase := 1 }, [], by decide +kernel⟩

theorem wit_TransactionsOfAPort_1 : ∃ (s : State) (n : Fin 8) (p : RxPacket) (x : Xact) (c e k : Nat) (h : Hdr) (pl : List Byte),
    s.off = false ∧ n.val < s.nPorts ∧ s.sizesOk = true ∧ s.link n = 3 ∧ (s.port n).opens.find? (fun y => y.accepts p.t) = some x ∧
    x.use = .periodicOut c ∧ x.expect = some e ∧ p.t + rxDur p ≤ e + x.slot * 10 + 120 ∧ rxCheck p.start p.syms = .good h pl k ∧
    h.addr = x.addr ∧ h.pipe = x.pipe ∧ h.tag = x.tag ∧ h.dir = 1 ∧ h.typ = 3 ∧ h.tsb % 8 = 1 ∧ s.armed 3 n = none ∧ s.armed 4 n = none ∧
    s.armed 6 n = none ∧ s.armed 7 n = none :=
  ⟨wPort 3 { opens := [{ tag := 9, addr := 1, pipe := 2, use := .periodicOut 3, eop := 1000, expect := some 5000 }] }, 0, { t := 5010, rd := false, groups := wireOf symSop (packetBytes wAck []) true }, { tag := 9, addr := 1, pipe := 2, use := .periodicOut 3, eop := 1000, expect := some 5000 }, 3, 5000, 0, wAck, [], by decide +kernel⟩

theorem wit_TransactionsOfAPort_2 : ∃ (s : State) (n : Fin 8) (tag : Fin 1024) (x : Xact) (c : Nat),
    s.off = false ∧ s.sizesOk = true ∧ (s.port n).opens.find? (fun y => y.tag == tag.val) = some x ∧ x.use = .periodicOut c ∧ x.addr ≠ 0 ∧
    s.attached n x.addr = true ∧ (s.dev n x.addr).silent + 1 < 32 :=
  ⟨wDev (wPort 3 { opens := [{ tag := 9, addr := 1, pipe := 2, use := .periodicOut 3, eop := 1000, expect := some 5000 }] }) 4, 0, 9, { tag := 9, addr := 1, pipe := 2, use := .periodicOut 3, eop := 1000, expect := some 5000 }, 3, by decide +kernel⟩

theorem wit_TransactionsOfAPort_3 : ∃ (s : State) (n : Fin 8) (a : Fin 64) (c : Ctl) (v : Nat) (g : Fin 16) (r : Fin 8) (i : Nat) (w : Work),
    s.off = false ∧ s.sizesOk = true ∧ (s.port n).ctls.find? (fun y => y.addr == a.val) = some c ∧ c.began = some v ∧ c.use = .work g r i ∧
    s.findWork g r i = some w :=
  ⟨{ wPort 3 { ctls := [{ use := .work 1 2 3, addr := 1, setup := [], began := some 5 }] } with work := [{ g := 1, r := 2, i := 3, ent := [3] }] }, 0, 1, { use := .work 1 2 3, addr := 1, setup := [], began := some 5 }, 5, 1, 2, 3, { g := 1, r := 2, i := 3, ent := [3] }, by decide +kernel⟩

theorem wit_TransactionsOfAPort_4 : ∃ (s : State) (n : Fin 8) (a : Fin 64),
    s.off = false ∧ n.val < s.nPorts ∧ s.sizesOk = true ∧ s.link n = 3 ∧ (s.port n).babble = [] :=
  ⟨wPort 3 {}, 0, 5, by decide +kernel⟩

theorem wit_TransactionsOfAPort_5 : ∃ (s : State) (n : Fin 8) (a : Fin 64) (rtt rd ru tt : Nat) (x : Xact),
    s.off = false ∧ s.sizesOk = true ∧ (s.port n).opens.find? (fun y => y.addr == a.val && y.use == .probe) = some x ∧
    (s.port n).sweep = none ∧ (s.port n).resets = [] ∧ s.isRanged n a = true ∧ (s.dev n a).derived = false ∧ s.ownsPort n = true ∧
    s.sharedPort n = false ∧ ((rtt : Int) - rd - ru - tt - s.get (F.gpRangeDev2_l_rt n a)).natAbs ≤ 20 ∧ s.armed 3 n = none ∧
    s.armed 6 n = none ∧ s.armed 7 n = none :=
  ⟨(wDev (wPort 3 { opens := [{ tag := 9, addr := 1, pipe := 0, use := .probe, eop := 1000, expect := some 5000 }] }) 5).put (F.gpRangeDev2_l_rt 0 1) 900, 0, 1, 2915, 0, 0, 2000, { tag := 9, addr := 1, pipe := 0, use := .probe, eop := 1000, expect := some 5000 }, by decide +kernel⟩

theorem wit_TransactionsOfAPort_6 : ∃ (s : State) (n : Fin 8) (a : Fin 64) (x : Xact),
    s.off = false ∧ s.sizesOk = true ∧ (s.port n).opens.find? (fun y => y.addr == a.val && y.use == .probe) = some x ∧
    (s.port n).sweep = none ∧ s.isRanged n a = true ∧ a.val ≠ 0 ∧ (s.dev n a).lost < 2 ∧ (s.dev n a).silent + 1 < 32 :=
  ⟨wDev (wPort 3 { opens := [{ tag := 9, addr := 1, pipe := 0, use := .probe, eop := 1000, expect := some 5000 }] }) 4, 0, 1, { tag := 9, addr := 1, pipe := 0, use := .probe, eop := 1000, expect := some 5000 }, by decide +kernel⟩

theorem wit_TransactionsOfAPort_7 : ∃ (s : State) (n : Fin 8) (a : Fin 64),
    s.off = false ∧ s.sizesOk = true ∧ s.link n = 3 ∧ s.isRanged n a = true ∧ s.ownsPort n = true ∧ s.flag (F.gpRangeDev0_valid n a) = true :=
  ⟨wDev (wPort 3 {}) 4, 0, 1, by decide +kernel⟩

theorem wit_RecordStore_1 : ∃ (s : State) (r : RecReq) (rs : List RecReq) (p : Nat),
    s.off = false ∧ s.rg.todo = r :: rs ∧ s.rg.newest = none ∧ s.flag F.rgStatus_full = false ∧ s.flag F.rgStatus_clearing = false ∧
    s.get F.rgWritePtr_ptr = p ∧ p + recSize r.words.length ≤ rgSize :=
  ⟨wRec, { trig := 3, words := [5, 6], event := false, notOk := false }, [], 0, by decide +kernel⟩

theorem wit_RecordStore_2 : ∃ (s : State) (q : Req) (w : Word),
    s.Manages q ∧ s.rg.todo = [] :=
  ⟨wHost.put F.rgWritePtr_ptr 64, none, 7, by decide +kernel⟩

theorem wit_RecordStore_3 : ∃ (s : State) (q : Req) (w : Word),
    s.Manages q :=
  ⟨wHost.put F.rgCount_dropped 64, none, 7, by decide +kernel⟩

theorem wit_FrameNumbers_1 : ∃ (s : State) (e : List SramFlip),
    s.off = false ∧ s.sp.renum = none :=
  ⟨(wPort 3 {}).put F.tkFrameNum_frame 0xFFFFFFFF, [], by decide +kernel⟩

theorem wit_FrameNumbers_2 : ∃ (s : State) (e : List SramFlip),
    s.off = false ∧ s.sp.renum = none ∧ 2 ≤ s.power ∧ s.tk.step = none :=
  ⟨wHost.put F.cnStatus_state 2, [], by decide +kernel⟩

theorem wit_FrameNumbers_3 : ∃ (s : State) (d : Nat),
    s.off = false ∧ s.sp.renum = some d :=
  ⟨{ wHost with sp := { renum := some 5 } }, 5, by decide +kernel⟩

theorem wit_PlansAndIssue_1 : ∃ (s : State) (n : Fin 8),
    s.off = false ∧ s.sizesOk = true ∧ n.val < s.nPorts ∧ s.cutoff ≠ nextFrame s.frame ∧
    s.link n = 3 ∧ (s.cuPort n).begun.contains (nextFrame s.frame) = true ∧ (s.cuPort n).plans.any (fun p => p.frame == nextFrame s.frame) = false ∧
    (∀ m ∈ List.range n.val, ¬ (s.link m = 3 ∧ (s.cuPort m).begun.contains (nextFrame s.frame) = true ∧ (s.cuPort m).plans.any (fun p => p.frame == nextFrame s.frame) = false)) :=
  ⟨(wPort 3 {}).modCu 0 fun _ => { begun := [1, 2] }, 0, by decide +kernel⟩

theorem wit_PlansAndIssue_2 : ∃ (s : State) (n : Fin 8),
    s.off = false ∧ s.sizesOk = true ∧ n.val < s.nPorts ∧
    (s.cutoff = nextFrame s.frame ∨ (∀ m ∈ List.range 8, ¬ (s.link m = 3 ∧ (s.cuPort m).begun.contains (nextFrame s.frame) = true ∧ (s.cuPort m).plans.any (fun p => p.frame == nextFrame s.frame) = false))) ∧
    s.link n = 3 ∧ (s.cuPort n).begun.contains (nextFrame (nextFrame s.frame)) = true ∧ (s.cuPort n).plans.any (fun p => p.frame == nextFrame (nextFrame s.frame)) = false ∧
    (∀ m ∈ List.range n.val, ¬ (s.link m = 3 ∧ (s.cuPort m).begun.contains (nextFrame (nextFrame s.frame)) = true ∧ (s.cuPort m).plans.any (fun p => p.frame == nextFrame (nextFrame s.frame)) = false)) :=
  ⟨(wPort 3 {}).modCu 0 fun _ => { begun := [2] }, 0, by decide +kernel⟩

theorem wit_PlansAndIssue_3 : ∃ (s : State),
    s.off = false ∧ s.cutoff ≠ nextFrame s.frame :=
  ⟨wHost, by decide +kernel⟩

theorem wit_PlansAndIssue_4 : ∃ (s : State) (n : Fin 8) (p : Plan),
    s.off = false ∧ s.sizesOk = true ∧ n.val < s.nPorts ∧ s.cutoff ≠ nextFrame s.frame ∧ s.link n = 3 ∧
    (s.cuPort n).begun.contains (nextFrame s.frame) = true ∧ (s.cuPort n).plans.find? (fun p => p.frame == nextFrame s.frame) = some p ∧
    p.late = false ∧ s.get (F.fiInjCtrl_mode 0x11) = 0 :=
  ⟨(wPort 3 {}).modCu 0 fun _ => { begun := [1], plans := [{ frame := 1, items := [], endNs := 5 }] }, 0, { frame := 1, items := [], endNs := 5 }, by decide +kernel⟩

theorem wit_PlansAndIssue_5 : ∃ (s : State) (n : Fin 8),
    s.off = false ∧ s.sizesOk = true ∧ n.val < s.nPorts ∧ s.cutoff ≠ nextFrame s.frame ∧ s.link n = 3 ∧
    (s.cuPort n).begun.contains (nextFrame s.frame) = true ∧ (s.cuPort n).plans.any (fun p => p.frame == nextFrame s.frame) = false :=
  ⟨(wPort 3 {}).modCu 0 fun _ => { begun := [1] }, 0, by decide +kernel⟩

theorem wit_PlansAndIssue_6 : ∃ (s : State) (n : Fin 8) (x : PlanItem) (xs : List PlanItem),
    s.off = false ∧ s.sizesOk = true ∧ s.tk.stepping = false ∧ (s.cuPort n).todo = x :: xs :=
  ⟨wHost.modCu 0 fun _ => { todo := [{ idx := 0, ctx := 3, kind := 1, reflex := false, start := 25000 }] }, 0, { idx := 0, ctx := 3, kind := 1, reflex := false, start := 25000 }, [], by decide +kernel⟩

theorem wit_PlansAndIssue_7 : ∃ (s : State) (n : Fin 8),
    s.off = false ∧ s.tk.stepping = true ∧ s.cn.rose = [] :=
  ⟨{ wHost.modCu 0 fun _ => { todo := [{ idx := 0, ctx := 3, kind := 1, reflex := false, start := 25000 }] } with tk := { stepping := true } }, 0, by decide +kernel⟩

theorem wit_PlansAndIssue_8 : ∃ (s : State) (n : Fin 8),
    s.off = false ∧ s.sizesOk = true ∧ n.val < s.nPorts :=
  ⟨wPort 3 { pwOld := [(0, 2500), (7, 3000)] }, 0, by decide +kernel⟩

theorem wit_PlansAndIssue_9 : ∃ (s : State) (n : Fin 8) (x : PlanItem) (xs : List PlanItem),
    s.off = false ∧ s.sizesOk = true ∧ s.tk.stepping = false ∧ (s.cuPort n).todo = x :: xs ∧ s.link n = 3 ∧ (s.port n).suspend ≠ 2 ∧
    s.ownsPort n = true ∧ s.pxServed x.ctx s.frame = true ∧ s.isRanged n (s.pxAddr x.ctx) = true ∧ x.kind = 1 :=
  ⟨(wCtx (wDev (wPort 3 {}) 4) 1 { mode := 2 }).modCu 0 fun _ => { todo := [{ idx := 0, ctx := 3, kind := 1, reflex := false, start := 25000 }] }, 0, { idx := 0, ctx := 3, kind := 1, reflex := false, start := 25000 }, [], by decide +kernel⟩

theorem wit_PlansAndIssue_10 : ∃ (s : State) (n : Fin 8) (x : PlanItem) (xs : List PlanItem) (v : OutVal),
    s.off = false ∧ s.sizesOk = true ∧ s.tk.stepping = false ∧ (s.cuPort n).todo = x :: xs ∧ s.link n = 3 ∧ (s.port n).suspend ≠ 2 ∧
    s.ownsPort n = true ∧ s.pxServed x.ctx s.frame = true ∧ s.isRanged n (s.pxAddr x.ctx) = true ∧ x.kind = 2 ∧ x.val = some v ∧
    v.bad = false :=
  ⟨(wCtx (wDev (wPort 3 {}) 4) 2 { mode := 2 }).modCu 0 fun _ => { todo := [{ idx := 0, ctx := 3, kind := 2, reflex := false, start := 25000, val := some { data := [7, 8] } }] }, 0, { idx := 0, ctx := 3, kind := 2, reflex := false, start := 25000, val := some { data := [7, 8] } }, [], { data := [7, 8] }, by decide +kernel⟩

theorem wit_PlansAndIssue_11 : ∃ (s : State) (n : Fin 8) (x : PlanItem) (xs : List PlanItem),
    s.off = false ∧ s.sizesOk = true ∧ s.tk.stepping = false ∧ (s.cuPort n).todo = x :: xs ∧ x.kind = 1 ∧ s.pxServed x.ctx s.frame = false :=
  ⟨(wCtx (wDev (wPort 3 {}) 4) 1 { mode := 1 }).modCu 0 fun _ => { todo := [{ idx := 0, ctx := 3, kind := 1, reflex := false, start := 25000 }] }, 0, { idx := 0, ctx := 3, kind := 1, reflex := false, start := 25000 }, [], by decide +kernel⟩

theorem wit_ContextCommands_1 : ∃ (s : State) (c : Fin 2048) (q : Req) (w : Word),
    s.Manages q ∧ s.pxState c = 1 ∧ (s.ctx c).enAt = none ∧ s.enableCode c = 0 :=
  ⟨wCtx wHost 1 {}, 3, none, 5, by decide +kernel⟩

theorem wit_ContextCommands_2 : ∃ (s : State) (c : Fin 2048) (q : Req) (w : Word),
    s.Manages q ∧ s.pxState c = 1 ∧ (s.ctx c).enAt = none ∧ s.enableCode c ≠ 0 :=
  ⟨(wCtx wHost 1 {}).put (F.pxBind_max_len 3) 63, 3, none, 5, by decide +kernel⟩

theorem wit_ContextCommands_3 : ∃ (s : State) (c : Fin 2048) (q : Req) (w : Word),
    s.Manages q ∧ s.pxState c = 2 :=
  ⟨wCtx (wDev (wPort 3 {}) 4) 1 { mode := 2 }, 3, none, 5, by decide +kernel⟩

theorem wit_ContextCommands_4 : ∃ (s : State) (c : Fin 2048) (q : Req) (w : Word),
    s.Manages q ∧ s.pxState c = 4 ∧ s.descFits c = true :=
  ⟨wCtx wHost 1 { mode := 4 }, 3, none, 5, by decide +kernel⟩

theorem wit_ContextCommands_5 : ∃ (s : State) (c : Fin 2048) (q : Req) (w : Word),
    s.Manages q ∧ s.sizesOk = true ∧ s.pxState c = 5 ∧ (s.port (s.pxPort c)).ctls.any (·.use == .clearHalt c (s.pxPipe c)) = false :=
  ⟨wCtx wHost 1 { mode := 5 }, 3, none, 5, by decide +kernel⟩

theorem wit_ContextCommands_6 : ∃ (s : State) (c : Fin 2048) (q : Req) (w : Word),
    s.Manages q :=
  ⟨(wCtx wHost 1 {}).put (F.pxCntD_discarded 3) 9, 3, none, 5, by decide +kernel⟩

theorem wit_ContextCommands_7 : ∃ (s : State) (c : Nat) (e : Nat),
    s.off = false ∧ (s.ctx c).disAt = none ∧ (s.ctx c).mode ≠ 6 ∧ (s.ctx c).enAt = some e ∧ s.reached e = true :=
  ⟨wCtx wHost 1 { enAt := some 0 }, 3, 0, by decide +kernel⟩

theorem wit_ContextCommands_8 : ∃ (s : State) (c : Nat) (d : Nat),
    s.off = false ∧ (s.ctx c).disAt = some d ∧ s.reached d = true :=
  ⟨wCtx wHost 1 { mode := 6, disAt := some 0 }, 3, 0, by decide +kernel⟩

theorem wit_AdmissionRegisters_1 : ∃ (s : State) (q : Req) (w : Word),
    s.Manages q ∧ 2000 ≤ w.toNat % 65536 ∧ w.toNat % 65536 ≤ 32000 :=
  ⟨wHost, none, 4000, by decide +kernel⟩

theorem wit_AdmissionRegisters_2 : ∃ (s : State),
    s.off = false ∧ s.flag F.cuRateCheck_done = false ∧ 2000 ≤ s.get F.cuRateCheck_rate ∧ s.get F.cuRateCheck_rate ≤ 32000 :=
  ⟨wHost.setReg R.cuRateCheck 4000, by decide +kernel⟩

theorem wit_AdmissionRegisters_3 : ∃ (s : State) (q : Req) (w : Word),
    s.Manages q ∧ 10 ≤ w.toNat % 256 ∧ w.toNat % 256 ≤ 90 :=
  ⟨wHost, none, 50, by decide +kernel⟩

theorem wit_AdmissionRegisters_4 : ∃ (s : State) (q : Req) (w : Word),
    s.Manages q ∧ (w.toNat % 256 < 10 ∨ 90 < w.toNat % 256) :=
  ⟨wHost, none, 91, by decide +kernel⟩

theorem wit_AdmissionRegisters_5 : ∃ (s : State) (n : Fin 8) (q : Req) (w : Word),
    s.Manages q ∧ n.val < s.nPorts ∧ 1000 ≤ w.toNat % 2 ^ 14 ∧ w.toNat % 2 ^ 14 ≤ 9000 :=
  ⟨wHost, 2, none, 4000, by decide +kernel⟩

theorem wit_AdmissionRegisters_6 : ∃ (s : State) (n : Fin 8) (q : Req) (w : Word),
    s.Manages q ∧ (w.toNat % 2 ^ 14 < 1000 ∨ 9000 < w.toNat % 2 ^ 14) :=
  ⟨wHost, 2, none, 999, by decide +kernel⟩

theorem wit_AdmissionRegisters_7 : ∃ (s : State) (q : Req) (w : Word),
    s.Manages q :=
  ⟨wHost, none, 0, by decide +kernel⟩

theorem wit_WorkEntryFetch_1 : ∃ (s : State) (g : Fin 16) (r : Fin 8),
    s.off = false ∧ s.sizesOk = true ∧ (s.gaOf g).rings.length = 8 ∧ s.fetches g r = true ∧ s.owed.any (fun o => o.1 == g.val) = false ∧
    (s.ring g r).reading = false ∧ s.entryAt g r (s.get (F.gaRingPos_fetch g r)) % 32 = 0 ∧ 32 ≤ s.pci.mrrs ∧
    s.readFits (s.entryAt g r (s.get (F.gaRingPos_fetch g r))) 32 = true :=
  ⟨wRing, 0, 0, by decide +kernel⟩

theorem wit_WorkEntryFetch_2 : ∃ (s : State) (g : Fin 16) (r : Fin 8),
    s.off = false ∧ s.sizesOk = true ∧ (s.gaOf g).rings.length = 8 ∧ (s.ring g r).reading = true ∧ (s.ring g r).stale = 0 ∧
    s.armed 0x09 0 = none ∧ s.armed 0x0A 0 = none :=
  ⟨wRing.modRing 0 0 fun x => { x with reading := true }, 0, 0, by decide +kernel⟩

theorem wit_WorkEntryFetch_3 : ∃ (s : State) (g : Fin 16) (r : Fin 8),
    s.off = false ∧ s.sizesOk = true ∧ (s.gaOf g).rings.length = 8 ∧ (s.ring g r).reading = true ∧ (s.ring g r).stale = 0 ∧
    s.armed 0x09 0 = none ∧ s.armed 0x0A 0 = none :=
  ⟨wRing.modRing 0 0 fun x => { x with reading := true }, 0, 0, by decide +kernel⟩

theorem wit_WorkEntryFetch_4 : ∃ (s : State) (g : Fin 16) (r : Fin 8) (b : List Byte),
    s.off = false ∧ s.sizesOk = true ∧ (s.gaOf g).rings.length = 8 ∧ (s.ring g r).reading = true ∧ (s.ring g r).stale = 0 ∧
    s.armed 0x09 0 = none ∧ s.armed 0x0A 0 = none ∧ s.armed 0x08 g = none ∧ s.fetches g r = true ∧ b.length = 32 ∧ byteAt b 0 = 7 ∧
    byteAt b 2 = lapOf (s.get (F.gaRingCtrl_log2_size g r)) (s.get (F.gaRingPos_fetch g r)) ∧ byteAt b 3 = 255 - byteAt b 2 ∧
    byteAt b 2 ≠ byteAt b 3 ∧ ({ g := g, r := r, i := s.get (F.gaRingPos_fetch g r), ent := b } : Work).shapely = true ∧
    ({ g := g, r := r, i := s.get (F.gaRingPos_fetch g r), ent := b } : Work).notBefore = false ∧ s.flips = [] ∧
    (s.get (F.fiInjCtrl_mode 1) = 0 ∨ s.get (F.fiInjCtrl_mode 1) = 3) ∧ (s.get (F.fiInjCtrl_mode 2) = 0 ∨ s.get (F.fiInjCtrl_mode 2) = 3) :=
  ⟨wRing.modRing 0 0 fun x => { x with reading := true }, 0, 0, wEnt [7, 0, 0, 255], by decide +kernel⟩

theorem wit_WorkEntryFetch_5 : ∃ (s : State) (g : Fin 16) (r : Fin 8) (b : List Byte) (w : Work),
    s.off = false ∧ s.sizesOk = true ∧ (s.gaOf g).rings.length = 8 ∧ (s.ring g r).reading = true ∧ (s.ring g r).stale = 0 ∧
    s.armed 0x09 0 = none ∧ s.armed 0x0A 0 = none ∧ s.armed 0x08 g = none ∧ s.fetches g r = true ∧ b.length = 32 ∧
    byteAt b 2 = lapOf (s.get (F.gaRingCtrl_log2_size g r)) (s.get (F.gaRingPos_fetch g r)) ∧ byteAt b 3 ≠ byteAt b 2 ∧
    w = { g := g, r := r, i := s.get (F.gaRingPos_fetch g r), ent := b } ∧ (w.shapely = false ∨ byteAt b 3 ≠ 255 - byteAt b 2) ∧
    s.flips = [] ∧ (s.get (F.fiInjCtrl_mode 1) = 0 ∨ s.get (F.fiInjCtrl_mode 1) = 3) ∧
    (s.get (F.fiInjCtrl_mode 2) = 0 ∨ s.get (F.fiInjCtrl_mode 2) = 3) :=
  ⟨wRing.modRing 0 0 fun x => { x with reading := true }, 0, 0, wEnt [9, 0, 0, 255], { g := 0, r := 0, i := 0, ent := wEnt [9, 0, 0, 255] }, by decide +kernel⟩

theorem wit_TransferEntries_1 : ∃ (s : State) (g : Fin 16) (r : Fin 8) (i : BitVec 16) (x : Work),
    s.off = false ∧ s.findWork g r i.toNat = some x ∧ x.loc = .gate ∧ x.remote = false ∧ s.violationOf x = 0 ∧ s.bulkRefusal x = none ∧
    (s.bulkQueue (s.workPlace x).1).length < 512 ∧ x.op = 1 :=
  ⟨(wXfer 3 (wEnt [1, 0x0C, 0, 255, 3, 0, 0, 0, 8])), 0, 0, 0, { g := 0, r := 0, i := 0, ent := wEnt [1, 0x0C, 0, 255, 3, 0, 0, 0, 8] }, by decide +kernel⟩

theorem wit_TransferEntries_2 : ∃ (s : State) (g : Fin 16) (r : Fin 8) (i : BitVec 16) (x : Work),
    s.off = false ∧ s.findWork g r i.toNat = some x ∧ x.loc = .gate ∧ x.remote = false ∧ s.violationOf x = 0 ∧ s.bulkRefusal x = none ∧
    (s.bulkQueue (s.workPlace x).1).length < 512 ∧ x.op = 2 ∧ x.bytes ≠ 0 ∧ x.indirect = true ∧ x.host % 4096 + 16 * x.nFrag ≤ 4096 ∧
    16 * x.nFrag ≤ s.pci.mrrs ∧ s.readFits x.host (16 * x.nFrag) = true ∧ s.dmaReady g = true ∧ s.owed.any (fun o => o.1 == g.val) = false :=
  ⟨(wXfer 4 (wEnt [2, 0x0E, 0, 255, 3, 0, 0, 0, 8, 0, 0, 0, 0, 0, 0, 0, 0, 0x10])), 0, 0, 0, { g := 0, r := 0, i := 0, ent := wEnt [2, 0x0E, 0, 255, 3, 0, 0, 0, 8, 0, 0, 0, 0, 0, 0, 0, 0, 0x10] }, by decide +kernel⟩

theorem wit_TransferEntries_3 : ∃ (s : State) (g : Fin 16) (r : Fin 8) (i : BitVec 16) (x : Work),
    s.off = false ∧ s.findWork g r i.toNat = some x ∧ x.loc = .gate ∧ x.remote = false ∧ s.violationOf x = 0 ∧ s.bulkRefusal x = none ∧
    (s.bulkQueue (s.workPlace x).1).length < 512 ∧ x.op = 2 ∧ x.bytes ≠ 0 ∧ x.indirect = false ∧ s.asleep = true :=
  ⟨((wXfer 4 (wEnt [2, 0x0C, 0, 255, 3, 0, 0, 0, 8]))).put F.cnStatus_state 2, 0, 0, 0, { g := 0, r := 0, i := 0, ent := wEnt [2, 0x0C, 0, 255, 3, 0, 0, 0, 8] }, by decide +kernel⟩

theorem wit_TransferEntries_4 : ∃ (s : State) (g : Fin 16) (r : Fin 8) (i : BitVec 16) (x : Work),
    s.off = false ∧ s.findWork g r i.toNat = some x ∧ x.loc = .gate ∧ x.remote = false ∧ s.violationOf x = 0 ∧ s.bulkRefusal x = none ∧
    (s.bulkQueue (s.workPlace x).1).length < 512 ∧ x.op = 3 ∧ x.outward = false :=
  ⟨(wXfer 3 (wEnt [3, 4, 0, 255, 0, 0x10, 0, 0, 0, 0, 0, 0, 0, 0, 0, 0, 0, 0, 0, 0, 0, 0, 0, 0, 0x80, 6, 0, 0, 0, 0, 8, 0])), 0, 0, 0, { g := 0, r := 0, i := 0, ent := wEnt [3, 4, 0, 255, 0, 0x10, 0, 0, 0, 0, 0, 0, 0, 0, 0, 0, 0, 0, 0, 0, 0, 0, 0, 0, 0x80, 6, 0, 0, 0, 0, 8, 0] }, by decide +kernel⟩

theorem wit_TransferEntries_5 : ∃ (s : State) (g : Fin 16) (r : Fin 8) (i : BitVec 16) (x : Work) (e : Nat × Nat),
    s.off = false ∧ s.findWork g r i.toNat = some x ∧ x.loc = .gate ∧ x.remote = false ∧ s.violationOf x = 0 ∧ s.bulkRefusal x = some e ∧
    x.op = 1 ∧ s.pipeAhead x = false :=
  ⟨(wXfer 6 (wEnt [1, 0x0C, 0, 255, 3, 0, 0, 0, 8])).put (F.gpDevState_state 0 1) 0, 0, 0, 0, { g := 0, r := 0, i := 0, ent := wEnt [1, 0x0C, 0, 255, 3, 0, 0, 0, 8] }, (10, 17), by decide +kernel⟩

theorem wit_TransferEntries_6 : ∃ (s : State) (g : Fin 16) (r : Fin 8) (i : BitVec 16) (x : Work) (e : Nat × Nat),
    s.off = false ∧ s.findWork g r i.toNat = some x ∧ x.loc = .gate ∧ x.remote = false ∧ s.violationOf x = 0 ∧ s.bulkRefusal x = some e ∧
    x.op = 2 ∧ s.pipeAhead x = false :=
  ⟨(wXfer 5 (wEnt [2, 0x0C, 0, 255, 3, 0, 0, 0, 8])).put (F.gpDevState_state 0 1) 0, 0, 0, 0, { g := 0, r := 0, i := 0, ent := wEnt [2, 0x0C, 0, 255, 3, 0, 0, 0, 8] }, (10, 17), by decide +kernel⟩

theorem wit_TransferEntries_7 : ∃ (s : State) (g : Fin 16) (r : Fin 8) (i : BitVec 16) (x : Work) (e : Nat × Nat),
    s.off = false ∧ s.findWork g r i.toNat = some x ∧ x.loc = .gate ∧ x.remote = false ∧ s.violationOf x = 0 ∧ s.bulkRefusal x = some e ∧
    x.op = 3 ∧ s.pipeAhead x = false :=
  ⟨(wXfer 3 (wEnt [3, 0x0C, 0, 255, 3, 0, 0, 0, 8, 0, 0, 0, 0, 0, 0, 0, 0, 0, 0, 0, 0, 0, 0, 0, 0x80, 6])), 0, 0, 0, { g := 0, r := 0, i := 0, ent := wEnt [3, 0x0C, 0, 255, 3, 0, 0, 0, 8, 0, 0, 0, 0, 0, 0, 0, 0, 0, 0, 0, 0, 0, 0, 0, 0x80, 6] }, (10, 18), by decide +kernel⟩

theorem wit_TransferEntries_8 : ∃ (s : State) (g : Fin 16) (r : Fin 8) (i : BitVec 16) (x : Work) (e : Nat × Nat),
    s.off = false ∧ s.findWork g r i.toNat = some x ∧ x.loc = .gate ∧ x.remote = false ∧ s.violationOf x = 0 ∧ s.bulkRefusal x = some e ∧
    x.op = 1 ∧ s.pipeAhead x = true :=
  ⟨{ (wXfer 6 (wEnt [1, 0x0C, 0, 255, 3, 0, 0, 0, 8])).put (F.gpDevState_state 0 1) 0 with work := [{ g := 0, r := 1, i := 4, ent := wEnt [1, 0x0C, 0, 255, 3, 0, 0, 0, 8], loc := .queued }, { g := 0, r := 0, i := 0, ent := wEnt [1, 0x0C, 0, 255, 3, 0, 0, 0, 8] }] }, 0, 0, 0, { g := 0, r := 0, i := 0, ent := wEnt [1, 0x0C, 0, 255, 3, 0, 0, 0, 8] }, (10, 17), by decide +kernel⟩

theorem wit_TransferEntries_9 : ∃ (s : State) (g : Fin 16) (r : Fin 8) (i : BitVec 16) (x : Work),
    s.off = false ∧ s.findWork g r i.toNat = some x ∧ x.stage = .table ∧ s.armed 0x09 0 = none ∧ s.armed 0x0A 0 = none ∧
    s.pipeAhead x = false ∧ s.readsOf (.fragTable g.val r.val i.toNat) < 2 :=
  ⟨wWork { g := 0, r := 0, i := 0, ent := wEnt [2, 0x0C, 0, 255, 3, 0, 0, 0, 8], stage := .table }, 0, 0, 0, { g := 0, r := 0, i := 0, ent := wEnt [2, 0x0C, 0, 255, 3, 0, 0, 0, 8], stage := .table }, by decide +kernel⟩

theorem wit_TransferEntries_10 : ∃ (s : State) (g : Fin 16) (r : Fin 8) (i : BitVec 16) (x : Work) (b : List Byte),
    s.off = false ∧ s.findWork g r i.toNat = some x ∧ x.stage = .table ∧ s.armed 0x09 0 = none ∧ s.armed 0x0A 0 = none ∧ x.op = 2 ∧
    (∀ y ∈ s.work, y.stage ≠ .wait) ∧ b.length = 16 * x.nFrag ∧
    firstBad (fragsOf b x.nFrag) (fun k f => f.2 == 0 || (k + 1 != (fragsOf b x.nFrag).length && f.2 % 8 != 0)) = none ∧
    sumOf ((fragsOf b x.nFrag).map (·.2)) = x.bytes ∧ firstBad (fragsOf b x.nFrag) (fun _ f => f.1 % 8 != 0) = none ∧
    s.readsOf (.fragTable g.val r.val i.toNat) < 2 :=
  ⟨wWork { g := 0, r := 0, i := 0, ent := wEnt [2, 0x0E, 0, 255, 3, 0, 0, 0, 8, 0, 0, 0, 0, 0, 0, 0, 0, 0x10], stage := .table }, 0, 0, 0, { g := 0, r := 0, i := 0, ent := wEnt [2, 0x0E, 0, 255, 3, 0, 0, 0, 8, 0, 0, 0, 0, 0, 0, 0, 0, 0x10], stage := .table }, [0, 0x20, 0, 0, 0, 0, 0, 0, 8, 0, 0, 0, 0, 0, 0, 0], by decide +kernel⟩

theorem wit_CatalogueEntries_1 : ∃ (s : State) (g : Fin 16) (r : Fin 8) (i : BitVec 16) (x : Work),
    s.off = false ∧ s.findWork g r i.toNat = some x ∧ x.loc = .gate ∧ x.remote = false ∧ s.violationOf x = 0 ∧ s.fenceOpen x = true ∧
    x.op = 4 ∧ (s.catInsert x.ctx x.catSched).1 = 0 :=
  ⟨(wXfer 1 (wEnt [4, 0, 0, 255, 3, 0, 0, 0, 0, 0, 0, 0, 0, 0, 0, 0, 0, 0, 1, 0, 1, 0])), 0, 0, 0, { g := 0, r := 0, i := 0, ent := wEnt [4, 0, 0, 255, 3, 0, 0, 0, 0, 0, 0, 0, 0, 0, 0, 0, 0, 0, 1, 0, 1, 0] }, by decide +kernel⟩

theorem wit_CatalogueEntries_2 : ∃ (s : State) (g : Fin 16) (r : Fin 8) (i : BitVec 16) (x : Work),
    s.off = false ∧ s.findWork g r i.toNat = some x ∧ x.loc = .gate ∧ x.remote = false ∧ s.violationOf x = 0 ∧ s.fenceOpen x = true ∧
    x.op = 4 ∧ s.editCode x.ctx x.catSched none ≠ 0 :=
  ⟨(wXfer 3 (wEnt [4, 0, 0, 255, 3, 0, 0, 0, 0, 0, 0, 0, 0, 0, 0, 0, 0, 0, 1, 0, 1, 0])), 0, 0, 0, { g := 0, r := 0, i := 0, ent := wEnt [4, 0, 0, 255, 3, 0, 0, 0, 0, 0, 0, 0, 0, 0, 0, 0, 0, 0, 1, 0, 1, 0] }, by decide +kernel⟩

theorem wit_CatalogueEntries_3 : ∃ (s : State) (g : Fin 16) (r : Fin 8) (i : BitVec 16) (x : Work) (e : CatEntry),
    s.off = false ∧ s.findWork g r i.toNat = some x ∧ x.loc = .gate ∧ x.remote = false ∧ s.violationOf x = 0 ∧ s.fenceOpen x = true ∧
    x.op = 5 ∧ s.catAt x.catIndex = some e ∧ e.until_ = none ∧ (s.pxKind e.ctx = 1 ∨ s.pxKind e.ctx = 2 ∨ s.pxKind e.ctx = 5) :=
  ⟨{ (wXfer 1 (wEnt [5, 0, 0, 255])) with cat := [(0, { ctx := 3, sched := ⟨0, 0, false⟩, cost := 100, reflexNs := 0, since := 0 })] }, 0, 0, 0, { g := 0, r := 0, i := 0, ent := wEnt [5, 0, 0, 255] }, { ctx := 3, sched := ⟨0, 0, false⟩, cost := 100, reflexNs := 0, since := 0 }, by decide +kernel⟩

theorem wit_CatalogueEntries_4 : ∃ (s : State) (g : Fin 16) (r : Fin 8) (i : BitVec 16) (x : Work) (e : CatEntry),
    s.off = false ∧ s.findWork g r i.toNat = some x ∧ x.loc = .gate ∧ x.remote = false ∧ s.violationOf x = 0 ∧ s.fenceOpen x = true ∧
    x.op = 6 ∧ s.catAt x.catIndex = some e ∧ (s.catModify x.catIndex x.catSched).1 = 0 :=
  ⟨{ (wXfer 1 (wEnt [6, 0, 0, 255, 0, 0, 0, 0, 0, 0, 0, 0, 0, 0, 0, 0, 0, 0, 1, 0, 1, 0])) with cat := [(0, { ctx := 3, sched := ⟨0, 0, false⟩, cost := 100, reflexNs := 0, since := 0 })] }, 0, 0, 0, { g := 0, r := 0, i := 0, ent := wEnt [6, 0, 0, 255, 0, 0, 0, 0, 0, 0, 0, 0, 0, 0, 0, 0, 0, 0, 1, 0, 1, 0] }, { ctx := 3, sched := ⟨0, 0, false⟩, cost := 100, reflexNs := 0, since := 0 }, by decide +kernel⟩

theorem wit_CatalogueEntries_5 : ∃ (s : State) (g : Fin 16) (r : Fin 8) (i : BitVec 16) (x : Work),
    s.off = false ∧ s.findWork g r i.toNat = some x ∧ x.loc = .gate ∧ x.remote = false ∧ s.violationOf x = 0 ∧ s.fenceOpen x = true ∧
    x.op = 5 ∧ s.catAt x.catIndex = none :=
  ⟨(wXfer 1 (wEnt [5, 0, 0, 255])), 0, 0, 0, { g := 0, r := 0, i := 0, ent := wEnt [5, 0, 0, 255] }, by decide +kernel⟩

theorem wit_CatalogueEntries_6 : ∃ (s : State) (g : Fin 16) (r : Fin 8) (i : BitVec 16) (x : Work),
    s.off = false ∧ s.findWork g r i.toNat = some x ∧ x.loc = .gate ∧ x.remote = false ∧ s.violationOf x = 0 ∧ s.fenceOpen x = true ∧
    x.op = 6 ∧ s.catAt x.catIndex = none :=
  ⟨(wXfer 1 (wEnt [6, 0, 0, 255, 0, 0, 0, 0, 0, 0, 0, 0, 0, 0, 0, 0, 0, 0, 1, 0, 1, 0])), 0, 0, 0, { g := 0, r := 0, i := 0, ent := wEnt [6, 0, 0, 255, 0, 0, 0, 0, 0, 0, 0, 0, 0, 0, 0, 0, 0, 0, 1, 0, 1, 0] }, by decide +kernel⟩

theorem wit_CatalogueEntries_7 : ∃ (s : State) (g : Fin 16) (r : Fin 8) (i : BitVec 16) (x : Work),
    s.off = false ∧ s.findWork g r i.toNat = some x ∧ x.loc = .gate ∧ x.remote = false ∧ s.fenceOpen x = true ∧ x.op = 7 :=
  ⟨wWork { g := 0, r := 0, i := 0, ent := wEnt [7, 0, 4, 251] }, 0, 0, 0, { g := 0, r := 0, i := 0, ent := wEnt [7, 0, 4, 251] }, by decide +kernel⟩

theorem wit_CatalogueEntries_8 : ∃ (s : State) (g : Fin 16) (r : Fin 8) (i : BitVec 16) (x : Work),
    s.off = false ∧ s.findWork g r i.toNat = some x ∧ x.loc = .gate ∧ x.remote = false ∧ s.fenceOpen x = true ∧ x.op = 7 ∧
    s.dmaReady g = false :=
  ⟨{ (wWork { g := 0, r := 0, i := 0, ent := wEnt [7, 0, 4, 251] }) with pci := {} }, 0, 0, 0, { g := 0, r := 0, i := 0, ent := wEnt [7, 0, 4, 251] }, by decide +kernel⟩

theorem wit_RingCommands_1 : ∃ (s : State) (g : Fin 16) (r : Fin 8) (q : Req) (w : Word),
    s.Manages q ∧ s.sizesOk = true ∧ (s.gaOf g).rings.length = 8 ∧ s.ringSt g r = 0 ∧ s.gal g = 1 ∧ 4 ≤ bitsOf w.toNat 24 4 ∧
    bitsOf w.toNat 24 4 ≤ 12 ∧ s.reg64 (R.gaRingBaseLo g r) % 64 = 0 ∧ s.reg64 (R.gaRingStatLo g r) % 4 = 0 :=
  ⟨(wRing.put (F.gaRingState_state 0 0) 0).put (F.gaRingStart_start 0 0) 17, 0, 0, none, 0x04000000, by decide +kernel⟩

theorem wit_RingCommands_2 : ∃ (s : State) (g : Fin 16) (r : Fin 8) (q : Req) (w : Word),
    s.Manages q ∧ s.ringSt g r = 0 ∧ s.gal g = 1 ∧
    (bitsOf w.toNat 24 4 < 4 ∨ 12 < bitsOf w.toNat 24 4 ∨ s.reg64 (R.gaRingBaseLo g r) % 64 ≠ 0 ∨ s.reg64 (R.gaRingStatLo g r) % 4 ≠ 0) :=
  ⟨wRing.put (F.gaRingState_state 0 0) 0, 0, 0, none, 0x03000000, by decide +kernel⟩

theorem wit_RingCommands_3 : ∃ (s : State) (g : Fin 16) (r : Fin 8) (q : Req) (w : Word),
    s.Manages q ∧ s.sizesOk = true ∧ (s.gaOf g).rings.length = 8 ∧ s.ringSt g r = 1 :=
  ⟨wWork { g := 0, r := 0, i := 0, ent := wEnt [7, 0, 4, 251] }, 0, 0, none, 0, by decide +kernel⟩

theorem wit_RingCommands_4 : ∃ (s : State) (g : Fin 16) (r : Fin 8),
    s.off = false ∧ s.sizesOk = true ∧ (s.gaOf g).rings.length = 8 ∧ s.ringSt g r = 2 ∧ s.ringQuiet g r = true ∧
    s.flag (F.gaRingResume_valid g r) = false :=
  ⟨wRing.put (F.gaRingState_state 0 0) 2, 0, 0, by decide +kernel⟩

theorem wit_RingCommands_5 : ∃ (s : State) (g : Fin 16) (q : Req) (w : Word),
    s.Manages q ∧ s.sizesOk = true ∧ s.flag (F.gaEvtStatus_running g) = false ∧ s.gal g ≠ 0 ∧ 4 ≤ bitsOf w.toNat 24 4 ∧
    bitsOf w.toNat 24 4 ≤ 12 ∧ s.reg64 (R.gaEvtBaseLo g) % 16 = 0 ∧ s.reg64 (R.gaEvtHeadLo g) % 4 = 0 ∧ s.reg64 (R.gaEvtTailLo g) % 4 = 0 :=
  ⟨wRing, 0, none, 0x04000000, by decide +kernel⟩

theorem wit_RingCommands_6 : ∃ (s : State) (g : Fin 16) (q : Req) (w : Word),
    s.Manages q ∧ s.sizesOk = true ∧ s.flag (F.gaEvtStatus_running g) = true :=
  ⟨wRing.put (F.gaEvtStatus_running 0) 1, 0, none, 0, by decide +kernel⟩

theorem wit_RingCommands_7 : ∃ (s : State) (g : Fin 16) (b : List Byte),
    s.off = false ∧ s.sizesOk = true ∧ (s.evr g).wantTail = 2 ∧ (s.evr g).staleTail = 0 ∧ (s.evr g).wait = [] ∧ (s.evr g).lostAt = none ∧
    s.armed 0x09 0 = none ∧ s.armed 0x0A 0 = none :=
  ⟨(wRing.put (F.gaEvtStatus_running 0) 1).modEv 0 fun e => { e with wantTail := 2 }, 0, [5, 1, 0, 0], by decide +kernel⟩

theorem wit_RingCommands_8 : ∃ (s : State) (g : Fin 16),
    s.off = false ∧ s.sizesOk = true ∧ (s.evr g).wantTail = 2 ∧ (s.evr g).staleTail = 0 ∧ s.armed 0x09 0 = none ∧ s.armed 0x0A 0 = none :=
  ⟨(wRing.put (F.gaEvtStatus_running 0) 1).modEv 0 fun e => { e with wantTail := 2 }, 0, by decide +kernel⟩

theorem wit_RingCommands_9 : ∃ (s : State) (g : Fin 16) (b : List Byte),
    s.off = false ∧ s.sizesOk = true ∧ (s.evr g).wantHead = true ∧ (s.evr g).staleHead = 0 ∧ (s.evr g).wait = [] ∧
    (s.evr g).lostAt = none ∧ s.armed 0x09 0 = none ∧ s.armed 0x0A 0 = none :=
  ⟨(wRing.put (F.gaEvtStatus_running 0) 1).modEv 0 fun e => { e with wantHead := true }, 0, [5, 1, 0, 0], by decide +kernel⟩

theorem wit_BulkWindow_1 : ∃ (s : State) (n : Fin 8) (g : Fin 16) (r : Fin 8) (i : BitVec 16) (x : Work) (h : Nat),
    s.off = false ∧ s.findWork g r i.toNat = some x ∧ x.loc = .queued ∧ (s.workPlace x).1 = n ∧ x.level < 4 ∧
    bitsOf (s.reg R.cuAgeCfg0).toNat (8 * x.level) 8 = h ∧ h ≠ 0 ∧ h ≤ (s.frame + 2 ^ 32 - x.since) % 2 ^ 32 :=
  ⟨{ ((wWork { g := 0, r := 0, i := 0, ent := wEnt [1, 0x0C, 0, 255, 3, 0, 0, 0, 8], loc := .queued, level := 3 }).setReg R.cuAgeCfg0 0x05050505).put F.tkFrameNum_frame 9 with stamps := 4 }, 0, 0, 0, 0, { g := 0, r := 0, i := 0, ent := wEnt [1, 0x0C, 0, 255, 3, 0, 0, 0, 8], loc := .queued, level := 3 }, 5, by decide +kernel⟩

theorem wit_BulkWindow_2 : ∃ (s : State) (n : Fin 8) (a u : Nat),
    s.off = false ∧ s.sizesOk = true ∧ s.tk.stepping = false ∧ s.bulkOpen n = true ∧ s.bulkQueue n = [] ∧ (s.cuPort n).reflexes = [] ∧
    (s.port n).svc = [.probe a u] ∧ s.isRanged n a = true ∧ newer s.frame u = false ∧ s.pipeBusy n a 0 = false ∧ s.tagFree n = true ∧
    s.fits n a 0 (packetNs false 16) 136 = true ∧ s.flips = [] ∧ (s.get (F.fiInjCtrl_mode 1) = 0 ∨ s.get (F.fiInjCtrl_mode 1) = 3) ∧
    (s.get (F.fiInjCtrl_mode 2) = 0 ∨ s.get (F.fiInjCtrl_mode 2) = 3) :=
  ⟨{ wDev (wPort 3 { svc := [.probe 1 5] }) 4 with tk := { boundary := 1000000, time := 1000010 } }, 0, 1, 5, by decide +kernel⟩

theorem wit_HostMemoryReads_1 : ∃ (s : State) (c : Fin 2048) (v : Event) (b : List Byte),
    s.off = false ∧ s.sizesOk = true ∧ s.pxGal c < 16 ∧ (s.evr (s.pxGal c)).wait = [v] ∧ v.ctx = c ∧ v.flushed = false ∧ v.fwds = [] ∧
    v.ring = true ∧ (s.evr (s.pxGal c)).lostAt = none ∧ s.evRunning (s.pxGal c) = true ∧ s.evLooksFull (s.pxGal c) = false ∧
    s.armed 0x09 0 = none ∧ s.armed 0x0A 0 = none :=
  ⟨((wRing.put (F.gaEvtStatus_running 0) 1).put (F.gaEvtCtrl_log2_size 0) 4).modEv 0 fun e => { e with wait := [{ typ := 1, flags := 0, ctx := 3, port := 0, addr := 1, pipe := 2, quality := 0, frame := 9, payload := [1, 2], flushed := false }] }, 3, { typ := 1, flags := 0, ctx := 3, port := 0, addr := 1, pipe := 2, quality := 0, frame := 9, payload := [1, 2], flushed := false }, [], by decide +kernel⟩

theorem wit_HostMemoryReads_2 : ∃ (s : State) (c : Fin 2048) (v : Event),
    s.off = false ∧ s.sizesOk = true ∧ s.pxGal c < 16 ∧ (s.evr (s.pxGal c)).wait = [v] ∧ v.ctx = c ∧ v.flushed = false ∧ v.fwds = [] ∧
    v.ring = true ∧ s.evRunning (s.pxGal c) = false ∧ s.armed 0x09 0 = none ∧ s.armed 0x0A 0 = none :=
  ⟨wRing.modEv 0 fun e => { e with wait := [{ typ := 1, flags := 0, ctx := 3, port := 0, addr := 1, pipe := 2, quality := 0, frame := 9, payload := [1, 2], flushed := false }] }, 3, { typ := 1, flags := 0, ctx := 3, port := 0, addr := 1, pipe := 2, quality := 0, frame := 9, payload := [1, 2], flushed := false }, by decide +kernel⟩

theorem wit_HostMemoryReads_3 : ∃ (s : State) (c : Fin 2048) (b : List Byte),
    s.off = false ∧ (s.ctx c).reading = true ∧ (s.ctx c).wantDev = false ∧ s.pxKind c ≠ 2 ∧ (s.ctx c).wait = [] ∧ s.armed 0x09 0 = none ∧
    s.armed 0x0A 0 = none ∧ s.readsOf (.swIndex c.val) < 2 :=
  ⟨wCtx wHost 1 { mode := 2, reading := true, swBad := true }, 3, [5, 1, 0, 0], by decide +kernel⟩

theorem wit_HostMemoryReads_4 : ∃ (s : State) (c : Fin 2048),
    s.off = false ∧ (s.ctx c).reading = true ∧ (s.ctx c).wantDev = false ∧ (s.ctx c).wait = [] ∧ s.armed 0x09 0 = none ∧
    s.armed 0x0A 0 = none ∧ s.readsOf (.swIndex c.val) < 2 :=
  ⟨wCtx wHost 1 { mode := 2, reading := true }, 3, by decide +kernel⟩

theorem wit_HostMemoryReads_5 : ∃ (s : State) (c : Fin 2048) (f : Nat),
    s.off = false ∧ (s.ctx c).outRead = some f ∧ s.armed 0x09 0 = none ∧ s.armed 0x0A 0 = none ∧ s.readsOf (.outRing c.val) < 2 :=
  ⟨wCtx wHost 2 { mode := 2, outRead := some 4 }, 3, 4, by decide +kernel⟩

theorem wit_HostMemoryReads_6 : ∃ (s : State) (c : Fin 2048) (f : Nat) (b : List Byte),
    s.off = false ∧ (s.ctx c).outRead = some f ∧ (s.ctx c).slots = [] ∧ s.streamOpen c = false ∧
    s.slotDiscarded c (if s.cutoff = nextFrame s.frame then (s.frame + 2) % 2 ^ 32 else nextFrame s.frame) (fit (64 * s.stride c) b) (s.ctx c).again = false ∧
    s.armed 0x09 0 = none ∧ s.armed 0x0A 0 = none ∧ s.readsOf (.outRing c.val) < 2 :=
  ⟨wCtx wHost 2 { mode := 2, outRead := some 4 }, 3, 4, [1, 2], by decide +kernel⟩

theorem wit_MoverCommands_1 : ∃ (s : State) (c : Fin 8) (q : Req) (w : Word),
    s.Manages q ∧ s.sizesOk = true ∧ w.getLsbD 0 = true ∧ w.getLsbD 30 = false ∧ s.chManager c = true ∧ s.chSt c = 0 :=
  ⟨(wMv 0 {}).put (F.mvChHead_addr 2) 0x1234, 2, none, 1, by decide +kernel⟩

theorem wit_MoverCommands_2 : ∃ (s : State) (c : Fin 8) (q : Req) (w : Word),
    s.Manages q ∧ w.getLsbD 31 = false ∧ s.chManager c = true ∧ s.chSt c = 1 :=
  ⟨wMv 1 {}, 2, none, 1, by decide +kernel⟩

theorem wit_MoverCommands_3 : ∃ (s : State) (c : Fin 8) (q : Req) (w : Word),
    s.Manages q ∧ w.getLsbD 0 = true ∧ w.getLsbD 30 = false ∧ w.getLsbD 31 = false ∧ s.chSt c = 0 ∧ s.chManager c = false ∧
    (List.range 8).any (fun k => k != c.val && !s.chManager k) = true ∧ (∀ x ∈ s.work, x.stage ≠ .wait) :=
  ⟨wHost, 2, none, 1, by decide +kernel⟩

theorem wit_MoverCommands_4 : ∃ (s : State) (c : Fin 8) (q : Req) (w : Word),
    s.Manages q ∧ w.getLsbD 0 = true ∧ w.getLsbD 30 = false ∧ w.getLsbD 31 = false ∧ s.chSt c = 0 ∧ s.chManager c = false ∧
    (List.range 8).any (fun k => k != c.val && !s.chManager k) = false :=
  ⟨forEach [0, 1, 3, 4, 5, 6, 7] wHost fun s k => s.put (F.mvChCtrl_owner k) 1, 2, none, 1, by decide +kernel⟩

theorem wit_MoverCommands_5 : ∃ (s : State) (c : Fin 8) (q : Req) (w : Word),
    s.Manages q ∧ w.getLsbD 0 = false ∧ w.getLsbD 30 = false ∧ w.getLsbD 31 = false ∧ s.chSt c = 0 ∧ s.chManager c = true ∧
    (∀ x ∈ s.work, x.stage ≠ .wait) :=
  ⟨wMv 0 {}, 2, none, 0, by decide +kernel⟩

theorem wit_MoverCommands_6 : ∃ (s : State) (q : Req) (w : Word),
    s.Manages q :=
  ⟨wHost.setReg R.mvErrCnt 7, none, 0, by decide +kernel⟩

theorem wit_MoverCommands_7 : ∃ (s : State) (c : Fin 8) (d : Desc),
    s.off = false ∧ s.sizesOk = true ∧ s.chManager c = true ∧ (s.chSt c = 1 ∨ s.chSt c = 2) ∧ (s.chan c).phase = 0 ∧
    (s.chan c).desc = none ∧ (s.get (F.fiInjCtrl_mode 1) = 0 ∨ s.get (F.fiInjCtrl_mode 1) = 3) ∧
    (s.get (F.fiInjCtrl_mode 2) = 0 ∨ s.get (F.fiInjCtrl_mode 2) = 3) ∧ descOf (s.ramBytes (s.get (F.mvChState_desc c)) 32) = d ∧
    d.check ≠ 0 ∧ d.last = true ∧ s.flips = [] :=
  ⟨(wMv 1 {}).setRamBytes 0x114 [16], 2, { src := 0, dst := 0, len := 0, ctl := 16 }, by decide +kernel⟩

theorem wit_MoverCommands_8 : ∃ (s : State) (c : Fin 8) (d : Desc),
    s.off = false ∧ s.sizesOk = true ∧ s.chManager c = true ∧ (s.chSt c = 1 ∨ s.chSt c = 2) ∧ (s.chan c).phase = 0 ∧
    (s.chan c).desc = none ∧ (s.get (F.fiInjCtrl_mode 1) = 0 ∨ s.get (F.fiInjCtrl_mode 1) = 3) ∧
    (s.get (F.fiInjCtrl_mode 2) = 0 ∨ s.get (F.fiInjCtrl_mode 2) = 3) ∧ descOf (s.ramBytes (s.get (F.mvChState_desc c)) 32) = d ∧
    d.check = 0 ∧ d.srcHost = false ∧ d.dstHost = false ∧ d.dstFixed = false ∧ s.flips = [] :=
  ⟨((wMv 1 {}).setRamBytes 0x100 [0, 8, 0, 0, 0, 0, 0, 0, 0, 9, 0, 0, 0, 0, 0, 0, 16, 0, 0, 0, 16]).setRamBytes 0x800 [1, 2, 3, 4, 5, 6, 7, 8, 9], 2, { src := 0x800, dst := 0x900, len := 16, ctl := 16 }, by decide +kernel⟩

theorem wit_MoverCommands_9 : ∃ (s : State) (c : Fin 8) (d : Desc),
    s.off = false ∧ s.sizesOk = true ∧ s.chManager c = true ∧ (s.chSt c = 1 ∨ s.chSt c = 2) ∧ (s.chan c).phase = 0 ∧
    (s.chan c).desc = none ∧ (s.get (F.fiInjCtrl_mode 1) = 0 ∨ s.get (F.fiInjCtrl_mode 1) = 3) ∧
    (s.get (F.fiInjCtrl_mode 2) = 0 ∨ s.get (F.fiInjCtrl_mode 2) = 3) ∧ descOf (s.ramBytes (s.get (F.mvChState_desc c)) 32) = d ∧
    d.check = 0 ∧ d.srcHost = false ∧ d.dstHost = false ∧ d.dstFixed = false ∧ d.srcFixed = false ∧
    (d.src + d.len ≤ d.dst ∨ d.dst + d.len ≤ d.src) ∧ s.flips = [] :=
  ⟨((wMv 1 {}).setRamBytes 0x100 [0, 8, 0, 0, 0, 0, 0, 0, 0, 9, 0, 0, 0, 0, 0, 0, 16, 0, 0, 0, 16]).setRamBytes 0x800 [1, 2, 3, 4, 5, 6, 7, 8, 9], 2, { src := 0x800, dst := 0x900, len := 16, ctl := 16 }, by decide +kernel⟩

theorem wit_MoverCommands_10 : ∃ (s : State) (c : Fin 8) (d : Desc),
    s.off = false ∧ s.sizesOk = true ∧ s.chManager c = true ∧ (s.chSt c = 1 ∨ s.chSt c = 2) ∧ (s.chan c).phase = 0 ∧
    (s.chan c).desc = none ∧ (s.get (F.fiInjCtrl_mode 1) = 0 ∨ s.get (F.fiInjCtrl_mode 1) = 3) ∧
    (s.get (F.fiInjCtrl_mode 2) = 0 ∨ s.get (F.fiInjCtrl_mode 2) = 3) ∧ descOf (s.ramBytes (s.get (F.mvChState_desc c)) 32) = d ∧
    d.check = 0 ∧ d.srcHost = true ∧ d.srcFixed = false ∧ s.flips = [] :=
  ⟨(wMv 1 {}).setRamBytes 0x100 [0, 8, 0, 0, 0, 0, 0, 0, 0, 9, 0, 0, 0, 0, 0, 0, 16, 0, 0, 0, 17], 2, { src := 0x800, dst := 0x900, len := 16, ctl := 17 }, by decide +kernel⟩

theorem wit_MoverCommands_11 : ∃ (s : State) (c : Fin 8) (d : Desc) (a k : Nat) (rest : List (Nat × Nat)) (b : List Byte),
    s.off = false ∧ s.sizesOk = true ∧ s.chManager c = true ∧ (s.chan c).stale = 0 ∧ (s.chan c).work = none ∧ (s.chan c).desc = some d ∧
    (s.chan c).outs = (a, k) :: rest ∧ d.dstFixed = false ∧ b.length = k ∧ s.armed 0x09 0 = none ∧ s.armed 0x0A 0 = none :=
  ⟨wMv 1 { desc := some { src := 0x800, dst := 0x900, len := 16, ctl := 17 }, phase := 1, outs := [(0x800, 8), (0x808, 8)], moved := 0 }, 2, { src := 0x800, dst := 0x900, len := 16, ctl := 17 }, 0x800, 8, [(0x808, 8)], [1, 2, 3, 4, 5, 6, 7, 8], by decide +kernel⟩

theorem wit_MoverCommands_12 : ∃ (s : State) (c : Fin 8) (d : Desc) (a k : Nat) (rest : List (Nat × Nat)),
    s.off = false ∧ s.sizesOk = true ∧ s.chManager c = true ∧ (s.chan c).stale = 0 ∧ (s.chan c).desc = some d ∧
    (s.chan c).outs = (a, k) :: rest ∧ d.last = true ∧ d.pulse = 0 ∧ s.armed 0x09 0 = none ∧ s.armed 0x0A 0 = none :=
  ⟨wMv 1 { desc := some { src := 0x800, dst := 0x900, len := 16, ctl := 17 }, phase := 1, outs := [(0x800, 8), (0x808, 8)], moved := 0 }, 2, { src := 0x800, dst := 0x900, len := 16, ctl := 17 }, 0x800, 8, [(0x808, 8)], by decide +kernel⟩

theorem wit_MoverCommands_13 : ∃ (s : State) (c : Fin 8) (d : Desc) (r : HostRes),
    s.off = false ∧ s.sizesOk = true ∧ s.chManager c = true ∧ (s.chSt c = 1 ∨ s.chSt c = 2) ∧ (s.chan c).phase = 2 ∧
    (s.chan c).desc = some d ∧ d.dstHost = false ∧ d.last = true ∧ d.pulse = 0 ∧ (s.chan c).outs = [] ∧
    (s.get (F.fiInjCtrl_mode 1) = 0 ∨ s.get (F.fiInjCtrl_mode 1) = 3) ∧ (s.get (F.fiInjCtrl_mode 2) = 0 ∨ s.get (F.fiInjCtrl_mode 2) = 3) ∧
    s.flips = [] :=
  ⟨wMv 1 { desc := some { src := 0x800, dst := 0x900, len := 16, ctl := 16 }, phase := 2, moved := 16 }, 2, { src := 0x800, dst := 0x900, len := 16, ctl := 16 }, .data [], by decide +kernel⟩

theorem wit_RoutingTable_1 : ∃ (s : State) (q : Req) (w : Word),
    s.Manages q ∧ s.routeCode s.routeData = 0 ∧ w.getLsbD 29 = false ∧ w.getLsbD 30 = false :=
  ⟨((wHost.setReg (R.coRouteData 0) 0xB3E00880).setReg (R.coRouteData 2) 0xFC000000).put F.coRouteIdx_index 9, none, 1, by decide +kernel⟩

theorem wit_RoutingTable_2 : ∃ (s : State) (q : Req) (w : Word),
    s.Manages q ∧ s.routeCode s.routeData ≠ 0 ∧ w.getLsbD 29 = false ∧ w.getLsbD 30 = false :=
  ⟨wHost.setReg (R.coRouteData 0) 0x83E00880, none, 1, by decide +kernel⟩

theorem wit_RoutingTable_3 : ∃ (s : State) (q : Req) (w : Word) (ws : List Nat),
    s.Manages q ∧ w.getLsbD 29 = false ∧ w.getLsbD 31 = false ∧ s.route (s.get F.coRouteIdx_index) = ws ∧ ws.length = 8 :=
  ⟨wHost.setRoute 0 [1, 2, 3, 4, 5, 6, 7, 8], none, 1, [1, 2, 3, 4, 5, 6, 7, 8], by decide +kernel⟩

theorem wit_RoutingTable_4 : ∃ (s : State) (q : Req) (w : Word),
    s.Manages q ∧ w.getLsbD 30 = false ∧ w.getLsbD 31 = false :=
  ⟨wHost.setRoute 0 [0x80000001, 2, 3, 4, 5, 6, 7, 8], none, 1, by decide +kernel⟩

theorem wit_RoutingTable_5 : ∃ (s : State) (q : Req) (w : Word),
    s.Manages q :=
  ⟨wHost.setReg R.coFwdCnt 9, none, 1, by decide +kernel⟩

theorem wit_RoutingTable_6 : ∃ (s : State) (q : Req) (w : Word),
    s.Manages q :=
  ⟨wHost.put F.coPwerrStatus_total 9, none, 1, by decide +kernel⟩

theorem wit_SpanMessages_1 : ∃ (s : State) (m : Fin 4) (x : SpanPkt),
    s.off = false ∧ s.sizesOk = true ∧ (s.spanPort m).inbox.find? (isEvt 1) = some x ∧ s.chip ≠ 62 ∧ x.dst < 64 ∧
    s.ownsPort (byteAt x.payload 12 / 32) = true ∧ s.link (byteAt x.payload 12 / 32) ≠ 3 :=
  ⟨wSpan { typ := 3, vc := 2, dst := 5, src := 7, tsd := leBytes 8 1, payload := [1, 2, 3, 4, 5, 6, 7, 8, 0, 7, 0, 1, 34, 4, 9, 0, 1, 2] }, 1, { typ := 3, vc := 2, dst := 5, src := 7, tsd := leBytes 8 1, payload := [1, 2, 3, 4, 5, 6, 7, 8, 0, 7, 0, 1, 34, 4, 9, 0, 1, 2] }, by decide +kernel⟩

theorem wit_SpanMessages_2 : ∃ (s : State) (m : Fin 4) (x : SpanPkt) (n a p c : Nat),
    s.off = false ∧ s.sizesOk = true ∧ (s.spanPort m).inbox.find? (isEvt 1) = some x ∧ s.chip ≠ 62 ∧ byteAt x.payload 12 / 32 = n ∧
    byteAt x.payload 13 % 64 = a ∧ byteAt x.payload 12 % 16 = p ∧ n < s.nPorts ∧ s.link n = 3 ∧ s.reflexCtx n a p = some c ∧
    s.isRanged n a = true ∧ (x.payload.drop 16).length ≤ s.pxMax c ∧ s.reflexWait c = [] ∧ (s.cuPort n).later = [] :=
  ⟨((wCtx (wDev ((wSpan { typ := 3, vc := 2, dst := 5, src := 7, tsd := leBytes 8 1, payload := [1, 2, 3, 4, 5, 6, 7, 8, 0, 7, 0, 1, 2, 1, 9, 0, 1, 2] }).put (F.gpLinkStatus_state 0) 3) 4) 2 { mode := 2 }).put (F.pxBind_reflex_target 3) 1), 1, { typ := 3, vc := 2, dst := 5, src := 7, tsd := leBytes 8 1, payload := [1, 2, 3, 4, 5, 6, 7, 8, 0, 7, 0, 1, 2, 1, 9, 0, 1, 2] }, 0, 1, 2, 3, by decide +kernel⟩

theorem wit_SpanMessages_3 : ∃ (s : State) (m : Fin 4) (x : SpanPkt) (g : Fin 16),
    s.off = false ∧ s.sizesOk = true ∧ (s.spanPort m).inbox.find? (isEvt 2) = some x ∧ byteAt x.payload 12 % 16 = g ∧
    s.flag F.coCtrl_routes_enable = false ∧ s.evFull g = false ∧ (s.evr g).wait = [] ∧ (s.evr g).lostAt = none ∧ s.evLooksFull g = false :=
  ⟨(((((wSpan { typ := 3, vc := 2, dst := 5, src := 7, tsd := leBytes 8 2, payload := [1, 2, 3, 4, 5, 6, 7, 8, 0, 7, 0, 1, 0, 0, 9, 0, 1, 2] }).put F.coCtrl_routes_enable 0).put (F.gaStatus_state 0) 1).put (F.gaEvtStatus_running 0) 1).put (F.gaEvtStatus_full 0) 0).put (F.gaEvtCtrl_log2_size 0) 4 |> fun s => ({ s with pci := { busMaster := true } } : State), 1, { typ := 3, vc := 2, dst := 5, src := 7, tsd := leBytes 8 2, payload := [1, 2, 3, 4, 5, 6, 7, 8, 0, 7, 0, 1, 0, 0, 9, 0, 1, 2] }, 0, by decide +kernel⟩

theorem wit_SpanMessages_4 : ∃ (s : State) (m : Fin 4) (x : SpanPkt),
    s.Awake ∧ s.sizesOk = true ∧ (s.spanPort m).inbox.find? (isEvt 3) = some x ∧ s.rg.latched = false ∧ s.flag F.rgStatus_held = false ∧
    s.flag F.rgCtrl_keep = true ∧ s.phase ≠ 0 :=
  ⟨(wSpan { typ := 3, vc := 2, dst := 5, src := 7, tsd := leBytes 8 3, payload := [7, 0, 0, 0, 0, 0, 0, 0] }).put F.rgCtrl_keep 1, 1, { typ := 3, vc := 2, dst := 5, src := 7, tsd := leBytes 8 3, payload := [7, 0, 0, 0, 0, 0, 0, 0] }, by decide +kernel⟩

theorem wit_SpanMessages_5 : ∃ (s : State) (m : Fin 4) (x : SpanPkt),
    s.off = false ∧ s.sizesOk = true ∧ (s.spanPort m).inbox.find? (isEvt 4) = some x :=
  ⟨wSpan { typ := 3, vc := 2, dst := 5, src := 7, tsd := leBytes 8 4, payload := [3, 0, 2, 1, 9, 0, 4, 0, 0, 0, 0, 0, 0, 0, 0, 0] }, 1, { typ := 3, vc := 2, dst := 5, src := 7, tsd := leBytes 8 4, payload := [3, 0, 2, 1, 9, 0, 4, 0, 0, 0, 0, 0, 0, 0, 0, 0] }, by decide +kernel⟩

theorem wit_RemoteAccess_1 : ∃ (s : State) (g : Fin 16) (r : Fin 8) (i : BitVec 16) (x : Work) (k : Nat),
    s.off = false ∧ s.sizesOk = true ∧ s.findWork g r i.toNat = some x ∧ s.remoteReady x = true ∧ s.flag F.coCtrl_remote_enable = true ∧
    lowestFree 1024 (s.co.rems.map (·.tag)) = some k ∧ s.armed 0x0C 0xFF = none ∧ x.chip ≠ s.chip ∧ s.chip ≠ 62 ∧
    (s.routeTo x.chip).isSome = true :=
  ⟨{ ((wSpan { typ := 0, vc := 0, dst := 0, src := 0 }).put F.coCtrl_remote_enable 1) with work := [{ g := 0, r := 0, i := 0, ent := wEnt [1, 0, 0, 255, 3, 0, 0, 0x87, 8], loc := .remote }] }, 0, 0, 0, { g := 0, r := 0, i := 0, ent := wEnt [1, 0, 0, 255, 3, 0, 0, 0x87, 8], loc := .remote }, 0, by decide +kernel⟩

theorem wit_RemoteAccess_2 : ∃ (s : State) (m : Fin 4) (x : SpanPkt),
    s.off = false ∧ s.sizesOk = true ∧ (s.spanPort m).inbox.find? (fun p => p.typ == 1) = some x ∧ byteAt x.tsd 6 = 0 ∧
    byteAt x.tsd 7 = 1 ∧ s.flag F.coCtrl_remote_enable = false :=
  ⟨(wSpan { typ := 1, vc := 0, dst := 5, src := 7, tsd := [0, 0, 1, 2, 255, 255, 0, 1], payload := leBytes 32 0 }).put F.coCtrl_remote_enable 0, 1, { typ := 1, vc := 0, dst := 5, src := 7, tsd := [0, 0, 1, 2, 255, 255, 0, 1], payload := leBytes 32 0 }, by decide +kernel⟩

theorem wit_RemoteAccess_3 : ∃ (s : State) (m : Fin 4) (x : SpanPkt) (j : Nat),
    s.off = false ∧ s.sizesOk = true ∧ (s.spanPort m).inbox.find? (fun p => p.typ == 1) = some x ∧ byteAt x.tsd 6 = 0 ∧
    byteAt x.tsd 7 = 1 ∧ s.flag F.coCtrl_remote_enable = true ∧ s.chip ≠ 62 ∧ x.src ≠ 63 ∧ s.routeTo x.src = some j ∧ j < 4 ∧
    s.remoteMap x.src (byteAt x.tsd 3 % 16) = none :=
  ⟨(wSpan { typ := 1, vc := 0, dst := 5, src := 7, tsd := [0, 0, 1, 2, 255, 255, 0, 1], payload := leBytes 32 0 }).put F.coCtrl_remote_enable 1, 1, { typ := 1, vc := 0, dst := 5, src := 7, tsd := [0, 0, 1, 2, 255, 255, 0, 1], payload := leBytes 32 0 }, 1, by decide +kernel⟩

theorem wit_RemoteAccess_4 : ∃ (s : State) (m : Fin 4) (x : SpanPkt) (j lg k : Nat) (w : Work),
    s.off = false ∧ s.sizesOk = true ∧ (s.spanPort m).inbox.find? (fun p => p.typ == 1) = some x ∧ byteAt x.tsd 6 = 0 ∧
    byteAt x.tsd 7 = 1 ∧ s.flag F.coCtrl_remote_enable = true ∧ s.chip ≠ 62 ∧ x.src ≠ 63 ∧ s.routeTo x.src = some j ∧ j < 4 ∧
    s.remoteMap x.src (byteAt x.tsd 3 % 16) = some lg ∧ leAt x.tsd 4 2 = 0xFFFF ∧
    w = ({ g := lg, r := 8, i := 0, ent := ({ src := x.src, tag := leAt x.tsd 0 2, op := byteAt x.tsd 2, gal := byteAt x.tsd 3 % 16, ticket := leAt x.tsd 4 2, seg0 := x.payload, data := [] } : Request).entry, loc := .queued, level := byteAt x.payload 8 % 8, since := s.frame, stamp := s.stamps } : Work) ∧
    (w.op = 1 ∨ w.op = 3) ∧ w.outward = false ∧ byteAt x.tsd 2 = w.op ∧ s.violationOf w = 0 ∧ s.bulkRefusal w = none ∧
    (s.bulkQueue (s.workPlace w).1).length < 512 ∧ lowestFree 256 (s.co.tickets.map (·.num)) = some k ∧ s.findWork lg 8 k = none :=
  ⟨((((wXfer 3 [] |> fun s => (((s.put F.spChipId_chip_id 5).put (F.spPStatus_state 1) 3).setSpanPort 1 { inbox := [{ typ := 1, vc := 0, dst := 5, src := 7, tsd := [9, 0, 1, 2, 255, 255, 0, 1], payload := [3, 0, 0, 0, 8] }] } |> fun s => ({ (s.put (F.spRoute_valid 7) 1).put (F.spRoute_port 7) 1 with work := [] } : State))).put F.coCtrl_remote_enable 1).put (F.coRemoteMap_valid 0) 1).put (F.coRemoteMap_origin_chip 0) 7).put (F.coRemoteMap_origin_gallery 0) 2, 1, { typ := 1, vc := 0, dst := 5, src := 7, tsd := [9, 0, 1, 2, 255, 255, 0, 1], payload := [3, 0, 0, 0, 8] }, 1, 0, 0, { g := 0, r := 8, i := 0, ent := [1, 0, 0, 0, 3, 0, 0, 0, 8] ++ List.replicate 15 0, loc := .queued }, by decide +kernel⟩

theorem wit_RemoteAccess_5 : ∃ (s : State) (m : Fin 4) (x : SpanPkt) (j lg : Nat) (w : Work),
    s.off = false ∧ s.sizesOk = true ∧ (s.spanPort m).inbox.find? (fun p => p.typ == 1) = some x ∧ byteAt x.tsd 6 = 0 ∧
    byteAt x.tsd 7 = 1 ∧ s.flag F.coCtrl_remote_enable = true ∧ s.chip ≠ 62 ∧ x.src ≠ 63 ∧ s.routeTo x.src = some j ∧ j < 4 ∧
    s.remoteMap x.src (byteAt x.tsd 3 % 16) = some lg ∧ leAt x.tsd 4 2 = 0xFFFF ∧
    w = ({ g := lg, r := 8, i := 0, ent := ({ src := x.src, tag := leAt x.tsd 0 2, op := byteAt x.tsd 2, gal := byteAt x.tsd 3 % 16, ticket := leAt x.tsd 4 2, seg0 := x.payload, data := [] } : Request).entry, loc := .queued, level := byteAt x.payload 8 % 8, since := s.frame, stamp := s.stamps } : Work) ∧
    w.op = 2 ∧ byteAt x.tsd 2 = 2 ∧ s.violationOf w = 0 ∧ s.bulkRefusal w = none ∧ (s.bulkQueue (s.workPlace w).1).length < 512 :=
  ⟨((((wXfer 4 [] |> fun s => (((s.put F.spChipId_chip_id 5).put (F.spPStatus_state 1) 3).setSpanPort 1 { inbox := [{ typ := 1, vc := 0, dst := 5, src := 7, tsd := [9, 0, 2, 2, 255, 255, 0, 1], payload := [3] }] } |> fun s => ({ (s.put (F.spRoute_valid 7) 1).put (F.spRoute_port 7) 1 with work := [] } : State))).put F.coCtrl_remote_enable 1).put (F.coRemoteMap_valid 0) 1).put (F.coRemoteMap_origin_chip 0) 7).put (F.coRemoteMap_origin_gallery 0) 2, 1, { typ := 1, vc := 0, dst := 5, src := 7, tsd := [9, 0, 2, 2, 255, 255, 0, 1], payload := [3] }, 1, 0, { g := 0, r := 8, i := 0, ent := [2, 0, 0, 0, 3] ++ List.replicate 19 0, loc := .queued }, by decide +kernel⟩

theorem wit_RemoteAccess_6 : ∃ (s : State) (m : Fin 4) (x : SpanPkt) (j : Nat) (lg : Nat) (y : Ticket) (b d : List Byte),
    s.off = false ∧ s.sizesOk = true ∧ (s.spanPort m).inbox.find? (fun p => p.typ == 1) = some x ∧ byteAt x.tsd 6 = 0 ∧
    byteAt x.tsd 7 = 1 ∧ s.flag F.coCtrl_remote_enable = true ∧ s.chip ≠ 62 ∧ x.src ≠ 63 ∧ s.routeTo x.src = some j ∧ j < 4 ∧
    s.remoteMap x.src (byteAt x.tsd 3 % 16) = some lg ∧ leAt x.tsd 4 2 ≠ 0xFFFF ∧
    s.co.tickets.find? (fun t => t.num == leAt x.tsd 4 2 && t.chip == x.src && t.tag == leAt x.tsd 0 2) = some y ∧ y.result = some (b, d) :=
  ⟨{ ((((wSpan { typ := 1, vc := 0, dst := 5, src := 7, tsd := [9, 0, 1, 2, 4, 0, 0, 1], payload := [3, 0, 0, 0, 8] }).put F.coCtrl_remote_enable 1).put (F.coRemoteMap_valid 0) 1).put (F.coRemoteMap_origin_chip 0) 7).put (F.coRemoteMap_origin_gallery 0) 2 with co := { tickets := [{ num := 4, chip := 7, gal := 2, tag := 9, result := some ([1, 2], []) }] } }, 1, { typ := 1, vc := 0, dst := 5, src := 7, tsd := [9, 0, 1, 2, 4, 0, 0, 1], payload := [3, 0, 0, 0, 8] }, 1, 0, { num := 4, chip := 7, gal := 2, tag := 9, result := some ([1, 2], []) }, [1, 2], [], by decide +kernel⟩

theorem wit_RemoteAccess_7 : ∃ (s : State) (m : Fin 4) (x : SpanPkt) (j : Nat) (lg : Nat) (y : Ticket),
    s.off = false ∧ s.sizesOk = true ∧ (s.spanPort m).inbox.find? (fun p => p.typ == 1) = some x ∧ byteAt x.tsd 6 = 0 ∧
    byteAt x.tsd 7 = 1 ∧ s.flag F.coCtrl_remote_enable = true ∧ s.chip ≠ 62 ∧ x.src ≠ 63 ∧ s.routeTo x.src = some j ∧ j < 4 ∧
    s.remoteMap x.src (byteAt x.tsd 3 % 16) = some lg ∧ leAt x.tsd 4 2 ≠ 0xFFFF ∧
    s.co.tickets.find? (fun t => t.num == leAt x.tsd 4 2 && t.chip == x.src && t.tag == leAt x.tsd 0 2) = some y ∧ y.result = none :=
  ⟨{ ((((wSpan { typ := 1, vc := 0, dst := 5, src := 7, tsd := [9, 0, 1, 2, 4, 0, 0, 1], payload := [3, 0, 0, 0, 8] }).put F.coCtrl_remote_enable 1).put (F.coRemoteMap_valid 0) 1).put (F.coRemoteMap_origin_chip 0) 7).put (F.coRemoteMap_origin_gallery 0) 2 with co := { tickets := [{ num := 4, chip := 7, gal := 2, tag := 9 }] } }, 1, { typ := 1, vc := 0, dst := 5, src := 7, tsd := [9, 0, 1, 2, 4, 0, 0, 1], payload := [3, 0, 0, 0, 8] }, 1, 0, { num := 4, chip := 7, gal := 2, tag := 9 }, by decide +kernel⟩

theorem wit_RemoteAccess_8 : ∃ (s : State) (m : Fin 4) (x : SpanPkt) (j : Nat) (lg : Nat),
    s.off = false ∧ s.sizesOk = true ∧ (s.spanPort m).inbox.find? (fun p => p.typ == 1) = some x ∧ byteAt x.tsd 6 = 0 ∧
    byteAt x.tsd 7 = 1 ∧ s.flag F.coCtrl_remote_enable = true ∧ s.chip ≠ 62 ∧ x.src ≠ 63 ∧ s.routeTo x.src = some j ∧ j < 4 ∧
    s.remoteMap x.src (byteAt x.tsd 3 % 16) = some lg ∧ leAt x.tsd 4 2 ≠ 0xFFFF ∧
    s.co.tickets.find? (fun t => t.num == leAt x.tsd 4 2 && t.chip == x.src && t.tag == leAt x.tsd 0 2) = none :=
  ⟨{ ((((wSpan { typ := 1, vc := 0, dst := 5, src := 7, tsd := [9, 0, 1, 2, 4, 0, 0, 1], payload := [3, 0, 0, 0, 8] }).put F.coCtrl_remote_enable 1).put (F.coRemoteMap_valid 0) 1).put (F.coRemoteMap_origin_chip 0) 7).put (F.coRemoteMap_origin_gallery 0) 2 with co := { tickets := [{ num := 5, chip := 7, gal := 2, tag := 9 }] } }, 1, { typ := 1, vc := 0, dst := 5, src := 7, tsd := [9, 0, 1, 2, 4, 0, 0, 1], payload := [3, 0, 0, 0, 8] }, 1, 0, by decide +kernel⟩

theorem wit_RemoteAccess_9 : ∃ (s : State) (m : Fin 4) (x : SpanPkt) (y : Rem) (w : Work),
    s.off = false ∧ s.sizesOk = true ∧ (s.spanPort m).inbox.find? (fun p => p.typ == 2) = some x ∧ byteAt x.tsd 2 = 2 ∧
    byteAt x.tsd 6 = 0 ∧ byteAt x.tsd 7 = 1 ∧ s.remWork (leAt x.tsd 0 2) = some (y, w) ∧ y.waiting = false ∧ w.chip = x.src :=
  ⟨(wRem { tag := 0, g := 0, r := 0, i := 0 } { g := 0, r := 0, i := 0, ent := wEnt [1, 0, 0, 255, 3, 0, 0, 0x87, 8], loc := .remote, started := true }).setSpanPort 1 { inbox := [{ typ := 2, vc := 1, dst := 5, src := 7, tsd := [0, 0, 2, 0, 255, 255, 0, 1] }] }, 1, { typ := 2, vc := 1, dst := 5, src := 7, tsd := [0, 0, 2, 0, 255, 255, 0, 1] }, { tag := 0, g := 0, r := 0, i := 0 }, { g := 0, r := 0, i := 0, ent := wEnt [1, 0, 0, 255, 3, 0, 0, 0x87, 8], loc := .remote, started := true }, by decide +kernel⟩

theorem wit_RemoteAccess_10 : ∃ (s : State) (k : Fin 1024) (y : Rem) (w : Work),
    s.off = false ∧ s.sizesOk = true ∧ s.remWork k = some (y, w) ∧ y.waiting = true ∧ w.chip ≠ s.chip ∧ s.chip ≠ 62 ∧
    (s.routeTo w.chip).isSome = true :=
  ⟨wRem { tag := 0, g := 0, r := 0, i := 0, waiting := true } { g := 0, r := 0, i := 0, ent := wEnt [1, 0, 0, 255, 3, 0, 0, 0x87, 8], loc := .remote, started := true }, 0, { tag := 0, g := 0, r := 0, i := 0, waiting := true }, { g := 0, r := 0, i := 0, ent := wEnt [1, 0, 0, 255, 3, 0, 0, 0x87, 8], loc := .remote, started := true }, by decide +kernel⟩

theorem wit_RemoteAccess_11 : ∃ (s : State) (k : Fin 1024) (y : Rem) (w : Work),
    s.off = false ∧ s.sizesOk = true ∧ s.remWork k = some (y, w) ∧ y.waiting = false ∧ w.ended = none :=
  ⟨wRem { tag := 0, g := 0, r := 0, i := 0 } { g := 0, r := 0, i := 0, ent := wEnt [1, 0, 0, 255, 3, 0, 0, 0x87, 8], loc := .remote, started := true }, 0, { tag := 0, g := 0, r := 0, i := 0 }, { g := 0, r := 0, i := 0, ent := wEnt [1, 0, 0, 255, 3, 0, 0, 0x87, 8], loc := .remote, started := true }, by decide +kernel⟩

theorem wit_RemoteAccess_12 : ∃ (s : State) (k : Fin 256),
    s.off = false ∧ s.co.tickets.any (fun t => t.num == k.val && t.result.isSome) = true :=
  ⟨{ wHost with co := { tickets := [{ num := 4, chip := 7, gal := 0, tag := 9, result := some ([], []) }] } }, 4, by decide +kernel⟩

theorem wit_HostPresence_1 : ∃ (s : State) (q : Req) (w : Word),
    s.Awake ∧ s.hosted = false ∧ s.managerReq q = true ∧ s.phase = 5 ∧ s.ch.job ≠ .reapply :=
  ⟨(w0.put F.chStatus_phase 5).put F.chStatus_mode 1, none, 1, by decide +kernel⟩

theorem wit_HostPresence_2 : ∃ (s : State) (q : Req) (w : Word),
    s.Awake ∧ s.hosted = false ∧ s.managerReq q = true ∧ s.phase ≠ 5 :=
  ⟨w0.put F.chStatus_phase 3, none, 1, by decide +kernel⟩

theorem wit_HostPresence_3 : ∃ (s : State) (q : Req) (w : Word),
    s.Manages q ∧ s.pci.detaching = false :=
  ⟨wRing.put (F.gaStatus_state 3) 1, none, 1, by decide +kernel⟩

theorem wit_HostPresence_4 : ∃ (s : State),
    s.off = false ∧ s.pci.detaching = true ∧ (List.range 15).all (fun g => s.gal (g + 1) == 0) = true ∧
    (List.range 8).all (fun r => s.ringSt 0 r == 0) = true :=
  ⟨{ wHost with pci := { detaching := true } }, by decide +kernel⟩

theorem wit_HostPresence_5 : ∃ (s : State) (v : Bool),
    s.off = false :=
  ⟨wHost, true, by decide +kernel⟩

theorem wit_HostPresence_6 : ∃ (s : State) (v : Nat),
    s.off = false :=
  ⟨wHost, 256, by decide +kernel⟩

theorem wit_HostPresence_7 : ∃ (s : State) (v : Bool),
    s.off = false :=
  ⟨wHost, true, by decide +kernel⟩

theorem wit_HostPresence_8 : ∃ (s : State) (l : PcieLink),
    s.Awake :=
  ⟨{ wHost with cn := { wakeN := true } }, .l0, by decide +kernel⟩

theorem wit_HostPresence_9 : ∃ (s : State),
    s.off = false :=
  ⟨wHost, by decide +kernel⟩

theorem wit_HostPresence_10 : ∃ (s : State),
    s.off = false :=
  ⟨{ wHost.put F.chStatus_phase 5 with pci := { perst := true } }, by decide +kernel⟩

theorem wit_HostPresence_11 : ∃ (s : State) (v : Fin 17) (q : Req) (w : Word),
    s.Manages q ∧ s.pci.msixMask = false ∧ bitOf (s.reg 0xC00).toNat v = true ∧ s.msiReady v = true :=
  ⟨{ (wHost.setReg 0xC00 2).put (F.gaStatus_state 1) 1 with pci := { busMaster := true, msixEn := true, pasidEn := true } }.put (F.gaPasid_valid 1) 1, 1, none, 1, by decide +kernel⟩

theorem wit_GalleryCommands_1 : ∃ (s : State) (g : Fin 16) (q : Req) (w : Word),
    s.Manages q ∧ g ≠ 0 ∧ s.gal g = 0 :=
  ⟨wHost, 2, none, 1, by decide +kernel⟩

theorem wit_GalleryCommands_2 : ∃ (s : State) (g : Fin 16) (q : Req) (w : Word),
    s.Manages q ∧ g ≠ 0 ∧ s.gal g = 1 :=
  ⟨wHost.put (F.gaStatus_state 2) 1, 2, none, 1, by decide +kernel⟩

theorem wit_GalleryCommands_3 : ∃ (s : State) (g : Fin 16) (q : Req) (w : Word),
    s.Manages q ∧ s.gal g = 1 :=
  ⟨wHost.put (F.gaStatus_state 2) 1, 2, none, 1, by decide +kernel⟩

theorem wit_GalleryCommands_4 : ∃ (s : State) (g : Fin 16),
    s.off = false ∧ s.gal g = 3 ∧ (List.range 8).all (s.ringQuiet g) = true :=
  ⟨wHost.put (F.gaStatus_state 2) 3, 2, by decide +kernel⟩

theorem wit_GalleryCommands_5 : ∃ (s : State) (g : Fin 16),
    s.off = false ∧ s.gal g = 4 ∧ (List.range 8).all (s.ringQuiet g) = true :=
  ⟨wHost.put (F.gaStatus_state 2) 4, 2, by decide +kernel⟩

theorem wit_GalleryCommands_6 : ∃ (s : State) (g : Fin 16) (q : Req) (w : Word),
    s.Manages q ∧ (s.gal g = 0 ∨ s.flag (F.gaPasid_valid g) = false) ∧
    (List.range 16).any (fun h => h != g.val && s.flag (F.gaPasid_valid h) && s.get (F.gaPasid_pasid h) == w.toNat % 2 ^ 20) = false :=
  ⟨wHost, 2, none, 0x80000123, by decide +kernel⟩

theorem wit_GalleryCommands_7 : ∃ (s : State) (g : Fin 16) (q : Req) (w : Word),
    s.Manages q ∧
    ((s.gal g ≠ 0 ∧ s.flag (F.gaPasid_valid g) = true) ∨ (List.range 16).any (fun h => h != g.val && s.flag (F.gaPasid_valid h) && s.get (F.gaPasid_pasid h) == w.toNat % 2 ^ 20) = true) :=
  ⟨wHost.setReg (R.gaPasid 3) 0x80000123, 2, none, 0x80000123, by decide +kernel⟩

theorem wit_GalleryCommands_8 : ∃ (s : State) (g : Fin 16) (q : Req) (w : Word),
    s.Manages q ∧ g ≠ 0 :=
  ⟨(wHost.setReg (R.gaPasid 2) 0x80000123).put (F.gaDbIn_bell 2) 6, 2, none, 3, by decide +kernel⟩

theorem wit_GalleryCommands_9 : ∃ (s : State) (g : Fin 16) (p : BitVec 20) (w : Word),
    s.Awake ∧ s.hosted = true ∧ g ≠ 0 ∧ s.pasidGal p = some g :=
  ⟨(wHost.setReg (R.gaPasid 2) 0x80000123).put (F.gaDbIn_bell 2) 6, 2, 0x123, 3, by decide +kernel⟩

theorem wit_GalleryCommands_10 : ∃ (s : State) (g : Fin 16) (q : Req) (w : Word),
    s.Manages q ∧ g ≠ 0 :=
  ⟨(wHost.setReg (R.gaPasid 2) 0x80000123).put (F.gaDbOut_bell 2) 6, 2, none, 3, by decide +kernel⟩

theorem wit_GalleryCommands_11 : ∃ (s : State) (g : Fin 16) (p : BitVec 20) (w : Word),
    s.Awake ∧ s.hosted = true ∧ g ≠ 0 ∧ s.pasidGal p = some g :=
  ⟨(wHost.setReg (R.gaPasid 2) 0x80000123).put (F.gaDbOut_bell 2) 6, 2, 0x123, 3, by decide +kernel⟩

theorem wit_GalleryCommands_12 : ∃ (s : State) (q : Req) (w : Word),
    s.Manages q :=
  ⟨wHost.setReg (R.gaViolStatus 0) 9, none, 1, by decide +kernel⟩

theorem wit_InterruptSources_1 : ∃ (s : State) (g : Fin 16) (q : Req) (k : Nat),
    s.Manages q ∧ s.icBest g = some k :=
  ⟨((wHost.setReg (R.icEnableLo 0) 0xFFFFFFFF).setReg (R.icSrccfg 0 8) 5).setInst 8 { phase := .pending }, 0, none, 8, by decide +kernel⟩

theorem wit_InterruptSources_2 : ∃ (s : State) (g : Fin 16) (q : Req),
    s.Manages q ∧ s.icBest g = none :=
  ⟨wHost, 2, none, by decide +kernel⟩

theorem wit_InterruptSources_3 : ∃ (s : State) (g : Fin 16) (q : Req) (w : Word) (k p : Nat),
    s.Manages q ∧ w.toNat % 2 ^ 16 < 256 ∧ k = (if w.toNat % 2 ^ 16 < 64 then privKey g (w.toNat % 2 ^ 16) else shKey (w.toNat % 2 ^ 16)) ∧
    (s.inst k).claim = some (g.val, p) :=
  ⟨((wHost.setReg (R.icEnableLo 0) 0xFFFFFFFF).setReg (R.icSrccfg 0 8) 5).setInst 8 { claim := some (0, 5) }, 0, none, 8, 8, 5, by decide +kernel⟩

theorem wit_InterruptSources_4 : ∃ (s : State) (g : Fin 16) (q : Req) (w : Word) (k : Nat),
    s.Manages q ∧ k = (if w.toNat % 2 ^ 16 < 64 then privKey g (w.toNat % 2 ^ 16) else shKey (w.toNat % 2 ^ 16)) ∧ (s.inst k).claim = none :=
  ⟨wHost, 0, none, 8, 8, by decide +kernel⟩

theorem wit_InterruptSources_5 : ∃ (s : State) (g : Fin 16) (q : Req) (w : Word),
    s.Manages q ∧ w.toNat % 256 < 64 ∧ s.srcExists (privKey g (w.toNat % 256)) = true ∧ s.icEnabled (privKey g (w.toNat % 256)) = true ∧
    (s.inst (privKey g (w.toNat % 256))).phase ≠ .pending :=
  ⟨((wHost.setReg (R.icEnableLo 0) 0xFFFFFFFF).setReg (R.icSrccfg 0 8) 5), 0, none, 8, by decide +kernel⟩

theorem wit_InterruptSources_6 : ∃ (s : State) (q : Req) (w : Word),
    s.Manages q ∧ 64 ≤ w.toNat % 256 ∧ s.srcExists (shKey (w.toNat % 256)) = true ∧ s.icEnabled (shKey (w.toNat % 256)) = true ∧
    (s.inst (shKey (w.toNat % 256))).phase ≠ .pending :=
  ⟨wHost.setReg (R.icShEn 2) 0xFFFFFFFF, none, 130, by decide +kernel⟩

theorem wit_InterruptSources_7 : ∃ (s : State) (g : Fin 16) (k : Fin 6) (q : Req) (w : Word) (b : Fin 32),
    s.Manages q ∧ privExists g (32 * (k % 2) + b) = true :=
  ⟨((wHost.setReg (R.icEnableLo 0) 0xFFFFFFFF).setReg (R.icSrccfg 0 8) 5), 0, 0, none, 5, 3, by decide +kernel⟩

theorem wit_InterruptSources_8 : ∃ (s : State) (k : Fin 6) (q : Req) (w : Word) (b : Fin 32),
    s.Manages q ∧ s.shExists (64 + 32 * k + b) = true :=
  ⟨wHost, 2, none, 5, 3, by decide +kernel⟩

theorem wit_InterruptSources_9 : ∃ (s : State) (k : Fin 192) (q : Req) (w : Word),
    s.Manages q :=
  ⟨wHost, 9, none, 0x35, by decide +kernel⟩

theorem wit_InterruptSources_10 : ∃ (s : State) (g : Option (Fin 16)) (k : Fin 256) (n u : Nat),
    s.Awake ∧ (s.inst (srcKey g k)).phase = .gathering n u ∧ bitsOf (s.reg (icCfg (srcKey g k))).toNat 16 16 ≠ 0 :=
  ⟨(((wHost.setReg (R.icEnableLo 0) 0xFFFFFFFF).setReg (R.icSrccfg 0 8) 5).setReg (R.icSrccfg 0 8) 0x00100505).setInst 8 { phase := .gathering 1 50 }, some 0, 8, 1, 50, by decide +kernel⟩

theorem wit_InterruptSources_11 : ∃ (s : State) (k : Fin 256),
    s.Awake ∧ s.shExists k = true ∧ (s.inst (shKey k)).phase = .pending ∧ (s.inst (shKey k)).fallen = false ∧ s.icTarget (shKey k) ≠ 0 ∧
    s.served (s.icTarget (shKey k)) = false ∧ s.get (F.icGcfg_fallback_ms (s.icTarget (shKey k))) ≠ 0 :=
  ⟨((wHost.setReg (R.icShCfg 66) 0x31).put (F.icGcfg_fallback_ms 3) 5).setInst (shKey 130) { phase := .pending }, 130, by decide +kernel⟩

theorem wit_RegisterAndBufferAccess_1 : ∃ (s : State) (q : Req) (off : Nat) (d : List Byte), s.Manages q ∧ d.length = 4 ∧ (regRow off).isSome = true ∧ s.absent off = false :=
  ⟨wHost, none, R.rgCursor, [1, 2, 0, 0], by decide +kernel⟩

theorem wit_RegisterAndBufferAccess_2 : ∃ (s : State) (q : Req) (off : Nat) (d : List Byte),
    s.Manages q ∧ d.length = 4 ∧ (off = R.rgCursor ∨ off = R.cnEventEn ∨ off = R.fiSummaryEn ∨ off = R.coEventEn) :=
  ⟨wHost, none, R.rgCursor, [1, 2, 0, 0], by decide +kernel⟩

theorem wit_RegisterAndBufferAccess_3 : ∃ (s u t : State) (q : Req) (off : Nat) (d : List Byte), d.length = 8 ∧ off % 8 = 0 ∧ exec (.registerWrite q off (d.take 4)) s = .next u ∧ exec (.registerWrite q (off + 4) (d.drop 4)) u = .next t :=
  ⟨wHost, _, _, none, R.tkAlarmLo 0, [1, 2, 3, 4, 5, 6, 7, 8], by decide +kernel, by decide +kernel, rfl, rfl⟩

theorem wit_RegisterAndBufferAccess_4 : ∃ (s : State) (q : Req) (off : Nat) (d : List Byte),
    s.Manages q ∧ (regRow off).isNone = true ∧ d.length = 4 :=
  ⟨wHost, none, 0x0F00, [1, 2, 0, 0], by decide +kernel⟩

theorem wit_RegisterAndBufferAccess_5 : ∃ (s : State) (q : Req) (off : Nat),
    s.Manages q ∧ (regRow off).isNone = true ∧ off % 4 = 0 ∧ (off < 0x6000 ∨ 0x7000 ≤ off) :=
  ⟨wHost, none, 0x0F00, by decide +kernel⟩

theorem wit_RegisterAndBufferAccess_6 : ∃ (s : State) (q : Req),
    s.Manages q :=
  ⟨wHost, none, by decide +kernel⟩

theorem wit_RegisterAndBufferAccess_7 : ∃ (s : State) (q : Req) (off : Nat) (d : List Byte),
    s.Manages q ∧ off + d.length ≤ 0x200000 :=
  ⟨wHost, none, 0x1FFFFE, [1, 2], by decide +kernel⟩

theorem wit_RegisterAndBufferAccess_8 : ∃ (s : State) (q : Req) (off : Nat) (d : List Byte),
    s.Manages q ∧ 0x200000 ≤ off :=
  ⟨wHost, none, 0x200000, [1, 2], by decide +kernel⟩

theorem wit_RegisterAndBufferAccess_9 : ∃ (s : State) (q : Req) (off len : Nat),
    s.Manages q ∧ 0 < len ∧ off + len ≤ 0x200000 ∧ s.anyBad off len = false :=
  ⟨wHost.setRamBytes 8 [1, 2], none, 8, 2, by decide +kernel⟩

theorem wit_SpanLinkStates_1 : ∃ (s : State) (m : Fin 4) (q : Req) (w : Word),
    s.Manages q ∧ s.sizesOk = true ∧ m.val < s.nSpan ∧ s.spanState m = 0 :=
  ⟨wHost, 1, none, 1, by decide +kernel⟩

theorem wit_SpanLinkStates_2 : ∃ (s : State) (m : Fin 4) (q : Req) (w : Word),
    s.Manages q ∧ s.sizesOk = true ∧ m.val < s.nSpan ∧ w.getLsbD 0 = true ∧ s.flag (F.spPCtrl_enable m) = true ∧ s.spanState m = 3 :=
  ⟨(wSpanPort 3 { fails := 4 }).put (F.spPCtrl_enable 1) 1, 1, none, 1, by decide +kernel⟩

theorem wit_SpanLinkStates_3 : ∃ (s : State) (m : Fin 4) (e : Nat),
    s.off = false ∧ s.sizesOk = true ∧ m.val < s.nSpan ∧ s.spanState m = 1 ∧ (s.spanPort m).beacons < 2 ∧
    (s.spanPort m).beaconAt.any (fun u => (90000 ≤ e - u && e - u ≤ 110000) || (90000000 ≤ e - u && e - u ≤ 110000000)) = true :=
  ⟨wSpanPort 1 { beacons := 1, beaconAt := some 5 }, 1, 100000005, by decide +kernel⟩

theorem wit_SpanLinkStates_4 : ∃ (s : State) (m : Fin 4) (e : Nat),
    s.off = false ∧ s.sizesOk = true ∧ m.val < s.nSpan ∧ s.spanState m = 1 ∧ (s.spanPort m).beacons < 3 ∧
    (s.spanPort m).beaconAt.any (fun u => (90000 ≤ e - u && e - u ≤ 110000) || (90000000 ≤ e - u && e - u ≤ 110000000)) = false :=
  ⟨wSpanPort 1 {}, 1, 7, by decide +kernel⟩

theorem wit_SpanLinkStates_5 : ∃ (s : State) (m : Fin 4) (e : Nat),
    s.off = false ∧ s.sizesOk = true ∧ m.val < s.nSpan ∧ s.spanState m = 1 ∧ (s.spanPort m).beacons = 2 ∧
    (s.spanPort m).beaconAt.any (fun u => (90000 ≤ e - u && e - u ≤ 110000) || (90000000 ≤ e - u && e - u ≤ 110000000)) = true ∧
    s.permitBars (.spanTraining m) = false :=
  ⟨wSpanPort 1 { beacons := 2, beaconAt := some 5 }, 1, 100005, by decide +kernel⟩

theorem wit_SpanLinkStates_6 : ∃ (s : State) (m : Fin 4),
    s.off = false ∧ s.sizesOk = true ∧ m.val < s.nSpan ∧ (s.spanState m = 1 ∨ s.spanState m = 2) :=
  ⟨wSpanPort 1 { beacons := 2 }, 1, by decide +kernel⟩

theorem wit_SpanLinkStates_7 : ∃ (s : State) (m : Fin 4),
    s.off = false ∧ s.sizesOk = true ∧ m.val < s.nSpan ∧ s.spanState m = 1 ∧ 3 ≤ (s.spanPort m).beacons ∧
    s.holds (.spanTraining m) = false ∧ s.asked (.spanTraining m) = false ∧ s.permitBars (.spanTraining m) = false :=
  ⟨wSpanPort 1 { beacons := 3 }, 1, by decide +kernel⟩

theorem wit_SpanLinkStates_8 : ∃ (s : State) (m : Fin 4) (role : Fin 8) (partner : Nat) (pport : Fin 4),
    s.off = false ∧ s.sizesOk = true ∧ m.val < s.nSpan ∧ s.spanState m = 2 ∧ role = 6 :=
  ⟨wSpanPort 2 {}, 1, 6, 77, 2, by decide +kernel⟩

theorem wit_SpanLinkStates_9 : ∃ (s : State) (m : Fin 4) (role : Fin 8) (partner : Nat) (pport : Fin 4),
    s.off = false ∧ s.sizesOk = true ∧ m.val < s.nSpan ∧ s.spanState m = 2 ∧ role ≠ 6 :=
  ⟨wSpanPort 2 {}, 1, 3, 77, 2, by decide +kernel⟩

theorem wit_SpanLinkStates_10 : ∃ (s : State) (m : Fin 4),
    s.off = false ∧ s.sizesOk = true ∧ m.val < s.nSpan ∧ s.spanState m = 2 :=
  ⟨wSpanPort 2 {}, 1, by decide +kernel⟩

theorem wit_SpanLinkStates_11 : ∃ (s : State) (m : Fin 4),
    s.off = false ∧ s.sizesOk = true ∧ m.val < s.nSpan ∧ s.spanState m = 4 :=
  ⟨wSpanPort 4 { fast := true }, 1, by decide +kernel⟩

theorem wit_SpanLinkStates_12 : ∃ (s : State) (m : Fin 4),
    s.off = false ∧ s.sizesOk = true ∧ m.val < s.nSpan ∧ s.spanState m = 3 :=
  ⟨wSpanPort 3 {}, 1, by decide +kernel⟩

theorem wit_SpanLinkStates_13 : ∃ (s : State) (m : Fin 4),
    s.off = false ∧ s.sizesOk = true ∧ m.val < s.nSpan ∧ s.spanState m = 4 :=
  ⟨wSpanPort 4 {}, 1, by decide +kernel⟩

theorem wit_SpanLinkStates_14 : ∃ (s : State) (m : Fin 4) (a : Fin 64),
    s.off = false ∧ s.sizesOk = true ∧ m.val < s.nSpan ∧ s.spanState m = 3 ∧ s.flag (F.spPStatus_ranged m) = false ∧
    s.holds (.spanSweep m) = false ∧ s.asked (.spanSweep m) = false ∧ s.permitBars (.spanSweep m) = false :=
  ⟨wSpanPort 3 {}, 1, 0, by decide +kernel⟩

theorem wit_SpanPackets_1 : ∃ (s : State) (m : Fin 4) (x : SpanRx) (k : Nat) (p : SpanPkt),
    s.off = false ∧ s.sizesOk = true ∧ m.val < s.nSpan ∧ s.spanState m = 3 ∧ spanCheck x.start x.syms = .good k p ∧ p.vc < 3 ∧
    k = (s.spanPort m).rxSeq ∧ p.dst = s.chip ∧ p.dst ≠ 63 ∧ s.armed 0x0B m = none ∧ s.flips = [] ∧
    (s.get (F.fiInjCtrl_mode 1) = 0 ∨ s.get (F.fiInjCtrl_mode 1) = 3) ∧ (s.get (F.fiInjCtrl_mode 2) = 0 ∨ s.get (F.fiInjCtrl_mode 2) = 3) :=
  ⟨wSpanPort 3 {}, 1, wSpanRx { typ := 3, vc := 2, dst := 5, src := 7, tsd := leBytes 8 3 } 0, 0, { typ := 3, vc := 2, dst := 5, src := 7, tsd := leBytes 8 3 }, by decide +kernel⟩

theorem wit_SpanPackets_2 : ∃ (s : State) (m : Fin 4) (x : SpanRx),
    s.off = false ∧ s.sizesOk = true ∧ m.val < s.nSpan ∧ s.spanState m = 3 ∧ spanCheck x.start x.syms = .crc :=
  ⟨wSpanPort 3 {}, 1, { t := 0, rd := false, groups := wireOf symSop (List.replicate 20 1) true }, by decide +kernel⟩

theorem wit_SpanPackets_3 : ∃ (s : State) (m : Fin 4) (x : SpanRx) (k : Nat) (p : SpanPkt),
    s.off = false ∧ s.sizesOk = true ∧ m.val < s.nSpan ∧ s.spanState m = 3 ∧ spanCheck x.start x.syms = .good k p ∧ p.typ = 4 ∧ p.vc = 3 ∧
    byteAt p.tsd 1 % 2 = 0 ∧ s.armed 0x0B m = none :=
  ⟨wSpanPort 3 { replay := [(9, 1, false, { typ := 3, vc := 2, dst := 5, src := 7, tsd := leBytes 8 3 }), (10, 1, false, { typ := 3, vc := 2, dst := 5, src := 7, tsd := leBytes 8 3 })] }, 1, wSpanRx { typ := 4, vc := 3, dst := 0, src := 7, tsd := [9, 0, 1, 2, 3, 0, 0, 0] } 0, 0, { typ := 4, vc := 3, dst := 0, src := 7, tsd := [9, 0, 1, 2, 3, 0, 0, 0] }, by decide +kernel⟩

theorem wit_SpanPackets_4 : ∃ (s : State) (m : Fin 4),
    s.off = false ∧ s.sizesOk = true ∧ m.val < s.nSpan ∧ s.spanState m = 3 ∧ s.tw.due = false ∧ (s.spanPort m).probe = none ∧
    (s.spanPort m).ackDue = true :=
  ⟨wSpanPort 3 { ackDue := true }, 1, by decide +kernel⟩

theorem wit_SpanPackets_5 : ∃ (s : State) (m : Fin 4) (x : SpanPkt),
    s.off = false ∧ s.sizesOk = true ∧ m.val < s.nSpan ∧ s.spanState m = 3 ∧ s.tw.due = false ∧ (s.spanPort m).probe = none ∧
    (s.spanPort m).ackDue = false ∧ (s.spanPort m).nakDue = false ∧ (s.spanPort m).owe = [0, 0, 0] ∧ (s.spanPort m).timeDue = false ∧
    (s.spanPort m).echoes = [] ∧ s.probeDue m = false ∧ (s.spanPort m).replay.find? (fun r => r.2.2.1) = none ∧
    (s.spanPort m).ready = [x] ∧ x.vc = 2 ∧ 0 < (s.spanPort m).credits.getD 2 0 ∧ s.armed 0x0C m = none :=
  ⟨wSpanPort 3 { ready := [{ typ := 3, vc := 2, dst := 7, src := 5, tsd := leBytes 8 1 }] }, 1, { typ := 3, vc := 2, dst := 7, src := 5, tsd := leBytes 8 1 }, by decide +kernel⟩

theorem wit_SpanPackets_6 : ∃ (s : State) (m : Fin 4) (rtt tt : Nat),
    s.off = false ∧ s.sizesOk = true ∧ (s.spanPort m).probe.isSome = true ∧ (s.spanPort m).sweep = none ∧
    s.flag (F.spPStatus_ranged m) = true ∧ ((rtt : Int) - tt - (s.spanPort m).lrt).natAbs ≤ 20 :=
  ⟨(wSpanPort 3 { probe := some (0, 5), lrt := 1000 }).put (F.spPStatus_ranged 1) 1, 1, 1216, 200, by decide +kernel⟩

theorem wit_SpanPackets_7 : ∃ (s : State) (m : Fin 4),
    s.off = false ∧ s.sizesOk = true ∧ s.spanState m = 3 ∧ (s.spanPort m).sweep = none ∧ (s.spanPort m).probe = none ∧
    s.flag (F.spPStatus_ranged m) = true :=
  ⟨(wSpanPort 3 {}).put (F.spPStatus_ranged 1) 1, 1, by decide +kernel⟩

theorem wit_SpanPackets_8 : ∃ (s : State) (q : Req) (w : Word),
    s.Manages q :=
  ⟨wHost.setReg R.spTakeCnt 9, none, 1, by decide +kernel⟩

theorem wit_SpanPackets_9 : ∃ (s : State) (m : Fin 4) (q : Req) (w : Word),
    s.Manages q ∧ m.val < s.nSpan :=
  ⟨(wSpanPort 3 {}).setReg (R.spPErr 1) 9, 1, none, 1, by decide +kernel⟩

theorem wit_ChainAndDiscovery_1 : ∃ (s : State),
    s.off = false ∧ s.sp.head = false :=
  ⟨wHost, by decide +kernel⟩

theorem wit_ChainAndDiscovery_2 : ∃ (s : State) (k : Nat),
    s.off = false ∧ s.sp.pulses = k ∧ 1 ≤ k ∧ k ≤ 61 ∧ s.sp.chained = none :=
  ⟨{ wHost with sp := { pulses := 4 } }, 4, by decide +kernel⟩

theorem wit_ChainAndDiscovery_3 : ∃ (s : State),
    s.off = false ∧ s.chip ≠ 62 ∧ s.jtag.holds = false :=
  ⟨wHost.put F.spChipId_chip_id 2, by decide +kernel⟩

theorem wit_ChainAndDiscovery_4 : ∃ (s : State),
    s.off = false ∧ s.sp.head = false ∧ s.sp.chained = none ∧ s.sp.pulses = 0 :=
  ⟨wHost.put F.spChipId_chain_wired 1, by decide +kernel⟩

theorem wit_ChainAndDiscovery_5 : ∃ (s : State) (q : Req) (w : Word),
    s.Manages q ∧ s.permitBars .discovery = false :=
  ⟨wHost, none, 1, by decide +kernel⟩

theorem wit_ChainAndDiscovery_6 : ∃ (s : State),
    s.off = false ∧ s.sp.flood = true ∧ s.holds .discovery = false ∧ s.permitBars .discovery = false :=
  ⟨{ wHost with sp := { flood := true } }, by decide +kernel⟩

theorem wit_ChainAndDiscovery_7 : ∃ (s : State) (m : Fin 4) (r : DiscRec),
    s.off = false ∧ s.sizesOk = true ∧ m.val < s.nSpan ∧ s.spanState m = 3 ∧ r.serial ≠ s.serialNo ∧ s.newRec r = true :=
  ⟨wSpanPort 3 {}, 1, { serial := 77, id := 7, src := 1, quality := 0x30, partners := [none, none, none, none], version := 2 }, by decide +kernel⟩

theorem wit_ChainAndDiscovery_8 : ∃ (s : State),
    s.off = false ∧ s.flag F.spFabStatus_discovering = true :=
  ⟨(wSpanPort 3 {}).put F.spFabStatus_discovering 1, by decide +kernel⟩

theorem wit_FabricTime_1 : ∃ (s : State),
    s.off = false ∧ s.sizesOk = true ∧ s.isMaster = true :=
  ⟨(wSpanPort 3 {}).put F.spFabStatus_master 5, by decide +kernel⟩

theorem wit_FabricTime_2 : ∃ (s : State) (m : Fin 4) (a : Nat) (b : List Byte),
    s.off = false ∧ s.sizesOk = true ∧ (s.spanPort m).time = some (a, b) :=
  ⟨wSpanPort 3 { time := some (5, leBytes 8 5000000000 ++ leBytes 4 9 ++ leBytes 2 4000 ++ [7, 1, 0, 0] ++ leBytes 14 0) }, 1, 5, leBytes 8 5000000000 ++ leBytes 4 9 ++ leBytes 2 4000 ++ [7, 1, 0, 0] ++ leBytes 14 0, by decide +kernel⟩

theorem wit_FabricTime_3 : ∃ (s : State) (m : Fin 4) (a : Nat) (b : List Byte),
    s.off = false ∧ s.sizesOk = true ∧ s.part = .vx4880 ∧ (s.spanPort m).time = some (a, b) ∧ s.isMaster = false ∧ s.spanState m = 3 ∧
    s.flag (F.spPStatus_ranged m) = true ∧ byteAt b 14 = s.get F.spFabStatus_master ∧
    (∀ k ∈ List.range 4, k ≠ m.val → (s.spanPort k).heard = none) ∧ leAt b 12 2 ≠ s.rate ∧ s.tk.time ≤ a / 10 + 1500000000 :=
  ⟨((wSpanPort 3 { time := some (5, leBytes 8 5000000000 ++ leBytes 4 9 ++ leBytes 2 4000 ++ [7, 1, 0, 0] ++ leBytes 14 0) }).put F.spFabStatus_master 7).put (F.spPStatus_ranged 1) 1, 1, 5, leBytes 8 5000000000 ++ leBytes 4 9 ++ leBytes 2 4000 ++ [7, 1, 0, 0] ++ leBytes 14 0, by decide +kernel⟩

theorem wit_FabricTime_4 : ∃ (s : State),
    s.off = false ∧ bestChip s.fabric ≠ s.get F.spFabStatus_master :=
  ⟨(wHost.put F.spChipId_chip_id 5).put F.spFabStatus_master 9, by decide +kernel⟩

theorem wit_TwinOperation_1 : ∃ (s : State) (q : Req) (w : Word),
    s.Manages q ∧ s.part = .vx4880 ∧ s.flag F.twCtrl_enable = false :=
  ⟨wHost.put F.twCfg_shared 3, none, 1, by decide +kernel⟩

theorem wit_TwinOperation_2 : ∃ (s : State) (q : Req) (w : Word),
    s.Manages q ∧ s.part = .vx4880 ∧ s.flag F.twCtrl_enable = true ∧ w.getLsbD 0 = true ∧ s.flag F.twStatus_paired = true ∧ s.ownMap ≠ 0 ∧
    s.tw.yield_ = none :=
  ⟨(wTwin 3 {}).put F.twStatus_paired 1, none, 1, by decide +kernel⟩

theorem wit_TwinOperation_3 : ∃ (s : State) (f : Nat),
    s.off = false ∧ s.tw.yield_ = some (s.ownMap, f, true) ∧ s.reached f = true ∧ s.tw.accept = none ∧ s.ownMap ≠ 0 :=
  ⟨wTwin 3 { yield_ := some (3, 0, true) }, 0, by decide +kernel⟩

theorem wit_TwinOperation_4 : ∃ (s : State),
    s.off = false ∧ s.part = .vx4880 ∧ s.flag F.twCtrl_enable = true ∧ s.flag F.twStatus_paired = true ∧ 3 ≤ s.get F.twStatus_misses :=
  ⟨((wTwin 0 {}).put F.twStatus_paired 1).put F.twStatus_misses 3, by decide +kernel⟩

theorem wit_TwinOperation_5 : ∃ (s : State),
    s.off = false ∧ s.part = .vx4880 ∧ s.flag F.twCtrl_enable = true ∧ s.get F.twStatus_state = 1 ∧ s.flag F.twStatus_role_pin = false :=
  ⟨(wTwin 0 {}).put F.twStatus_state 1, by decide +kernel⟩

theorem wit_TwinOperation_6 : ∃ (s : State) (q : Req) (w : Word),
    s.Manages q ∧ s.part = .vx4880 :=
  ⟨wHost.setReg R.twCnt 9, none, 1, by decide +kernel⟩

theorem wit_TwinOperation_7 : ∃ (s : State),
    s.off = false ∧ s.sizesOk = true ∧ s.part = .vx4880 ∧ s.flag F.twCtrl_enable = true ∧ s.partnerId ≠ 62 ∧ s.tw.due = true ∧
    s.spanState 3 = 3 ∧ (s.spanPort 3).probe = none ∧ (s.spanPort 3).ackDue = false ∧ (s.spanPort 3).nakDue = false ∧
    (s.spanPort 3).owe = [0, 0, 0] ∧ (s.spanPort 3).timeDue = false ∧ (s.spanPort 3).echoes = [] ∧ s.probeDue 3 = false ∧
    (s.spanPort 3).replay.find? (fun r => r.2.2.1) = none ∧ (s.spanPort 3).ready = [] ∧ 0 < (s.spanPort 3).credits.getD 2 0 ∧
    s.armed 0x0C 3 = none :=
  ⟨((wTwin 3 { due := true }).put (F.spPStatus_state 3) 3).put F.twStatus_partner_chip 7, by decide +kernel⟩

theorem wit_TwinOperation_8 : ∃ (s : State) (x : SpanPkt) (maps : Bool),
    s.off = false ∧ s.sizesOk = true ∧ s.part = .vx4880 ∧ s.flag F.twCtrl_enable = true ∧
    (s.spanPort 3).inbox.find? (isEvt 0x10) = some x ∧ s.tw.drop = 0 ∧ s.armed 0x12 0 = none :=
  ⟨(wTwin 3 {}).setSpanPort 3 { inbox := [{ typ := 3, vc := 2, dst := 5, src := 7, tsd := leBytes 8 0x10, payload := leBytes 32 0 }] }, { typ := 3, vc := 2, dst := 5, src := 7, tsd := leBytes 8 0x10, payload := leBytes 32 0 }, true, by decide +kernel⟩

theorem wit_TwinOperation_9 : ∃ (s : State) (x : SpanPkt),
    s.off = false ∧ s.sizesOk = true ∧ (s.spanPort 3).inbox.find? (isEvt 0x11) = some x ∧ bitOf (byteAt x.payload 0) 7 = true :=
  ⟨(wTwin 3 {}).setSpanPort 3 { inbox := [{ typ := 3, vc := 2, dst := 5, src := 7, tsd := leBytes 8 0x11, payload := [0x81, 0, 1, 0, 0, 0, 36, 0, 1, 2] }] }, { typ := 3, vc := 2, dst := 5, src := 7, tsd := leBytes 8 0x11, payload := [0x81, 0, 1, 0, 0, 0, 36, 0, 1, 2] }, by decide +kernel⟩

theorem wit_TwinOperation_10 : ∃ (s : State) (x : SpanPkt) (n a p : Nat),
    s.off = false ∧ s.sizesOk = true ∧ (s.spanPort 3).inbox.find? (isEvt 0x11) = some x ∧ byteAt x.payload 0 = 5 ∧ s.tw.part = [] ∧
    byteAt x.payload 1 = n ∧ byteAt x.payload 2 % 64 = a ∧ byteAt x.payload 3 % 16 = p ∧ s.ownsPort n = false :=
  ⟨(wTwin 2 {}).setSpanPort 3 { inbox := [{ typ := 3, vc := 2, dst := 5, src := 7, tsd := leBytes 8 0x11, payload := [5, 0, 1, 2, 0, 0, 16, 0, 1, 0, 0, 0, 0, 0, 0, 0, 77, 0, 0, 0, 0, 0, 0, 0] }] }, { typ := 3, vc := 2, dst := 5, src := 7, tsd := leBytes 8 0x11, payload := [5, 0, 1, 2, 0, 0, 16, 0, 1, 0, 0, 0, 0, 0, 0, 0, 77, 0, 0, 0, 0, 0, 0, 0] }, 0, 1, 2, by decide +kernel⟩

theorem wit_InjectionLock_1 : ∃ (s : State) (q : Req) (w : Word),
    s.Manages q ∧ s.flag F.fiStatus_unlocked = false ∧ w.toNat % 2 ^ 16 = 0x4B51 :=
  ⟨wHost, none, 0x4B51, by decide +kernel⟩

theorem wit_InjectionLock_2 : ∃ (s : State) (q : Req) (w : Word),
    s.Manages q ∧ s.flag F.fiStatus_unlocked = false ∧ s.fi.step1 = true ∧ w.toNat % 2 ^ 16 = 0x6E4A :=
  ⟨{ wHost with fi := { step1 := true } }, none, 0x6E4A, by decide +kernel⟩

theorem wit_InjectionLock_3 : ∃ (s : State) (q : Req) (w : Word),
    s.Manages q ∧ s.flag F.fiStatus_unlocked = false ∧ w.toNat % 2 ^ 16 ≠ 0x4B51 ∧ (s.fi.step1 = false ∨ w.toNat % 2 ^ 16 ≠ 0x6E4A) :=
  ⟨{ wHost with fi := { step1 := true } }, none, 0x1234, by decide +kernel⟩

theorem wit_InjectionLock_4 : ∃ (s : State) (q : Req) (w : Word),
    s.Manages q ∧ s.flag F.fiStatus_unlocked = true :=
  ⟨(wHost.put F.fiStatus_unlocked 1).put (F.fiInjCtrl_mode 3) 2, none, 0x4B51, by decide +kernel⟩

theorem wit_InjectionLock_5 : ∃ (s : State) (k : Fin 18) (q : Req) (w : Word),
    s.Manages q ∧ s.flag F.fiStatus_unlocked = true :=
  ⟨wHost.put F.fiStatus_unlocked 1, 4, none, 0x80000007, by decide +kernel⟩

theorem wit_InjectionLock_6 : ∃ (s : State) (k : Fin 18) (q : Req) (w : Word),
    s.Manages q ∧ s.flag F.fiStatus_unlocked = false :=
  ⟨wHost, 4, none, 0x80000007, by decide +kernel⟩

theorem wit_InjectionLock_7 : ∃ (s : State) (q : Req) (off : Nat) (d : List Byte) (k : Fin 18),
    s.Manages q ∧ off = R.fiInjAddr (k + 1) ∧ d.length = 4 ∧ s.flag F.fiStatus_unlocked = true :=
  ⟨wHost.put F.fiStatus_unlocked 1, none, (R.fiInjAddr 5), [255, 255, 255, 255], 4, by decide +kernel⟩

theorem wit_InjectionLock_8 : ∃ (s : State) (q : Req) (off : Nat) (d : List Byte) (k : Fin 18),
    s.Manages q ∧ off = R.fiInjAddr (k + 1) ∧ d.length = 4 ∧ s.flag F.fiStatus_unlocked = false :=
  ⟨wHost, none, (R.fiInjAddr 5), [255, 255, 255, 255], 4, by decide +kernel⟩

theorem wit_InjectionLock_9 : ∃ (s : State) (p c h : Bool),
    s.off = false :=
  ⟨(wHost.put F.fiStatus_unlocked 1).put (F.fiInjCtrl_mode 3) 2, false, true, true, by decide +kernel⟩

theorem wit_InjectionLock_10 : ∃ (s : State),
    s.off = false ∧ s.power ≠ 3 :=
  ⟨(wHost.put F.fiStatus_unlocked 1).put (F.fiInjCtrl_mode 3) 2, by decide +kernel⟩

theorem wit_InjectionLock_11 : ∃ (s : State),
    s.off = false ∧ s.power ≠ 3 :=
  ⟨(wHost.put F.fiStatus_unlocked 1).put (F.fiInjCtrl_mode 3) 2, by decide +kernel⟩

theorem wit_InjectionLock_12 : ∃ (s : State) (q : Req) (w : Word),
    s.Manages q :=
  ⟨(wHost.put F.fiStatus_unlocked 1).put (F.fiInjCtrl_mode 3) 2, none, 1, by decide +kernel⟩

theorem wit_FaultRecords_1 : ∃ (s : State) (b : Fin 24) (ring : Nat),
    s.off = false ∧ s.blockWatched b = true :=
  ⟨wHost, 16, 3, by decide +kernel⟩

theorem wit_FaultRecords_2 : ∃ (s : State) (q : Req) (w : Word),
    s.Manages q ∧ s.flag F.fiFault_active = true ∧ s.jtag.holds = false :=
  ⟨wHost.put F.fiFault_active 1, none, 1, by decide +kernel⟩

theorem wit_FaultRecords_3 : ∃ (s : State) (q : Req) (w : Word),
    s.Manages q :=
  ⟨wHost.setReg (R.fiCnt 3) 9, none, 1, by decide +kernel⟩

theorem wit_FaultRecords_4 : ∃ (s : State) (q : Req) (w : Word),
    s.Manages q :=
  ⟨wHost.setReg R.fiFirst0 9, none, 1, by decide +kernel⟩

theorem wit_FaultRecords_5 : ∃ (s : State) (q : Req) (w : Word),
    s.Manages q :=
  ⟨wHost.setReg R.fiSummary 0x7E, none, 0x22, by decide +kernel⟩

theorem wit_PowerMoves_1 : ∃ (s : State) (q : Req) (w : Word),
    s.Manages q ∧ s.cn.move = .idle ∧ w.toNat % 8 < 4 ∧ s.power < w.toNat % 8 :=
  ⟨wHost, none, 1, by decide +kernel⟩

theorem wit_PowerMoves_2 : ∃ (s : State) (q : Req) (w : Word),
    s.Manages q ∧ s.cn.move = .idle ∧ w.toNat % 8 < s.power :=
  ⟨wHost.put F.cnStatus_state 1, none, 0, by decide +kernel⟩

theorem wit_PowerMoves_3 : ∃ (s : State) (q : Req) (w : Word) (a b c : Nat),
    s.Manages q ∧ s.cn.move = .down a b c ∧ w.toNat % 8 < 4 :=
  ⟨{ wHost with cn := { move := .down 0 1 5 } }, none, 3, 0, 1, 5, by decide +kernel⟩

theorem wit_PowerMoves_4 : ∃ (s : State) (o c : Nat),
    s.off = false ∧ s.cn.move = .down o 1 c ∧ s.power = 0 ∧ s.delayer 1 = none ∧ s.cn.wake = none ∧ s.cn.target = none ∧
    s.get F.cnCtrl_target = 1 :=
  ⟨{ wHost with cn := { move := .down 0 1 5 } }.put F.cnCtrl_target 1, 0, 5, by decide +kernel⟩

theorem wit_PowerMoves_5 : ∃ (s : State) (o c : Nat),
    s.off = false ∧ s.cn.move = .down o 2 c ∧ s.power = 1 ∧ s.spansPark.refusal 2 = none ∧ s.spansPark.delayer 2 = none ∧
    s.cn.wake = none ∧ s.cn.target = none ∧ s.get F.cnCtrl_target = 2 :=
  ⟨({ wHost with cn := { move := .down 0 2 5 } }.put F.cnStatus_state 1).put F.cnCtrl_target 2, 0, 5, by decide +kernel⟩

theorem wit_PowerMoves_6 : ∃ (s : State) (o c : Nat),
    s.off = false ∧ s.cn.move = .down o 2 c ∧ s.power = 1 ∧ s.spansPark.refusal 2 = none ∧ s.spansPark.delayer 2 = none ∧
    s.cn.wake = none ∧ s.cn.target = none ∧ s.get F.cnCtrl_target = 3 :=
  ⟨({ wHost with cn := { move := .down 0 2 5 } }.put F.cnStatus_state 1).put F.cnCtrl_target 3, 0, 5, by decide +kernel⟩

theorem wit_PowerMoves_7 : ∃ (s : State) (o c : Nat),
    s.off = false ∧ s.cn.move = .down o 3 c ∧ s.power = 2 ∧ s.cn.supply = none ∧ s.refusal 3 = none ∧ s.jtag.holds = false :=
  ⟨{ wHost.put F.cnStatus_state 2 with cn := { move := .down 0 3 5 }, pci := { link := .l2 } }, 0, 5, by decide +kernel⟩

theorem wit_PowerMoves_8 : ∃ (s : State) (o c : Nat) (u : Supply) (sw : BitVec 16) (a : Nat),
    s.off = false ∧ s.cn.move = .down o 3 c ∧ s.power = 2 ∧ s.cn.supply = some u ∧ u.use = .stow ∧ u.mv = 600 ∧ u.acked = some a ∧
    s.armed 0x0E 0 = none ∧ sw.getLsbD 11 = false ∧ s.cn.wake = none ∧ s.cn.target = none ∧ s.get F.cnCtrl_target = 3 ∧ s.jtag.holds = false :=
  ⟨{ (wHost.put F.cnStatus_state 2).put F.cnCtrl_target 3 with cn := { move := .down 0 3 5, supply := some { use := .stow, mv := 600, acked := some 3 } } }, 0, 5, { use := .stow, mv := 600, acked := some 3 }, 0x0003, 3, by decide +kernel⟩

theorem wit_PowerMoves_9 : ∃ (s : State) (o c : Nat) (b x : Nat),
    s.off = false ∧ s.cn.move = .down o 3 c ∧ s.cn.supply = none ∧ s.refusal 3 = some (b, x) ∧ s.cn.wake = none ∧ s.cn.target = none ∧
    b < 32 ∧ x < 8 ∧ o < 3 :=
  ⟨{ wHost.put F.cnStatus_state 2 with cn := { move := .down 1 3 5 }, pci := { link := .l0 } }, 1, 5, 9, 3, by decide +kernel⟩

theorem wit_PowerMoves_10 : ∃ (s : State) (o c : Nat) (b : Nat),
    s.off = false ∧ s.cn.move = .down o 2 c ∧ s.spansPark.delayer 2 = some b ∧ s.cn.wake = none ∧ s.cn.target = none ∧ b < 32 ∧ o < 2 :=
  ⟨(wPort 3 {}).put F.cnStatus_state 1 |> fun s => { s with cn := { move := .down 0 2 5 } }, 0, 5, 16, by decide +kernel⟩

theorem wit_PowerMoves_11 : ∃ (s : State) (o c : Nat),
    s.off = false ∧ s.cn.move = .down o 3 c :=
  ⟨{ wHost.put F.cnStatus_state 2 with cn := { move := .down 1 3 5 } }, 1, 5, by decide +kernel⟩

theorem wit_PowerMoves_12 : ∃ (s : State) (o c : Nat) (b x : Nat),
    s.off = false ∧ s.cn.move = .down o 2 c ∧ s.spansPark.refusal 2 = some (b, x) ∧ s.cn.wake = none ∧ s.cn.target = none ∧ b < 32 ∧
    x < 8 ∧ o < 2 :=
  ⟨({ wHost with cn := { move := .down 1 2 5 } }.put F.cnStatus_state 1).put F.twCtrl_enable 1, 1, 5, 12, 2, by decide +kernel⟩

theorem wit_PowerMoves_13 : ∃ (s : State) (o c : Nat) (b : Nat),
    s.off = false ∧ s.cn.move = .down o 1 c ∧ s.delayer 1 = some b :=
  ⟨(wPort 3 { opens := [{ use := .bulk 0 0 0, addr := 1, pipe := 2, tag := 9, eop := 0, expect := none }] }) |> fun s => { s with cn := { move := .down 0 1 5 } }, 0, 5, 16, by decide +kernel⟩

theorem wit_PowerMoves_14 : ∃ (s : State) (o c : Nat) (b : Nat),
    s.off = false ∧ s.cn.move = .down o 1 c ∧ s.delayer 1 = some b ∧ s.cn.wake = none ∧ s.cn.target = none ∧ b < 32 ∧ o = 0 :=
  ⟨(wPort 3 { opens := [{ use := .bulk 0 0 0, addr := 1, pipe := 2, tag := 9, eop := 0, expect := none }] }) |> fun s => { s with cn := { move := .down 0 1 5 } }, 0, 5, 16, by decide +kernel⟩

theorem wit_PowerMoves_15 : ∃ (s : State) (x : WakeSrc),
    s.off = false ∧ (s.wakeCode x).2.2 = true ∧ s.cn.move = .idle ∧ s.power = 2 ∧ s.wakeTo (s.wakeCode x).1 < 2 ∧ (s.wakeCode x).2.1 < 64 :=
  ⟨wHost.put F.cnStatus_state 2, .host, by decide +kernel⟩

theorem wit_PowerMoves_16 : ∃ (s : State) (x : WakeSrc),
    s.off = false ∧ (s.wakeCode x).2.2 = true ∧ s.cn.move = .idle ∧ s.power = 3 ∧ s.jtag.holds = false :=
  ⟨wHost.put F.cnStatus_state 3, .host, by decide +kernel⟩

theorem wit_PowerMoves_17 : ∃ (s : State) (x : WakeSrc) (a b c : Nat),
    s.off = false ∧ (s.wakeCode x).2.2 = true ∧ s.cn.move = .down a b c ∧ s.cn.wake = none :=
  ⟨{ wHost with cn := { move := .down 0 1 5 } }, .host, 0, 1, 5, by decide +kernel⟩

theorem wit_PowerMoves_18 : ∃ (s : State) (n : Fin 8),
    s.off = false ∧ s.power < 2 ∧ n.val < s.nPorts ∧ s.link n = 5 :=
  ⟨wPort 5 {}, 0, by decide +kernel⟩

theorem wit_PowerMoves_19 : ∃ (s : State),
    s.off = false ∧ s.cn.move = .idle ∧ s.ch.job = .startup ∧ s.phase = 0 ∧ s.cn.oscOn = true :=
  ⟨{ State.reset with cn := { oscOn := true } }, by decide +kernel⟩

theorem wit_PowerMoves_20 : ∃ (s : State) (k c d : Nat),
    s.off = false ∧ s.cn.move = .wake k c d 1 ∧ s.cn.warmAfter = false ∧ c ≠ 0 ∧ k < 2 ∧ s.power = 3 :=
  ⟨{ wHost with cn := { move := .wake 0 4 0 1 } }.put F.cnStatus_state 3, 0, 4, 0, by decide +kernel⟩

theorem wit_PowerMoves_21 : ∃ (s : State),
    s.off = false ∧ s.cn.move = .idle ∧ s.ch.job = .startup ∧ s.phase = 0 ∧ s.cn.oscOn = true ∧ s.jtag.holds = false :=
  ⟨{ State.reset with cn := { oscOn := true } }, by decide +kernel⟩

theorem wit_PowerMoves_22 : ∃ (s : State) (k c d : Nat),
    s.off = false ∧ s.cn.move = .wake k c d 1 ∧ s.power = 3 :=
  ⟨{ wHost with cn := { move := .wake 0 4 0 1 } }.put F.cnStatus_state 3, 0, 4, 0, by decide +kernel⟩

theorem wit_CoreSupply_1 : ∃ (s : State) (u : Supply),
    s.off = false ∧ s.cn.supply = some u ∧ u.waiting = false ∧ u.acked = none ∧ s.armed 0x0E 0 = none ∧ s.armed 0x0F 0 = none :=
  ⟨{ wHost with cn := { supply := some { use := .stepUp, mv := 700 } } }, { use := .stepUp, mv := 700 }, by decide +kernel⟩

theorem wit_CoreSupply_2 : ∃ (s : State) (u : Supply) (cmd : BitVec 8),
    s.off = false ∧ s.cn.supply = some u ∧ u.waiting = false ∧ u.retries < 3 :=
  ⟨{ wHost with cn := { supply := some { use := .stepUp, mv := 700, retries := 2 } } }, { use := .stepUp, mv := 700, retries := 2 }, 0x21, by decide +kernel⟩

theorem wit_CoreSupply_3 : ∃ (s : State) (u : Supply) (cmd : BitVec 8),
    s.off = false ∧ s.cn.supply = some u ∧ u.waiting = false ∧ 3 ≤ u.retries ∧ u.use = .stepUp :=
  ⟨{ wHost with cn := { supply := some { use := .stepUp, mv := 700, retries := 3 } } }, { use := .stepUp, mv := 700, retries := 3 }, 0x21, by decide +kernel⟩

theorem wit_CoreSupply_4 : ∃ (s : State) (u : Supply),
    s.off = false ∧ s.cn.supply = some u ∧ u.waiting = true ∧ s.jtag.holds = false :=
  ⟨{ wHost with cn := { supply := some { use := .stepUp, mv := 700, waiting := true } } }, { use := .stepUp, mv := 700, waiting := true }, by decide +kernel⟩

theorem wit_CoreSupply_5 : ∃ (s : State) (u : Supply) (sw : BitVec 16) (a : Nat),
    s.off = false ∧ s.cn.supply = some u ∧ u.acked = some a ∧ s.armed 0x0E 0 = none ∧ sw.getLsbD 11 = false ∧ u.use = .stepUp ∧
    u.mv < 1024 ∧ s.jtag.holds = false :=
  ⟨{ wHost with cn := { supply := some { use := .stepUp, mv := 700, acked := some 3 } } }, { use := .stepUp, mv := 700, acked := some 3 }, 0x0003, 3, by decide +kernel⟩

theorem wit_CoreSupply_6 : ∃ (s : State) (u : Supply) (sw : BitVec 16) (pg : Bool) (a : Nat),
    s.off = false ∧ s.cn.supply = some u ∧ u.acked = some a ∧ s.armed 0x0E 0 = none ∧ (sw.getLsbD 11 = true ∨ pg = false) :=
  ⟨{ wHost with cn := { supply := some { use := .stepUp, mv := 700, acked := some 3 } } }, { use := .stepUp, mv := 700, acked := some 3 }, 0x0803, true, 3, by decide +kernel⟩

theorem wit_CoreSupply_7 : ∃ (s : State) (u : Supply) (a : Nat),
    s.off = false ∧ s.cn.supply = some u ∧ u.acked = some a ∧ u.waiting = false ∧ u.retries < 3 :=
  ⟨{ wHost with cn := { supply := some { use := .stepUp, mv := 700, acked := some 3 } } }, { use := .stepUp, mv := 700, acked := some 3 }, 3, by decide +kernel⟩

theorem wit_CoreSupply_8 : ∃ (s : State) (ok : Bool),
    s.off = false ∧ s.power < 2 ∧ s.jtag.holds = false :=
  ⟨wHost, false, by decide +kernel⟩

theorem wit_PaceAndVoltage_1 : ∃ (s : State) (p : BitVec 16),
    s.off = false ∧ s.power < 2 ∧ s.flag F.cnStatus_avs_ready = true ∧ s.get F.cnPaceCal_p_wc ≤ p.toNat ∧ s.phase ≠ 0 :=
  ⟨wHost.put F.cnStatus_avs_ready 1, 7, by decide +kernel⟩

theorem wit_PaceAndVoltage_2 : ∃ (s : State) (p : BitVec 16),
    s.off = false ∧ s.power < 2 ∧ s.flag F.cnStatus_avs_halted = false ∧ p.toNat < s.get F.cnPaceCal_p_wc ∧ s.phase ≠ 0 ∧
    (s.cn.supply.any fun u => 880 ≤ u.mv) = false :=
  ⟨wHost.put F.cnPaceCal_p_wc 9, 7, by decide +kernel⟩

theorem wit_PaceAndVoltage_3 : ∃ (s : State) (p : BitVec 16),
    s.off = false ∧ s.power < 2 ∧ s.flag F.cnStatus_avs_halted = true ∧ s.phase ≠ 0 :=
  ⟨wHost.put F.cnStatus_avs_halted 1, 7, by decide +kernel⟩

theorem wit_PaceAndVoltage_4 : ∃ (s : State) (p : Nat),
    s.off = false ∧ s.power < 2 ∧ s.flag F.cnStatus_avs_ready = true ∧ s.cn.pMin = some p ∧ s.cn.mMin = none ∧
    s.flag F.cnStatus_avs_halted = false ∧ s.cn.supply = none ∧ p * 100 < s.pLo ∧ s.get F.cnSupply_setpoint_mv + 5 ≤ 880 ∧
    s.asked .stepUp = false ∧ s.permitBars .stepUp = false ∧ s.phase ≠ 0 :=
  ⟨({ wHost with cn := { pMin := some 7 } }.put F.cnStatus_avs_ready 1).put F.cnPaceCal_p_wc 9, 7, by decide +kernel⟩

theorem wit_PaceAndVoltage_5 : ∃ (s : State) (p : Nat),
    s.off = false ∧ s.power < 2 ∧ s.flag F.cnStatus_avs_ready = true ∧ s.cn.pMin = some p ∧ s.cn.mMin = none ∧
    s.flag F.cnStatus_avs_halted = false ∧ s.cn.supply = none ∧ ¬ p * 100 < s.pLo ∧ 104 * s.pLo ≤ p * 10000 ∧
    s.get F.cnAvsCfg_v_min + 5 ≤ s.get F.cnSupply_setpoint_mv ∧ s.cn.noDown ≤ s.now ∧ s.phase ≠ 0 :=
  ⟨({ wHost with cn := { pMin := some 700 } }.put F.cnStatus_avs_ready 1).put F.cnPaceCal_p_wc 9, 700, by decide +kernel⟩

theorem wit_PaceAndVoltage_6 : ∃ (s : State) (q : Req) (w : Word),
    s.Manages q :=
  ⟨wHost.put F.cnStatus_avs_halted 1, none, 0xAA000000, by decide +kernel⟩

theorem wit_PaceAndVoltage_7 : ∃ (s : State) (q : Req) (w : Word),
    s.Manages q :=
  ⟨wHost.setReg R.cnWakeFault 9, none, 1, by decide +kernel⟩

theorem wit_PaceAndVoltage_8 : ∃ (s : State) (q : Req) (w : Word),
    s.Manages q :=
  ⟨wHost.setReg R.cnPermitCnt 9, none, 1, by decide +kernel⟩

theorem wit_PermitsAndScrub_1 : ∃ (s : State) (p : Permit) (r : List Permit),
    s.off = false ∧ s.cn.queue = p :: r ∧ s.power < 2 ∧ s.permitFits p = true ∧ p.use = .scrub :=
  ⟨{ wHost with cn := { queue := [{ use := .scrub, cost := 60, at_ := 4 }] } }, { use := .scrub, cost := 60, at_ := 4 }, [], by decide +kernel⟩

theorem wit_PermitsAndScrub_2 : ∃ (s : State) (p : Permit) (r : List Permit) (n : Fin 8),
    s.off = false ∧ s.sizesOk = true ∧ s.cn.queue = p :: r ∧ s.power < 2 ∧ s.permitFits p = true ∧ p.use = .training n ∧ s.link n = 1 :=
  ⟨{ wPort 1 {} with cn := { queue := [{ use := .training 0, cost := 60, at_ := 4 }] } }, { use := .training 0, cost := 60, at_ := 4 }, [], 0, by decide +kernel⟩

theorem wit_PermitsAndScrub_3 : ∃ (s : State) (p : Permit) (r : List Permit),
    s.off = false ∧ s.cn.queue = p :: r ∧ p.use = .scrub :=
  ⟨{ wHost with cn := { queue := [{ use := .scrub, cost := 60, at_ := 4 }] } }, { use := .scrub, cost := 60, at_ := 4 }, [], by decide +kernel⟩

theorem wit_PermitsAndScrub_4 : ∃ (s : State),
    s.off = false ∧ s.power < 2 ∧ s.get F.cnScrubCfg_interval_s ≠ 0 ∧ s.cn.scrubbing = false ∧ s.asked .scrub = false ∧
    s.permitBars .scrub = false ∧ s.phase ≠ 0 :=
  ⟨wHost.put F.cnScrubCfg_interval_s 5, by decide +kernel⟩

theorem wit_PermitsAndScrub_5 : ∃ (s : State),
    s.off = false ∧ s.cn.scrubbing = true ∧ s.get (F.fiInjCtrl_mode 1) = 0 ∧ s.get (F.fiInjCtrl_mode 2) = 0 :=
  ⟨{ wHost with cn := { scrubbing := true } }, by decide +kernel⟩

theorem wit_Resets_2 : ∃ (s : State) (c h : Bool),
    s.off = false :=
  ⟨wHost, true, false, by decide +kernel⟩

theorem wit_Resets_3 : ∃ (s : State) (c h : Bool),
    s.off = true :=
  ⟨{ wHost with off := true }, true, false, by decide +kernel⟩

theorem wit_Resets_5 : ∃ (s : State),
    s.off = false ∧ s.phase = 3 ∧ s.ch.job = .startup ∧ s.power ≠ 3 :=
  ⟨{ State.reset with ch := { job := .startup } }.put F.chStatus_phase 3, by decide +kernel⟩

theorem wit_Resets_6 : ∃ (s : State),
    s.off = false ∧ s.mode ≠ 1 ∧ s.mode ≠ 2 ∧ s.power = 0 ∧ s.flag F.cnStatus_moving = false ∧ s.phase = 5 :=
  ⟨(wHost.put F.chStatus_phase 5).put F.chStatus_mode 3, by decide +kernel⟩

theorem wit_Resets_7 : ∃ (s : State),
    s.off = false ∧ (s.mode = 1 ∨ s.mode = 2) ∧ s.power = 0 ∧ s.flag F.cnStatus_moving = false ∧ s.phase = 5 :=
  ⟨(wHost.put F.chStatus_phase 5).put F.chStatus_mode 2, by decide +kernel⟩

theorem wit_Resets_8 : ∃ (s : State),
    s.off = false ∧ s.mode ≠ 1 ∧ s.mode ≠ 2 ∧ s.power = 0 ∧ s.flag F.cnStatus_moving = false ∧ s.phase = 5 :=
  ⟨(wHost.put F.chStatus_phase 5).put F.chStatus_mode 3, by decide +kernel⟩

theorem wit_Resets_9 : ∃ (s : State),
    s.off = false ∧ (s.mode = 1 ∨ s.mode = 2) ∧ s.power = 0 ∧ s.flag F.cnStatus_moving = false ∧ s.phase = 5 :=
  ⟨(wHost.put F.chStatus_phase 5).put F.chStatus_mode 2, by decide +kernel⟩

theorem wit_Resets_10 : ∃ (s : State) (q : Req) (w : Word),
    s.Manages q ∧ s.mode ≠ 1 ∧ s.mode ≠ 2 ∧ s.power = 0 ∧ s.flag F.cnStatus_moving = false ∧ s.phase = 5 :=
  ⟨(wHost.put F.chStatus_phase 5).put F.chStatus_mode 3, none, 1, by decide +kernel⟩

theorem wit_Resets_11 : ∃ (s : State) (q : Req) (w : Word),
    s.Manages q ∧ (s.mode = 1 ∨ s.mode = 2) ∧ s.power = 0 ∧ s.flag F.cnStatus_moving = false ∧ s.phase = 5 :=
  ⟨(wHost.put F.chStatus_phase 5).put F.chStatus_mode 2, none, 1, by decide +kernel⟩

theorem wit_CharterLoader_1 : ∃ (s : State),
    s.off = false ∧ s.ch.job = .startup ∧ s.phase = 1 ∧ s.jtag.holds = false :=
  ⟨State.reset.put F.chStatus_phase 1, by decide +kernel⟩

theorem wit_CharterLoader_2 : ∃ (s : State),
    s.off = false ∧ s.ch.job = .startup ∧ s.ch.wait = .sfdp ∧ s.jtag.holds = false :=
  ⟨{ State.reset with ch := { job := .startup, wait := .sfdp } }, by decide +kernel⟩

theorem wit_CharterLoader_3 : ∃ (s : State) (d : List Byte),
    s.off = false ∧ s.ch.job = .startup ∧ s.ch.wait = .sfdp ∧ leAt (fit 16 d) 0 4 ≠ 0x50444653 ∧ s.jtag.holds = false :=
  ⟨{ State.reset with ch := { job := .startup, wait := .sfdp } }, [1, 2], by decide +kernel⟩

theorem wit_CharterLoader_4 : ∃ (s : State) (d : List Byte),
    s.off = false ∧ s.ch.job = .startup ∧ s.ch.wait = .header false ∧ headerCode d s.copySpace ≠ 0 ∧ headerCode d s.copySpace < 16 :=
  ⟨{ State.reset with ch := { job := .startup, wait := .header false } }, [1, 2], by decide +kernel⟩

theorem wit_CharterLoader_5 : ∃ (s : State) (d : List Byte),
    s.off = false ∧ s.ch.job = .startup ∧ s.ch.wait = .header true ∧ headerCode d s.copySpace ≠ 0 ∧ headerCode d s.copySpace < 16 ∧
    s.ch.copyA = none ∧ s.ch.attach = false :=
  ⟨{ State.reset with ch := { job := .startup, wait := .header true } }, [1, 2], by decide +kernel⟩

theorem wit_CharterLoader_6 : ∃ (s : State),
    s.off = false ∧ s.ch.job = .startup ∧ s.ch.wait = .verify false ∧ (s.imageCode s.ch.image).1 ≠ 0 ∧ (s.imageCode s.ch.image).1 < 16 :=
  ⟨{ State.reset with ch := { job := .startup, wait := .verify false } }, by decide +kernel⟩

theorem wit_CharterLoader_7 : ∃ (s : State),
    s.off = false ∧ s.ch.job = .startup ∧ s.ch.wait = .verify false ∧ (s.imageCode s.ch.image).1 = 0 ∧ s.jtag.holds = false :=
  ⟨{ State.reset with ch := { job := .startup, wait := .verify false, image := wImg } }, by decide +kernel⟩

theorem wit_CharterLoader_8 : ∃ (s : State),
    s.off = false ∧ s.ch.job = .startup ∧ s.ch.wait = .verify true ∧ s.ch.copyA = none ∧ (s.imageCode s.ch.image).1 = 0 :=
  ⟨{ State.reset with ch := { job := .startup, wait := .verify true, image := wImg } }, by decide +kernel⟩

theorem wit_CharterLoader_9 : ∃ (s : State) (d : List Byte),
    s.off = false ∧ s.ch.job = .startup ∧ s.ch.wait = .header false ∧ headerCode d s.copySpace = 0 ∧ s.jtag.holds = false :=
  ⟨{ State.reset with ch := { job := .startup, wait := .header false } }.put F.chFlash_b_offset 2048, (wImg.take 64), by decide +kernel⟩

theorem wit_CharterLoader_10 : ∃ (s : State) (q : Req) (w : Word),
    s.Manages q ∧ s.flag F.chStatus_busy = false ∧ s.phase = 5 ∧ s.permitBars .charter = false :=
  ⟨(wHost.put F.chStatus_phase 5).put F.chStatus_mode 1, none, 1, by decide +kernel⟩

theorem wit_CharterLoader_11 : ∃ (s : State) (q : Req) (w : Word),
    s.Manages q ∧ s.mode = 3 ∧ s.flag F.chStatus_busy = false ∧ s.phase = 5 ∧ s.permitBars .charter = false :=
  ⟨(wHost.put F.chStatus_phase 5).put F.chStatus_mode 3, none, 1, by decide +kernel⟩

theorem wit_CharterLoader_12 : ∃ (s : State),
    s.off = false ∧ s.ch.job = .reapply ∧ s.ch.wait = .none ∧ s.ch.refusals = 0 ∧ s.permitBars .charter = false :=
  ⟨{ wHost with ch := { job := .reapply } }, by decide +kernel⟩

theorem wit_CharterLoader_13 : ∃ (s : State),
    s.off = false ∧ s.ch.job = .reapply ∧ s.ch.wait = .none ∧ 1 ≤ s.ch.refusals ∧ s.permitBars .charter = false :=
  ⟨{ wHost with ch := { job := .reapply, refusals := 3 } }, by decide +kernel⟩

theorem wit_CharterLoader_14 : ∃ (s : State),
    s.off = false ∧ s.ch.job = .reapply ∧ s.ch.wait = .none ∧ s.ch.refusals = 9 ∧ s.permitBars .charter = true ∧ s.ch.attach = false :=
  ⟨{ wHost.put F.cnStatus_state 2 with ch := { job := .reapply, refusals := 9 } }, by decide +kernel⟩

theorem wit_TestAccessAndFuses_1 : ∃ (s : State) (a b : List Bool),
    s.off = false :=
  ⟨wHost, [true, false], [false, true], by decide +kernel⟩

theorem wit_TestAccessAndFuses_2 : ∃ (s : State),
    s.off = false :=
  ⟨wHost, by decide +kernel⟩

theorem wit_TestAccessAndFuses_3 : ∃ (s : State) (a b : List Bool),
    s.off = false :=
  ⟨wHost, [true, false], [false], by decide +kernel⟩

theorem wit_TestAccessAndFuses_4 : ∃ (s : State) (b : List Bool),
    s.off = false :=
  ⟨wHost, [true, true], by decide +kernel⟩

theorem wit_TestAccessAndFuses_5 : ∃ (s : State) (b : List Bool),
    s.off = false :=
  ⟨wHost, [true, true], by decide +kernel⟩

theorem wit_TestAccessAndFuses_6 : ∃ (s : State) (c : BitVec 8) (b : List Bool),
    s.off = false ∧ tapCodes.contains c.toNat = false :=
  ⟨wHost, 0x77, [true, true], by decide +kernel⟩

theorem wit_TestAccessAndFuses_7 : ∃ (s : State),
    s.off = false ∧ s.jtag.holds = true :=
  ⟨{ wHost with jtag := { ir := 0 } }, by decide +kernel⟩

theorem wit_TestAccessAndFuses_8 : ∃ (s : State) (o : Output), s.jtag.holds = true ∧ o.scanned = true :=
  ⟨{ wHost with jtag := { ir := 3 } }, .pin "PPS_OUT" true, by decide +kernel⟩

theorem wit_TestAccessAndFuses_9 : ∃ (s : State),
    s.off = false :=
  ⟨{ wHost with jtag := { ir := 4 } }, by decide +kernel⟩

theorem wit_TestAccessAndFuses_10 : ∃ (s : State) (b : BitVec 257),
    s.off = false :=
  ⟨wHost, 5, by decide +kernel⟩

theorem wit_TestAccessAndFuses_11 : ∃ (s : State),
    s.off = false :=
  ⟨wHost, by decide +kernel⟩

theorem wit_TestAccessAndFuses_12 : ∃ (s : State),
    s.off = false :=
  ⟨{ wHost with jtag := { fuse := 2 ^ 256 + 5 } }, by decide +kernel⟩

theorem wit_TestAccessAndFuses_13 : ∃ (s : State),
    s.off = false :=
  ⟨{ wHost with jtag := { fuse := 2 ^ 256 + 5 } }, by decide +kernel⟩

end Sys2Proof.Machine
end

section
/-! SUPPORT. What every step of the machine does, whatever the command: it answers a next state, keeps the tables canonical and the numbers of
the units, and leaves the part and the fuses alone but for three commands. Each fact is read off the parts that the command's own `_touch`
lemma names. -/

namespace Sys2Proof.Machine

/-- The commands that write the part or the fuses: the two that build the state anew from its reset value, and the burn. -/
def rewritesFuses : Instr → Bool
  | .coldReset _ _ _ | .alwaysOnSupplyLoss | .fuseBurn _ => true
  | _ => false

/-- Every part of the state, or every part but the part number (bit 0) and the fuses (bit 32). -/
def partsWith (fuses : Bool) : Nat := if fuses then 0x7FFFFFFFFFFFFFF else 0x7FFFFFEFFFFFFFE

theorem touchesAll {o : Host.Outcome State Fault Refusal} {a : Nat} {s : State} (h : ∃ t, o = .next t ∧ Touch a s t)
    (e : sub a 0x7FFFFFFFFFFFFFF = true := by decide) : ∃ t, o = .next t ∧ Touch (partsWith true) s t := by
  obtain ⟨t, ht, k⟩ := h
  exact ⟨t, ht, k.weaken e⟩

theorem keepsFuses {o : Host.Outcome State Fault Refusal} {a : Nat} {s : State} (h : ∃ t, o = .next t ∧ Touch a s t)
    (e : sub a 0x7FFFFFEFFFFFFFE = true := by decide) : ∃ t, o = .next t ∧ Touch (partsWith false) s t := by
  obtain ⟨t, ht, k⟩ := h
  exact ⟨t, ht, k.weaken e⟩

/-- Every command answers a next state, and touches nothing outside its parts. -/
theorem exec_touch : ∀ (c : Instr) (s : State), ∃ t, exec c s = .next t ∧ Touch (partsWith (rewritesFuses c)) s t
  | .coldReset _ _ _, s => touchesAll (execColdReset_touch ..)
  | .perstNAssert, s => keepsFuses (execPerstNAssert_touch ..)
  | .softReset _ _, s => keepsFuses (execSoftReset_touch ..)
  | .functionLevelReset, s => keepsFuses (execFunctionLevelReset_touch ..)
  | .alwaysOnSupplyLoss, s => touchesAll (execAlwaysOnSupplyLoss_touch ..)
  | .sramClearDone, s => keepsFuses (execSramClearDone_touch ..)
  | .flashReadDone _, s => keepsFuses (execFlashReadDone_touch ..)
  | .signatureCheckDone, s => keepsFuses (execSignatureCheckDone_touch ..)
  | .charterCheck _ _, s => keepsFuses (execCharterCheck_touch ..)
  | .charterLoad _ _, s => keepsFuses (execCharterLoad_touch ..)
  | .charterReapply, s => keepsFuses (execCharterReapply_touch ..)
  | .reapplyRetry, s => keepsFuses (execReapplyRetry_touch ..)
  | .frameBoundary _, s => keepsFuses (execFrameBoundary_touch ..)
  | .planBuildDone _, s => keepsFuses (execPlanBuildDone_touch ..)
  | .planCutoff, s => keepsFuses (execPlanCutoff_touch ..)
  | .effectFrame, s => keepsFuses (execEffectFrame_touch ..)
  | .periodicIssue _, s => keepsFuses (execPeriodicIssue_touch ..)
  | .bulkPacketBoundary _, s => keepsFuses (execBulkPacketBoundary_touch ..)
  | .ref10Loss, s => keepsFuses (execRef10Loss_touch ..)
  | .ref10Return, s => keepsFuses (execRef10Return_touch ..)
  | .ppsEdge _ _, s => keepsFuses (execPpsEdge_touch ..)
  | .irigbFrame _, s => keepsFuses (execIrigbFrame_touch ..)
  | .todSentence _ _ _, s => keepsFuses (execTodSentence_touch ..)
  | .sourceLossTimeout _, s => keepsFuses (execSourceLossTimeout_touch ..)
  | .stepApply, s => keepsFuses (execStepApply_touch ..)
  | .steppedEnd, s => keepsFuses (execSteppedEnd_touch ..)
  | .holdoverLimit, s => keepsFuses (execHoldoverLimit_touch ..)
  | .alarmFire _, s => keepsFuses (execAlarmFire_touch ..)
  | .alarmLoad _ _ _, s => keepsFuses (execAlarmLoad_touch ..)
  | .ppsOutPulse, s => keepsFuses (execPpsOutPulse_touch ..)
  | .frameRateRequest _ _, s => keepsFuses (execFrameRateRequest_touch ..)
  | .frameRateChange, s => keepsFuses (execFrameRateChange_touch ..)
  | .takeInEdge _ _, s => keepsFuses (execTakeInEdge_touch ..)
  | .recordWriteDone, s => keepsFuses (execRecordWriteDone_touch ..)
  | .softwareTake _ _, s => keepsFuses (execSoftwareTake_touch ..)
  | .vitrineRelease _ _, s => keepsFuses (execVitrineRelease_touch ..)
  | .storeClear _ _, s => keepsFuses (execStoreClear_touch ..)
  | .rgCntClear _ _, s => keepsFuses (execRgCntClear_touch ..)
  | .linkEnable _ _ _, s => keepsFuses (execLinkEnable_touch ..)
  | .linkDisable _ _ _, s => keepsFuses (execLinkDisable_touch ..)
  | .retrain _ _ _, s => keepsFuses (execRetrain_touch ..)
  | .cutRelease _ _ _, s => keepsFuses (execCutRelease_touch ..)
  | .partnerBeacon _ _ _, s => keepsFuses (execPartnerBeacon_touch ..)
  | .permitGrant, s => keepsFuses (execPermitGrant_touch ..)
  | .permitWaitTimeout, s => keepsFuses (execPermitWaitTimeout_touch ..)
  | .trainingPermitRetry _, s => keepsFuses (execTrainingPermitRetry_touch ..)
  | .trainingComplete _ _ _ _, s => keepsFuses (execTrainingComplete_touch ..)
  | .trainingTimeout _, s => keepsFuses (execTrainingTimeout_touch ..)
  | .fastTrainingTimeout _, s => keepsFuses (execFastTrainingTimeout_touch ..)
  | .linkHit _, s => keepsFuses (execLinkHit_touch ..)
  | .hitTimeout _, s => keepsFuses (execHitTimeout_touch ..)
  | .sfpLosChange _ _ _, s => keepsFuses (execSfpLosChange_touch ..)
  | .responseReceive _ _, s => keepsFuses (execResponseReceive_touch ..)
  | .flushReadDone _ _, s => keepsFuses (execFlushReadDone_touch ..)
  | .responseTimeout _ _, s => keepsFuses (execResponseTimeout_touch ..)
  | .controlTimeout _ _, s => keepsFuses (execControlTimeout_touch ..)
  | .babbleObservation _ _, s => keepsFuses (execBabbleObservation_touch ..)
  | .gpCutRelease _ _ _, s => keepsFuses (execGpCutRelease_touch ..)
  | .rangingEcho _ _ _ _ _ _, s => keepsFuses (execRangingEcho_touch ..)
  | .echoLost _ _, s => keepsFuses (execEchoLost_touch ..)
  | .maintenanceProbeDue _ _, s => keepsFuses (execMaintenanceProbeDue_touch ..)
  | .sweepRetry _ _, s => keepsFuses (execSweepRetry_touch ..)
  | .attachWaitDone _, s => keepsFuses (execAttachWaitDone_touch ..)
  | .attachRetry _, s => keepsFuses (execAttachRetry_touch ..)
  | .portDisableEnd _, s => keepsFuses (execPortDisableEnd_touch ..)
  | .treeSuspend _ _ _, s => keepsFuses (execTreeSuspend_touch ..)
  | .suspendAtBoundary _, s => keepsFuses (execSuspendAtBoundary_touch ..)
  | .susReceived _, s => keepsFuses (execSusReceived_touch ..)
  | .susTimeout _, s => keepsFuses (execSusTimeout_touch ..)
  | .treeResume _ _ _, s => keepsFuses (execTreeResume_touch ..)
  | .resumeFst _, s => keepsFuses (execResumeFst_touch ..)
  | .remoteWakeBeacon _, s => keepsFuses (execRemoteWakeBeacon_touch ..)
  | .busReset _ _ _, s => keepsFuses (execBusReset_touch ..)
  | .busResetRetrain _, s => keepsFuses (execBusResetRetrain_touch ..)
  | .busResetTimeout _, s => keepsFuses (execBusResetTimeout_touch ..)
  | .gpAccUnbind _ _ _, s => keepsFuses (execGpAccUnbind_touch ..)
  | .gpAccRetry _ _ _, s => keepsFuses (execGpAccRetry_touch ..)
  | .cuAccPop _ _, s => keepsFuses (execCuAccPop_touch ..)
  | .gpCntClear _ _ _, s => keepsFuses (execGpCntClear_touch ..)
  | .gpXactClear _ _ _, s => keepsFuses (execGpXactClear_touch ..)
  | .contextEnable _ _ _, s => keepsFuses (execContextEnable_touch ..)
  | .contextDisable _ _ _, s => keepsFuses (execContextDisable_touch ..)
  | .clearHalt _ _ _, s => keepsFuses (execClearHalt_touch ..)
  | .contextRelease _ _ _, s => keepsFuses (execContextRelease_touch ..)
  | .pxCntClear _ _ _, s => keepsFuses (execPxCntClear_touch ..)
  | .outRingReadDone _ _, s => keepsFuses (execOutRingReadDone_touch ..)
  | .swIndexReadDone _ _, s => keepsFuses (execSwIndexReadDone_touch ..)
  | .rateCheck _ _, s => keepsFuses (execRateCheck_touch ..)
  | .rateCheckDone, s => keepsFuses (execRateCheckDone_touch ..)
  | .pwOpenEffect, s => keepsFuses (execPwOpenEffect_touch ..)
  | .admissionConfigWrite _ _ _, s => keepsFuses (execAdmissionConfigWrite_touch ..)
  | .ageingPromotion _ _ _ _, s => keepsFuses (execAgeingPromotion_touch ..)
  | .cuClear _ _, s => keepsFuses (execCuClear_touch ..)
  | .ringPoll _ _, s => keepsFuses (execRingPoll_touch ..)
  | .workEntryRead _ _ _, s => keepsFuses (execWorkEntryRead_touch ..)
  | .bulkIn _ _ _, s => keepsFuses (execBulkIn_touch ..)
  | .bulkOut _ _ _, s => keepsFuses (execBulkOut_touch ..)
  | .control _ _ _, s => keepsFuses (execControl_touch ..)
  | .catInsert _ _ _, s => keepsFuses (execCatInsert_touch ..)
  | .catRemove _ _ _, s => keepsFuses (execCatRemove_touch ..)
  | .catModify _ _ _, s => keepsFuses (execCatModify_touch ..)
  | .mark _ _ _, s => keepsFuses (execMark_touch ..)
  | .ringEnable _ _ _ _, s => keepsFuses (execRingEnable_touch ..)
  | .ringDisable _ _ _ _, s => keepsFuses (execRingDisable_touch ..)
  | .ringStopDone _ _, s => keepsFuses (execRingStopDone_touch ..)
  | .eventRingEnable _ _ _, s => keepsFuses (execEventRingEnable_touch ..)
  | .eventRingDisable _ _ _, s => keepsFuses (execEventRingDisable_touch ..)
  | .eventTailReadDone _ _, s => keepsFuses (execEventTailReadDone_touch ..)
  | .eventHeadReadDone _ _, s => keepsFuses (execEventHeadReadDone_touch ..)
  | .moverGo _ _ _, s => keepsFuses (execMoverGo_touch ..)
  | .moverStop _ _ _, s => keepsFuses (execMoverStop_touch ..)
  | .moverOwner _ _ _, s => keepsFuses (execMoverOwner_touch ..)
  | .mvCntClear _ _, s => keepsFuses (execMvCntClear_touch ..)
  | .descriptorReadDone _, s => keepsFuses (execDescriptorReadDone_touch ..)
  | .moverHostReadDone _ _, s => keepsFuses (execMoverHostReadDone_touch ..)
  | .moverReadbackDone _ _, s => keepsFuses (execMoverReadbackDone_touch ..)
  | .routeWrite _ _, s => keepsFuses (execRouteWrite_touch ..)
  | .routeRead _ _, s => keepsFuses (execRouteRead_touch ..)
  | .routeClear _ _, s => keepsFuses (execRouteClear_touch ..)
  | .coCntClear _ _, s => keepsFuses (execCoCntClear_touch ..)
  | .coPwerrClear _ _, s => keepsFuses (execCoPwerrClear_touch ..)
  | .reflexMessage _, s => keepsFuses (execReflexMessage_touch ..)
  | .forwardMessage _, s => keepsFuses (execForwardMessage_touch ..)
  | .takeMessage _, s => keepsFuses (execTakeMessage_touch ..)
  | .writeErrorMessage _, s => keepsFuses (execWriteErrorMessage_touch ..)
  | .remoteSend _ _ _, s => keepsFuses (execRemoteSend_touch ..)
  | .remoteRequest _, s => keepsFuses (execRemoteRequest_touch ..)
  | .remoteResponse _, s => keepsFuses (execRemoteResponse_touch ..)
  | .retryBackoffExpire _, s => keepsFuses (execRetryBackoffExpire_touch ..)
  | .remoteTimeout _, s => keepsFuses (execRemoteTimeout_touch ..)
  | .ticketDiscard _, s => keepsFuses (execTicketDiscard_touch ..)
  | .hostAttach _ _, s => keepsFuses (execHostAttach_touch ..)
  | .hostDetach _ _, s => keepsFuses (execHostDetach_touch ..)
  | .detachDone, s => keepsFuses (execDetachDone_touch ..)
  | .galleryReset _ _ _, s => keepsFuses (execGalleryReset_touch ..)
  | .galleryOpen _ _ _, s => keepsFuses (execGalleryOpen_touch ..)
  | .galleryClose _ _ _, s => keepsFuses (execGalleryClose_touch ..)
  | .galleryResetDone _, s => keepsFuses (execGalleryResetDone_touch ..)
  | .pasidWrite _ _ _, s => keepsFuses (execPasidWrite_touch ..)
  | .gaDbIn _ _ _, s => keepsFuses (execGaDbIn_touch ..)
  | .gaDbOut _ _ _, s => keepsFuses (execGaDbOut_touch ..)
  | .gaViolClear _ _, s => keepsFuses (execGaViolClear_touch ..)
  | .bar2Write _ _ _, s => keepsFuses (execBar2Write_touch ..)
  | .bar2Read _ _ _ _, s => keepsFuses (execBar2Read_touch ..)
  | .pcieConfigWrite _, s => keepsFuses (execPcieConfigWrite_touch ..)
  | .msixUnmask _ _ _, s => keepsFuses (execMsixUnmask_touch ..)
  | .icClaim _ _, s => keepsFuses (execIcClaim_touch ..)
  | .icComplete _ _ _, s => keepsFuses (execIcComplete_touch ..)
  | .icSet _ _ _, s => keepsFuses (execIcSet_touch ..)
  | .icShSet _ _, s => keepsFuses (execIcShSet_touch ..)
  | .icEnableWrite _ _ _ _, s => keepsFuses (execIcEnableWrite_touch ..)
  | .icShTargetWrite _ _ _, s => keepsFuses (execIcShTargetWrite_touch ..)
  | .coalesceTimeout _ _, s => keepsFuses (execCoalesceTimeout_touch ..)
  | .fallbackTimeout _, s => keepsFuses (execFallbackTimeout_touch ..)
  | .spanEnable _ _ _, s => keepsFuses (execSpanEnable_touch ..)
  | .spanRetrain _ _ _, s => keepsFuses (execSpanRetrain_touch ..)
  | .spanPacketReceive _ _, s => keepsFuses (execSpanPacketReceive_touch ..)
  | .linkPacket _ _, s => keepsFuses (execLinkPacket_touch ..)
  | .spCntClear _ _, s => keepsFuses (execSpCntClear_touch ..)
  | .spPmCntClear _ _ _, s => keepsFuses (execSpPmCntClear_touch ..)
  | .discover _ _, s => keepsFuses (execDiscover_touch ..)
  | .discRecord _ _, s => keepsFuses (execDiscRecord_touch ..)
  | .discoveryPermitRetry, s => keepsFuses (execDiscoveryPermitRetry_touch ..)
  | .discoverySettled, s => keepsFuses (execDiscoverySettled_touch ..)
  | .chainPulse, s => keepsFuses (execChainPulse_touch ..)
  | .chainIdTake, s => keepsFuses (execChainIdTake_touch ..)
  | .chainTrain, s => keepsFuses (execChainTrain_touch ..)
  | .chainTimeout, s => keepsFuses (execChainTimeout_touch ..)
  | .timeSend, s => keepsFuses (execTimeSend_touch ..)
  | .timePacket _, s => keepsFuses (execTimePacket_touch ..)
  | .masterChange, s => keepsFuses (execMasterChange_touch ..)
  | .frameRenumber, s => keepsFuses (execFrameRenumber_touch ..)
  | .spanRangingEcho _ _ _, s => keepsFuses (execSpanRangingEcho_touch ..)
  | .twinEnable _ _, s => keepsFuses (execTwinEnable_touch ..)
  | .twinYield _ _, s => keepsFuses (execTwinYield_touch ..)
  | .yieldEffect, s => keepsFuses (execYieldEffect_touch ..)
  | .heartbeatSend, s => keepsFuses (execHeartbeatSend_touch ..)
  | .heartbeatReceive _, s => keepsFuses (execHeartbeatReceive_touch ..)
  | .twinTakeover, s => keepsFuses (execTwinTakeover_touch ..)
  | .soloWaitExpire, s => keepsFuses (execSoloWaitExpire_touch ..)
  | .mirrorMessage, s => keepsFuses (execMirrorMessage_touch ..)
  | .twClear _ _, s => keepsFuses (execTwClear_touch ..)
  | .fiUnlock _ _, s => keepsFuses (execFiUnlock_touch ..)
  | .injectionArm _ _ _, s => keepsFuses (execInjectionArm_touch ..)
  | .handshakeStall _ _, s => keepsFuses (execHandshakeStall_touch ..)
  | .fiFaultClear _ _, s => keepsFuses (execFiFaultClear_touch ..)
  | .fiClear _ _, s => keepsFuses (execFiClear_touch ..)
  | .fiClearFirst _ _, s => keepsFuses (execFiClearFirst_touch ..)
  | .fiSummaryClear _ _, s => keepsFuses (execFiSummaryClear_touch ..)
  | .scrubInterval, s => keepsFuses (execScrubInterval_touch ..)
  | .scrubPassDone _, s => keepsFuses (execScrubPassDone_touch ..)
  | .powerTarget _ _, s => keepsFuses (execPowerTarget_touch ..)
  | .entryStepDone, s => keepsFuses (execEntryStepDone_touch ..)
  | .entryTimeout, s => keepsFuses (execEntryTimeout_touch ..)
  | .wakeSource _, s => keepsFuses (execWakeSource_touch ..)
  | .oscillatorReady, s => keepsFuses (execOscillatorReady_touch ..)
  | .oscillatorTimeout, s => keepsFuses (execOscillatorTimeout_touch ..)
  | .pmbusAck, s => keepsFuses (execPmbusAck_touch ..)
  | .pmbusCommandFail _, s => keepsFuses (execPmbusCommandFail_touch ..)
  | .pmbusRetry, s => keepsFuses (execPmbusRetry_touch ..)
  | .pmbusStatusPoll _ _, s => keepsFuses (execPmbusStatusPoll_touch ..)
  | .powerGoodTimeout, s => keepsFuses (execPowerGoodTimeout_touch ..)
  | .aonStatusRead _, s => keepsFuses (execAonStatusRead_touch ..)
  | .paceSample _, s => keepsFuses (execPaceSample_touch ..)
  | .avsPeriod, s => keepsFuses (execAvsPeriod_touch ..)
  | .avsConfigWrite _ _, s => keepsFuses (execAvsConfigWrite_touch ..)
  | .cnWakeFaultClear _ _, s => keepsFuses (execCnWakeFaultClear_touch ..)
  | .cnCntClear _ _, s => keepsFuses (execCnCntClear_touch ..)
  | .extest _ _, s => keepsFuses (execExtest_touch ..)
  | .idcode, s => keepsFuses (execIdcode_touch ..)
  | .samplePreload _ _, s => keepsFuses (execSamplePreload_touch ..)
  | .highz _, s => keepsFuses (execHighz_touch ..)
  | .clamp _, s => keepsFuses (execClamp_touch ..)
  | .bypass _ _, s => keepsFuses (execBypass_touch ..)
  | .tapReset, s => keepsFuses (execTapReset_touch ..)
  | .fuseLoad _, s => keepsFuses (execFuseLoad_touch ..)
  | .fuseBurn _, s => touchesAll (execFuseBurn_touch ..)
  | .fuseRead, s => keepsFuses (execFuseRead_touch ..)
  | .registerWrite _ _ _, s => keepsFuses (execRegisterWrite_touch ..)
  | .bar0Read _ _ _ _, s => keepsFuses (execBar0Read_touch ..)
  | .fragmentTableReadDone _ _ _ _, s => keepsFuses (execFragmentTableReadDone_touch ..)
  | .hostReadTimeout _, s => keepsFuses (execHostReadTimeout_touch ..)
  | .rangingPermitRetry _ _, s => keepsFuses (execRangingPermitRetry_touch ..)
  | .spanMaintenanceProbe _, s => keepsFuses (execSpanMaintenanceProbe_touch ..)
  | .partnerBeaconLoss _, s => keepsFuses (execPartnerBeaconLoss_touch ..)
  | .pmeTurnOff, s => keepsFuses (execPmeTurnOff_touch ..)
  | .pcieLinkStateChange _, s => keepsFuses (execPcieLinkStateChange_touch ..)
  | .perstNRelease, s => keepsFuses (execPerstNRelease_touch ..)
  | .spanPacketBoundary _, s => keepsFuses (execSpanPacketBoundary_touch ..)
  | .takeOutPulseEnd, s => keepsFuses (execTakeOutPulseEnd_touch ..)
  | .ppsOutPulseEnd, s => keepsFuses (execPpsOutPulseEnd_touch ..)

/-- What a command that answers `t` touches. -/
theorem touch_of_exec {c : Instr} {s t : State} (h : exec c s = .next t) : Touch (partsWith (rewritesFuses c)) s t := by
  obtain ⟨u, hu, k⟩ := exec_touch c s
  cases hu.symm.trans h
  exact k

/-- A step is a cycle of the counter, with nothing waiting, or the command in front of the queue. -/
theorem step_cases {s t : State} (h : step s = .next t) :
    t = idle s ∨ ∃ c rest, s.pending = c :: rest ∧ exec c { s with pending := rest } = .next t := by
  unfold step at h
  split at h
  · cases h
    exact .inl rfl
  · exact .inr ⟨_, _, ‹_›, h⟩

theorem idle_touch (s : State) : Touch 0x80 s (idle s) := by
  unfold idle
  split
  · exact Touch.refl s
  · exact s.tick_touch


theorem step_keeps_memOk {s t : State} (h : step s = .next t) (hs : s.memOk = true) : t.memOk = true := by
  rcases step_cases h with rfl | ⟨c, rest, _, hc⟩
  · exact (idle_touch s).mem hs
  · exact (touch_of_exec hc).mem hs

theorem step_keeps_sizesOk {s t : State} (h : step s = .next t) (hs : s.sizesOk = true) : t.sizesOk = true := by
  rcases step_cases h with rfl | ⟨c, rest, _, hc⟩
  · exact (idle_touch s).sizes hs
  · exact (touch_of_exec hc).sizes hs

theorem step_answers (s : State) : ∃ t, step s = .next t := by
  unfold step
  split
  · exact ⟨_, rfl⟩
  · obtain ⟨t, ht, _⟩ := exec_touch _ _
    exact ⟨t, ht⟩

/-! ### The fuses -/

/-- What a step may do to the fuses (R439, R480): nothing but burn a hash into empty ones, set the lock of a hash, and note a failed burn. -/
structure FusesGrow (f g : Fuses) : Prop where
  serial : g.serial = f.serial
  pWc : g.pWc = f.pWc
  hash : f.keyHash ≠ 0 → g.keyHash = f.keyHash
  lock : f.keyLock = true → g.keyLock = true
  failed : f.burnFailed = true → g.burnFailed = true
  lockHash : (f.keyLock = true → f.keyHash ≠ 0) → g.keyLock = true → g.keyHash ≠ 0

theorem FusesGrow.refl (f : Fuses) : FusesGrow f f := ⟨rfl, rfl, fun _ => rfl, id, id, id⟩

theorem fuseBurn_grow (f : Fuses) (loaded : Nat) (inRange : Bool) : FusesGrow f (fuseBurn f loaded inRange) := by
  cases inRange with
  | false => exact ⟨rfl, rfl, fun _ => rfl, id, fun _ => rfl, id⟩
  | true =>
    by_cases hz : f.keyHash = 0
    · refine ⟨rfl, rfl, fun h => absurd hz h, fun h => ?_, id, fun hl h => ?_⟩
      · simp [fuseBurn, h]
      · have hf : f.keyLock = false := by
          cases hk : f.keyLock with
          | false => rfl
          | true => exact absurd hz (hl hk)
        simp only [fuseBurn, hz, hf, Bool.not_true, Bool.false_eq_true, if_false, if_true, Bool.false_or, Bool.and_eq_true, bne_iff_ne] at h ⊢
        exact h.2
    · refine ⟨rfl, rfl, fun _ => ?_, fun h => ?_, id, fun _ _ => ?_⟩
      · simp [fuseBurn, hz]
      · simp [fuseBurn, h]
      · simp [fuseBurn, hz]

/-- A burn writes what was loaded before it (R480). -/
theorem execFuseBurn_next {v : Bool} {s t : State} (h : exec (.fuseBurn v) s = .next t) :
    t.part = s.part ∧ (t.fuses = s.fuses ∨ t.fuses = fuseBurn s.fuses s.jtag.fuse v) := by
  have h : execFuseBurn v s = .next t := h
  unfold execFuseBurn at h
  cases ho : s.off with
  | true =>
    rw [act_off _ ho] at h
    cases h
    exact ⟨rfl, .inl rfl⟩
  | false =>
    rw [act_awake _ ho] at h
    cases h
    exact ⟨(settle_part _ _).trans ((s.tapSelect_touch 0x21).part (by decide)), .inr (settle_fuses _ _)⟩

/-- A cold reset's registers and engines are new; the part and the fuses are not. -/
theorem coldReset_part_fuses (s : State) (power chainLow twinHigh : Bool) :
    (s.coldReset power chainLow twinHigh).part = s.part ∧ (s.coldReset power chainLow twinHigh).fuses = s.fuses := by
  unfold State.coldReset
  constructor <;> (cases power <;> cases chainLow <;> cases s.hasTwin <;> rfl)

/-- No command but a burn changes the fuses, and none changes the part. -/
theorem exec_part_fuses {c : Instr} {s t : State} (h : exec c s = .next t) (hc : ∀ v, c ≠ .fuseBurn v) :
    t.part = s.part ∧ t.fuses = s.fuses := by
  cases hr : rewritesFuses c with
  | false =>
    have k := touch_of_exec h
    rw [hr] at k
    exact ⟨k.part (by decide), k.fuses (by decide)⟩
  | true =>
    unfold rewritesFuses at hr
    split at hr
    case h_1 power chainLow twinHigh =>
      have h : execColdReset power chainLow twinHigh s = .next t := h
      unfold execColdReset at h
      cases h
      split
      · exact ⟨rfl, rfl⟩
      · exact coldReset_part_fuses s power chainLow twinHigh
    case h_2 =>
      have h : execAlwaysOnSupplyLoss s = .next t := h
      cases h
      exact ⟨rfl, rfl⟩
    case h_3 v => exact absurd rfl (hc v)
    case h_4 => cases hr

theorem exec_fusesGrow {c : Instr} {s t : State} (h : exec c s = .next t) : t.part = s.part ∧ FusesGrow s.fuses t.fuses := by
  by_cases hc : ∃ v, c = .fuseBurn v
  · obtain ⟨v, rfl⟩ := hc
    obtain ⟨hp, hf | hf⟩ := execFuseBurn_next h
    · exact ⟨hp, hf ▸ FusesGrow.refl _⟩
    · exact ⟨hp, hf ▸ fuseBurn_grow ..⟩
  · obtain ⟨hp, hf⟩ := exec_part_fuses h fun v e => hc ⟨v, e⟩
    exact ⟨hp, hf ▸ FusesGrow.refl _⟩

theorem step_fusesGrow {s t : State} (h : step s = .next t) : t.part = s.part ∧ FusesGrow s.fuses t.fuses := by
  rcases step_cases h with rfl | ⟨c, rest, _, hc⟩
  · have k := idle_touch s
    exact ⟨k.part (by decide), by rw [k.fuses (by decide)]; exact FusesGrow.refl _⟩
  · have k := exec_fusesGrow hc
    exact k

/-! ### The statements -/

/-- Settles O4: every command's `_touch` lemma carries the canonical form along. -/
theorem memoryStaysCanonical : Obligations.MemoryStaysCanonical := fun _ _ hs h => step_keeps_memOk h hs

/-- Settles O5: every command's `_touch` lemma carries the numbers of the units along. -/
theorem unitNumbersKept : Obligations.UnitNumbersKept := fun _ _ hs h => step_keeps_sizesOk h hs

/-- Settles O6: but for a burn, the fuses stand outside what a command touches or are copied by a reset. -/
theorem fusesArePermanent : Obligations.FusesArePermanent := by
  constructor
  · intro s t h
    obtain ⟨hp, hf⟩ := step_fusesGrow h
    exact ⟨hp, hf.serial, hf.pWc, hf.hash, hf.lock, hf.failed, hf.lockHash⟩
  · intro c s t hc h
    exact (exec_part_fuses h hc).2

/-- Settles O8. -/
theorem everyStepAnswers : Obligations.EveryStepAnswers := step_answers

/-- In State.reset only CN_PMB_STATUS holds another word than its reset value. -/
theorem reset_reg {off : Nat} (h : off ≠ R.cnPmbStatus) : State.reset.reg off = resetWord off :=
  if_neg (Ne.symm h)

/-- Settles O3: State.reset lists one register and nothing else. -/
theorem resetState : Obligations.ResetState := by
  have hp : State.reset.power = 0 := by decide +kernel
  have hph : State.reset.phase = 0 := by decide +kernel
  have hh : State.reset.hosted = false := by decide +kernel
  have hf : State.reset.frame = 0 := by decide +kernel
  have hc : State.reset.chip = 62 := by decide +kernel
  have hl : State.reset.get F.cnPmbStatus_last_cmd = 0x21 := by decide +kernel
  have hm : State.reset.memOk = true := by decide +kernel
  exact ⟨hp, hph, hh, rfl, rfl, hf, hc, rfl, fun _ h => reset_reg h, hl, fun _ => rfl, hm, by decide +kernel⟩

/-! ### What settling adds to the twin's mirror queue

Settling mirrors every change of a shared tree to a Paired partner (R372), so a command that changes a context of such a tree makes the twin's
mirror queue longer, also where the twin stands outside the kinds that the command is said to change. -/

/-- A host's device that owns the shared tree of port 0, Paired, with context 0 bound to that port and its engine as given. -/
def mirroredCtx (x : Px) : State :=
  let s := ((((State.reset.put (F.gaStatus_hosted 0) 1).put F.twCtrl_enable 1).put F.twCfg_shared 1).put F.twStatus_own 1).put F.twStatus_paired 1
  (s.put (F.pxBind_kind 0) 1).modCtx 0 fun _ => x

/-- A command that lengthens the mirror queue changes the twin. -/
theorem not_same_twin {s t : State} (h : t.tw.mirror.length ≠ s.tw.mirror.length) : ¬ Kind.twin.same s t :=
  fun e => h (congrArg (·.mirror.length) (show t.tw = s.tw from e))

/-- EFFECT_FRAME ends a disable of context 0, and its mirror item joins the queue. -/
theorem effectFrame_mirrors : ∃ t, exec .effectFrame (mirroredCtx { mode := 6, disAt := some 0 }) = .next t ∧ t.tw.mirror.length = 1 :=
  ⟨_, rfl, by decide +kernel⟩

/-- A disable makes context 0 Stopping, and its mirror item joins the queue. -/
theorem contextDisable_mirrors :
    ∃ t, exec (.contextDisable 0 none 0) (mirroredCtx { mode := 2 }) = .next t ∧ t.tw.mirror.length = 1 :=
  ⟨_, rfl, by decide +kernel⟩

/-- Refutes O9: EFFECT_FRAME is not said to change the twin, but a context of a tree shared with a Paired twin that it disables is mirrored, and
the item joins the twin's mirror queue. -/
theorem not_commandFrames : ¬ Obligations.CommandFrames := by
  intro h
  obtain ⟨t, ht, hl⟩ := effectFrame_mirrors
  exact not_same_twin (by rw [hl]; decide) (h _ _ t .twin ht (by decide))

/-- Refutes O10: the context commands are not said to change the twin, but a disable by the manager of a context of a tree shared with a Paired
twin is mirrored, and the item joins the twin's mirror queue. -/
theorem not_managerFrames : ¬ Obligations.ManagerFrames := by
  intro h
  obtain ⟨t, ht, hl⟩ := contextDisable_mirrors
  have hm : (mirroredCtx { mode := 2 }).Manages none := by decide +kernel
  exact not_same_twin (by rw [hl]; decide) (h _ _ t none [.ports, .contexts] .twin rfl hm ht (by decide))
end Sys2Proof.Machine
end

section
/-! PROOFS. Registers of the host: what a VX-4840 reads as zero and ignores (R3), and the words of the registers that select a port. -/

namespace Sys2Proof.Machine

/-! ### A BAR0 access of the manager -/

/-- A 32-bit write of the manager while the core runs is one of that word. -/
theorem State.bar0Write_manager {s : State} {q : Req} {off : Nat} {d : List Byte} (h : s.Manages q) (h4 : off % 4 = 0) (hd : d.length = 4) :
    s.bar0Write q off d = s.barWord q off (BitVec.ofNat 32 (leVal d)) := by
  obtain ⟨⟨_, hp⟩, _, _⟩ := h
  unfold State.bar0Write
  rw [if_neg (by omega)]
  simp [State.touched_awake hp, h4, hd]

/-- The outcome of a 32-bit write of the manager. -/
theorem exec_registerWrite_manager {s : State} {q : Req} {off : Nat} {d : List Byte} (h : s.Manages q) (h4 : off % 4 = 0) (hd : d.length = 4) :
    exec (.registerWrite q off d) s = .next (settle s (s.barWord q off (BitVec.ofNat 32 (leVal d)))) := by
  show execRegisterWrite q off d s = _
  unfold execRegisterWrite
  rw [if_neg (by simp [hd]), act_awake _ h.1.1, State.bar0Write_manager h h4 hd]

theorem State.barWord_manager {s : State} {q : Req} {off : Nat} (w : Word) (h : s.Manages q) (hr : (regRow off).isSome = true)
    (ha : s.absent off = false) : s.barWord q off w = s.regWrite 0 off w := by
  obtain ⟨_, hh, hm⟩ := h
  unfold State.barWord
  simp [State.speaker_manager hm, ha, Option.isNone_eq_false_iff.mpr hr, hh]

theorem State.barWord_ignored {s : State} {q : Req} {off : Nat} (w : Word) (h : s.Manages q)
    (ha : s.absent off = true ∨ (regRow off).isNone = true) : s.barWord q off w = s := by
  unfold State.barWord
  simp only [State.speaker_manager h.2.2]
  rw [if_pos (by simpa using ha)]

/-- A write of the manager to a register of the part is that register's write. -/
theorem exec_registerWrite_present {s : State} {q : Req} {off : Nat} {d : List Byte} (h : s.Manages q) (hd : d.length = 4)
    (hr : (regRow off).isSome = true) (ha : s.absent off = false) :
    exec (.registerWrite q off d) s = .next (settle s (s.regWrite 0 off (BitVec.ofNat 32 (leVal d)))) := by
  rw [exec_registerWrite_manager h (regRow_aligned hr) hd, State.barWord_manager _ h hr ha]

/-- A 32-bit read by the manager of an absent block answers zeros and changes nothing else. -/
theorem State.bar0Read_absent {s : State} {q : Req} {off : Nat} (h : s.Manages q) (h4 : off % 4 = 0) (ha : s.absent off = true)
    (hw : off < 0x6000 ∨ 0x7000 ≤ off) : s.bar0Read q off 4 none = s.emit (.readData [0, 0, 0, 0] false) := by
  obtain ⟨⟨_, hp⟩, _, hm⟩ := h
  have hb : s.barRead q off none = (leBytes 4 0, false, s) := by
    unfold State.barRead
    simp only [State.speaker_manager hm]
    rw [if_neg (by simp only [Bool.and_eq_true, decide_eq_true_eq]; omega), if_pos (by simp [ha])]
  unfold State.bar0Read
  rw [if_neg (by omega)]
  simp only [State.touched_awake hp, h4]
  simp [hb]
  rfl

/-- What a read answers is sent, and no test access port holds it back. -/
theorem readData_mem_settle (s0 s : State) (d : List Byte) (p : Bool) : .readData d p ∈ (settle s0 (s.emit (.readData d p))).out :=
  settle_mem_out (by rw [State.emit_out_plain _ _ rfl]; exact List.mem_append_right _ (List.mem_singleton.mpr rfl))

/-! ### The blocks that a VX-4840 lacks (R3) -/

/-- The register spaces that R3 names. -/
def inLackedBlock (off : Nat) : Prop := (0x30000 ≤ off ∧ off < 0x40000) ∨ (0xC180 ≤ off ∧ off < 0xC200) ∨ (0xD000 ≤ off ∧ off < 0xE000)

theorem State.absent_of_lacked {s : State} {off : Nat} (hp : s.part = .vx4840) (h : inLackedBlock off) : s.absent off = true := by
  unfold State.absent
  unfold inLackedBlock at h
  simp only [hp, Bool.and_eq_true, Bool.or_eq_true, decide_eq_true_eq]
  refine ⟨rfl, Or.inl ?_⟩
  omega

/-- A register of a context's window, or an SP_ROUTE register, is on both parts. -/
theorem State.absent_high {s : State} {off : Nat} (h : 0x40000 ≤ off ∨ (0xC200 ≤ off ∧ off < 0xD000)) : s.absent off = false := by
  unfold State.absent
  simp only [Bool.and_eq_false_iff, Bool.or_eq_false_iff, decide_eq_false_iff_not, List.contains_eq_mem, R.fiCfg, R.fiCnt, R.fiInjCtrl,
    R.fiInjAddr, List.mem_cons, List.not_mem_nil, or_false]
  right
  omega

/-! ### A field of a word of which some bits are kept -/

theorem Field.getLsbD_mask (f : Field) (j : Nat) :
    f.mask.getLsbD j = (decide (j < 32) && (decide (f.lo ≤ j) && decide (j - f.lo < f.width))) := by
  unfold Field.mask
  rw [BitVec.getLsbD_ofNat, Nat.testBit_mul_two_pow, Nat.testBit_two_pow_sub_one]

/-- A field's value depends on the bits of its mask alone. -/
theorem Field.of_congr {f : Field} {a b : Word} (h : a &&& f.mask = b &&& f.mask) : f.of a = f.of b := by
  apply Nat.eq_of_testBit_eq
  intro i
  rw [of_testBit, of_testBit]
  by_cases hi : i < f.width
  · have e := congrArg (·.getLsbD (i + f.lo)) h
    simp only [BitVec.getLsbD_and, f.getLsbD_mask, Nat.le_add_left, Nat.add_sub_cancel, hi, decide_true, Bool.and_true] at e
    simp only [hi, decide_true, Bool.true_and, BitVec.testBit_toNat]
    by_cases hj : i + f.lo < 32
    · simpa [hj] using e
    · rw [BitVec.getLsbD_of_ge _ _ (by omega), BitVec.getLsbD_of_ge _ _ (by omega)]
  · simp [hi]

/-- Of two words merged by a mask, a field outside the mask is the first's. -/
theorem Field.of_merge_outside {f : Field} {m : Word} (h : m &&& f.mask = 0) (a b : Word) :
    f.of ((a &&& ~~~ m) ||| (b &&& m)) = f.of a := by
  apply Field.of_congr
  ext i hi
  have e : m[i] = true → f.mask[i] = false := by simpa [BitVec.getElem_and] using congrArg (·[i]) h
  cases hm : m[i] with
  | false => simp [hm]
  | true => simp [e hm]

/-- Of two words merged by a mask, a field within the mask is the second's. -/
theorem Field.of_merge_inside {f : Field} {m : Word} (h : ~~~ m &&& f.mask = 0) (a b : Word) :
    f.of ((a &&& ~~~ m) ||| (b &&& m)) = f.of b := by
  apply Field.of_congr
  ext i hi
  have e : m[i] = false → f.mask[i] = false := by simpa [BitVec.getElem_and] using congrArg (·[i]) h
  cases hm : m[i] with
  | false => simp [e hm]
  | true => simp [hm]

/-- The access codes of a register of plain read-write bits: the word written, but for the bits outside `m`. -/
theorem plainWord_rw {off : Nat} {m : Word} (h : (regRow off).map (fun r => (r.rw, r.w1c, r.w1s)) = some (m, 0, 0)) (old w : Word) :
    plainWord off old w = (old &&& ~~~ m) ||| (w &&& m) := by
  obtain ⟨r, hr, e⟩ := Option.map_eq_some_iff.mp h
  obtain ⟨rfl, h1, h2⟩ := Prod.mk.injEq .. ▸ Prod.mk.injEq .. ▸ e
  unfold plainWord
  simp only [hr, h1, h2, BitVec.and_zero, BitVec.not_zero, BitVec.and_allOnes, BitVec.or_zero, BitVec.ofNat_eq_ofNat]

/-! ### The registers of a port's number on a VX-4840 (R3) -/

theorem regRow_pxBind (c : Fin 2048) : (regRow (R.pxBind c)).map (fun r => (r.rw, r.w1c, r.w1s)) = some (0xEFFFEFFF, 0, 0) := by
  revert c
  decide +kernel

theorem regRow_spRoute (c : Fin 62) : (regRow (R.spRoute c)).map (fun r => (r.rw, r.w1c, r.w1s)) = some (0xC0000003, 0, 0) := by
  revert c
  decide +kernel

theorem isSome_of_map_eq_some {α β : Type} {o : Option α} {f : α → β} {b : β} (h : o.map f = some b) : o.isSome = true := by
  cases o with
  | none => cases h
  | some a => rfl

/-- The word of a binding that names an absent port: the port stays, and the rest is written (R3). -/
theorem State.partWord_pxBind {s : State} (c : Nat) (hc : c < 2048) (old x : Word) (hp : s.part = .vx4840) (h : 4 ≤ (F.pxBind_port c).of x) :
    s.partWord (R.pxBind c) old x = (x &&& ~~~ (F.pxBind_port c).mask) ||| (old &&& (F.pxBind_port c).mask) := by
  have hn : s.nPorts = 4 := by unfold State.nPorts; rw [hp]
  have ho : (0x40000 ≤ R.pxBind c && R.pxBind c < 0x80000 && R.pxBind c % 0x80 = 4) = true := by
    simp only [Bool.and_eq_true, decide_eq_true_eq]
    unfold R.pxBind
    omega
  unfold State.partWord
  rw [hp, if_neg (by decide), if_pos ho, hn]
  exact if_pos (decide_eq_true h)

/-- The word of a Span route over an absent port: the port stays, and the rest is written (R3). -/
theorem State.partWord_spRoute {s : State} (c : Nat) (hc : c < 62) (old x : Word) (hp : s.part = .vx4840) (h : 2 ≤ (F.spRoute_port c).of x) :
    s.partWord (R.spRoute c) old x = (x &&& ~~~ (F.spRoute_port c).mask) ||| (old &&& (F.spRoute_port c).mask) := by
  have hn : s.nSpan = 2 := by unfold State.nSpan; rw [hp]
  unfold State.partWord
  rw [hp, if_neg (by decide), if_neg (by simp only [Bool.and_eq_true, decide_eq_true_eq]; unfold R.spRoute; omega),
    if_pos (by simp only [Bool.and_eq_true, decide_eq_true_eq]; unfold R.spRoute; omega), hn]
  exact if_pos (decide_eq_true h)

/-- A write of the binding of a Free or Disabled context sets the word, and of the engine at most the context's own part changes. -/
theorem State.reg_regWrite_pxBind {s : State} (c : Nat) (hc : c < 2048) (w : Word) (h : s.pxState c = 0 ∨ s.pxState c = 1) :
    (s.regWrite 0 (R.pxBind c) w).reg (R.pxBind c) = s.partWord (R.pxBind c) (s.reg (R.pxBind c)) (plainWord (R.pxBind c) (s.reg (R.pxBind c)) w) := by
  have e : (R.pxBind c - 0x40000) / 0x80 = c := by unfold R.pxBind; omega
  have e4 : R.pxBind c % 0x80 = 4 := by unfold R.pxBind; omega
  rw [State.regWrite_px _ _ _ (by unfold R.pxBind; omega) (by unfold R.pxBind; omega), e]
  unfold State.writePx
  simp only [e4]
  rw [if_neg (by decide), if_neg (by decide), if_neg (by decide), if_pos (by simpa using Or.inl h), if_pos trivial]
  unfold State.writePxBind
  dsimp only
  split <;> exact State.reg_setReg_same _ _ _

/-- A write of a Span route sets the word, but for valid without static (R359). -/
theorem State.reg_regWrite_spRoute {s : State} (c : Nat) (hc : c < 62) (w : Word) :
    ∃ x, x = s.partWord (R.spRoute c) (s.reg (R.spRoute c)) (plainWord (R.spRoute c) (s.reg (R.spRoute c)) w) ∧
      (s.regWrite 0 (R.spRoute c) w).reg (R.spRoute c) =
        if bitOf w.toNat 30 then x else (x &&& ~~~ 0x80000000) ||| (s.reg (R.spRoute c) &&& 0x80000000) := by
  refine ⟨_, rfl, ?_⟩
  rw [State.regWrite_sp _ _ _ (by unfold R.spRoute; omega) (by unfold R.spRoute; omega)]
  unfold State.writeSp
  dsimp only
  rw [if_neg (by unfold R.spRoute R.spFabCtrl; omega), if_neg (by unfold R.spRoute R.spFabCfg; omega),
    if_neg (by unfold R.spRoute R.spCntClear; omega), if_neg (by simp only [Bool.and_eq_true, decide_eq_true_eq]; unfold R.spRoute; omega),
    if_neg (by simp only [Bool.and_eq_true, decide_eq_true_eq]; unfold R.spRoute; omega),
    if_pos (by simp only [Bool.and_eq_true, decide_eq_true_eq]; unfold R.spRoute; omega), State.reg_setReg_same]
  rfl

/-- A field of a register that settling leaves alone reads its bits of the word that the register holds. -/
theorem settle_get_of_reg {s0 s : State} {f : Field} {w : Word} (h : s.reg f.off = w)
    (hf : Nat.testBit 0x8250430000B60 (regPart f.off) = false) : (settle s0 s).get f = f.of w := by
  rw [settle_get s0 s f hf]
  unfold State.get
  rw [h]

theorem regPart_pxBind (c : Nat) : regPart (R.pxBind c) = 57 := by
  unfold regPart R.pxBind
  repeat rw [if_neg (by omega)]

theorem regPart_spRoute (c : Fin 62) : regPart (R.spRoute c) = 52 := by
  revert c
  decide

/-! The masks of the fields in question: the same for every context and route. -/

theorem mask_pxBind_port (c : Nat) : (F.pxBind_port c).mask = 0xE0000000 := (by decide : (F.pxBind_port 0).mask = 0xE0000000)
theorem mask_pxBind_addr (c : Nat) : (F.pxBind_addr c).mask = 0x0FC00000 := (by decide : (F.pxBind_addr 0).mask = 0x0FC00000)
theorem mask_pxBind_pipe (c : Nat) : (F.pxBind_pipe c).mask = 0x003C0000 := (by decide : (F.pxBind_pipe 0).mask = 0x003C0000)
theorem mask_pxBind_kind (c : Nat) : (F.pxBind_kind c).mask = 0x00038000 := (by decide : (F.pxBind_kind 0).mask = 0x00038000)
theorem mask_spRoute_port (c : Nat) : (F.spRoute_port c).mask = 3 := (by decide : (F.spRoute_port 0).mask = 3)
theorem mask_spRoute_static (c : Nat) : (F.spRoute_static c).mask = 0x40000000 := (by decide : (F.spRoute_static 0).mask = 0x40000000)

theorem and_mask_of_sub {a b m : Word} (h : b &&& m = 0) (e : a &&& b = a) : a &&& m = 0 := by
  rw [← e, BitVec.and_assoc, h]
  simp

/-- A write of the number of an absent port to a binding writes the rest of the word. -/
theorem registerWrite_pxBind_absent {s : State} {q : Req} {c : Fin 2048} {d : List Byte} (h : s.Manages q) (hp : s.part = .vx4840)
    (hd : d.length = 4) (hs : s.pxState c = 0 ∨ s.pxState c = 1) (hport : 4 ≤ (F.pxBind_port c).of (BitVec.ofNat 32 (leVal d))) :
    ∃ t, exec (.registerWrite q (R.pxBind c) d) s = .next t ∧ t.get (F.pxBind_port c) = s.get (F.pxBind_port c) ∧
      ∀ f : Field, f.off = R.pxBind c → 0xF0001000 &&& f.mask = 0 →
        t.get f = f.of (BitVec.ofNat 32 (leVal d)) := by
  have hsome := isSome_of_map_eq_some (regRow_pxBind c)
  have habs : s.absent (R.pxBind c) = false := State.absent_high (.inl (by unfold R.pxBind; omega))
  have hexec := exec_registerWrite_present h hd hsome habs
  generalize BitVec.ofNat 32 (leVal d) = w at hport hexec ⊢
  have hplain := plainWord_rw (regRow_pxBind c) (s.reg (R.pxBind c)) w
  have hwritten (f : Field) (hf : ~~~ 0xEFFFEFFF#32 &&& f.mask = 0) : f.of (plainWord (R.pxBind c) (s.reg (R.pxBind c)) w) = f.of w := by
    rw [hplain]
    exact Field.of_merge_inside hf _ _
  have hreg := State.reg_regWrite_pxBind c c.isLt w hs
  rw [State.partWord_pxBind c c.isLt _ _ hp (by rw [hwritten _ (by rw [mask_pxBind_port]; decide)]; exact hport), mask_pxBind_port] at hreg
  have hsettle : Nat.testBit 0x8250430000B60 (regPart (R.pxBind c)) = false := by rw [regPart_pxBind]; decide
  refine ⟨_, hexec, ?_, fun f hf hm => ?_⟩
  · rw [settle_get_of_reg hreg hsettle]
    exact Field.of_merge_inside (by rw [mask_pxBind_port]; decide) _ _
  · have hin : ~~~ 0xEFFFEFFF#32 &&& f.mask = 0 := and_mask_of_sub hm (by decide)
    have hout : (0xE0000000 : Word) &&& f.mask = 0 := and_mask_of_sub hm (by decide)
    rw [settle_get_of_reg ((congrArg _ hf).trans hreg) (by rw [hf]; exact hsettle), Field.of_merge_outside hout, hwritten f hin]

/-- A write of the number of an absent port to a Span route writes static. -/
theorem registerWrite_spRoute_absent {s : State} {q : Req} {c : Fin 62} {d : List Byte} (h : s.Manages q) (hp : s.part = .vx4840)
    (hd : d.length = 4) (hport : 2 ≤ (F.spRoute_port c).of (BitVec.ofNat 32 (leVal d))) :
    ∃ t, exec (.registerWrite q (R.spRoute c) d) s = .next t ∧ t.get (F.spRoute_port c) = s.get (F.spRoute_port c) ∧
      t.get (F.spRoute_static c) = (F.spRoute_static c).of (BitVec.ofNat 32 (leVal d)) := by
  have hsome := isSome_of_map_eq_some (regRow_spRoute c)
  have habs : s.absent (R.spRoute c) = false := State.absent_high (.inr (by unfold R.spRoute; omega))
  have hexec := exec_registerWrite_present h hd hsome habs
  generalize BitVec.ofNat 32 (leVal d) = w at hport hexec ⊢
  have hplain := plainWord_rw (regRow_spRoute c) (s.reg (R.spRoute c)) w
  have hwritten (f : Field) (hf : ~~~ 0xC0000003#32 &&& f.mask = 0) : f.of (plainWord (R.spRoute c) (s.reg (R.spRoute c)) w) = f.of w := by
    rw [hplain]
    exact Field.of_merge_inside hf _ _
  obtain ⟨x, hx, hreg⟩ := State.reg_regWrite_spRoute (s := s) c c.isLt w
  rw [State.partWord_spRoute c c.isLt _ _ hp (by rw [hwritten _ (by rw [mask_spRoute_port]; decide)]; exact hport), mask_spRoute_port] at hx
  have hxport : (F.spRoute_port c).of x = s.get (F.spRoute_port c) := by
    rw [hx]
    exact Field.of_merge_inside (by rw [mask_spRoute_port]; decide) _ _
  have hxstatic : (F.spRoute_static c).of x = (F.spRoute_static c).of w := by
    rw [hx, Field.of_merge_outside (by rw [mask_spRoute_static]; decide), hwritten _ (by rw [mask_spRoute_static]; decide)]
  have hsettle : Nat.testBit 0x8250430000B60 (regPart (R.spRoute c)) = false := by rw [regPart_spRoute]; decide
  have hvalid (f : Field) (hf : f.off = R.spRoute c) (hm : 0x80000000#32 &&& f.mask = 0) :
      (settle s (s.regWrite 0 (R.spRoute c) w)).get f = f.of x := by
    rw [settle_get_of_reg ((congrArg _ hf).trans hreg) (by rw [hf]; exact hsettle)]
    split
    · rfl
    · exact Field.of_merge_outside hm _ _
  exact ⟨_, hexec, (hvalid _ rfl (by rw [mask_spRoute_port]; decide)).trans hxport,
    (hvalid _ rfl (by rw [mask_spRoute_static]; decide)).trans hxstatic⟩

/-- Settles O12: an absent block answers zeros and takes no write; a word that selects an absent port keeps that field alone. -/
theorem absentRegisters : Obligations.AbsentRegisters := by
  refine ⟨fun s q off h hp h4 hoff => ?_, fun s q off d h hp h4 hd hoff => ?_, fun s q c d h hp hd hs hport => ?_,
    fun s q c d h hp hd hport => registerWrite_spRoute_absent h hp hd hport⟩
  · have hb := State.bar0Read_absent h h4 (State.absent_of_lacked hp hoff) (by omega)
    have e : exec (.bar0Read q off 4 none) s = .next (settle s (s.emit (.readData [0, 0, 0, 0] false))) := by
      show execBar0Read q off 4 none s = _
      unfold execBar0Read
      rw [act_awake _ h.1.1, hb]
    exact ⟨_, e, readData_mem_settle _ _ _ _, by rw [settle_sram, State.emit_sram]⟩
  · rw [exec_registerWrite_manager h h4 hd, State.barWord_ignored _ h (.inl (State.absent_of_lacked hp hoff))]
  · obtain ⟨t, ht, hport, hrest⟩ := registerWrite_pxBind_absent h hp hd hs hport
    exact ⟨t, ht, hport, hrest _ rfl (by rw [mask_pxBind_addr]; decide), hrest _ rfl (by rw [mask_pxBind_pipe]; decide),
      hrest _ rfl (by rw [mask_pxBind_kind]; decide)⟩

/-! ### A register that R3 keeps in part -/

/-- A VX-4840 with a host: the summary enable of the twin's detector, bit 18 of FI_SUMMARY_EN, is one of those that it lacks (R3, R396). -/
def smallPart : State := { State.reset.put (F.gaStatus_hosted 0) 1 with part := .vx4840 }

/-- A write of 0 to FI_SUMMARY_EN leaves bit 18, which the access codes alone would clear. -/
theorem registerWrite_fiSummaryEn_keeps_twin :
    ∃ t, exec (.registerWrite none R.fiSummaryEn [0, 0, 0, 0]) smallPart = .next t ∧
      t.reg R.fiSummaryEn ≠ plainWord R.fiSummaryEn (smallPart.reg R.fiSummaryEn) (BitVec.ofNat 32 (leVal [0, 0, 0, 0])) :=
  ⟨_, rfl, by decide +kernel⟩

/-- Refutes O45: its second clause takes a write of FI_SUMMARY_EN to leave what the access codes leave, but on a VX-4840 the enable of the twin's
detector stays as it was (R3). -/
theorem not_registerAndBufferAccess : ¬ Obligations.RegisterAndBufferAccess := by
  rintro ⟨-, hplain, -⟩
  obtain ⟨t, ht, hne⟩ := registerWrite_fiSummaryEn_keeps_twin
  have hm : smallPart.Manages none := by decide +kernel
  obtain ⟨u, hu, hreg, -⟩ := hplain smallPart none R.fiSummaryEn [0, 0, 0, 0] hm rfl (by decide)
  cases ht.symm.trans hu
  exact hne hreg

/-! ### A register listed twice at a warm reset -/

/-- A device in phase 5 whose table of registers lists TK_FRAME_NUM twice, first with its reset value 0 and then with 5: it is not canonical, so
no run from State.reset meets it, but only the first entry is read. -/
def frameTwice : State := { State.reset with regs := [(R.chStatus, 0x50), (R.tkFrameNum, 0), (R.tkFrameNum, 5)] }

/-- A warm reset leaves out entries at their reset value, and the second entry of TK_FRAME_NUM is read from then on. -/
theorem perstNAssert_frameTwice : ∃ t, exec .perstNAssert frameTwice = .next t ∧ t.frame ≠ frameTwice.frame :=
  ⟨_, rfl, by decide +kernel⟩

/-- Refutes O57: its sixth clause has PERST_N in phase 5 leave the frame number, for every state; in a state whose table of registers is not
canonical (which the statement does not exclude) a warm reset can uncover another entry of the same register. -/
theorem not_resets : ¬ Obligations.Resets := by
  rintro ⟨-, -, -, -, -, hwarm, -⟩
  obtain ⟨t, ht, hne⟩ := perstNAssert_frameTwice
  have hmode : frameTwice.mode ≠ 1 ∧ frameTwice.mode ≠ 2 := by decide +kernel
  have hrun : frameTwice.power = 0 ∧ frameTwice.flag F.cnStatus_moving = false ∧ frameTwice.phase = 5 := by decide +kernel
  obtain ⟨u, hu, -, -, -, hframe, -⟩ := hwarm frameTwice rfl hmode.1 hmode.2 hrun.1 hrun.2.1 hrun.2.2
  cases ht.symm.trans hu
  exact hne hframe
end Sys2Proof.Machine
end

section
/-! PROOFS. The commands of a pipe context (R175 to R181): what a write of PX_CTRL does to a context, and what its effect frame does. -/

namespace Sys2Proof.Machine

/-! ### A word's bits -/

theorem bitOf_toNat (w : Word) (i : Nat) : bitOf w.toNat i = w.getLsbD i := by
  unfold bitOf
  rw [← BitVec.testBit_toNat, Nat.testBit_eq_decide_div_mod_eq]
  rfl

theorem regPart_high {off : Nat} (h : 0x40000 ≤ off) : regPart off = 57 := by
  unfold regPart
  repeat rw [if_neg (by omega)]

theorem settle_get_context (s0 s : State) (f : Field) (h : 0x40000 ≤ f.off) : (settle s0 s).get f = s.get f :=
  settle_get s0 s f (by rw [regPart_high h]; decide)

/-! ### The engine's part of a context -/

theorem State.ctx_modCtx (s : State) (c d : Nat) (f : Px → Px) : (s.modCtx c f).ctx d = if d = c then f (s.ctx c) else s.ctx d := by
  unfold State.ctx State.modCtx
  split
  · rename_i e
    rw [e]
    exact tget_tput_same _ _ _ _
  · rename_i e
    exact tget_tput_ne _ _ _ _ _ e

@[simp] theorem State.ctx_modCtx_same (s : State) (c : Nat) (f : Px → Px) : (s.modCtx c f).ctx c = f (s.ctx c) := by
  rw [State.ctx_modCtx, if_pos rfl]

theorem State.ctx_of_px {s t : State} (h : t.px = s.px) (c : Nat) : t.ctx c = s.ctx c := by
  unfold State.ctx
  rw [h]

@[simp] theorem settle_ctx (s0 s : State) (c : Nat) : (settle s0 s).ctx c = s.ctx c := State.ctx_of_px (settle_px s0 s) c

theorem State.pxPort_lt (s : State) (c : Nat) : s.pxPort c < 8 := Nat.mod_lt _ (by decide : 0 < 2 ^ 3)
theorem State.pxAddr_lt (s : State) (c : Nat) : s.pxAddr c < 64 := Nat.mod_lt _ (by decide : 0 < 2 ^ 6)

/-! ### What the checks of an enable read

They read no PX_CTRL register, so a change of its gallery before the checks does not matter. -/

theorem filter_terase {α : Type} (p : Nat × α → Bool) (k : Nat) (t : Tab α) (h : ∀ v, p (k, v) = false) :
    (terase t k).filter p = t.filter p := by
  induction t with
  | nil => rfl
  | cons x t ih =>
    obtain ⟨i, v⟩ := x
    unfold terase
    split
    · rename_i e
      rw [e, List.filter_cons_of_neg (by simp [h]), ih]
    · simp only [List.filter_cons, ih]

theorem filter_tinsert {α : Type} (p : Nat × α → Bool) (k : Nat) (v : α) (t : Tab α) (h : p (k, v) = false) :
    (tinsert t k v).filter p = t.filter p := by
  induction t with
  | nil => simp [tinsert, h]
  | cons x t ih =>
    obtain ⟨i, w⟩ := x
    unfold tinsert
    split
    · rw [List.filter_cons_of_neg (by simp [h])]
    · simp only [List.filter_cons, ih]

/-- Setting a key that a filter leaves out does not change what it lets through. -/
theorem filter_tput {α : Type} [DecidableEq α] (d : Nat → α) (p : Nat × α → Bool) (k : Nat) (v : α) (t : Tab α) (h : ∀ w, p (k, w) = false) :
    (tput d t k v).filter p = t.filter p := by
  unfold tput
  split
  · exact filter_terase p k t h
  · rw [filter_tinsert p k v _ (h v), filter_terase p k t h]

/-- Two states that differ, of what the checks of an enable read, in nothing: only in PX_CTRL registers. -/
structure SameBindings (s t : State) : Prop where
  part : t.part = s.part
  px : t.px = s.px
  devs : t.devs = s.devs
  reg : ∀ off, off < 0x40000 ∨ off % 0x80 ≠ 0 → t.reg off = s.reg off
  binds : (t.regs.filter fun p => 0x40000 ≤ p.1 && p.1 < 0x80000 && p.1 % 0x80 == 4) =
    s.regs.filter fun p => 0x40000 ≤ p.1 && p.1 < 0x80000 && p.1 % 0x80 == 4

theorem State.setReg_pxCtrl_sameBindings (s : State) (c : Nat) (w : Word) : SameBindings s (s.setReg (R.pxCtrl c) w) where
  part := rfl
  px := rfl
  devs := rfl
  reg off h := s.reg_setReg_ne _ _ _ (by unfold R.pxCtrl; omega)
  binds := filter_tput _ _ _ _ _ fun w => by
    have : R.pxCtrl c % 0x80 ≠ 4 := by unfold R.pxCtrl; omega
    simp [this]

section
variable {s t : State} (h : SameBindings s t)
include h

theorem SameBindings.get {f : Field} (hf : f.off < 0x40000 ∨ f.off % 0x80 ≠ 0) : t.get f = s.get f := State.get_of_reg (h.reg _ hf)

theorem SameBindings.ctx (c : Nat) : t.ctx c = s.ctx c := State.ctx_of_px h.px c

theorem SameBindings.pxPort (c : Nat) : t.pxPort c = s.pxPort c := h.get (.inr (by simp only [F.pxBind_port, R.pxBind]; omega))
theorem SameBindings.pxAddr (c : Nat) : t.pxAddr c = s.pxAddr c := h.get (.inr (by simp only [F.pxBind_addr, R.pxBind]; omega))
theorem SameBindings.pxPipe (c : Nat) : t.pxPipe c = s.pxPipe c := h.get (.inr (by simp only [F.pxBind_pipe, R.pxBind]; omega))
theorem SameBindings.pxKind (c : Nat) : t.pxKind c = s.pxKind c := h.get (.inr (by simp only [F.pxBind_kind, R.pxBind]; omega))
theorem SameBindings.pxMax (c : Nat) : t.pxMax c = s.pxMax c := h.get (.inr (by simp only [F.pxBind_max_len, R.pxBind]; omega))

theorem SameBindings.devSt (c : Nat) : t.devSt (t.pxPort c) (t.pxAddr c) = s.devSt (s.pxPort c) (s.pxAddr c) := by
  rw [h.pxPort, h.pxAddr]
  have := s.pxPort_lt c
  have := s.pxAddr_lt c
  exact h.get (.inl (by simp only [F.gpDevState_state, R.gpDevState]; omega))

theorem SameBindings.pxState (c : Nat) : t.pxState c = s.pxState c := by
  unfold State.pxState
  rw [h.devSt, h.pxKind, h.ctx]

theorem SameBindings.ctxs : t.ctxs = s.ctxs := by
  have e : t.pxKind = s.pxKind := funext h.pxKind
  unfold State.ctxs
  rw [h.binds, e]

theorem SameBindings.descFits (c : Nat) : t.descFits c = s.descFits c := by
  have e : t.dev (t.pxPort c) (t.pxAddr c) = s.dev (s.pxPort c) (s.pxAddr c) := by
    unfold State.dev
    rw [h.devs, h.pxPort, h.pxAddr]
  unfold State.descFits
  simp only [e, h.pxPipe, h.devSt, h.pxKind, h.pxMax]

theorem SameBindings.minRegion (c : Nat) : t.minRegion c = s.minRegion c := by
  have e : t.get (F.pxBind_reflex_target c) = s.get (F.pxBind_reflex_target c) := h.get (.inr (by simp only [F.pxBind_reflex_target, R.pxBind]; omega))
  unfold State.minRegion State.stride
  simp only [h.pxKind, h.pxMax, e]

theorem SameBindings.reg64 {off : Nat} (h0 : off % 0x80 ≠ 0) (h4 : (off + 4) % 0x80 ≠ 0) : t.reg64 off = s.reg64 off := by
  unfold State.reg64
  rw [h.reg _ (.inr h0), h.reg _ (.inr h4)]

theorem SameBindings.enableCode (c : Nat) : t.enableCode c = s.enableCode c := by
  have base (x : Nat) : t.get (F.pxRegion_base x) = s.get (F.pxRegion_base x) := h.get (.inr (by simp only [F.pxRegion_base, R.pxRegion]; omega))
  have size (x : Nat) : t.get (F.pxRegion_size x) = s.get (F.pxRegion_size x) := h.get (.inr (by simp only [F.pxRegion_size, R.pxRegion]; omega))
  have ring : t.get (F.pxStreamCfg_ring_enable c) = s.get (F.pxStreamCfg_ring_enable c) :=
    h.get (.inr (by simp only [F.pxStreamCfg_ring_enable, R.pxStreamCfg]; omega))
  have slots : t.get (F.pxStreamCfg_log2_slots c) = s.get (F.pxStreamCfg_log2_slots c) :=
    h.get (.inr (by simp only [F.pxStreamCfg_log2_slots, R.pxStreamCfg]; omega))
  have lo : t.reg64 (R.pxRingBaseLo c) = s.reg64 (R.pxRingBaseLo c) := h.reg64 (by unfold R.pxRingBaseLo; omega) (by unfold R.pxRingBaseLo; omega)
  have sw : t.reg64 (R.pxSwWordLo c) = s.reg64 (R.pxSwWordLo c) := h.reg64 (by unfold R.pxSwWordLo; omega) (by unfold R.pxSwWordLo; omega)
  have dv : t.reg64 (R.pxDevWordLo c) = s.reg64 (R.pxDevWordLo c) := h.reg64 (by unfold R.pxDevWordLo; omega) (by unfold R.pxDevWordLo; omega)
  have ports : t.nPorts = s.nPorts := by
    unfold State.nPorts
    rw [h.part]
  unfold State.enableCode State.flag
  simp only [h.pxKind, h.pxMax, h.pxPort, h.pxAddr, h.pxPipe, h.ctxs, h.pxState, h.minRegion, h.descFits, base, size, ring, slots, lo, sw, dv, ports]

end

/-! ### A write of PX_CTRL -/

theorem State.regWrite_pxCtrl (s : State) {c : Nat} (hc : c < 2048) (w : Word) : s.regWrite 0 (R.pxCtrl c) w = s.writePxCtrl c w := by
  have e : (R.pxCtrl c - 0x40000) / 0x80 = c := by unfold R.pxCtrl; omega
  rw [State.regWrite_px _ _ _ (by unfold R.pxCtrl; omega) (by unfold R.pxCtrl; omega), e]
  unfold State.writePx
  exact if_pos (by unfold R.pxCtrl; omega)

/-- A command of the manager that is a write of a context's PX_CTRL: its outcome. -/
theorem State.command_pxCtrl {s : State} {q : Req} (c : Fin 2048) (w set clr : Word) (h : s.Manages q) :
    act s (fun s => s.command q (R.pxCtrl c) w set clr) = .next (settle s (s.writePxCtrl c ((w &&& ~~~ clr) ||| set))) := by
  rw [State.command_manager w set clr h (regRow_context c) (State.absent_high (.inl (by unfold R.pxCtrl; omega))),
    State.regWrite_pxCtrl s c.isLt]

/-- The gallery of a write of PX_CTRL, where the context's state lets it be written (R179). -/
def State.putGallery (s : State) (c : Nat) (w : Word) : State :=
  if s.pxState c = 0 || s.pxState c = 1 || s.pxState c = 4 then s.put (F.pxCtrl_gallery c) (w.toNat % 16) else s

theorem State.putGallery_sameBindings (s : State) (c : Nat) (w : Word) : SameBindings s (s.putGallery c w) := by
  unfold State.putGallery
  split
  · exact s.setReg_pxCtrl_sameBindings c _
  · exact ⟨rfl, rfl, rfl, fun _ _ => rfl, rfl⟩

theorem State.putGallery_frame (s : State) (c : Nat) (w : Word) : (s.putGallery c w).frame = s.frame :=
  (s.putGallery_sameBindings c w).get (.inl (by decide))

theorem State.putGallery_gp (s : State) (c : Nat) (w : Word) : (s.putGallery c w).gp = s.gp := by
  unfold State.putGallery
  split <;> rfl

/-- What a write of PX_CTRL without a command of its own bits 17 to 19 does (R177, R178). -/
theorem State.writePxCtrl_enable (s : State) (c : Nat) {w : Word} (h17 : w.getLsbD 17 = false) (h18 : w.getLsbD 18 = false)
    (h19 : w.getLsbD 19 = false) :
    s.writePxCtrl c w = if w.getLsbD 31 then (s.putGallery c w).pxEnable c else (s.putGallery c w).pxDisable c := by
  unfold State.writePxCtrl
  simp only [bitOf_toNat, h17, h18, h19, Bool.or_self, Bool.false_eq_true, if_false]
  rfl

/-- What a write of PX_CTRL with one of the commands cnt_clear, release and clear_halt does. -/
theorem State.writePxCtrl_cntClear (s : State) (c : Nat) {w : Word} (h17 : w.getLsbD 17 = true) (h18 : w.getLsbD 18 = false)
    (h19 : w.getLsbD 19 = false) : s.writePxCtrl c w = (s.putGallery c w).pxCntClear c := by
  unfold State.writePxCtrl
  simp only [bitOf_toNat, h17, h18, h19, Bool.or_false, Bool.false_eq_true, if_false, if_true]
  rfl

theorem State.writePxCtrl_release (s : State) (c : Nat) {w : Word} (h17 : w.getLsbD 17 = false) (h18 : w.getLsbD 18 = true)
    (h19 : w.getLsbD 19 = false) : s.writePxCtrl c w = (s.putGallery c w).pxRelease c := by
  unfold State.writePxCtrl
  simp only [bitOf_toNat, h17, h18, h19, Bool.or_true, Bool.or_false, Bool.false_eq_true, if_false, if_true]
  rfl

theorem State.writePxCtrl_clearHalt (s : State) (c : Nat) {w : Word} (h17 : w.getLsbD 17 = false) (h18 : w.getLsbD 18 = false)
    (h19 : w.getLsbD 19 = true) : s.writePxCtrl c w = (s.putGallery c w).pxClearHalt c := by
  unfold State.writePxCtrl
  simp only [bitOf_toNat, h17, h18, h19, Bool.or_true, Bool.false_eq_true, if_false, if_true]
  rfl

/-! The five commands. -/


/-- CONTEXT_ENABLE: the checks are run. -/
theorem execContextEnable_next {s : State} {q : Req} (c : Fin 2048) (w : Word) (h : s.Manages q) :
    exec (.contextEnable c q w) s = .next (settle s ((s.putGallery c ((w &&& ~~~ 0xE0000) ||| 0x80000000)).pxEnable c)) := by
  show execContextEnable c q w s = _
  unfold execContextEnable
  rw [State.command_pxCtrl c _ _ _ h, State.writePxCtrl_enable _ _ (by simp) (by simp) (by simp), if_pos (by simp)]

theorem execContextDisable_next {s : State} {q : Req} (c : Fin 2048) (w : Word) (h : s.Manages q) :
    exec (.contextDisable c q w) s = .next (settle s ((s.putGallery c ((w &&& ~~~ 0x800E0000) ||| 0x0)).pxDisable c)) := by
  show execContextDisable c q w s = _
  unfold execContextDisable
  rw [State.command_pxCtrl c _ _ _ h, State.writePxCtrl_enable _ _ (by simp) (by simp) (by simp), if_neg (by simp)]

theorem execContextRelease_next {s : State} {q : Req} (c : Fin 2048) (w : Word) (h : s.Manages q) :
    exec (.contextRelease c q w) s = .next (settle s ((s.putGallery c ((w &&& ~~~ 0xA0000) ||| 0x40000)).pxRelease c)) := by
  show execContextRelease c q w s = _
  unfold execContextRelease
  rw [State.command_pxCtrl c _ _ _ h, State.writePxCtrl_release _ _ (by simp) (by simp) (by simp)]

theorem execClearHalt_next {s : State} {q : Req} (c : Fin 2048) (w : Word) (h : s.Manages q) :
    exec (.clearHalt c q w) s = .next (settle s ((s.putGallery c ((w &&& ~~~ 0x60000) ||| 0x80000)).pxClearHalt c)) := by
  show execClearHalt c q w s = _
  unfold execClearHalt
  rw [State.command_pxCtrl c _ _ _ h, State.writePxCtrl_clearHalt _ _ (by simp) (by simp) (by simp)]

theorem execPxCntClear_next {s : State} {q : Req} (c : Fin 2048) (w : Word) (h : s.Manages q) :
    exec (.pxCntClear c q w) s = .next (settle s ((s.putGallery c ((w &&& ~~~ 0xC0000) ||| 0x20000)).pxCntClear c)) := by
  show execPxCntClear c q w s = _
  unfold execPxCntClear
  rw [State.command_pxCtrl c _ _ _ h, State.writePxCtrl_cntClear _ _ (by simp) (by simp) (by simp)]

/-! ### What the write does to the context -/

theorem State.get_pxGal (s : State) (c : Nat) : s.pxGal c = s.get (F.pxCtrl_gallery c) := rfl

theorem enableCode_lt (s : State) (c : Nat) : s.enableCode c < 16 := by
  unfold State.enableCode
  dsimp only
  repeat' split
  all_goals decide

theorem State.putGallery_of {s : State} {c : Nat} (h : s.pxState c = 0 ∨ s.pxState c = 1 ∨ s.pxState c = 4) (w : Word) :
    s.putGallery c w = s.put (F.pxCtrl_gallery c) (w.toNat % 16) := by
  unfold State.putGallery
  rw [if_pos (by rcases h with h | h | h <;> simp [h])]

theorem State.putGallery_busy {s : State} {c : Nat} (h : s.pxState c ≠ 0 ∧ s.pxState c ≠ 1 ∧ s.pxState c ≠ 4) (w : Word) :
    s.putGallery c w = s := by
  unfold State.putGallery
  rw [if_neg (by simp [h])]

theorem State.putGallery_effect (s : State) (c : Nat) (w : Word) : (s.putGallery c w).effect = s.effect := by
  unfold State.effect
  rw [s.putGallery_frame]

/-- R177: the outcome of the checks of an enable of a Disabled context with none pending. -/
theorem State.pxEnable_eq {s : State} {c : Nat} (hs : s.pxState c = 1) (he : (s.ctx c).enAt = none) :
    s.pxEnable c = if s.enableCode c = 0 then (s.put (F.pxCtrl_refuse c) (s.enableCode c)).modCtx c fun x => { x with enAt := some s.effect }
      else s.put (F.pxCtrl_refuse c) (s.enableCode c) := by
  unfold State.pxEnable
  rw [if_pos (by simp [hs, he])]

theorem State.ctx_put (s : State) (f : Field) (v c : Nat) : (s.put f v).ctx c = s.ctx c := rfl
theorem State.get_modCtx (s : State) (c : Nat) (g : Px → Px) (f : Field) : (s.modCtx c g).get f = s.get f := rfl

theorem State.get_refuse_put (s : State) (c v : Nat) (h : v < 16) : (s.put (F.pxCtrl_refuse c) v).get (F.pxCtrl_refuse c) = v := by
  rw [State.get_put_same _ _ _ (by simp [F.pxCtrl_refuse])]
  exact Nat.mod_eq_of_lt h

theorem settle_pxCtrl_get (s0 s : State) (f : Field) (c : Nat) (h : f.off = R.pxCtrl c) : (settle s0 s).get f = s.get f :=
  settle_get_context s0 s f (by rw [h]; unfold R.pxCtrl; omega)

theorem low4_toNat (w : Word) : ((w &&& ~~~ 0xE0000) ||| 0x80000000).toNat % 16 = w.toNat % 16 := by
  have e : (((w &&& ~~~ 0xE0000) ||| 0x80000000).setWidth 4) = w.setWidth 4 := by
    ext i hi
    have : i = 0 ∨ i = 1 ∨ i = 2 ∨ i = 3 := by omega
    rcases this with rfl | rfl | rfl | rfl <;> simp
  have n := congrArg BitVec.toNat e
  rwa [BitVec.toNat_setWidth, BitVec.toNat_setWidth] at n

/-- What an enable that passes every check leaves. -/
theorem contextEnable_ok (s : State) (c : Fin 2048) (q : Req) (w : Word) (h : s.Manages q) (hs : s.pxState c = 1)
    (he : (s.ctx c).enAt = none) (hc : s.enableCode c = 0) :
    ∃ t, exec (.contextEnable c q w) s = .next t ∧ (t.ctx c).enAt = some s.effect ∧ t.get (F.pxCtrl_refuse c) = 0 ∧ t.pxGal c = w.toNat % 16 := by
  refine ⟨_, execContextEnable_next c w h, ?_⟩
  have b := s.putGallery_sameBindings c ((w &&& ~~~ 0xE0000) ||| 0x80000000)
  rw [State.pxEnable_eq (by rw [b.pxState, hs]) (by rw [b.ctx, he]), b.enableCode, hc, if_pos rfl, State.putGallery_effect,
    State.putGallery_of (.inr (.inl hs)), settle_ctx, State.ctx_modCtx_same, settle_pxCtrl_get _ _ _ c rfl, State.get_pxGal,
    settle_pxCtrl_get _ _ _ c rfl, State.get_modCtx, State.get_modCtx, State.get_refuse_put _ _ _ (by decide)]
  refine ⟨rfl, rfl, ?_⟩
  rw [State.get_put_apart _ _ _ _ (by simp [F.pxCtrl_gallery]) (by simp [F.pxCtrl_gallery, F.pxCtrl_refuse]),
    State.get_put_same _ _ _ (by simp [F.pxCtrl_gallery])]
  exact (Nat.mod_mod _ 16).trans (low4_toNat w)

/-- What an enable that fails a check leaves: the check's code in refuse. -/
theorem contextEnable_refused (s : State) (c : Fin 2048) (q : Req) (w : Word) (h : s.Manages q) (hs : s.pxState c = 1)
    (he : (s.ctx c).enAt = none) (hc : s.enableCode c ≠ 0) :
    ∃ t, exec (.contextEnable c q w) s = .next t ∧ t.get (F.pxCtrl_refuse c) = s.enableCode c ∧ t.ctx c = s.ctx c := by
  refine ⟨_, execContextEnable_next c w h, ?_⟩
  have b := s.putGallery_sameBindings c ((w &&& ~~~ 0xE0000) ||| 0x80000000)
  rw [State.pxEnable_eq (by rw [b.pxState, hs]) (by rw [b.ctx, he]), b.enableCode, if_neg hc, settle_ctx, State.ctx_put, b.ctx,
    settle_pxCtrl_get _ _ _ c rfl, State.get_refuse_put _ _ _ (enableCode_lt s c)]
  exact ⟨rfl, rfl⟩

/-- What a disable of an Enabled context leaves: Stopping until the effect frame. -/
theorem contextDisable_enabled (s : State) (c : Fin 2048) (q : Req) (w : Word) (h : s.Manages q) (hs : s.pxState c = 2) :
    ∃ t, exec (.contextDisable c q w) s = .next t ∧ (t.ctx c).mode = 6 ∧ (t.ctx c).disAt = some s.effect ∧ (t.ctx c).enAt = none ∧
      t.pxGal c = s.pxGal c := by
  refine ⟨_, execContextDisable_next c w h, ?_⟩
  rw [State.putGallery_busy (by simp [hs]), State.get_pxGal, settle_pxCtrl_get _ _ _ c rfl, settle_ctx]
  unfold State.pxDisable
  rw [hs, if_pos (by decide), State.ctx_modCtx_same]
  exact ⟨rfl, rfl, rfl, rfl⟩

/-- What a release of a Held context that fits its descriptor leaves. -/
theorem contextRelease_held (s : State) (c : Fin 2048) (q : Req) (w : Word) (h : s.Manages q) (hs : s.pxState c = 4)
    (hd : s.descFits c = true) :
    ∃ t, exec (.contextRelease c q w) s = .next t ∧ (t.ctx c).enAt = some s.effect ∧ t.get (F.pxCtrl_refuse c) = 0 := by
  refine ⟨_, execContextRelease_next c w h, ?_⟩
  have b := s.putGallery_sameBindings c ((w &&& ~~~ 0xA0000) ||| 0x40000)
  unfold State.pxRelease
  rw [b.pxState, hs, if_pos rfl, b.descFits, hd, if_pos rfl, State.putGallery_effect, settle_ctx, State.ctx_modCtx_same,
    settle_pxCtrl_get _ _ _ c rfl, State.get_modCtx, State.get_refuse_put _ _ _ (by decide)]
  exact ⟨rfl, rfl⟩

theorem State.port_modPort_same {s : State} {n : Nat} (f : Gp → Gp) (h : n < s.gp.length) : (s.modPort n f).port n = f (s.port n) := by
  unfold State.port State.modPort
  rw [getD_listSet, if_pos ⟨rfl, h⟩]
  rfl

/-- A control transfer of the engine's own, begun at a port: it is the port's last one, and the service that starts it waits last. -/
theorem State.port_startCtl {s : State} {n : Nat} (a : Nat) (use : CtlFor) (b : List Byte) (h : n < s.gp.length) :
    (s.startCtl n a use b).port n =
      { s.port n with ctls := (s.port n).ctls ++ [{ use := use, addr := a, setup := b }], svc := (s.port n).svc ++ [.ctl use a] } := by
  unfold State.startCtl State.serve
  rw [State.port_modPort_same _ (by unfold State.modPort; rw [listSet_length]; exact h), State.port_modPort_same _ h]

theorem State.gp_length {s : State} (h : s.sizesOk = true) : s.gp.length = 8 := (sizesOf_iff.mp h).1

/-- What a clear_halt of a Halted context leaves: its CLEAR_HALT waits at the port. -/
theorem clearHalt_halted (s : State) (c : Fin 2048) (q : Req) (w : Word) (h : s.Manages q) (hz : s.sizesOk = true) (hs : s.pxState c = 5)
    (hc : (s.port (s.pxPort c)).ctls.any (·.use == .clearHalt c (s.pxPipe c)) = false) :
    ∃ t, exec (.clearHalt c q w) s = .next t ∧ (t.port (s.pxPort c)).ctls.any (·.use == .clearHalt c (s.pxPipe c)) = true ∧
      (t.port (s.pxPort c)).svc = (s.port (s.pxPort c)).svc ++ [.ctl (.clearHalt c (s.pxPipe c)) (s.pxAddr c)] := by
  refine ⟨_, execClearHalt_next c w h, ?_⟩
  have hn : s.pxPort c < s.gp.length := by
    rw [State.gp_length hz]
    exact s.pxPort_lt c
  have hcl : s.pxClearing c = false := hc
  have port (x : State) : (settle s x).port (s.pxPort c) = x.port (s.pxPort c) := by
    unfold State.port
    rw [settle_gp]
  rw [State.putGallery_busy (by simp [hs]), port]
  unfold State.pxClearHalt
  rw [hs, hcl, if_pos (by decide), State.port_startCtl _ _ _ hn]
  simp

theorem State.setRegs_zero4 (s : State) (o i : Nat) (h : i < 4) : (s.setRegs o [0, 0, 0, 0]).reg (o + 4 * i) = 0 := by
  have : i = 0 ∨ i = 1 ∨ i = 2 ∨ i = 3 := by omega
  unfold State.setRegs State.setRegs State.setRegs State.setRegs State.setRegs
  rcases this with rfl | rfl | rfl | rfl <;> simp [Nat.add_assoc]

theorem State.setRegs_ctx (s : State) (o : Nat) (ws : List Nat) (c : Nat) : (s.setRegs o ws).ctx c = s.ctx c := by
  induction ws generalizing s o with
  | nil => rfl
  | cons w ws ih => exact ih _ _

/-- What cnt_clear leaves: the four counters of the context at 0. -/
theorem pxCntClear_zeros (s : State) (c : Fin 2048) (q : Req) (w : Word) (h : s.Manages q) :
    ∃ t, exec (.pxCntClear c q w) s = .next t ∧ (∀ i ∈ List.range 4, t.reg (R.pxCntA c + 4 * i) = 0) ∧ t.ctx c = s.ctx c := by
  refine ⟨_, execPxCntClear_next c w h, fun i hi => ?_, ?_⟩
  · rw [settle_reg _ _ _ (by rw [regPart_high (by unfold R.pxCntA; omega)]; decide)]
    exact State.setRegs_zero4 _ _ _ (List.mem_range.mp hi)
  · rw [settle_ctx]
    exact (State.setRegs_ctx _ _ _ _).trans ((s.putGallery_sameBindings c _).ctx c)

/-! ### EFFECT_FRAME (R180)

The contexts of the table take their turns one after another: a turn changes the engine's part of its own context only, and not the frame
number, so a context that is due finds at its turn what it was before the command. -/

/-- The turn of one context at an effect frame. -/
def State.effectTurn (s : State) (c : Nat) : State :=
  (s.pxEffect c).modCtx c fun x =>
    { x with quals := x.quals.filter fun p => newer p.1 s.frame, applies := x.applies.filter fun p => newer p.1 s.frame }

theorem State.pxEffects_eq (s : State) : s.pxEffects = forEach (s.px.map (·.1)) s State.effectTurn := rfl

/-- A context at rest in a mode: no enable and no disable pending. -/
def Px.RestsIn (x : Px) (m : Nat) : Prop := x.mode = m ∧ x.enAt = none ∧ x.disAt = none

theorem State.ctx_dmaRead (s : State) (g tc : Nat) (who : Reader) (a len c : Nat) : (s.dmaRead g tc who a len).ctx c = s.ctx c :=
  State.ctx_of_px ((s.dmaRead_touch g tc who a len).px (by decide)) c

theorem State.pxStart_ctx_ne (s : State) {c d : Nat} (h : d ≠ c) : (s.pxStart c).ctx d = s.ctx d := by
  unfold State.pxStart
  dsimp only
  split
  · split
    · rw [State.ctx_dmaRead, State.ctx_modCtx, if_neg h]
    · rw [State.ctx_modCtx, if_neg h]
  · rfl

theorem State.pxStart_rests {s : State} {c m : Nat} (h : (s.ctx c).RestsIn m) : ((s.pxStart c).ctx c).RestsIn m := by
  unfold State.pxStart
  dsimp only
  split
  · split
    · rw [State.ctx_dmaRead, State.ctx_modCtx_same]
      exact h
    · rw [State.ctx_modCtx_same]
      exact h
  · exact h

theorem State.pxEffect_ctx_ne (s : State) {c d : Nat} (h : d ≠ c) : (s.pxEffect c).ctx d = s.ctx d := by
  have m (s : State) (f : Px → Px) : (s.modCtx c f).ctx d = s.ctx d := by rw [State.ctx_modCtx, if_neg h]
  unfold State.pxEffect
  dsimp only
  repeat' split
  all_goals simp only [m, State.pxStart_ctx_ne _ h]

theorem State.effectTurn_ctx_ne (s : State) {c d : Nat} (h : d ≠ c) : (s.effectTurn c).ctx d = s.ctx d := by
  unfold State.effectTurn
  rw [State.ctx_modCtx, if_neg h, State.pxEffect_ctx_ne _ h]

theorem State.effectTurn_frame (s : State) (c : Nat) : (s.effectTurn c).frame = s.frame :=
  State.get_of_reg (((s.pxEffect_touch c).trans ((State.modCtx_touch _ c _).weaken (by decide))).reg _ (by decide))

theorem State.effectTurn_rests_of {s : State} {c m : Nat} (h : ((s.pxEffect c).ctx c).RestsIn m) : ((s.effectTurn c).ctx c).RestsIn m := by
  unfold State.effectTurn
  rw [State.ctx_modCtx_same]
  exact h

theorem State.effectTurn_rests {s : State} {c m : Nat} (h : (s.ctx c).RestsIn m) : ((s.effectTurn c).ctx c).RestsIn m := by
  refine State.effectTurn_rests_of ?_
  obtain ⟨_, he, hd⟩ := id h
  unfold State.pxEffect
  simpa only [he, hd, Bool.false_and, Bool.false_eq_true, if_false] using h

/-- R178, R180: a disable whose effect frame has been reached leaves the context Disabled. -/
theorem State.effectTurn_disable {s : State} {c d : Nat} (hd : (s.ctx c).disAt = some d) (hr : s.reached d = true) :
    ((s.effectTurn c).ctx c).RestsIn 1 := by
  refine State.effectTurn_rests_of ?_
  unfold State.pxEffect
  simp only [hd, hr, if_true, State.ctx_modCtx_same]
  exact ⟨rfl, rfl, rfl⟩

/-- R177, R180: an enable whose effect frame has been reached leaves the context Enabled. -/
theorem State.effectTurn_enable {s : State} {c e : Nat} (hd : (s.ctx c).disAt = none) (hm : (s.ctx c).mode ≠ 6)
    (he : (s.ctx c).enAt = some e) (hr : s.reached e = true) : ((s.effectTurn c).ctx c).RestsIn 2 := by
  have rests : ((s.modCtx c fun x => { x with mode := 2, enAt := none }).ctx c).RestsIn 2 := by
    rw [State.ctx_modCtx_same]
    exact ⟨rfl, rfl, hd⟩
  refine State.effectTurn_rests_of ?_
  unfold State.pxEffect
  simp only [hd, he, hr, hm, Bool.true_and, decide_false, Bool.false_eq_true, if_false, if_true]
  split
  · exact State.pxStart_rests rests
  · exact rests

theorem effectTurns_frame (xs : List Nat) (s : State) : (forEach xs s State.effectTurn).frame = s.frame := by
  unfold forEach
  induction xs generalizing s with
  | nil => rfl
  | cons d xs ih => exact (ih _).trans (s.effectTurn_frame d)

theorem effectTurns_rests (xs : List Nat) {s : State} {c m : Nat} (h : (s.ctx c).RestsIn m) :
    ((forEach xs s State.effectTurn).ctx c).RestsIn m := by
  unfold forEach
  induction xs generalizing s with
  | nil => exact h
  | cons d xs ih =>
    refine ih ?_
    by_cases e : c = d
    · rw [← e]
      exact State.effectTurn_rests h
    · rw [State.effectTurn_ctx_ne _ e]
      exact h

/-- A context that is due, by what the engine holds of it and by the frame number alone, has its effect once its turn has come. -/
theorem effectTurns_due {c m : Nat} {x : Px} {f : Nat}
    (due : ∀ s : State, s.ctx c = x → s.frame = f → ((s.effectTurn c).ctx c).RestsIn m)
    (xs : List Nat) (s : State) (hx : s.ctx c = x) (hf : s.frame = f) (hc : c ∈ xs) :
    ((forEach xs s State.effectTurn).ctx c).RestsIn m := by
  unfold forEach
  induction xs generalizing s with
  | nil => cases hc
  | cons d xs ih =>
    rw [List.foldl_cons]
    by_cases e : c = d
    · rw [← e]
      exact effectTurns_rests xs (due s hx hf)
    · exact ih _ ((s.effectTurn_ctx_ne e).trans hx) ((s.effectTurn_frame d).trans hf) (List.mem_of_ne_of_mem e hc)

theorem tget_of_not_mem {α : Type} (d : Nat → α) (t : Tab α) (k : Nat) (h : k ∉ t.map (·.1)) : tget d t k = d k := by
  induction t with
  | nil => rfl
  | cons x t ih =>
    obtain ⟨i, v⟩ := x
    simp only [List.map_cons, List.mem_cons, not_or] at h
    unfold tget
    rw [if_neg (fun e => h.1 e.symm), ih h.2]

/-- A context with something pending has an entry in the table, so it has its turn. -/
theorem State.mem_px_keys {s : State} {c : Nat} (h : s.ctx c ≠ {}) : c ∈ s.px.map (·.1) :=
  Classical.byContradiction fun k => h (tget_of_not_mem _ _ _ k)

/-- What EFFECT_FRAME leaves of a context that is due, and of the frame number. -/
theorem execEffectFrame_due {s : State} {c m : Nat} (ho : s.off = false) (hk : s.ctx c ≠ {})
    (due : ∀ u : State, u.ctx c = s.ctx c → u.frame = s.frame → ((u.effectTurn c).ctx c).RestsIn m) :
    ∃ t, exec .effectFrame s = .next t ∧ (t.ctx c).RestsIn m ∧ t.frame = s.frame := by
  refine ⟨_, act_awake (fun s => s.pxEffects.catEffects) ho, ?_, ?_⟩
  · rw [settle_ctx, State.ctx_of_px ((State.catEffects_touch _).px (by decide)) c]
    exact effectTurns_due due _ s rfl rfl (State.mem_px_keys hk)
  · have e : (settle s s.pxEffects.catEffects).frame = s.pxEffects.catEffects.frame := settle_get s _ _ (by decide)
    rw [e]
    exact (State.get_of_reg ((State.catEffects_touch _).reg _ (by decide))).trans (effectTurns_frame _ s)

theorem State.reached_of_frame {s t : State} (h : t.frame = s.frame) (f : Nat) : t.reached f = s.reached f := by
  unfold State.reached
  rw [h]

theorem effectFrame_enable (s : State) (c e : Nat) (ho : s.off = false) (hd : (s.ctx c).disAt = none) (hm : (s.ctx c).mode ≠ 6)
    (he : (s.ctx c).enAt = some e) (hr : s.reached e = true) :
    ∃ t, exec .effectFrame s = .next t ∧ (t.ctx c).mode = 2 ∧ (t.ctx c).enAt = none ∧ t.frame = s.frame := by
  have hk : s.ctx c ≠ {} := fun k => by rw [k] at he; cases he
  obtain ⟨t, ht, ⟨hmode, hen, _⟩, hf⟩ := execEffectFrame_due (m := 2) ho hk fun u hx hf =>
    State.effectTurn_enable (by rw [hx, hd]) (by rw [hx]; exact hm) (by rw [hx, he]) ((State.reached_of_frame hf e).trans hr)
  exact ⟨t, ht, hmode, hen, hf⟩

theorem effectFrame_disable (s : State) (c d : Nat) (ho : s.off = false) (hd : (s.ctx c).disAt = some d) (hr : s.reached d = true) :
    ∃ t, exec .effectFrame s = .next t ∧ (t.ctx c).mode = 1 ∧ (t.ctx c).enAt = none ∧ (t.ctx c).disAt = none := by
  have hk : s.ctx c ≠ {} := fun k => by rw [k] at hd; cases hd
  obtain ⟨t, ht, hrest, _⟩ := execEffectFrame_due (m := 1) ho hk fun u hx hf =>
    State.effectTurn_disable (by rw [hx, hd]) ((State.reached_of_frame hf d).trans hr)
  exact ⟨t, ht, hrest⟩

/-- Settles O30: each clause by what the command does to the context's own part; an effect frame by the turns of the contexts. -/
theorem contextCommands : Obligations.ContextCommands := by
  unfold Obligations.ContextCommands
  exact ⟨contextEnable_ok, contextEnable_refused, contextDisable_enabled, contextRelease_held,
    clearHalt_halted, pxCntClear_zeros, effectFrame_enable, effectFrame_disable⟩

end Sys2Proof.Machine
end

section
/-! PROOFS. Frame numbers (R10): when a frame number counts as newer, and the count of a frame boundary. -/

namespace Sys2Proof.Machine

/-! ### A renumbering pending stays as it is

Only FRAME_RENUMBER and a confirmed offset set it; the Span messages that a boundary sends (a take's, a mirror's) leave it. -/

/-- The two states have the same renumbering pending, or none. -/
structure SameRenum (s t : State) : Prop where
  renum : t.sp.renum = s.sp.renum

theorem SameRenum.refl (s : State) : SameRenum s s := ⟨rfl⟩
theorem SameRenum.trans {s t u : State} (h : SameRenum s t) (k : SameRenum t u) : SameRenum s u := ⟨k.renum.trans h.renum⟩

theorem SameRenum.of_touch {m : Nat} {s t : State} (h : Touch m s t) (hm : m.testBit 28 = false) : SameRenum s t :=
  ⟨congrArg Sp.renum (h.sp hm)⟩

theorem SameRenum.of_kept {s t : State} (h : Kept s t) : SameRenum s t := ⟨by rw [h.span]⟩

theorem SameRenum.of_sp {b s t : State} (h : SameRenum b s) (e : t.sp = s.sp) : SameRenum b t := ⟨(congrArg Sp.renum e).trans h.renum⟩

theorem SameRenum.forEach {α : Type} {b s : State} {f : State → α → State} (h : SameRenum b s) (hf : ∀ a x, SameRenum a (f a x)) (xs : List α) :
    SameRenum b (forEach xs s f) := by
  unfold Machine.forEach
  induction xs generalizing s with
  | nil => exact h
  | cons x xs ih => exact ih (h.trans (hf s x))

theorem SameRenum.ite {c : Prop} [Decidable c] {b s t : State} (h : SameRenum b s) (k : SameRenum b t) : SameRenum b (if c then s else t) := by
  split
  · exact h
  · exact k

/-- A loop that carries a result beside the state. -/
theorem SameRenum.foldl {α β : Type} {b : State} {f : β × State → α → β × State} {p : β × State} (h : SameRenum b p.2)
    (hf : ∀ p x, SameRenum p.2 (f p x).2) (xs : List α) : SameRenum b (xs.foldl f p).2 := by
  induction xs generalizing p with
  | nil => exact h
  | cons x xs ih => exact ih (h.trans (hf p x))

theorem State.spanSend_sameRenum (s : State) (p : SpanPkt) : SameRenum s (s.spanSend p) := by
  have ready (a : State) (m : Nat) : SameRenum a (a.spanReady m p) := .of_kept (a.spanReady_kept m p)
  unfold State.spanSend
  split
  · exact SameRenum.forEach (.refl s) (fun a m => .ite (ready a m) (.refl a)) _
  · split
    · exact ready s _
    · exact ⟨rfl⟩

theorem State.take_sameRenum (s : State) (code t : Nat) : SameRenum s (s.take code t) := by
  have h : SameRenum s (s.takeLocal code t s.chip []) := .of_touch (s.takeLocal_touch ..) (by decide)
  exact .ite ((h.trans (State.spanSend_sameRenum _ _)).of_sp rfl) h

theorem State.setRegs_sameRenum (ws : List Nat) (s : State) (off : Nat) : SameRenum s (s.setRegs off ws) := by
  induction ws generalizing s off with
  | nil => exact .refl _
  | cons w ws ih =>
    have h : SameRenum s (s.setReg off (BitVec.ofNat 32 w)) := ⟨rfl⟩
    exact h.trans (ih _ _)

theorem State.detectAt_sameRenum (s : State) (d cls inst detail gal t : Nat) (inj : Bool) :
    SameRenum s (s.detectAt d cls inst detail gal t inj) := by
  have line (a : State) : SameRenum a a.faultN := .of_touch a.faultN_touch (by decide)
  unfold State.detectAt
  extract_lets c s1 s2 s3 s4 s5
  have h2 : SameRenum s s2 := .ite ⟨rfl⟩ ⟨rfl⟩
  have h3 : SameRenum s s3 := h2.trans (.of_touch (s2.faultLog_touch ..) (by decide))
  have h4 : SameRenum s s4 := .ite (h3.of_sp rfl) h3
  have h5 : SameRenum s s5 := .ite (.trans (.ite (h4.trans (State.setRegs_sameRenum ..)) h4) (line _)) h4
  exact .ite (h5.trans (State.take_sameRenum ..)) h5

theorem State.detect_sameRenum (s : State) (d cls inst detail : Nat) (inj : Bool) : SameRenum s (s.detect d cls inst detail inj) :=
  s.detectAt_sameRenum d cls inst detail 0 s.now inj

theorem State.ramErrors_sameRenum (ws : List BadWord) (s : State) (cls gal : Nat) : SameRenum s (State.ramErrors ws s cls gal).2 := by
  induction ws generalizing s with
  | nil => exact .refl _
  | cons w ws ih =>
    unfold State.ramErrors
    split
    · exact State.detectAt_sameRenum ..
    · exact SameRenum.trans (State.detectAt_sameRenum ..) (ih _)

theorem State.ramRead_sameRenum (s : State) (a len cls gal : Nat) : SameRenum s (s.ramRead a len cls gal).2 :=
  .trans (.of_touch (s.ramFire_touch a len) (by decide)) (State.ramErrors_sameRenum ..)

/-! The cut-off of a frame: values chosen, reflexes placed, placements mirrored. -/

theorem State.outLost_sameRenum (s : State) (c : Nat) : SameRenum s (s.outLost c) := .of_touch (s.outLost_touch c) (by decide)

theorem State.consume_sameRenum (s : State) (c : Nat) : SameRenum s (s.consume c) := .of_touch (s.consume_touch c) (by decide)

theorem State.holdVal_sameRenum (s : State) (c f : Nat) (it : PlanItem) (rep : Bool) : SameRenum s (s.holdVal c f it rep).2 := by
  unfold State.holdVal
  split
  · exact ⟨rfl⟩
  · dsimp only
    split
    · exact (State.ramRead_sameRenum ..).trans (State.outLost_sameRenum ..)
    · exact State.ramRead_sameRenum ..

theorem State.chooseVal_sameRenum (s : State) (c f : Nat) (it : PlanItem) : SameRenum s (s.chooseVal c f it).2 := by
  unfold State.chooseVal
  split
  · extract_lets s1
    have h1 : SameRenum s s1 := .of_touch (State.dropSlots_touch ..) (by decide)
    clear_value s1
    split
    · extract_lets x s2
      have hx : SameRenum s x.2 := h1.trans (State.ramRead_sameRenum ..)
      have h2 : SameRenum s s2 := hx.trans (.of_touch (x.2.outPop_touch c) (by decide))
      clear_value x s2
      split
      · have h3 := h2.trans (s2.outLost_sameRenum c)
        exact h3.trans (State.consume_sameRenum _ c)
      · exact h2
    · exact h1.trans (State.holdVal_sameRenum ..)
  · exact State.holdVal_sameRenum ..

theorem State.closeItem_sameRenum (s : State) (f : Nat) (late rep : Bool) (items : List PlanItem) (it : PlanItem) :
    SameRenum s (s.closeItem f late rep items it).2 := by
  have h : SameRenum s (if late then s.holdVal it.ctx f it rep else s.chooseVal it.ctx f it).2 := by
    split
    · exact State.holdVal_sameRenum ..
    · exact State.chooseVal_sameRenum ..
  unfold State.closeItem
  split
  · exact ⟨rfl⟩
  · split
    · exact ⟨rfl⟩
    · dsimp only
      split
      · exact ⟨rfl⟩
      · split
        · split
          · exact h.trans (.of_touch (State.outDisplaced_touch ..) (by decide))
          · exact h
        · exact h

theorem State.mirrorItem_sameRenum (s : State) (typ n addr pipe index : Nat) (body : List Byte) :
    SameRenum s (s.mirrorItem typ n addr pipe index body) := .of_kept (s.mirrorItem_kept ..)

theorem State.modCu_sameRenum (s : State) (n : Nat) (f : CuPort → CuPort) : SameRenum s (s.modCu n f) := ⟨rfl⟩

theorem State.reflexMove_sameRenum (s : State) (n f : Nat) (r : ReflexOut) : SameRenum s (s.reflexMove n f r) := by
  have placed (a : State) (x : ReflexOut) : SameRenum a (a.mirrorPlacement x) := .ite (State.mirrorItem_sameRenum ..) (.refl a)
  have waiting (a : State) : SameRenum a (a.mirrorWaiting r.ctx) := .ite (State.mirrorItem_sameRenum ..) (.refl a)
  unfold State.reflexMove
  exact (SameRenum.forEach (s.modCu_sameRenum n _) placed _).trans (waiting _)

theorem State.reflexesInto_sameRenum (s : State) (n f : Nat) (late : Bool) (items : List PlanItem) :
    SameRenum s (s.reflexesInto n f late items).2 := by
  unfold State.reflexesInto
  extract_lets mine s0 step
  have h0 : SameRenum s s0 := State.modCu_sameRenum ..
  refine SameRenum.foldl h0 (fun x r => ?_) _
  have move : SameRenum x.2 (x.2.reflexMove n f r) := State.reflexMove_sameRenum ..
  split
  · exact SameRenum.of_sp move rfl
  · split
    · exact move
    · split
      · exact .ite (.of_touch (State.setRamBytes_touch ..) (by decide)) (.refl _)
      · split
        · exact move
        · exact ⟨rfl⟩

theorem State.closeItems_sameRenum (s : State) (n f : Nat) (late : Bool) (items : List PlanItem) :
    SameRenum s (s.closeItems n f late items).2 := by
  unfold State.closeItems
  extract_lets x
  have hx : SameRenum s x.2 := State.reflexesInto_sameRenum ..
  refine SameRenum.foldl (p := ([], x.2)) hx (fun p it => ?_) _
  exact p.2.closeItem_sameRenum f _ late x.1 it

theorem State.planLate_sameRenum (s : State) (f n : Nat) (inj : Bool) : SameRenum s (s.planLate f n inj) := by
  have up (a : State) : SameRenum a a.forceUp := .of_touch a.forceUp_touch (by decide)
  unfold State.planLate
  extract_lets old s1 x
  have h0 : SameRenum s ((s.bump (F.cuPortLate_late_frames n)).raise F.cuEvents_plan_late) := ⟨rfl⟩
  have hd := h0.trans (State.detect_sameRenum _ 0x11 1 n f inj)
  have h1 : SameRenum s s1 := hd.trans (up _)
  clear_value s1
  have hx : SameRenum s x.2 := h1.trans (s1.closeItems_sameRenum ..)
  exact hx.of_sp rfl

theorem State.closePort_sameRenum (s : State) (f n : Nat) : SameRenum s (s.closePort f n) := by
  unfold State.closePort
  extract_lets cu s0 s1 i
  split
  · have h0 : SameRenum s s0 := ⟨rfl⟩
    refine h0.forEach (fun a r => ?_) _
    exact .of_touch (a.reflexLost_touch n r.ctx) (by decide)
  · split
    · exact State.reflexesInto_sameRenum ..
    · have h1 : SameRenum s s1 := ⟨rfl⟩
      have hi : SameRenum s i.2 := h1.trans (.of_touch (State.inject_touch s1 0x11 n _ (by decide)) (by decide))
      clear_value i
      split
      · split
        · exact hi.trans (State.planLate_sameRenum ..)
        · extract_lets x
          have hx : SameRenum s x.2 := hi.trans (i.2.closeItems_sameRenum ..)
          exact hx.of_sp rfl
      · exact hi.trans (State.planLate_sameRenum ..)

theorem State.planCutoff_sameRenum (s : State) : SameRenum s s.planCutoff := by
  unfold State.planCutoff
  extract_lets f t s0 ports late0 s1 s2 late m s3
  have h0 : SameRenum s s0 := .of_touch (s.advanceTo_touch t) (by decide)
  clear_value s0
  have h1 : SameRenum s s1 := h0.of_sp rfl
  have h2 : SameRenum s s2 := h1.forEach (fun a n => a.closePort_sameRenum f n) _
  clear_value s2
  exact .ite (.refl s) (.ite h2 (h2.of_sp rfl))

/-! ### A station step (R59) leaves the frame number and a renumbering pending -/

theorem State.frame_of_touch {m : Nat} {s t : State} (h : Touch m s t) (hm : m.testBit 37 = false) : t.frame = s.frame :=
  State.get_of_reg (h.reg _ hm)

/-- A register of the time keeper's page that is not TK_FRAME_NUM is set. -/
theorem State.frame_setReg {s : State} {off : Nat} (w : Word) (h : R.tkFrameNum ≠ off) : (s.setReg off w).frame = s.frame :=
  State.get_of_reg (s.reg_setReg_ne _ _ _ h)

theorem State.frame_put {s : State} {f : Field} (v : Nat) (h : R.tkFrameNum ≠ f.off) : (s.put f v).frame = s.frame :=
  State.get_put_ne _ _ _ _ h

/-- The two states have the same frame number and the same renumbering pending. -/
structure SameCount (s t : State) : Prop where
  frame : t.frame = s.frame
  renum : SameRenum s t

theorem SameCount.refl (s : State) : SameCount s s := ⟨rfl, .refl s⟩
theorem SameCount.trans {s t u : State} (h : SameCount s t) (k : SameCount t u) : SameCount s u := ⟨k.frame.trans h.frame, h.renum.trans k.renum⟩

theorem SameCount.ite {c : Prop} [Decidable c] {b s t : State} (h : SameCount b s) (k : SameCount b t) : SameCount b (if c then s else t) := by
  split
  · exact h
  · exact k

theorem SameCount.of_touch {m : Nat} {s t : State} (h : Touch m s t) (hf : m.testBit 37 = false) (hr : m.testBit 28 = false) : SameCount s t :=
  ⟨State.frame_of_touch h hf, .of_touch h hr⟩

theorem SameCount.put {b s : State} (h : SameCount b s) {f : Field} (v : Nat) (hf : R.tkFrameNum ≠ f.off) : SameCount b (s.put f v) :=
  ⟨(State.frame_put v hf).trans h.frame, h.renum.of_sp rfl⟩

theorem SameCount.setReg64 {b s : State} (h : SameCount b s) {off : Nat} (v : Nat) (h0 : R.tkFrameNum ≠ off) (h4 : R.tkFrameNum ≠ off + 4) :
    SameCount b (s.setReg64 off v) :=
  ⟨((State.frame_setReg _ h4).trans (State.frame_setReg _ h0)).trans h.frame, h.renum.of_sp rfl⟩

theorem SameCount.forEach {α : Type} {b s : State} {f : State → α → State} {xs : List α} (h : SameCount b s)
    (hf : ∀ a, ∀ x ∈ xs, SameCount a (f a x)) : SameCount b (forEach xs s f) := by
  unfold Machine.forEach
  induction xs generalizing s with
  | nil => exact h
  | cons x xs ih => exact ih (h.trans (hf s x List.mem_cons_self)) fun a y hy => hf a y (List.mem_cons_of_mem x hy)

theorem State.take_sameCount (s : State) (code t : Nat) : SameCount s (s.take code t) :=
  ⟨State.frame_of_touch (s.take_touch code t) (by decide), s.take_sameRenum code t⟩

/-- An alarm that fires writes only its own registers and TK_EVENTS of the page. -/
theorem State.alarmFire_sameCount (s : State) {k : Nat} (hk : k < 4) (late : Bool) : SameCount s (s.alarmFire k late) := by
  have ctl : R.tkFrameNum ≠ R.tkAlarmCtrl k := by unfold R.tkFrameNum R.tkAlarmCtrl; omega
  have lo : R.tkFrameNum ≠ R.tkAlarmLo k := by unfold R.tkFrameNum R.tkAlarmLo; omega
  have hi : R.tkFrameNum ≠ R.tkAlarmLo k + 4 := by unfold R.tkFrameNum R.tkAlarmLo; omega
  unfold State.alarmFire
  extract_lets a p t s1 s2 u s3
  have h1 : SameCount s s1 := .ite ((SameCount.refl s).put 1 ctl) (.refl s)
  have h2 : SameCount s s2 := .ite h1 (h1.put _ (by decide))
  clear_value s2
  have h3 : SameCount s s3 := .ite (h2.put 0 ctl) ((h2.setReg64 u lo hi).trans ⟨rfl, ⟨rfl⟩⟩)
  exact .ite (h3.trans (State.take_sameCount ..)) h3

theorem State.applyStep_sameCount (s : State) : SameCount s s.applyStep := by
  unfold State.applyStep
  split
  · exact .refl s
  · rename_i d _
    extract_lets b s0 move t srcs tk0 tk s1 s2 s3
    have h0 : SameCount s s0 := .of_touch (s.advanceTo_touch b) (by decide) (by decide)
    clear_value s0
    have h1 : SameCount s s1 := ⟨h0.frame, h0.renum.of_sp rfl⟩
    have h2 : SameCount s s2 := (h1.put 1 (by decide)).setReg64 _ (by decide) (by decide)
    clear_value s2
    have h3 : SameCount s s3 :=
      h2.forEach fun a k hk => .ite (a.alarmFire_sameCount (List.mem_range.mp hk) true) (.refl a)
    exact .ite (h3.trans (State.take_sameCount ..)) h3

/-! ### A frame boundary counts one frame (R10) -/

theorem nextFrame_lt (f : Nat) : nextFrame f < 2 ^ 32 := Nat.mod_lt _ (by decide)

theorem State.renumber_none {s : State} (h : s.sp.renum = none) : s.renumber = s := by
  unfold State.renumber
  rw [h]

theorem State.rateApply_sameCount (s : State) : SameCount s s.rateApply := .of_touch s.rateApply_touch (by decide) (by decide)

theorem State.frameNext_frame {s : State} (h : s.sp.renum = none) : s.frameNext.frame = nextFrame s.frame := by
  unfold State.frameNext
  extract_lets s0 b s1 tk s2 s3 s4
  have h0 : SameCount s s0 := s.applyStep_sameCount
  clear_value s0
  have h1 : SameCount s s1 := h0.trans (.of_touch (s0.advanceTo_touch b) (by decide) (by decide))
  clear_value s1
  have h2 : SameCount s s2 := ⟨h1.frame, h1.renum.of_sp rfl⟩
  clear_value s2
  have h3 : SameCount s s3 := by
    unfold s3
    split
    · exact .ite (h2.trans s2.rateApply_sameCount) h2
    · exact h2
  clear_value s3
  have h4 : s4 = s3 := State.renumber_none (h3.renum.renum.trans h)
  rw [h4, h3.frame]
  exact (State.get_put_same _ _ _ (by decide)).trans (Nat.mod_eq_of_lt (nextFrame_lt _))

/-- A boundary with no renumbering pending counts one frame, awake or asleep, whatever else it does. -/
theorem State.frameBegin_frame {s : State} (h : s.sp.renum = none) (e : List SramFlip) : (s.frameBegin e).frame = nextFrame s.frame := by
  unfold State.frameBegin
  split
  · exact State.frameNext_frame h
  · have cut : SameCount s s.planCutoff := ⟨State.frame_of_touch s.planCutoff_touch (by decide), s.planCutoff_sameRenum⟩
    have work (a : State) : (a.frameWork e).frame = a.frame := State.frame_of_touch (a.frameWork_touch e) (by decide)
    dsimp only
    rw [work, State.frameNext_frame (cut.renum.renum.trans h), cut.frame]

theorem settle_frame (s0 s : State) : (settle s0 s).frame = s.frame := settle_get s0 s _ (by decide)

theorem execFrameBoundary_frame {s : State} (ho : s.off = false) (h : s.sp.renum = none) (e : List SramFlip) :
    ∃ t, exec (.frameBoundary e) s = .next t ∧ t.frame = nextFrame s.frame := by
  refine ⟨settle s (s.frameBegin e), ?_, (settle_frame s _).trans (State.frameBegin_frame h e)⟩
  show execFrameBoundary e s = _
  unfold execFrameBoundary
  exact act_awake _ ho

theorem newer_iff {a b : Nat} (hb : b < 2 ^ 32) :
    newer a b = true ↔ 1 ≤ (a + (2 ^ 32 - b)) % 2 ^ 32 ∧ (a + (2 ^ 32 - b)) % 2 ^ 32 ≤ 2 ^ 31 - 1 := by
  have e : a + 2 ^ 32 - b % 2 ^ 32 = a + (2 ^ 32 - b) := by omega
  unfold newer newerMod
  simp only [e, decide_eq_true_eq]
  omega

/-- Settles O11: the comparison is R10's by arithmetic; the boundary by what each of its parts does to the frame number. -/
theorem newerFrames : Obligations.NewerFrames := by
  unfold Obligations.NewerFrames
  refine ⟨fun a b _ hb => newer_iff hb, fun s f => ?_, fun s e ho hr hf => ?_⟩
  · unfold State.reached
    rw [Bool.not_eq_true']
  · obtain ⟨t, ht, h⟩ := execFrameBoundary_frame ho hr e
    exact ⟨t, ht, by rw [h, hf]; decide⟩

end Sys2Proof.Machine
end

section
/-! PROOFS. The Off state (R408): no command but a power-up and a loss of the always-on supply does anything there. -/

namespace Sys2Proof.Machine

/-- A register write of eight bytes is two accesses (R14); neither is made in Off. -/
theorem execRegisterWrite_off {s : State} (q : Req) (off : Nat) (d : List Byte) (h : s.off = true) : execRegisterWrite q off d s = .next s := by
  unfold execRegisterWrite
  split
  · unfold act2
    rw [if_pos h]
  · exact act_off _ h

/-- An assertion of RESET_N does nothing in Off (R432). -/
theorem execColdReset_off {s : State} (chainLow twinHigh : Bool) (h : s.off = true) :
    execColdReset false chainLow twinHigh s = .next s := by
  unfold execColdReset
  rw [h]
  rfl

/-- Settles O7: every command but a loss of the supply, a cold reset and a register write is one effect under `act`. -/
theorem offIgnoresCommands : Obligations.OffIgnoresCommands := by
  intro c s h hup hloss
  cases c with
  | coldReset power chainLow twinHigh =>
    cases power with
    | true => exact absurd rfl (hup chainLow twinHigh)
    | false => exact execColdReset_off chainLow twinHigh h
  | alwaysOnSupplyLoss => exact absurd rfl hloss
  | registerWrite q off d => exact execRegisterWrite_off q off d h
  | _ =>
    dsimp only [exec]
    exact act_off _ h

end Sys2Proof.Machine
end

section
/-! PROOFS. The work entries that edit the catalogue (R187): an edit of a tree that the chip does not own (R371). -/

namespace Sys2Proof.Machine

/-- A catalogue edit at its target names a tree that the chip does not own: it completes DETACHED. -/
theorem State.workReach_away {s : State} {w : Work} (hv : s.violationOf w = 0) (hr : w.remote = false) (hop : 4 ≤ w.op ∧ w.op ≤ 6)
    (hf : s.fenceOpen w = true) (ha : s.editAway w = true) : s.workReach w = s.editGone w := by
  have hb : w.bulk = false := by
    unfold Work.bulk
    simp only [Bool.and_eq_false_iff, decide_eq_false_iff_not]
    omega
  unfold State.workReach
  simp only [hv, hr, hb, hf, ha, hop, ne_eq, not_true_eq_false, Bool.not_true, Bool.false_eq_true, decide_true, Bool.and_self, if_false, if_true]

/-- A command takes the entry that is on its way and of its operation to its target. -/
theorem State.workGo_gate {s : State} {g r i op : Nat} {w : Work} (hw : s.findWork g r i = some w) (hl : w.loc = .gate) (ho : w.op = op) :
    s.workGo g r i op = s.workReach w := by
  unfold State.workGo
  rw [hw]
  exact if_pos (by simp only [hl, ho, decide_true, Bool.and_self])

/-- An Insert for a tree that the chip does not own leaves the catalogue as it is, whatever the checks of R188 say. -/
theorem execCatInsert_away {s : State} {g : Fin 16} {r : Fin 8} {i : BitVec 16} {w : Work} (ho : s.off = false)
    (hw : s.findWork g r i.toNat = some w) (hl : w.loc = .gate) (hr : w.remote = false) (hv : s.violationOf w = 0) (hf : s.fenceOpen w = true)
    (hop : w.op = 4) (ha : s.editAway w = true) : ∃ t, exec (.catInsert g r i) s = .next t ∧ t.cat = s.cat := by
  refine ⟨settle s (s.workGo g r i.toNat 4), ?_, ?_⟩
  · show execCatInsert g r i s = _
    unfold execCatInsert
    exact act_awake _ ho
  · rw [settle_cat, State.workGo_gate hw hl hop, State.workReach_away hv hr (by omega) hf ha]
    exact (s.editGone_touch w).cat (by decide)

/-- A CAT_INSERT entry for context 0, due in every frame. -/
def insertEntry : Work := { g := 0, r := 0, i := 0, ent := fit 32 [4, 0, 0, 255] }

/-- A host's device whose twin partner owns the shared tree of port 0, with context 0 a periodic-in pipe of that tree and an Insert for it on its
way. -/
def partnersTree : State :=
  { (((State.reset.put (F.gaStatus_hosted 0) 1).put F.twCtrl_enable 1).put F.twCfg_shared 1).put (F.pxBind_kind 0) 1 with work := [insertEntry] }

/-- The partner owns the tree, and the checks of R188 would accept the Insert. -/
theorem partnersTree_insert :
    partnersTree.editAway insertEntry = true ∧ (partnersTree.catInsert insertEntry.ctx insertEntry.catSched).1 = 0 ∧
      (partnersTree.catInsert insertEntry.ctx insertEntry.catSched).2.2.cat ≠ partnersTree.cat := by
  decide +kernel

/-- Refutes O34: its first clause takes every Insert that the checks of R188 accept to be made, but one for a tree that the twin partner owns
completes DETACHED and leaves the catalogue as it is (R371). -/
theorem not_catalogueEntries : ¬ Obligations.CatalogueEntries := by
  rintro ⟨hins, -⟩
  obtain ⟨haway, hcode, hcat⟩ := partnersTree_insert
  have hw : partnersTree.findWork 0 0 0 = some insertEntry := by decide +kernel
  have hv : partnersTree.violationOf insertEntry = 0 := by decide +kernel
  have hf : partnersTree.fenceOpen insertEntry = true := by decide +kernel
  have hop : insertEntry.op = 4 := by decide +kernel
  have hr : insertEntry.remote = false := by decide +kernel
  obtain ⟨t, ht, hkept⟩ := execCatInsert_away (g := 0) (r := 0) (i := 0) rfl hw rfl hr hv hf hop haway
  obtain ⟨u, hu, hmade, -⟩ := hins partnersTree 0 0 0 insertEntry rfl hw rfl hr hv hf hop hcode
  cases ht.symm.trans hu
  exact hcat (hmade.symm.trans hkept)

end Sys2Proof.Machine
end

section
/-! PROOFS. The flush read of an event (R30): what becomes of the ring copy of an event whose pipe is polled while the ring is not in use (R257). -/

namespace Sys2Proof.Machine

/-- An event of context 0 whose flush read is outstanding. -/
def flushingEvent : Event :=
  { typ := 1, flags := 0, ctx := 0, port := 0, addr := 1, pipe := 1, quality := 0, frame := 9, payload := [1, 2], flushed := false, own := true }

/-- Gallery 0, whose event ring is disabled, with an event of context 0 waiting for its flush read; the context is pipe 1 of a hub, which is
polled although the ring counts as full. -/
def hubFlush : State :=
  ((((State.reset.put (F.gpDevId3_class 0 1) 1).put (F.pxBind_addr 0) 1).put (F.pxBind_pipe 0) 1).put (F.pxBind_kind 0) 5).modEv 0
    fun e => { e with wait := [flushingEvent] }

/-- The flush ends, and the copy of the event is dropped. -/
theorem flushReadDone_drops : ∃ t, exec (.flushReadDone 0 .ur) hubFlush = .next t ∧ (t.evr 0).wait = [] :=
  ⟨_, rfl, by decide +kernel⟩

/-- Refutes O37: its second clause has a flushed event wait while its ring is disabled, but the copy of one whose pipe is polled all the same, as
a hub's pipe 1 is, is dropped (R28, R257). -/
theorem not_hostMemoryReads : ¬ Obligations.HostMemoryReads := by
  rintro ⟨-, hfail, -⟩
  obtain ⟨t, ht, hdrop⟩ := flushReadDone_drops
  have hz : hubFlush.sizesOk = true := by decide +kernel
  have hg : hubFlush.pxGal 0 = 0 := by decide +kernel
  have hw : (hubFlush.evr 0).wait = [flushingEvent] := by decide +kernel
  have hrun : hubFlush.evRunning 0 = false := by decide +kernel
  have hinj : hubFlush.armed 0x09 0 = none ∧ hubFlush.armed 0x0A 0 = none := by decide +kernel
  specialize hfail hubFlush 0 flushingEvent
  rw [show hubFlush.pxGal (0 : Fin 2048) = 0 from hg] at hfail
  obtain ⟨u, hu, hwait, -⟩ := hfail rfl hz (by decide) hw rfl rfl rfl rfl hrun hinj.1 hinj.2
  cases ht.symm.trans hu
  rw [hdrop] at hwait
  cases hwait

end Sys2Proof.Machine
end
